-- ==== Sys2Proof/Word.lean ====
section
/-! DEFINITION. The words of the Ilcora 7320: bytes of the control links, 24-bit samples, stereo frames and
blocks of 480 frames (spec 00_scope.md "Samples and arithmetic", 01 R1). -/

namespace Sys2Proof

/-- A byte of a control link, a link frame or a status frame. -/
abbrev Byte := BitVec 8

/-- A sample: a signed 24-bit integer, −8,388,608..8,388,607 (00_scope.md). -/
abbrev Sample := BitVec 24

/-- One stereo pair of samples, left then right (00_scope.md). -/
structure Frame where
  left : Sample
  right : Sample
  deriving DecidableEq, Repr

/-- A block: 480 frames, 10 ms (00_scope.md "Time"). -/
abbrev Block := Vector Frame 480

/-- Both samples zero. -/
def Frame.silent : Frame := ⟨0, 0⟩

/-- 480 frames of zero. -/
def Block.silent : Block := Vector.replicate 480 Frame.silent

end Sys2Proof
end

