-- ==== Sys2Proof/Syntax.lean ====
section
/-! DEFINITION. The commands of the block: one constructor of `Instr` per row of spec/opcode_table.json, with the
operands each row takes from outside. Commands of the control links carry the link and the parameter bytes of
R199 as they arrived, so that every check of R186 has something to judge; events carry what the outside world
decides at them. -/

namespace Sys2Proof

/-- The four control links (R180): playout, console, screener, alert. -/
inductive Link where
  | P | C | S | A
  deriving DecidableEq, Repr

/-- The two voices of the Cue Engine (R80). -/
inductive Voice where
  | A | B
  deriving DecidableEq, Repr

/-- The six contributors of the Mix Engine (R5). -/
inductive Contributor where
  | studio | voiceA | voiceB | caller1 | caller2 | alert
  deriving DecidableEq, Repr

/-- The three contributors that own a clip reader (R66). -/
inductive ReaderOf where
  | voiceA | voiceB | alert
  deriving DecidableEq, Repr

/-- The sources S0..S7; the number is the source's own (R1). -/
abbrev Source := Fin 8

/-- A telephone line; index `i` is line `i + 1`, fed as source `i + 3` (R100). -/
abbrev PhoneLine := Fin 4

/-- A caller slot; index `i` is slot `i + 1` (R111). -/
abbrev CallerSlot := Fin 2

/-- An alert record slot; index `i` is slot `i + 1` (R122). -/
abbrev AlertSlot := Fin 4

/-- A playout clip; index `i` is clip id `i + 1` (R58). -/
abbrev ClipId := Fin 63

/-- A clip-capture channel; index `i` is channel `i + 1` (R59). -/
abbrev Channel := Fin 2

/-- A panel line; index `i` is line `i + 1` (R171). -/
abbrev PanelLineNo := Fin 8

/-- Something a block boundary has found to happen at it, and that is taken as one whole step. Those with a row of
the table may also be taken by that row (log entry 4); the first three have no row and are taken within the
boundary. -/
inductive Due where
  /-- A clip reader reports end-of-audio to its contributor's owner (R67, R134). -/
  | endOfAudio (r : ReaderOf)
  /-- The alert capture was refused a segment (R64). -/
  | alertNoSegment
  /-- A recognised change of a panel line acts on its owner (R174). -/
  | panelAction (line : PanelLineNo) (active : Bool)
  | fadeComplete (c : Contributor)
  | measureDone
  | captureMaxLength (ch : Channel)
  | alertCaptureFull
  | liveAlertLimit
  | durationLimit (v : Voice)
  | endFadeStart (v : Voice)
  | cancelWindowClose
  | alertExpiry (k : AlertSlot)
  | holdLimitReached (k : AlertSlot)
  | confirmWindowExpiry (k : AlertSlot)
  | silenceWindow
  | fillAnswer
  | profileDone
  | clockRestored
  | statusAgeLimit
  | linkTimeout
  deriving DecidableEq, Repr

/-- What the input port saw of the word clock in the block just ended (R4). -/
inductive ClockSeen where
  /-- Present throughout the block. -/
  | throughout
  /-- Absent, each time for 2 ms or less. -/
  | brief
  /-- Absent for more than 2 ms at some time in the block. -/
  | long
  deriving DecidableEq, Repr

/-- The captures that ask for a segment at an input block boundary (R31, R32). -/
inductive Capturer where
  | channel (ch : Channel)
  | alert
  deriving DecidableEq, Repr

/-- One word-clock period of the audio input port: a left and a right sample of each of the eight sources (R1). -/
abbrev BusPeriod := Vector Frame 8

/-- What the furniture puts on a panel pin at an input block boundary (R171, R172). -/
inductive Contact where
  | low | high
  /-- An open contact: nothing drives the pin. `floats` is the level it then reads without a pull-up, which the spec
  does not give and the outside world decides (log entry 44). -/
  | opened (floats : Bool)
  deriving DecidableEq, Repr

/-- What the outside world brings to an input block boundary. -/
structure InputBoundary where
  /-- The 480 word-clock periods of the block; `none` is a frame that did not arrive (R3). -/
  bus : Vector (Option BusPeriod) 480
  /-- The word clock in the block just ended (R4). -/
  clock : ClockSeen
  /-- What the furniture puts on the pins PNL1..PNL8 (R172). -/
  pins : Vector Contact 8
  /-- Segments whose stored frames the DRAM has changed since the last boundary (R26; log entry 7). -/
  upsets : List (Nat × Block)
  /-- The order in which the controller takes the allocation requests (R32); captures not named follow. -/
  captures : List Capturer
  /-- Due events taken first, in this order (log entry 4). -/
  first : List Due
  /-- `true` leaves the other due events that have rows to those rows (log entry 4). -/
  leave : Bool
  deriving DecidableEq, Repr

/-- What the outside world brings to an output block boundary; the fields are those of `InputBoundary`. -/
structure OutputBoundary where
  upsets : List (Nat × Block)
  first : List Due
  leave : Bool
  deriving DecidableEq, Repr

/-- What makes a receiver abandon a frame (R182). -/
inductive AbandonCause where
  /-- A gap of more than 2 ms, ended by this byte. -/
  | gap (next : Byte)
  /-- A length byte of 0 or above 250. -/
  | badLength (b : Byte)
  /-- A byte with a bad stop bit. -/
  | badStop
  deriving DecidableEq, Repr

/-- A complete frame as its bytes came: its body and its check byte (R182, R196). -/
structure ReceivedFrame where
  body : List Byte
  check : Byte
  deriving DecidableEq, Repr

/-- A complete frame with the link on which it came. -/
structure FrameOnLink where
  link : Link
  frame : ReceivedFrame
  deriving DecidableEq, Repr

/-- The commands and events of the block: one constructor per row of spec/opcode_table.json. -/
inductive Instr where
  -- control link commands: the link the frame came on and its parameter bytes (R187, R199)
  | identify (l : Link) (ps : List Byte)
  | statusRead (l : Link) (ps : List Byte)
  | eventsRead (l : Link) (ps : List Byte)
  | eventsAcknowledge (l : Link) (ps : List Byte)
  | eventMaskSet (l : Link) (ps : List Byte)
  | clipCaptureStart (l : Link) (ps : List Byte)
  | clipCaptureStop (l : Link) (ps : List Byte)
  | clipDelete (l : Link) (ps : List Byte)
  | clipRead (l : Link) (ps : List Byte)
  | clipRoleSet (l : Link) (ps : List Byte)
  | cueAppend (l : Link) (ps : List Byte)
  | cueInsert (l : Link) (ps : List Byte)
  | cueRemove (l : Link) (ps : List Byte)
  | cueClear (l : Link) (ps : List Byte)
  | cueListRead (l : Link) (ps : List Byte)
  | streamRelease (l : Link) (ps : List Byte)
  | cueGo (l : Link) (ps : List Byte)
  | cueStop (l : Link) (ps : List Byte)
  | airStart (l : Link) (ps : List Byte)
  | airStop (l : Link) (ps : List Byte)
  | softReset (l : Link) (ps : List Byte)
  | delayTargetSet (l : Link) (ps : List Byte)
  | dump (l : Link) (ps : List Byte)
  | delaySettingsSet (l : Link) (ps : List Byte)
  | studioSet (l : Link) (ps : List Byte)
  | slotGainSet (l : Link) (ps : List Byte)
  | callerTakeNext (l : Link) (ps : List Byte)
  | callerTakeLine (l : Link) (ps : List Byte)
  | callerRelease (l : Link) (ps : List Byte)
  | alertSettingsSet (l : Link) (ps : List Byte)
  | supervisionSet (l : Link) (ps : List Byte)
  | panelConfigure (l : Link) (ps : List Byte)
  | panelOutputSet (l : Link) (ps : List Byte)
  | memorySettingsSet (l : Link) (ps : List Byte)
  | linkSettingsSet (l : Link) (ps : List Byte)
  | profileProgram (l : Link) (ps : List Byte)
  | profileRead (l : Link) (ps : List Byte)
  | alertCancel (l : Link) (ps : List Byte)
  | lineConnect (l : Link) (ps : List Byte)
  | lineDown (l : Link) (ps : List Byte)
  | lineMeasure (l : Link) (ps : List Byte)
  | callerAdmit (l : Link) (ps : List Byte)
  | callerUpdate (l : Link) (ps : List Byte)
  | callerWithdraw (l : Link) (ps : List Byte)
  | queueRead (l : Link) (ps : List Byte)
  | alertBegin (l : Link) (ps : List Byte)
  | alertAudioEnd (l : Link) (ps : List Byte)
  | alertRead (l : Link) (ps : List Byte)
  | alertHistoryRead (l : Link) (ps : List Byte)
  -- frames and responses of the control links
  /-- A checked frame whose command code is in no row of R187. -/
  | unknownCommand (l : Link) (code : Byte) (ps : List Byte)
  /-- A complete frame, by its body and its check byte, that fails its CRC-8 (R183). -/
  | badFrame (f : FrameOnLink)
  /-- A frame completed while the link is busy, by its body and its check byte (R184). -/
  | frameWhileBusy (l : Link) (frame : ReceivedFrame)
  /-- The bytes received since the receiver last rested, and what then abandoned the frame (R182). -/
  | frameAbandoned (l : Link) (bytes : List Byte) (cause : AbandonCause)
  | responseSent (l : Link)
  | softResetMade
  | silentFillComplete
  -- supplies, resets and clocks
  | powerOn
  | hardwareReset
  | powerUpEnd
  | inputBlockBoundary (env : InputBoundary)
  | outputBlockBoundary (env : OutputBoundary)
  /-- The word clock is lost when this many frames of the block in progress have arrived (R3). -/
  | clockLost (arrived : Nat)
  | clockRestored
  -- the transmitter link's return stream
  /-- The eight bytes of a status frame (R197). -/
  | statusFrame (bytes : Vector Byte 8)
  /-- The bytes of a status frame that broke off or whose CRC fails (R156). -/
  | invalidStatusFrame (bytes : List Byte)
  | statusAgeLimit
  | linkTimeout
  -- what the blocks find at their boundaries
  | fadeComplete (c : Contributor)
  | measureDone
  | captureMaxLength (ch : Channel)
  | alertCaptureFull
  | liveAlertLimit
  | durationLimit (v : Voice)
  | endFadeStart (v : Voice)
  | cancelWindowClose
  | alertExpiry (k : AlertSlot)
  | holdLimitReached (k : AlertSlot)
  | confirmWindowExpiry (k : AlertSlot)
  | silenceWindow
  | fillAnswer
  | profileDone
  | powerLoss
  | resetLineLow
  deriving DecidableEq, Repr

end Sys2Proof
end

