-- ==== Sys2Proof/Machine/Types.lean ====
section
/-! DEFINITION. The records of the twelve blocks (00_scope.md "Block diagram"), named and shaped as the spec's
tables name and shape them. Numbers the spec counts are `Nat`; a field the spec calls optional is an `Option`. -/

namespace Sys2Proof.Machine

-- device and clock (chapters 01, 11)

/-- The device states (chapter 11). -/
inductive DeviceState where
  | powerUp | standby | onAir
  deriving DecidableEq, Repr, Inhabited

/-- Whether the part can run: supplies failed (R206), RESET held low (R200), the profile being loaded at the start of
POWER_UP, with the links held idle (R181, R195), or running. -/
inductive Supply where
  | failed | resetLow | loading | running
  deriving DecidableEq, Repr

/-- The kinds RESET_DONE records. -/
inductive ResetKind where
  | powerOn | hardware | soft
  deriving DecidableEq, Repr

/-- The clock source (R2). -/
inductive ClockSource where
  | wordClock | internal
  deriving DecidableEq, Repr

structure Device where
  supply : Supply
  state : DeviceState
  /-- The reset that POWER_UP belongs to, for RESET_DONE (R200). -/
  kind : ResetKind
  clock : ClockSource
  /-- R4. -/
  returnCount : Nat
  /-- Frames of the block in progress that had arrived when the word clock was lost (R3). -/
  arrived : Nat
  deriving DecidableEq, Repr

-- references

/-- A clip of the clip table: playout 1..63 or the alert clip of an alert record slot (R58). -/
inductive ClipRef where
  | playout (n : ClipId)
  | alert (k : AlertSlot)
  deriving DecidableEq, Repr

/-- The set of telephone lines a delay segment carries: entry `i` for line `i + 1` (R22). -/
abbrev LineSet := Vector Bool 4

/-- No line. -/
def LineSet.empty : LineSet := Vector.replicate 4 false

-- Mix Engine (chapter 01)

inductive Binding where
  | source (n : Source)
  | clip (c : ClipRef)
  deriving DecidableEq, Repr

inductive Purpose where
  | level | out
  deriving DecidableEq, Repr

/-- A running fade (R5): `done` blocks of `length` are done. -/
structure Fade where
  startGain : Nat
  endGain : Nat
  length : Nat
  done : Nat
  purpose : Purpose
  deriving DecidableEq, Repr

structure PendingFade where
  endGain : Nat
  length : Nat
  purpose : Purpose
  deriving DecidableEq, Repr

/-- A contributor record (R5). It is active exactly when it has a binding. -/
structure Contrib where
  binding : Option Binding
  target : Nat
  gain : Nat
  fade : Option Fade
  waiting : Option PendingFade
  deriving DecidableEq, Repr

structure Mix where
  studio : Contrib
  voiceA : Contrib
  voiceB : Contrib
  caller1 : Contrib
  caller2 : Contrib
  alert : Contrib
  /-- The studio fade time (R16). -/
  studioFade : Nat
  /-- The slot fade times (R18). -/
  slotFade : Vector Nat 2
  deriving DecidableEq, Repr

/-- What the Mix Engine formed at an input block boundary, with the labels reported for it (R11, R12, R15, R44). -/
structure Formed where
  pgm : Block
  minus1 : Block
  minus2 : Block
  peak : Nat
  tag : Option Nat
  alertId : Option Nat
  lines : LineSet
  deriving DecidableEq, Repr

-- Sample Memory Controller (chapter 02)

/-- A segment with its record (R22). Labels are present in delay segments, the link in clip segments. -/
structure Segment where
  frames : Block
  check : BitVec 16
  peak : Nat
  tag : Option Nat
  alertId : Option Nat
  lines : LineSet
  link : Option Nat
  deriving DecidableEq, Repr

/-- The holder the segment map gives a segment (R23). -/
inductive Holder where
  | delay | free | clip (c : ClipRef)
  deriving DecidableEq, Repr

structure SampleMemory where
  /-- The segments that differ from a silent one, by segment number, strictly rising. -/
  cells : List (Nat × Segment)
  /-- The pool segments that a clip holds, by segment number, strictly rising; any other pool segment is FREE. -/
  held : List (Nat × ClipRef)
  /-- The pool free list, head first (R29). -/
  free : List Nat
  general : Nat
  alertCount : Nat
  /-- The memory error counter (R27). -/
  errors : Nat
  /-- R, the segments of the delay region. -/
  ring : Nat
  /-- A_res. -/
  reserve : Nat
  deriving DecidableEq, Repr

-- Delay Unit (chapter 03)

structure DelaySettings where
  bA : Nat
  bB : Nat
  bC : Nat
  s1 : Nat
  s2 : Nat
  s3 : Nat
  s4 : Nat
  q : Nat
  quiet : Nat
  dumpStep : Nat
  deriving DecidableEq, Repr, Inhabited

/-- The step of a pending dump (R51, R52). -/
inductive DumpStep where
  | blocks (n : Nat) | unlimited
  deriving DecidableEq, Repr

inductive DelayState where
  | off | building | safe | shrinking
  deriving DecidableEq, Repr

structure Delay where
  writeHead : Nat
  /-- The read position: segment number and offset; absent until AIR START sets it (R42, R57). -/
  readPos : Option (Nat × Nat)
  /-- E, in samples. -/
  excess : Nat
  /-- T, in blocks. -/
  target : Nat
  alertSegs : Nat
  dump : Option DumpStep
  state : DelayState
  /-- A PGM_LIVE block has been written since AIR START (R42). -/
  fed : Bool
  settings : DelaySettings
  deriving DecidableEq, Repr

/-- An AIR block with its labels and AIR peak (R50). -/
structure AirBlock where
  frames : Block
  tag : Option Nat
  alertId : Option Nat
  lines : LineSet
  peak : Nat
  deriving DecidableEq, Repr

-- Clip Store (chapter 04)

inductive ClipState where
  | empty | capturing | ready
  deriving DecidableEq, Repr

/-- A clip record (R58); the length is 480 times the segment count. -/
structure Clip where
  state : ClipState
  isProtected : Bool
  loop : Bool
  tag : Option Nat
  first : Option Nat
  count : Nat
  truncated : Bool
  damaged : Bool
  uses : Nat
  deriving DecidableEq, Repr

/-- What a playout capture records (R59). -/
inductive CaptureSource where
  | source (n : Source) | pgmLive
  deriving DecidableEq, Repr

/-- A clip-capture channel that is recording (R59). -/
structure Capture where
  clip : ClipId
  source : CaptureSource
  greatest : Nat
  deriving DecidableEq, Repr

/-- An open clip reader (R66); `ended` is the end-reported mark, `detached` the state after a discard (R65). -/
structure Reader where
  clip : ClipRef
  ordinal : Nat
  ended : Bool
  detached : Bool
  deriving DecidableEq, Repr

structure ClipStore where
  playout : Vector Clip 63
  alert : Vector Clip 4
  channels : Vector (Option Capture) 2
  /-- The slot the alert capture records for. -/
  alertCapture : Option AlertSlot
  readerA : Option Reader
  readerB : Option Reader
  readerAlert : Option Reader
  fallback : Option ClipId
  tone : Option ClipId
  deriving DecidableEq, Repr

-- Cue Engine (chapter 05)

/-- The playout stream sources S1 and S2. -/
inductive StreamSource where
  | s1 | s2
  deriving DecidableEq, Repr

inductive EntryKind where
  | clip (id : ClipId) | stream (src : StreamSource) | gap | mark
  deriving DecidableEq, Repr

inductive EntryState where
  | waiting | playing | reserved
  deriving DecidableEq, Repr

/-- A cue list entry (R74). -/
structure Entry where
  kind : EntryKind
  limit : Option Nat
  tag : Option Nat
  fadeIn : Nat
  fadeOut : Nat
  segue : Bool
  level : Nat
  state : EntryState
  ending : Bool
  successorStarted : Bool
  played : Nat
  /-- Frames for a CLIP, blocks for a STREAM; only in HELD. -/
  resume : Option Nat
  /-- The voice that carries it, or carried it when it was held (R80, R92). -/
  voice : Option Voice
  /-- STREAM RELEASE has been taken for it, so its limit no longer applies (R90). -/
  released : Bool
  deriving DecidableEq, Repr

/-- A voice record (R80); `order` tells which start or fade began first. -/
inductive VoiceState where
  | free | carrying (order : Nat) | releasing (order : Nat) | filling
  deriving DecidableEq, Repr

inductive EngineState where
  | idle | armed | playing | held | filling
  deriving DecidableEq, Repr

/-- The parts of the held record that are not in the entries (R92). -/
structure HeldRecord where
  stateLeft : EngineState
  fillPosition : Option Nat
  deriving DecidableEq, Repr

/-- A cancel window (R97), naming the entry by the voice that carries it. -/
structure CancelWindow where
  voice : Voice
  count : Nat
  deriving DecidableEq, Repr

structure Cue where
  entries : List Entry
  voiceA : VoiceState
  voiceB : VoiceState
  state : EngineState
  held : Option HeldRecord
  /-- The head is go-pending (R85). -/
  goPending : Bool
  window : Option CancelWindow
  boundaryWait : Bool
  /-- The next order number for voices (log entry 23). -/
  clock : Nat
  /-- The order number the voices had come to when an input block boundary last counted their blocks: an item with a
  smaller one has had a block counted (log entry 23). -/
  counted : Nat
  deriving DecidableEq, Repr

-- Caller Unit (chapter 06)

inductive LineState where
  | free | screening | held | onAir
  deriving DecidableEq, Repr

inductive MeasureResult where
  | none | pass | noSignal | clipped | aborted
  deriving DecidableEq, Repr

/-- A line record (R100). -/
structure LineRecord where
  state : LineState
  trim : Nat
  priority : Option Nat
  tag : Option (List Byte)
  number : Option Nat
  slot : Option CallerSlot
  result : MeasureResult
  deriving DecidableEq, Repr

inductive Disposition where
  | hold | drop
  deriving DecidableEq, Repr

/-- A slot record (R111): the occupant, and the release in progress with its disposition. -/
structure SlotRecord where
  occupant : Option PhoneLine
  release : Option Disposition
  deriving DecidableEq, Repr

/-- The measurement in flight (R103). -/
structure Measure where
  line : PhoneLine
  target : Nat
  peak : Nat
  count : Nat
  deriving DecidableEq, Repr

structure Callers where
  lines : Vector LineRecord 4
  queue : List PhoneLine
  slots : Vector SlotRecord 2
  measure : Option Measure
  nextNumber : Nat
  deriving DecidableEq, Repr

-- Alert Controller (chapter 07)

inductive AlertClass where
  | test | advisory | warning | immediate
  deriving DecidableEq, Repr

inductive AlertOutcome where
  | confirmed | unconfirmed | expired | cancelled | discarded
  deriving DecidableEq, Repr

/-- The state of an alert record; in the history, its outcome (R121). -/
inductive AlertPhase where
  | receiving | pending | airing | confirming
  | finished (o : AlertOutcome)
  deriving DecidableEq, Repr

/-- An alert record with its bookkeeping (R121). -/
structure AlertRecord where
  id : Nat
  origin : List Byte
  event : List Byte
  cls : AlertClass
  areas : List (List Byte)
  valid : Nat
  phase : AlertPhase
  cutThrough : Bool
  truncated : Bool
  damaged : Bool
  /-- The alert clip's slot with the segment count captured, while RECEIVING so far (log entry 45); absent on a
  cut-through record. -/
  clip : Option (AlertSlot × Nat)
  firstSeq : Option Nat
  lastSeq : Option Nat
  age : Nat
  hold : Nat
  overdue : Bool
  airBlocks : Nat
  framesSent : Nat
  clean : Bool
  confirm : Nat
  deriving DecidableEq, Repr

/-- What ALERT READ gives of a record of the history: every field of R121, and none of the bookkeeping, which it gives
for an active record alone (R144). -/
structure AlertFields where
  id : Nat
  origin : List Byte
  event : List Byte
  cls : AlertClass
  areas : List (List Byte)
  valid : Nat
  phase : AlertPhase
  cutThrough : Bool
  truncated : Bool
  damaged : Bool
  clip : Option (AlertSlot × Nat)
  firstSeq : Option Nat
  lastSeq : Option Nat
  deriving DecidableEq, Repr

structure AlertSettings where
  warningHold : Nat
  advisoryHold : Nat
  warningDump : Bool
  deriving DecidableEq, Repr, Inhabited

inductive LinkHealth where
  | up | degraded | down
  deriving DecidableEq, Repr

structure Alerts where
  records : Vector (Option AlertRecord) 4
  /-- The alert queue: slots of PENDING records, head first (R123). -/
  queue : List AlertSlot
  /-- Newest first (R122). -/
  history : List AlertRecord
  /-- The engine view (R130). -/
  view : EngineState
  /-- The link state last reported (R147). -/
  lastLink : LinkHealth
  settings : AlertSettings
  /-- The attention tone being played: its clip and the blocks played (R134). -/
  tone : Option (ClipId × Nat)
  deriving DecidableEq, Repr

-- Transmitter Link Unit (chapter 08)

/-- The fields of a valid status frame (R156). -/
structure TxStatus where
  last : Nat
  missing : Nat
  carrier : Bool
  silence : Bool
  deriving DecidableEq, Repr

/-- An entry of the sent-frame history (R153). -/
structure Sent where
  seq : Nat
  peak : Nat
  alert : Bool
  lines : LineSet
  deriving DecidableEq, Repr

structure AirFlags where
  onAir : Bool
  alert : Bool
  live : Bool
  fallback : Bool
  deriving DecidableEq, Repr

/-- A link frame (R149), less its CRC, which its bytes carry. -/
structure LinkFrame where
  seq : Nat
  station : Vector Byte 3
  flags : AirFlags
  tag : Option Nat
  alertId : Option Nat
  blocks : Nat
  audio : Block
  deriving DecidableEq, Repr

structure LinkSettings where
  timeout : Nat
  station : Vector Byte 3
  deriving DecidableEq, Repr, Inhabited

structure TxLink where
  seq : Nat
  /-- Oldest first, at most 256 (R153). -/
  history : List Sent
  state : LinkHealth
  age : Nat
  status : Option TxStatus
  /-- The previous mark (R156). -/
  mark : Option Nat
  run : Nat
  bad : Nat
  settings : LinkSettings
  /-- The link frame sent at the last output block boundary. -/
  frame : Option LinkFrame
  deriving DecidableEq, Repr

-- Air Supervisor (chapter 09)

inductive AirMode where
  | normal | alert | fallback
  deriving DecidableEq, Repr

structure SupervisionSettings where
  threshold : Nat
  window : Nat
  fade : Nat
  safeTake : Bool
  deriving DecidableEq, Repr, Inhabited

/-- The Cue Engine's answer to a fill notice (R166). -/
inductive FillAnswer where
  | filled | filledSilent | notFilled
  deriving DecidableEq, Repr

structure Supervisor where
  /-- Absent in STANDBY and POWER_UP (R164). -/
  mode : Option AirMode
  remembered : Option AirMode
  counter : Nat
  settings : SupervisionSettings
  /-- The answer to the fill notice in flight, until it is taken (R166). -/
  answer : Option FillAnswer
  deriving DecidableEq, Repr

-- Panel Line Unit (chapter 09)

inductive Direction where
  | inputPullup | input | output
  deriving DecidableEq, Repr, Inhabited

inductive PanelFunction where
  | dump | goEdge | fader | stop | takeNext | releaseCallers | mic | none
  | onAir | micLive | alertActive | delaySafe | fallback | linkOk | callerOn | general
  deriving DecidableEq, Repr, Inhabited

/-- A line configuration (R171); `activeHigh` is the active level. -/
structure LineConfig where
  direction : Direction
  activeHigh : Bool
  function : PanelFunction
  deriving DecidableEq, Repr, Inhabited

structure PanelSettings where
  lines : Vector LineConfig 8
  cancelWindow : Nat
  deriving DecidableEq, Repr, Inhabited

/-- What the unit keeps for a line beside its configuration (R171, R172). -/
structure PanelLine where
  recognised : Bool
  previous : Bool
  /-- The next input block boundary is a seeding boundary for the line. -/
  seeding : Bool
  flag : Bool
  general : Bool
  deriving DecidableEq, Repr

/-- The latest report of each condition (R176). -/
structure Reports where
  onAir : Bool
  micLive : Bool
  alertActive : Bool
  delaySafe : Bool
  fallback : Bool
  linkOk : Bool
  callerOn : Bool
  deriving DecidableEq, Repr

structure Panel where
  settings : PanelSettings
  lines : Vector PanelLine 8
  reports : Reports
  deriving DecidableEq, Repr

-- Profile Store (chapter 11)

/-- A control link's rate in baud (R181). -/
inductive Rate where
  | baud115200 | baud460800 | baud1000000 | baud2000000
  deriving DecidableEq, Repr, Inhabited

/-- The contents of a profile generation, less its CRC (R204); rates of links P, C, S, A in order. -/
structure Settings where
  link : LinkSettings
  rates : Vector Rate 4
  ring : Nat
  reserve : Nat
  target : Nat
  delay : DelaySettings
  supervision : SupervisionSettings
  alert : AlertSettings
  panel : PanelSettings
  deriving DecidableEq, Repr, Inhabited

/-- A generation of the store: never written, being written (with the boundaries counted), or written with the CRC
stored beside it (R204, R206). -/
inductive Generation where
  | unprogrammed
  | writing (contents : Settings) (blocks : Nat)
  | written (contents : Settings) (crc : BitVec 16)
  deriving DecidableEq, Repr

inductive GenState where
  | unprogrammed | writing | valid | failing
  deriving DecidableEq, Repr

structure ProfileStore where
  gens : Vector Generation 4
  /-- 1..4, or 0 for the factory defaults. -/
  loaded : Nat
  deriving DecidableEq, Repr

-- Control Link Interface (chapter 10)

/-- The status codes (R196). -/
inductive Status where
  | ok | badFrame | unknownCommand | notPermitted | notNow | badParam
  | duplicate | notFound | inUse | full | busy | noSlot | notSafe
  deriving DecidableEq, Repr

inductive CaptureCause where
  | maxLength | noSegment | stopped
  deriving DecidableEq, Repr

inductive LeftCause where
  | go | caller | studio | airStop
  deriving DecidableEq, Repr

inductive OffAirCause where
  | released | lineDown | alert | airStop
  deriving DecidableEq, Repr

/-- The events of R187's table with the values each records. -/
inductive Event where
  | resetDone (kind : ResetKind)
  | itemEnded (tag : Option Nat)
  | listEmpty
  | captureDone (clip : ClipId) (count : Nat) (cause : CaptureCause) (truncated : Bool)
  | clipMemoryError (clip : ClipRef) (segment : Nat)
  | engineHeld
  | engineResumed
  | fallbackEntered
  | panelInput (lines : List (PanelLineNo × Bool))
  | panelRefused (line : PanelLineNo) (code : Status)
  | delaySafeChanged (held : Bool)
  | delayDumped (amount : Nat)
  | delayMemoryError (segment : Nat)
  | fallbackLeft (cause : LeftCause)
  | fallbackNoAudio
  | alertOnAir (id : Nat) (cls : AlertClass)
  | alertOffAir (id : Nat) (cancelled : Bool)
  | linkState (state : LinkHealth)
  | linkAudioFault (last : Nat)
  | clockLost
  | clockRestored
  | profileDone (gen : Nat)
  | profileFallback (loaded : Nat) (failing : Nat)
  | measureDone (line : PhoneLine) (result : MeasureResult) (trim : Nat)
  | lineOnAir (line : PhoneLine) (slot : CallerSlot)
  | lineOffAir (line : PhoneLine) (slot : CallerSlot) (cause : OffAirCause)
  | queueChanged (length : Nat)
  | alertState (id : Nat) (origin : List Byte) (phase : AlertPhase) (truncated damaged : Bool)
  deriving DecidableEq, Repr

/-- A pending event (R188): its latest values and its occurrence count. -/
structure PendingEvent where
  event : Event
  count : Nat
  deriving DecidableEq, Repr

-- result data of the reading commands (R193, R194, R78, R110, R144, R190, R207)

structure DevicePage where
  state : DeviceState
  mode : Option AirMode
  remembered : Option AirMode
  clock : ClockSource
  returnCount : Nat
  loaded : Nat
  rates : Vector Rate 4
  faults : Vector Nat 4
  deriving DecidableEq, Repr

structure DelayPage where
  state : DelayState
  excess : Nat
  target : Nat
  targetSamples : Nat
  safe : Bool
  alertSegs : Nat
  dump : Option DumpStep
  settings : DelaySettings
  deriving DecidableEq, Repr

structure MemoryPage where
  ring : Nat
  pool : Nat
  reserve : Nat
  freeLength : Nat
  general : Nat
  alertCount : Nat
  errors : Nat
  fallback : Option ClipId
  tone : Option ClipId
  deriving DecidableEq, Repr

structure ProgrammePage where
  engine : EngineState
  studioOn : Bool
  occupants : Vector (Option PhoneLine) 2
  queueLength : Nat
  safeTake : Bool
  activeAlerts : Nat
  alert : AlertSettings
  deriving DecidableEq, Repr

structure LinkPage where
  state : LinkHealth
  age : Nat
  run : Nat
  bad : Nat
  seq : Nat
  status : Option TxStatus
  mark : Option Nat
  sent : Option Sent
  settings : LinkSettings
  deriving DecidableEq, Repr

/-- What page 5 returns of a panel line beside its configuration (R194). -/
structure PanelLinePage where
  recognised : Bool
  flag : Bool
  general : Bool
  deriving DecidableEq, Repr

structure PanelPage where
  counter : Nat
  supervision : SupervisionSettings
  panel : PanelSettings
  lines : Vector PanelLinePage 8
  deriving DecidableEq, Repr

structure CueListPage where
  engine : EngineState
  count : Nat
  voiceA : VoiceState
  voiceB : VoiceState
  entries : List Entry
  stateLeft : Option EngineState
  deriving DecidableEq, Repr

structure QueuePage where
  lines : Vector LineRecord 4
  queue : List PhoneLine
  slots : Vector SlotRecord 2
  measure : Option Measure
  nextNumber : Nat
  safeTake : Bool
  deriving DecidableEq, Repr

/-- One line of ALERT READ's summary (R144). -/
structure AlertLine where
  id : Nat
  origin : List Byte
  slot : AlertSlot
  cls : AlertClass
  phase : AlertPhase
  deriving DecidableEq, Repr

/-- One line of ALERT HISTORY READ's summary (R144). -/
structure HistoryLine where
  id : Nat
  origin : List Byte
  cls : AlertClass
  phase : AlertPhase
  deriving DecidableEq, Repr

/-- One event of EVENTS READ (R190). -/
structure EventLine where
  number : Nat
  enabled : Bool
  count : Nat
  event : Event
  deriving DecidableEq, Repr

/-- The result data of a response. -/
inductive Result where
  | none
  /-- Vendor, part number, revision, role, generation loaded, rate (R193). -/
  | identity (vendor part : String) (revision : Nat) (role : Link) (loaded : Nat) (rate : Rate)
  | devicePage (p : DevicePage)
  | delayPage (p : DelayPage)
  | memoryPage (p : MemoryPage)
  | programmePage (p : ProgrammePage)
  | linkPage (p : LinkPage)
  | panelPage (p : PanelPage)
  | events (es : List EventLine)
  /-- Event numbers that remain pending (R191). -/
  | remaining (numbers : List Nat)
  /-- Result data whose bytes the spec lays out (R198). -/
  | bytes (bs : List Byte)
  | position (n : Nat)
  | removed (n : Nat)
  | cueList (p : CueListPage)
  | target (t : Nat)
  | delaySettings (d : DelaySettings)
  | supervision (d : SupervisionSettings)
  | callerQueue (p : QueuePage)
  /-- The slot taken and whether the record is cut-through (R126). -/
  | alertTaken (slot : AlertSlot) (cutThrough : Bool)
  /-- A record with its bookkeeping, its slot and its queue position from 1 (R144). -/
  | alertRecord (r : AlertRecord) (slot : Option AlertSlot) (position : Option Nat)
  /-- A record of the history as ALERT READ gives it (R144). -/
  | finishedAlert (r : AlertFields)
  | alertSummary (ls : List AlertLine) (settings : AlertSettings)
  | historySummary (ls : List HistoryLine)
  | profileStates (loaded : Nat) (states : Vector GenState 4)
  | profileContents (contents : Settings) (crcMatches : Bool)
  deriving DecidableEq, Repr

/-- A response: the echoed command code, the status code and the result data (R196). -/
structure Response where
  code : Nat
  status : Status
  result : Result
  deriving DecidableEq, Repr

/-- The command in flight on a link (R184); `answer` is absent while its owner delays it (R185). -/
structure InFlight where
  code : Nat
  answer : Option Response
  deriving DecidableEq, Repr

/-- A frame owed a short answer (R184). -/
inductive Owed where
  | command (code : Nat)
  | badFrame
  deriving DecidableEq, Repr

/-- The receiver of a link (R182); in BODY, the length byte and how many bytes of the body and check byte have come. -/
inductive Receiver where
  | hunting | length
  | body (len : Nat) (got : Nat)
  deriving DecidableEq, Repr

/-- What the Control Link Interface keeps for a link (R180). -/
structure LinkPort where
  receiver : Receiver
  inFlight : Option InFlight
  owed : List Owed
  /-- Pending events, by rising event number. -/
  events : List PendingEvent
  /-- The numbers of the enabled events, rising (R189). -/
  enabled : List Nat
  faults : Nat
  rate : Rate
  deriving DecidableEq, Repr

/-- The four links' state. -/
structure Links where
  p : LinkPort
  c : LinkPort
  s : LinkPort
  a : LinkPort
  deriving DecidableEq, Repr

end Sys2Proof.Machine
end

