-- ==== Sys2Proof/Config.lean ====
section
/-! DEFINITION. What is fixed for the part: its factory defaults (R204, R171) and the values the spec leaves
open, each an opaque constant of which nothing can be proved but its type (log entries 8, 9, 10). -/

namespace Sys2Proof.Config

open Sys2Proof.Machine

/-- The segments of the sample memory (R21). -/
def segments : Nat := 16384

/-- IDENTIFY's hardware revision lies in 1..255 and the spec gives no value (R193): the revision less one. -/
opaque revision : Fin 255

/-- The bytes in which the part sends result data whose layout the spec does not give. The spec lays out only
CLIP READ's result (R198). -/
opaque resultBytes : Result → List Byte

/-- What a profile generation holds after a write that stopped after this many boundaries (R206 says only that it
fails its check): from the contents being written. -/
opaque brokenContents : Settings → Nat → Settings

/-- How the stored CRC of such a generation differs from the CRC of what it holds; never zero, since the
generation is FAILING (R204, R206). -/
opaque brokenCrc : Settings → Nat → Fin 65535

/-- The factory default panel configuration (R171). -/
def panel : PanelSettings where
  lines := #v[⟨.inputPullup, false, .goEdge⟩, ⟨.inputPullup, false, .stop⟩, ⟨.inputPullup, false, .dump⟩,
    ⟨.inputPullup, false, .mic⟩, ⟨.output, true, .onAir⟩, ⟨.output, true, .alertActive⟩,
    ⟨.output, true, .delaySafe⟩, ⟨.output, true, .micLive⟩]
  cancelWindow := 30

/-- The factory default delay settings (chapter 03, "Delay settings"). -/
def delay : DelaySettings where
  bA := 50
  bB := 300
  bC := 1000
  s1 := 36
  s2 := 24
  s3 := 12
  s4 := 5
  q := 12
  quiet := 32768
  dumpStep := 4000

/-- The factory default supervision settings (R169). -/
def supervision : SupervisionSettings := ⟨2048, 1500, 100, true⟩

/-- The factory default alert settings (R146). -/
def alert : AlertSettings := ⟨6000, 60000, true⟩

/-- The factory default link settings (R161): the station code is "000". -/
def link : LinkSettings := ⟨200, #v[0x30, 0x30, 0x30]⟩

/-- The factory defaults of the station profile (R204). -/
def factory : Settings where
  link := link
  rates := Vector.replicate 4 .baud115200
  ring := 2003
  reserve := 6000
  target := 2000
  delay := delay
  supervision := supervision
  alert := alert
  panel := panel

end Sys2Proof.Config
end

