-- ==== Sys2Proof/Machine/State.lean ====
section
/-! DEFINITION. The state of the block: every block's records, the ports' buffers, the settings in use, the due events
and the queue of waiting commands; the reasons a step can stop; and the state after reset. -/

namespace Sys2Proof.Machine

/-- The reasons the block stops with a fault. There is none: the spec gives every command and event of the table an
effect in every state (a refused command is answered and changes nothing, R186), so the type has no
constructor. -/
inductive Fault where
  deriving DecidableEq, Repr

/-- The reasons a command has no meaning. -/
inductive Refusal where
  /-- Raised by `exec` alone, for a row whose meaning is not written; no row is so. Safe: the machine stops. -/
  | notModelled (mnemonic : String)
  deriving DecidableEq, Repr

structure State where
  dev : Device
  /-- The last source blocks the input port completed, S0..S7 (R1). -/
  inputs : Vector Block 8
  mix : Mix
  /-- What the Mix Engine formed last; absent before the first block (R19). -/
  formed : Option Formed
  mem : SampleMemory
  delay : Delay
  clips : ClipStore
  cue : Cue
  callers : Callers
  alerts : Alerts
  tx : TxLink
  sup : Supervisor
  panel : Panel
  prof : ProfileStore
  links : Links
  /-- What the audio output port sends on channels 0..3 (R19). -/
  port : Vector Block 4
  /-- The AIR block handed over at the last output block boundary (R50). -/
  air : AirBlock
  /-- Events the last boundary found due and that have not been taken (log entry 4). -/
  due : List Due
  /-- The commands that wait, first in, first out. -/
  pending : List Instr
  deriving DecidableEq, Repr

/-- R20. -/
def Contrib.initial (target : Nat) : Contrib := ⟨none, target, 0, none, none⟩

/-- R20. -/
def Mix.initial : Mix where
  studio := .initial 32768
  voiceA := .initial 0
  voiceB := .initial 0
  caller1 := .initial 32768
  caller2 := .initial 32768
  alert := .initial 0
  studioFade := 5
  slotFade := Vector.replicate 2 25

/-- The sample memory after power-on and hardware reset (R28, R29, R36). -/
def SampleMemory.initial (ring reserve : Nat) : SampleMemory where
  cells := []
  held := []
  free := List.range' ring (Config.segments - ring)
  general := 0
  alertCount := 0
  errors := 0
  ring := ring
  reserve := reserve

/-- The Delay Unit after any reset, with the target and settings it then has (R57). -/
def Delay.initial (target : Nat) (settings : DelaySettings) : Delay where
  writeHead := 0
  readPos := none
  excess := 0
  target := target
  alertSegs := 0
  dump := none
  state := .off
  fed := false
  settings := settings

/-- An EMPTY clip record (R58). -/
def Clip.empty : Clip := ⟨.empty, false, false, none, none, 0, false, false, 0⟩

/-- R73. -/
def ClipStore.initial : ClipStore where
  playout := Vector.replicate 63 .empty
  alert := Vector.replicate 4 .empty
  channels := Vector.replicate 2 none
  alertCapture := none
  readerA := none
  readerB := none
  readerAlert := none
  fallback := none
  tone := none

/-- R99. -/
def Cue.initial : Cue := ⟨[], .free, .free, .idle, none, false, none, false, 0, 0⟩

/-- R120. -/
def Callers.initial : Callers where
  lines := Vector.replicate 4 ⟨.free, 4096, none, none, none, none, .none⟩
  queue := []
  slots := Vector.replicate 2 ⟨none, none⟩
  measure := none
  nextNumber := 1

/-- The Alert Controller after power-on and hardware reset (R147). -/
def Alerts.initial (settings : AlertSettings) : Alerts where
  records := Vector.replicate 4 none
  queue := []
  history := []
  view := .idle
  lastLink := .down
  settings := settings
  tone := none

/-- The Transmitter Link Unit after power-on and hardware reset (R163). -/
def TxLink.initial (settings : LinkSettings) : TxLink where
  seq := 0
  history := []
  state := .down
  age := 0
  status := none
  mark := none
  run := 0
  bad := 0
  settings := settings
  frame := none

/-- R170. -/
def Supervisor.initial (settings : SupervisionSettings) : Supervisor := ⟨none, none, 0, settings, none⟩

/-- R179. -/
def Panel.initial (settings : PanelSettings) (linkUp : Bool) : Panel where
  settings := settings
  lines := Vector.replicate 8 ⟨false, false, true, false, false⟩
  reports := ⟨false, false, false, false, false, linkUp, false⟩

/-- A silent AIR block (R43). -/
def AirBlock.silent : AirBlock := ⟨Block.silent, none, none, LineSet.empty, 0⟩

/-- The numbers of the events a link can receive, rising (R187, "Events by link"). -/
def linkEvents : Link → List Nat
  | .P => [0x01, 0x10, 0x11, 0x12, 0x13, 0x14, 0x15, 0x16]
  | .C => [0x01, 0x16, 0x20, 0x21, 0x22, 0x23, 0x24, 0x25, 0x26, 0x27, 0x28, 0x29, 0x2A, 0x2B, 0x2C, 0x2D, 0x2E]
  | .S => [0x01, 0x30, 0x31, 0x32, 0x33]
  | .A => [0x01, 0x29, 0x40]

/-- A link after power-on and hardware reset (R195). -/
def LinkPort.initial (l : Link) (rate : Rate) : LinkPort := ⟨.hunting, none, [], [], linkEvents l, 0, rate⟩

/-- A link once RESET_DONE has been raised after a reset (R195). -/
def LinkPort.afterReset (l : Link) (rate : Rate) (kind : ResetKind) : LinkPort :=
  { LinkPort.initial l rate with events := [⟨.resetDone kind, 1⟩] }

/-- The state after power-on with every profile generation UNPROGRAMMED, once POWER_UP has ended: STANDBY, the
factory defaults in use, RESET_DONE pending on every link (R57, R200, R205, and each chapter's "Values after
reset"; log entry 1). -/
def State.reset : State where
  dev := ⟨.running, .standby, .powerOn, .internal, 0, 0⟩
  inputs := Vector.replicate 8 Block.silent
  mix := .initial
  formed := none
  mem := .initial 2003 6000
  delay := .initial 2000 Config.delay
  clips := .initial
  cue := .initial
  callers := .initial
  alerts := .initial Config.alert
  tx := .initial Config.link
  sup := .initial Config.supervision
  panel := .initial Config.panel false
  prof := ⟨Vector.replicate 4 .unprogrammed, 0⟩
  links := ⟨.afterReset .P .baud115200 .powerOn, .afterReset .C .baud115200 .powerOn,
    .afterReset .S .baud115200 .powerOn, .afterReset .A .baud115200 .powerOn⟩
  port := Vector.replicate 4 Block.silent
  air := .silent
  due := []
  pending := []

end Sys2Proof.Machine
end

