-- ==== Sys2Proof/Machine/Bytes.lean ====
section
/-! DEFINITION. Bytes, check words and the sample and gain arithmetic of chapters 01, 02 and 10. -/

namespace Sys2Proof.Machine

/-- The byte that holds `n` modulo 256. -/
def byte (n : Nat) : Byte := BitVec.ofNat 8 n

/-- A 16-bit field, most significant byte first (chapter 10, "Byte layouts"). -/
def be16 (n : Nat) : List Byte := [byte (n / 256), byte n]

/-- A 24-bit field, most significant byte first. -/
def be24 (n : Nat) : List Byte := [byte (n / 65536), byte (n / 256), byte n]

/-- An optional 16-bit field whose values lie in 1..65,535: 0 when absent. -/
def be16Opt (n : Option Nat) : List Byte := be16 (n.getD 0)

/-- The value of two bytes, most significant first. -/
def u16 (hi lo : Byte) : Nat := hi.toNat * 256 + lo.toNat

/-- The value of three bytes, most significant first. -/
def u24 (hi mid lo : Byte) : Nat := hi.toNat * 65536 + mid.toNat * 256 + lo.toNat

/-- A sample as three bytes of two's complement, most significant first. -/
def sampleBytes (x : Sample) : List Byte := be24 x.toNat

/-- A frame as six bytes, left then right. -/
def frameBytes (f : Frame) : List Byte := sampleBytes f.left ++ sampleBytes f.right

/-- A block's 2,880 bytes in the order R24 feeds them. -/
def blockBytes (b : Block) : List Byte := b.toList.flatMap frameBytes

/-- The bits of a byte, most significant first. -/
def byteBits (b : Byte) : List Nat :=
  [b.toNat / 128 % 2, b.toNat / 64 % 2, b.toNat / 32 % 2, b.toNat / 16 % 2, b.toNat / 8 % 2, b.toNat / 4 % 2,
    b.toNat / 2 % 2, b.toNat % 2]

/-- One bit into a CRC-16 register of generator polynomial 1021h, not reflected (R24). -/
def crc16Bit (c bit : Nat) : Nat :=
  if (c / 32768 + bit) % 2 = 1 then (c * 2 % 65536) ^^^ 0x1021 else c * 2 % 65536

/-- Bytes into a CRC-16 register. Matching on the register's value makes the kernel evaluate it at each byte; both
arms go on with that value. -/
def crc16Feed : List Byte → Nat → Nat
  | [], c => c
  | b :: bs, c =>
    match (byteBits b).foldl crc16Bit c with
    | 0 => crc16Feed bs 0
    | n + 1 => crc16Feed bs (n + 1)

/-- The CRC-16 of R24: polynomial 1021h, initial value FFFFh, no final inversion. -/
def crc16 (bs : List Byte) : BitVec 16 := BitVec.ofNat 16 (crc16Feed bs 0xFFFF)

/-- One bit into a CRC-8 register of generator polynomial 07h, not reflected (R183). -/
def crc8Bit (c bit : Nat) : Nat :=
  if (c / 128 + bit) % 2 = 1 then (c * 2 % 256) ^^^ 0x07 else c * 2 % 256

/-- The CRC-8 of R183: polynomial 07h, initial value 00h, no final inversion. -/
def crc8 (bs : List Byte) : Byte := byte (bs.foldl (fun c b => (byteBits b).foldl crc8Bit c) 0)

/-- The check word of 480 frames (R24). -/
def segmentCheck (b : Block) : BitVec 16 := crc16 (blockBytes b)

/-- The absolute value of a sample; −8,388,608 counts as 8,388,608 (R1). -/
def sampleAbs (x : Sample) : Nat := x.toInt.natAbs

/-- The largest absolute sample value over both channels of a block (R1, R15, R50). -/
def blockPeak (b : Block) : Nat :=
  b.toList.foldl (fun m f => max m (max (sampleAbs f.left) (sampleAbs f.right))) 0

/-- A value outside the sample range replaced by the nearer end of the range (00_scope.md). -/
def saturate (x : Int) : Sample := BitVec.ofInt 24 (max (-8388608) (min 8388607 x))

/-- The block-boundary gain G_k of a fade (R8); the division truncates towards zero. -/
def fadeGain (g0 g1 n k : Nat) : Int := g0 + (((g1 : Int) - g0) * k).tdiv n

/-- The gain of frame `j` in the present block of a running fade (R8). -/
def frameGain (f : Fade) (j : Nat) : Int :=
  fadeGain f.startGain f.endGain f.length f.done +
    ((fadeGain f.startGain f.endGain f.length (f.done + 1) -
      fadeGain f.startGain f.endGain f.length f.done) * (j + 1)).tdiv 480

/-- The effective gain of a caller contributor at slot gain `s` and trim `t` (R13). -/
def effectiveGain (s t : Nat) : Nat := min 65535 (s * t / 4096)

/-- A contributor's product (R11); the division rounds towards minus infinity. -/
def product (x : Sample) (g : Nat) : Int := x.toInt * g / 32768

/-- `b` is at or beyond `a` in the half-range window of sequence numbers (R152). -/
def atOrBeyond (a b : Nat) : Bool := (b + 65536 - a % 65536) % 65536 < 32768

/-- `(b − a) mod 65,536`. -/
def seqDiff (b a : Nat) : Nat := (b + 65536 - a % 65536) % 65536

/-- A count that stays at `top` once it has reached it. -/
def countUp (top n : Nat) : Nat := min top (n + 1)

end Sys2Proof.Machine
end

