-- ==== Sys2Proof/Machine/Ops.lean ====
section
/-! DEFINITION. The operations the meanings share: event sets, the sample memory and its pool, the clip table and its
readers, the requests to the Mix Engine. -/

namespace Sys2Proof.Machine

-- links and event sets (chapter 10)

def Links.get (ls : Links) : Link → LinkPort
  | .P => ls.p
  | .C => ls.c
  | .S => ls.s
  | .A => ls.a

def Links.set (ls : Links) (l : Link) (x : LinkPort) : Links :=
  match l with
  | .P => { ls with p := x }
  | .C => { ls with c := x }
  | .S => { ls with s := x }
  | .A => { ls with a := x }

/-- The state of a link. -/
def State.link (s : State) (l : Link) : LinkPort := s.links.get l

/-- `s` with link `l` changed by `f`. -/
def State.modLink (s : State) (l : Link) (f : LinkPort → LinkPort) : State :=
  { s with links := s.links.set l (f (s.link l)) }

/-- The number of an event (R187, "Events by link"). -/
def Event.number : Event → Nat
  | .resetDone _ => 0x01
  | .itemEnded _ => 0x10
  | .listEmpty => 0x11
  | .captureDone .. => 0x12
  | .clipMemoryError .. => 0x13
  | .engineHeld => 0x14
  | .engineResumed => 0x15
  | .fallbackEntered => 0x16
  | .panelInput _ => 0x20
  | .panelRefused .. => 0x21
  | .delaySafeChanged _ => 0x22
  | .delayDumped _ => 0x23
  | .delayMemoryError _ => 0x24
  | .fallbackLeft _ => 0x25
  | .fallbackNoAudio => 0x26
  | .alertOnAir .. => 0x27
  | .alertOffAir .. => 0x28
  | .linkState _ => 0x29
  | .linkAudioFault _ => 0x2A
  | .clockLost => 0x2B
  | .clockRestored => 0x2C
  | .profileDone _ => 0x2D
  | .profileFallback .. => 0x2E
  | .measureDone .. => 0x30
  | .lineOnAir .. => 0x31
  | .lineOffAir .. => 0x32
  | .queueChanged _ => 0x33
  | .alertState .. => 0x40

/-- An occurrence of an event joins an event set: pending with a count of 1, or its values replaced and its count one
more, at most 255 (R188). The set is kept in rising order of number. -/
def addEvent (e : Event) : List PendingEvent → List PendingEvent
  | [] => [⟨e, 1⟩]
  | p :: ps =>
    if p.event.number = e.number then ⟨e, countUp 255 p.count⟩ :: ps
    else if e.number < p.event.number then ⟨e, 1⟩ :: p :: ps
    else p :: addEvent e ps

/-- A block raises an event on a link (R188). -/
def raise (l : Link) (e : Event) (s : State) : State :=
  s.modLink l fun p => { p with events := addEvent e p.events }

/-- The pending event of a number on a link. -/
def State.pendingEvent (s : State) (l : Link) (number : Nat) : Option PendingEvent :=
  (s.link l).events.find? (·.event.number = number)

-- the sample memory (chapter 02)

/-- A silent segment (R28). -/
def Segment.silent : Segment :=
  ⟨Block.silent, segmentCheck Block.silent, 0, none, none, LineSet.empty, none⟩

/-- What the segment `n` holds; an unlisted one reads as silent (R28; log entry 6). -/
def readCell (n : Nat) : List (Nat × Segment) → Segment
  | [] => .silent
  | (m, g) :: rest => if m = n then g else readCell n rest

/-- Segment `n` holds `g`, in the canonical form: numbers rising, no entry for a silent segment. -/
def writeCell (n : Nat) (g : Segment) : List (Nat × Segment) → List (Nat × Segment)
  | [] => if g = .silent then [] else [(n, g)]
  | (m, h) :: rest =>
    if n < m then (if g = .silent then (m, h) :: rest else (n, g) :: (m, h) :: rest)
    else if n = m then (if g = .silent then rest else (n, g) :: rest)
    else (m, h) :: writeCell n g rest

/-- The segment `n` as stored. -/
def SampleMemory.read (m : SampleMemory) (n : Nat) : Segment := readCell n m.cells

/-- Segment `n` written whole (R22). -/
def SampleMemory.write (m : SampleMemory) (n : Nat) (g : Segment) : SampleMemory :=
  { m with cells := writeCell n g m.cells }

/-- The canonical form of the memory: numbers strictly rising and no entry that a silent segment would read as. -/
def SampleMemory.wf (m : SampleMemory) : Bool :=
  decide (m.cells.Pairwise fun a b => a.1 < b.1) && m.cells.all fun c => decide (c.2 ≠ Segment.silent)

/-- P, the segments of the pool (R21). -/
def SampleMemory.pool (m : SampleMemory) : Nat := Config.segments - m.ring

/-- The holder the segment map gives segment `n` (R23). -/
def SampleMemory.holder (m : SampleMemory) (n : Nat) : Holder :=
  if n < m.ring then .delay
  else match m.held.find? (·.1 = n) with
    | some (_, c) => .clip c
    | none => .free

/-- A fetch compares the stored check word with that of the frames as read (R25). -/
def Segment.passes (g : Segment) : Bool := segmentCheck g.frames = g.check

/-- What the reader of a segment receives: the frames and peak as stored, or on a check failure zeros and peak 0; the
labels and the link as stored (R25, R26). -/
def Segment.received (g : Segment) : Segment :=
  if g.passes then g else { g with frames := Block.silent, peak := 0 }

/-- The frames the DRAM has changed under a segment's record (R26; log entry 7). -/
def SampleMemory.upset (m : SampleMemory) (us : List (Nat × Block)) : SampleMemory :=
  us.foldl (fun m u => m.write u.1 { m.read u.1 with frames := u.2 }) m

/-- The silent fill of the delay region (R28). -/
def SampleMemory.fill (m : SampleMemory) : SampleMemory :=
  { m with cells := m.cells.filter fun c => decide (m.ring ≤ c.1) }

/-- The map, the free list and the counts for a new R (R23, R29, R35). -/
def SampleMemory.rebuild (m : SampleMemory) (ring reserve : Nat) : SampleMemory :=
  { m with
    ring := ring
    reserve := reserve
    held := []
    free := List.range' ring (Config.segments - ring)
    general := 0
    alertCount := 0 }

/-- A segment's entry joins the segment map, in rising order. -/
def holdSegment (n : Nat) (c : ClipRef) : List (Nat × ClipRef) → List (Nat × ClipRef)
  | [] => [(n, c)]
  | (m, d) :: rest => if n < m then (n, c) :: (m, d) :: rest else (m, d) :: holdSegment n c rest

/-- The controller finds a segment for a request (R31). -/
def SampleMemory.grants (m : SampleMemory) (c : ClipRef) : Bool :=
  match c with
  | .playout _ => decide (m.general < m.pool - m.reserve) && !m.free.isEmpty
  | .alert _ => !m.free.isEmpty

/-- An allocation for clip `c` whose last segment is `last` (R31): the head of the free list, or none for
NO_SEGMENT. A number outside the pool, named as the last segment, is left as it is (R23). -/
def SampleMemory.allocate (m : SampleMemory) (c : ClipRef) (last : Option Nat) : Option (Nat × SampleMemory) :=
  match m.grants c, m.free with
  | true, n :: rest =>
    let linked := match last with
      | some k =>
        if m.ring ≤ k ∧ k < Config.segments then m.write k { m.read k with link := some n } else m
      | none => m
    some (n, { linked with
      free := rest
      held := holdSegment n c m.held
      general := match c with | .playout _ => m.general + 1 | .alert _ => m.general
      alertCount := match c with | .playout _ => m.alertCount | .alert _ => m.alertCount + 1 })
  | _, _ => none

/-- One segment of a free request that names clip `c`: freed to the tail of the list, or left as it is when the clip
does not hold it (R23, R33). -/
def SampleMemory.freeOne (c : ClipRef) (m : SampleMemory) (n : Nat) : SampleMemory :=
  if m.holder n = .clip c then
    { m with
      free := m.free ++ [n]
      held := m.held.filter fun h => decide (h.1 ≠ n)
      general := match c with | .playout _ => m.general - 1 | .alert _ => m.general
      alertCount := match c with | .playout _ => m.alertCount | .alert _ => m.alertCount - 1 }
  else m

/-- A free request (R33). -/
def SampleMemory.freeAll (m : SampleMemory) (c : ClipRef) (ns : List Nat) : SampleMemory :=
  ns.foldl (SampleMemory.freeOne c) m

/-- The chain that starts at segment `n`, at most `k` segments of it, following the links (R58). -/
def SampleMemory.chain (m : SampleMemory) : Nat → Option Nat → List Nat
  | 0, _ => []
  | _, none => []
  | k + 1, some n => n :: m.chain k (m.read n).link

-- the clip table (chapter 04)

def State.clip (s : State) : ClipRef → Clip
  | .playout n => s.clips.playout[n]
  | .alert k => s.clips.alert[k]

/-- `s` with the clip record of `c` changed by `f`. -/
def State.modClip (s : State) (c : ClipRef) (f : Clip → Clip) : State :=
  match c with
  | .playout n => { s with clips := { s.clips with playout := s.clips.playout.set n (f s.clips.playout[n]) } }
  | .alert k => { s with clips := { s.clips with alert := s.clips.alert.set k (f s.clips.alert[k]) } }

/-- The segments of a clip in chain order (R58). -/
def State.segments (s : State) (c : ClipRef) : List Nat := s.mem.chain (s.clip c).count (s.clip c).first

/-- A clip's length in frames (R58). -/
def Clip.length (c : Clip) : Nat := 480 * c.count

/-- The segments of a clip are freed in chain order and its record becomes EMPTY (R33, R58, R65, R70). -/
def emptyClip (c : ClipRef) (s : State) : State :=
  { s with mem := s.mem.freeAll c (s.segments c) }.modClip c fun _ => .empty

/-- A capture's block joins the clip's chain, when a segment is granted (R31, R60). The segment is written whole within
the boundary, so that no reset finds one that is still being written (R73; log entry 40). -/
def appendBlock (c : ClipRef) (b : Block) (peak : Nat) (s : State) : Option State :=
  match s.mem.allocate c (s.segments c).getLast? with
  | none => none
  | some (n, m) =>
    some ({ s with mem := m.write n ⟨b, segmentCheck b, peak, none, none, LineSet.empty, none⟩ }.modClip c
      fun r => { r with first := some (r.first.getD n), count := r.count + 1 })

-- clip readers (R66)

def ClipStore.reader (cs : ClipStore) : ReaderOf → Option Reader
  | .voiceA => cs.readerA
  | .voiceB => cs.readerB
  | .alert => cs.readerAlert

def State.setReader (s : State) (r : ReaderOf) (x : Option Reader) : State :=
  match r with
  | .voiceA => { s with clips := { s.clips with readerA := x } }
  | .voiceB => { s with clips := { s.clips with readerB := x } }
  | .alert => { s with clips := { s.clips with readerAlert := x } }

/-- The reader's clip gains or loses a use; alert clips have no use count (R65, R69). -/
def useClip (up : Bool) (c : ClipRef) (s : State) : State :=
  match c with
  | .playout _ => s.modClip c fun r => { r with uses := if up then r.uses + 1 else r.uses - 1 }
  | .alert _ => s

/-- A reader closes (R66). -/
def closeReader (r : ReaderOf) (s : State) : State :=
  match s.clips.reader r with
  | none => s
  | some x => useClip false x.clip (s.setReader r none)

/-- The ordinal a start position in frames gives on a clip (R66). -/
def startOrdinal (c : Clip) (frames : Nat) : Nat :=
  if frames / 480 < c.count then frames / 480
  else if c.loop then frames / 480 % c.count
  else c.count

/-- A reader opens on a clip at a start position in frames (R66). -/
def openReader (r : ReaderOf) (c : ClipRef) (frames : Nat) (s : State) : State :=
  useClip true c (s.setReader r (some ⟨c, startOrdinal (s.clip c) frames, false, false⟩))

/-- The position a reader reports, in frames since ordinal 0 (R67). -/
def Reader.position (x : Reader) : Nat := 480 * x.ordinal

-- contributors (chapter 01)

def Mix.get (m : Mix) : Contributor → Contrib
  | .studio => m.studio
  | .voiceA => m.voiceA
  | .voiceB => m.voiceB
  | .caller1 => m.caller1
  | .caller2 => m.caller2
  | .alert => m.alert

def Mix.set (m : Mix) (c : Contributor) (x : Contrib) : Mix :=
  match c with
  | .studio => { m with studio := x }
  | .voiceA => { m with voiceA := x }
  | .voiceB => { m with voiceB := x }
  | .caller1 => { m with caller1 := x }
  | .caller2 => { m with caller2 := x }
  | .alert => { m with alert := x }

/-- A contributor record. -/
def State.contrib (s : State) (c : Contributor) : Contrib := s.mix.get c

/-- `s` with contributor `c`'s record replaced. -/
def State.setContrib (s : State) (c : Contributor) (x : Contrib) : State :=
  { s with mix := s.mix.set c x }

/-- The six contributors. -/
def allContributors : List Contributor := [.studio, .voiceA, .voiceB, .caller1, .caller2, .alert]

/-- The clip reader of a contributor, when it has one (R66). -/
def contributorReader : Contributor → Option ReaderOf
  | .voiceA => some .voiceA
  | .voiceB => some .voiceB
  | .alert => some .alert
  | _ => none

def voiceContributor : Voice → Contributor
  | .A => .voiceA
  | .B => .voiceB

def voiceReader : Voice → ReaderOf
  | .A => .voiceA
  | .B => .voiceB

/-- The contributor of a caller slot (R111). -/
def slotContributor (i : CallerSlot) : Contributor := if i = 0 then .caller1 else .caller2

/-- The contributor takes part in the sums (R5). -/
def Contrib.active (c : Contrib) : Bool := c.binding.isSome

/-- An OUT fade is running or pending. -/
def Contrib.fadingOut (c : Contrib) : Bool :=
  (match c.fade with | some f => decide (f.purpose = .out) | none => false) ||
  (match c.waiting with | some f => decide (f.purpose = .out) | none => false)

/-- A contributor's reader closes, when it has one open. -/
def closeReaderOf (c : Contributor) (s : State) : State :=
  match contributorReader c with
  | some r => closeReader r s
  | none => s

/-- The record of a contributor made inactive; the target gain is kept (R6). -/
def Contrib.inactive (x : Contrib) : Contrib := { x with binding := none, gain := 0, fade := none, waiting := none }

/-- CUT (R6). -/
def cut (c : Contributor) (s : State) : State :=
  if (s.contrib c).active then
    (closeReaderOf c s).setContrib c (s.contrib c).inactive
  else s

/-- The record ACTIVATE leaves (R6): with a fade-in, a LEVEL fade from 0 is pending. -/
def Contrib.activated (b : Binding) (target fadeIn : Nat) : Contrib :=
  if fadeIn = 0 then ⟨some b, target, target, none, none⟩
  else ⟨some b, target, 0, none, some ⟨target, min fadeIn 500, .level⟩⟩

/-- ACTIVATE from a start position in frames, which only a clip binding uses; refused, changing nothing, when the
clip is not READY (R6, R66). -/
def activate (c : Contributor) (b : Binding) (target fadeIn start : Nat) (s : State) : State :=
  match b, contributorReader c with
  | .clip k, some r =>
    if (s.clip k).state = .ready then
      (openReader r k start (closeReader r s)).setContrib c (.activated b target fadeIn)
    else s
  | _, _ => (closeReaderOf c s).setContrib c (.activated b target fadeIn)

/-- LEVEL (R6). -/
def level (c : Contributor) (target length : Nat) (s : State) : State :=
  let x := { s.contrib c with target := target }
  s.setContrib c <|
    if !x.active || x.fadingOut then x
    else if length = 0 then { x with gain := target, fade := none, waiting := none }
    else { x with waiting := some ⟨target, min length 500, .level⟩ }

/-- FADE OUT (R6). -/
def fadeOut (c : Contributor) (length : Nat) (s : State) : State :=
  if length = 0 then cut c s
  else if (s.contrib c).active then
    s.setContrib c { s.contrib c with waiting := some ⟨0, min length 500, .out⟩ }
  else s

-- device

/-- The device is ON_AIR. -/
def State.onAir (s : State) : Bool := decide (s.dev.state = .onAir)

/-- The part runs and is out of POWER_UP. -/
def State.live (s : State) : Bool := decide (s.dev.supply = .running) && decide (s.dev.state ≠ .powerUp)

/-- `s` with the panel's condition reports changed by `f` (R176). -/
def State.report (s : State) (f : Reports → Reports) : State :=
  { s with panel := { s.panel with reports := f s.panel.reports } }

/-- An owner's answer to a command or a panel action: taken, with its result data; refused, changing nothing
(R186); or taken with its answer delayed (R185). -/
inductive Reply where
  | ok (s : State) (r : Result)
  | refuse (c : Status)
  | later (s : State)

/-- Every active alert record that `p` picks out becomes DAMAGED (R135). -/
def markDamaged (p : AlertSlot → AlertRecord → Bool) (s : State) : State :=
  { s with alerts := { s.alerts with
      records := Vector.ofFn fun k : Fin 4 =>
        s.alerts.records[k].map fun r => if p k r then { r with damaged := true } else r } }

end Sys2Proof.Machine
end

