-- ==== Sys2Proof/Machine/Flags.lean ====
section
/-! DEFINITION. The conditions, flags and pin levels that the part works out from what it holds: the delay state, DELAY
SAFE, STUDIO on, the air flags of a link frame, a link's busy condition, ATTN and the panel pins. -/

namespace Sys2Proof.Machine

/-- E_t, in samples (R39). -/
def Delay.targetSamples (d : Delay) : Nat := 480 * d.target

/-- The delay state that the device state, E and E_t give (R40). -/
def delayStateOf (onAir : Bool) (excess targetSamples : Nat) : DelayState :=
  if !onAir then .off
  else if excess < targetSamples then .building
  else if excess = targetSamples then .safe
  else .shrinking

/-- DELAY SAFE (R40). -/
def DelayState.isSafe : DelayState → Bool
  | .safe => true
  | .shrinking => true
  | _ => false

/-- STUDIO is on while it is active with no OUT fade running or pending (R16). -/
def State.studioOn (s : State) : Bool := s.mix.studio.active && !s.mix.studio.fadingOut

/-- At least one caller slot has an occupant (R111). -/
def Callers.occupied (c : Callers) : Bool := c.slots[0].occupant.isSome || c.slots[1].occupant.isSome

/-- The air flags of the frame made at an output block boundary (R150), for the alert id it carries and the E handed
over for it. -/
def airFlags (s : State) (alertId : Option Nat) (excess : Nat) : AirFlags :=
  ⟨s.onAir, alertId.isSome, decide (excess = 0), decide (s.sup.mode = some .fallback)⟩

/-- The flags byte of a link frame (R197). -/
def AirFlags.byte (f : AirFlags) : Byte :=
  Machine.byte ((if f.onAir then 1 else 0) + (if f.alert then 2 else 0) + (if f.live then 4 else 0) +
    (if f.fallback then 8 else 0))

/-- A link is busy while a command is in flight or a frame is owed an answer (R184). -/
def LinkPort.busy (p : LinkPort) : Bool := p.inFlight.isSome || !p.owed.isEmpty

/-- ATTN of a link is asserted: a pending event is enabled; released throughout POWER_UP (R189). -/
def State.attn (s : State) (l : Link) : Bool :=
  s.live && (s.link l).events.any fun e => (s.link l).enabled.contains e.event.number

/-- The condition an output function names, as last reported (R176). -/
def Reports.condition (r : Reports) (general : Bool) : PanelFunction → Bool
  | .onAir => r.onAir
  | .micLive => r.micLive
  | .alertActive => r.alertActive
  | .delaySafe => r.delaySafe
  | .fallback => r.fallback
  | .linkOk => r.linkOk
  | .callerOn => r.callerOn
  | .general => general
  | _ => false

/-- A panel pin's internal pull-up is on: in POWER_UP every line's, else that of each INPUT_PULLUP line as it is now
configured; none while the part does not run (R171, R177; log entry 44). -/
def State.pullUp (s : State) (n : PanelLineNo) : Bool :=
  match s.dev.supply with
  | .loading => true
  | .running => decide (s.dev.state = .powerUp) || decide (s.panel.settings.lines[n].direction = .inputPullup)
  | _ => false

/-- The level panel pin `n` reads, `true` for high: an open contact reads high where the pull-up is on (R171). -/
def State.pinReads (s : State) (n : PanelLineNo) : Contact → Bool
  | .low => false
  | .high => true
  | .opened floats => s.pullUp n || floats

/-- The level the part drives a panel pin to, `true` for high; none for an input, in POWER_UP, and while the part
does not run (R171, R176, R200). -/
def State.pin (s : State) (n : PanelLineNo) : Option Bool :=
  let c := s.panel.settings.lines[n]
  if s.live && decide (c.direction = .output) then
    some ((s.panel.reports.condition s.panel.lines[n].general c.function) == c.activeHigh)
  else none

end Sys2Proof.Machine
end

