-- ==== Sys2Proof/Machine/CallerUnit.lean ====
section
/-! DEFINITION. The Caller Unit (chapter 06): line records, the hold queue and its numbers, the caller slots, the
measurement. -/

namespace Sys2Proof.Machine

/-- A telephone line's record. -/
def State.line (s : State) (i : PhoneLine) : LineRecord := s.callers.lines[i]

def State.setLine (s : State) (i : PhoneLine) (x : LineRecord) : State :=
  { s with callers := { s.callers with lines := s.callers.lines.set i x } }

/-- A caller slot's record. -/
def State.slot (s : State) (i : CallerSlot) : SlotRecord := s.callers.slots[i]

/-- A slot's record replaced, and the CALLER_ON condition reported (R111). -/
def State.setSlot (s : State) (i : CallerSlot) (x : SlotRecord) : State :=
  let t := { s with callers := { s.callers with slots := s.callers.slots.set i x } }
  t.report fun r => { r with callerOn := t.callers.occupied }

/-- The source a telephone line is fed as (R100). -/
def lineSource (i : PhoneLine) : Source := ⟨i.val + 3, by omega⟩

/-- The line a source carries (R100). -/
def sourceLine (n : Source) : Option PhoneLine :=
  if h : 3 ≤ n.val ∧ n.val < 7 then some ⟨n.val - 3, by omega⟩ else none

/-- The queue's length is reported to the screener (R106). -/
def raiseQueue (s : State) : State := raise .S (.queueChanged s.callers.queue.length) s

/-- Line `a` stands ahead of line `b`: by priority, then by admission number (R106). -/
def ahead (ls : Vector LineRecord 4) (a b : PhoneLine) : Bool :=
  let pa := ls[a].priority.getD 0
  let pb := ls[b].priority.getD 0
  decide (pa < pb) || (decide (pa = pb) && decide (ls[a].number.getD 0 < ls[b].number.getD 0))

/-- A line placed in the queue by its priority and number (R106). -/
def placeInQueue (ls : Vector LineRecord 4) (x : PhoneLine) : List PhoneLine → List PhoneLine
  | [] => [x]
  | y :: ys => if ahead ls x y then x :: y :: ys else y :: placeInQueue ls x ys

/-- How many lines of the queue have a smaller admission number than line `i`. -/
def rankInQueue (c : Callers) (i : PhoneLine) : Nat :=
  c.queue.countP fun j => decide (c.lines[j].number.getD 0 < c.lines[i].number.getD 0)

/-- The queue's lines renumbered `base + 1`, `base + 2`, … in the order of their present numbers, the next number
following (R106, R117). -/
def Callers.renumber (c : Callers) (base : Nat) : Callers :=
  { c with
    lines := Vector.ofFn fun i : Fin 4 =>
      if c.queue.contains i then { c.lines[i] with number := some (base + 1 + rankInQueue c i) } else c.lines[i]
    nextNumber := base + c.queue.length + 1 }

/-- A line takes the next admission number; at 65,535 the queue is renumbered first (R106). -/
def giveNumber (i : PhoneLine) (s : State) : State :=
  let c := if s.callers.nextNumber = 65535 then s.callers.renumber 0 else s.callers
  { s with callers := { c with
    lines := c.lines.set i { c.lines[i] with number := some c.nextNumber }
    nextNumber := c.nextNumber + 1 } }

/-- A line's place in the queue follows from its record. -/
def placeLine (i : PhoneLine) (s : State) : State :=
  { s with callers := { s.callers with queue := placeInQueue s.callers.lines i s.callers.queue } }

/-- A HELD line takes the next number and joins the hold queue (R106). -/
def joinQueue (i : PhoneLine) (s : State) : State := placeLine i (giveNumber i s)

/-- A line leaves the hold queue (R106). -/
def leaveQueue (i : PhoneLine) (s : State) : State :=
  { s with callers := { s.callers with queue := s.callers.queue.filter (· ≠ i) } }

/-- A line made FREE: its trim and last result are kept (R102). -/
def LineRecord.freed (r : LineRecord) : LineRecord := ⟨.free, r.trim, none, none, none, none, r.result⟩

/-- The measurement of a line ends ABORTED, when one is in flight on it (R105). -/
def abortMeasure (i : PhoneLine) (s : State) : State :=
  match s.callers.measure with
  | some m =>
    if m.line = i then
      let t := s.setLine i { s.line i with result := .aborted }
      raise .S (.measureDone i .aborted (s.line i).trim)
        { t with callers := { t.callers with measure := none } }
    else s
  | none => s

/-- The slot a take uses (R113): slot 1 when it is free, else slot 2 when it is. -/
def State.freeSlot (s : State) : Option CallerSlot :=
  if (s.slot 0).occupant.isNone then some 0
  else if (s.slot 1).occupant.isNone then some 1
  else none

/-- The checks of a take before its line is looked for (R112). -/
def takeRefusal (s : State) : Option Status :=
  if !s.onAir || decide (s.sup.mode = some .alert) then some .notNow
  else if s.freeSlot.isNone then some .noSlot
  else if s.sup.settings.safeTake && decide (s.delay.excess < s.delay.targetSamples) then some .notSafe
  else none

/-- A line enters a slot (R113), less the caller-on notice. -/
def enterSlot (i : PhoneLine) (k : CallerSlot) (s : State) : State :=
  let c := slotContributor k
  let t := (leaveQueue i s).setLine i { s.line i with state := .onAir, slot := some k, number := none }
  let u := t.setSlot k ⟨some i, none⟩
  raiseQueue <| raise .S (.lineOnAir i k) <|
    activate c (.source (lineSource i)) (u.contrib c).target s.mix.slotFade[k] 0 u

/-- A release ends, less QUEUE_CHANGED (R115): the line becomes FREE or HELD and LINE_OFF_AIR is raised with the
cause. -/
def settleRelease (cause : OffAirCause) (k : CallerSlot) (s : State) : State :=
  match s.slot k with
  | ⟨some i, some d⟩ =>
    let t := s.setSlot k ⟨none, none⟩
    let u := match d with
      | .drop => t.setLine i (s.line i).freed
      | .hold => joinQueue i (t.setLine i { s.line i with state := .held, slot := none })
    raise .S (.lineOffAir i k cause) u
  | _ => s

/-- A release ends (R115); nothing changes when none is in progress. -/
def endRelease (k : CallerSlot) (s : State) : State :=
  let t := settleRelease .released k s
  if t.callers.queue = s.callers.queue then t else raiseQueue t

/-- A CALLER RELEASE of a slot that has an occupant (R114). -/
def releaseSlot (k : CallerSlot) (d : Disposition) (s : State) : State :=
  match s.slot k with
  | ⟨some i, some _⟩ => s.setSlot k ⟨some i, some d⟩
  | ⟨some i, none⟩ =>
    let t := s.setSlot k ⟨some i, some d⟩
    let u := fadeOut (slotContributor k) s.mix.slotFade[k] t
    if s.mix.slotFade[k] = 0 then endRelease k u else u
  | _ => s

/-- A slot's line is cut and becomes HELD, at a takeover or AIR STOP (R117, R118); its number and place follow. -/
def returnLine (cause : OffAirCause) (k : CallerSlot) (s : State) : State :=
  match s.slot k with
  | ⟨some i, none⟩ =>
    let t := (cut (slotContributor k) s).setSlot k ⟨none, none⟩
    raise .S (.lineOffAir i k cause) (t.setLine i { s.line i with state := .held, slot := none })
  | _ => s

/-- The lines in slots with no release in progress, slot 1's first. -/
def State.linesToReturn (s : State) : List PhoneLine :=
  [(0 : CallerSlot), 1].filterMap fun k => match s.slot k with | ⟨some i, none⟩ => some i | _ => none

/-- The returned lines take the numbers 1, 2; the lines already queued follow; each returned line is placed (R117). -/
def requeueReturned (back : List PhoneLine) (s : State) : State :=
  if back.isEmpty then s
  else
    let c := s.callers.renumber back.length
    let numbered := back.zipIdx.foldl (fun (t : State) x => t.setLine x.1 { t.line x.1 with number := some (x.2 + 1) })
      { s with callers := c }
    back.foldl (fun t i => placeLine i t) numbered

/-- The cause LINE_OFF_AIR records for a release in progress that a notice ends: at AIR STOP the cause AIR_STOP (R118), at
a takeover that of R115, RELEASED (R117; log entry 17). -/
def releaseCause : OffAirCause → OffAirCause
  | .airStop => .airStop
  | _ => .released

/-- A slot with a release in progress is cut and its release ends at once (R117, R118). -/
def cutRelease (cause : OffAirCause) (k : CallerSlot) (s : State) : State :=
  match s.slot k with
  | ⟨some _, some _⟩ => settleRelease (releaseCause cause) k (cut (slotContributor k) s)
  | _ => s

/-- Both slots emptied, at a takeover or AIR STOP notice (R117, R118). Of two releases in progress slot 1's ends first:
R117 gives that order only to the lines without one (log entry 17). -/
def emptySlots (cause : OffAirCause) (s : State) : State :=
  let back := s.linesToReturn
  let t := cutRelease cause 1 (cutRelease cause 0 (requeueReturned back (returnLine cause 1 (returnLine cause 0 s))))
  if t.callers.queue = s.callers.queue then t else raiseQueue t

/-- The judgment of a measurement on its running peak (R104): the result and the trim. -/
def judge (target peak trim : Nat) : MeasureResult × Nat :=
  if peak < 4096 then (.noSignal, trim)
  else if 8300000 ≤ peak then (.clipped, trim)
  else (.pass, max 256 (min 32767 (target * 4096 / peak)))

/-- A measurement of 200 blocks is judged (R104). -/
def measureDone (s : State) : State :=
  match s.callers.measure with
  | some m =>
    if 200 ≤ m.count then
      let j := judge m.target m.peak (s.line m.line).trim
      let t := s.setLine m.line { s.line m.line with result := j.1, trim := j.2 }
      raise .S (.measureDone m.line j.1 j.2) { t with callers := { t.callers with measure := none } }
    else s
  | none => s

/-- The measurement in flight counts a block (R104). -/
def countMeasure (s : State) : State :=
  match s.callers.measure with
  | some m =>
    let m' := { m with peak := max m.peak (blockPeak s.inputs[lineSource m.line]), count := m.count + 1 }
    { s with callers := { s.callers with measure := some m' } }
  | none => s

end Sys2Proof.Machine
end

