-- ==== Sys2Proof/Machine/DelayUnit.lean ====
section
/-! DEFINITION. The Delay Unit (chapter 03): the delay state, dumps, the write side and the read side. -/

namespace Sys2Proof.Machine

/-- The delay state and DELAY SAFE worked out afresh; a change of DELAY SAFE is raised and reported (R41). -/
def workOutDelay (s : State) : State :=
  let st := delayStateOf s.onAir s.delay.excess s.delay.targetSamples
  let t := { s with delay := { s.delay with state := st } }
  if st.isSafe = s.delay.state.isSafe then t
  else (raise .C (.delaySafeChanged st.isSafe) t).report fun r => { r with delaySafe := st.isSafe }

/-- A requested step joins the pending dump, which keeps the larger (R51, R52). -/
def joinDump : Option DumpStep → DumpStep → DumpStep
  | none, d => d
  | some .unlimited, _ => .unlimited
  | some _, .unlimited => .unlimited
  | some (.blocks a), .blocks b => .blocks (max a b)

/-- An operator dump asked for (R51). -/
def operatorDump (s : State) : Reply :=
  if s.delay.state = .off ∨ 0 < s.delay.alertSegs then .refuse .notNow
  else .ok { s with delay := { s.delay with
    dump := some (joinDump s.delay.dump (.blocks s.delay.settings.dumpStep)) } } .none

/-- The Alert Controller's forced dump request, skipped while alert segments are held (R52). -/
def forcedDump (s : State) : State :=
  if 0 < s.delay.alertSegs then s
  else { s with delay := { s.delay with dump := some (joinDump s.delay.dump .unlimited) } }

/-- The Delay Unit at AIR START: the priming segment, the read position and E = 0 (R42). -/
def startDelay (s : State) : State :=
  let at' := (s.delay.writeHead + s.mem.ring - 1) % s.mem.ring
  workOutDelay { s with
    mem := s.mem.write at' .silent
    delay := { s.delay with readPos := some (at', 479), excess := 0, alertSegs := 0, dump := none, fed := false } }

/-- The Delay Unit at the AIR STOP notice (R43). -/
def stopDelay (s : State) : State :=
  workOutDelay { s with
    delay := { s.delay with readPos := none, excess := 0, alertSegs := 0, dump := none, fed := false } }

/-- The delay segment written for a formed block (R44). -/
def delaySegment (f : Formed) : Segment :=
  ⟨f.pgm, segmentCheck f.pgm, f.peak, if f.alertId.isSome then none else f.tag, f.alertId, f.lines, none⟩

/-- The write at an input block boundary while the delay state is not OFF (R44). -/
def writeDelay (f : Formed) (s : State) : State :=
  if s.delay.state = .off then s
  else { s with
    mem := s.mem.write s.delay.writeHead (delaySegment f)
    delay := { s.delay with
      writeHead := (s.delay.writeHead + 1) % s.mem.ring
      alertSegs := if f.alertId.isSome then s.delay.alertSegs + 1 else s.delay.alertSegs
      fed := true } }

/-- The read position `n` samples further around a ring of `ring` segments. -/
def advance (ring : Nat) (pos : Nat × Nat) (n : Nat) : Nat × Nat :=
  ((pos.1 + (pos.2 + n) / 480) % ring, (pos.2 + n) % 480)

/-- The segment `i` places after segment `seg` around the delay region. -/
def SampleMemory.ringSegment (m : SampleMemory) (seg i : Nat) : Segment := m.read ((seg + i) % m.ring)

/-- How many of the `n` segments from `seg` on carry an alert id. -/
def SampleMemory.alertsIn (m : SampleMemory) (seg n : Nat) : Nat :=
  (List.range n).countP fun i => (m.ringSegment seg i).alertId.isSome

/-- L: the samples from the read position to the first sample of the earliest alert-tagged segment at or after it,
among the segments not yet read; none when there is no such segment (R53). -/
def samplesToAlert (m : SampleMemory) (writeHead : Nat) (pos : Nat × Nat) : Option Nat :=
  ((List.range ((writeHead + m.ring - pos.1) % m.ring)).find? fun i =>
    (m.ringSegment pos.1 i).alertId.isSome).map fun i => 480 * i - pos.2

/-- The dump amount (R53): the least of 480 times the step, E and L. -/
def dumpAmount (step : DumpStep) (excess : Nat) (toAlert : Option Nat) : Nat :=
  let a := match step with | .blocks n => min (480 * n) excess | .unlimited => excess
  match toAlert with | some l => min a l | none => a

/-- A pending dump carried out at an output block boundary (R53). -/
def carryOutDump (s : State) : State :=
  match s.delay.dump, s.delay.readPos with
  | some step, some pos =>
    let n := dumpAmount step s.delay.excess (samplesToAlert s.mem s.delay.writeHead pos)
    let t := { s with delay := { s.delay with
      dump := none, excess := s.delay.excess - n, readPos := some (advance s.mem.ring pos n) } }
    if n = 0 then t else raise .C (.delayDumped n) t
  | _, _ => { s with delay := { s.delay with dump := none } }

/-- The shape of a read (R46). -/
inductive Shape where
  | stretch (n : Nat) | compress (n : Nat) | plain
  deriving DecidableEq, Repr

/-- N_in, the stored samples a read consumes (R46). -/
def Shape.consumed : Shape → Nat
  | .stretch n => 480 - n
  | .compress n => 480 + n
  | .plain => 480

/-- The stretch table's value for a deficit (R46). -/
def rangeValue (c : DelaySettings) (deficit : Nat) : Nat :=
  if 480 * c.bC ≤ deficit then c.s1
  else if 480 * c.bB ≤ deficit then c.s2
  else if 480 * c.bA ≤ deficit then c.s3
  else c.s4

/-- The shape of the next read (R46), for the alert suspension and the peak of the segment holding a[0]. -/
def chooseShape (c : DelaySettings) (excess targetSamples : Nat) (suspended : Bool) (peak : Nat) : Shape :=
  if suspended then .plain
  else if excess < targetSamples then
    let v := rangeValue c (targetSamples - excess)
    if v = 0 then .plain
    else .stretch (min (if peak < c.quiet then min (2 * v) 48 else v) (targetSamples - excess))
  else if targetSamples < excess then
    let q := min c.q (excess - targetSamples)
    if q = 0 then .plain else .compress q
  else .plain

/-- One interpolated sample (R49), over the samples `a` from the read position. -/
def interpolate (a : Nat → Int) (nIn k : Nat) : Int :=
  let i := k * nIn / 480
  let r := k * nIn - 480 * i
  let f := 256 * r / 480
  a i + (a (i + 1) - a i) * f / 256

/-- The sample frame `j` places after offset `off` in a run of segments (a[j] of R46). -/
def sampleAt (run : List Segment) (off j : Nat) : Frame :=
  ((run.getD ((off + j) / 480) Segment.silent).frames)[(off + j) % 480]'(Nat.mod_lt _ (by decide))

/-- The 480 output frames of an AIR block (R49). -/
def interpolateBlock (run : List Segment) (off nIn : Nat) : Block :=
  Vector.ofFn fun k =>
    ⟨BitVec.ofInt 24 (interpolate (fun j => (sampleAt run off j).left.toInt) nIn k),
      BitVec.ofInt 24 (interpolate (fun j => (sampleAt run off j).right.toInt) nIn k)⟩

/-- A check failure of a delay segment: counted, raised on link C, and told to the Alert Controller when the segment
carries an alert id (R26, R27, R48). -/
def delayFetchFailed (n : Nat) (g : Segment) (s : State) : State :=
  let t := raise .C (.delayMemoryError n)
    { s with mem := { s.mem with errors := countUp 65535 s.mem.errors } }
  match g.alertId with
  | some a => markDamaged (fun _ r => decide (r.id = a)) t
  | none => t

/-- The segments of a read fetched one after the other, with what follows from each failure (R48), in ring order from
the segment of a[0]; R48 gives no order, and the latest failure is what DELAY_MEMORY_ERROR records (log entry 37). -/
def reportFetches (seg n : Nat) (s : State) : State :=
  (List.range n).foldl (fun t i =>
    let g := s.mem.ringSegment seg i
    if g.passes then t else delayFetchFailed ((seg + i) % s.mem.ring) g t) s

/-- Alert suspension: the segment holding a[0] or a[480] carries an alert id (R46). -/
def suspended (m : SampleMemory) (pos : Nat × Nat) : Bool :=
  (m.ringSegment pos.1 0).alertId.isSome || (m.ringSegment pos.1 ((pos.2 + 480) / 480)).alertId.isSome

/-- The shape of the read at a position (R46). -/
def State.readShape (s : State) (pos : Nat × Nat) : Shape :=
  chooseShape s.delay.settings s.delay.excess s.delay.targetSamples (suspended s.mem pos)
    (s.mem.ringSegment pos.1 0).received.peak

/-- The AIR block a read at a position makes (R48 to R50). -/
def State.airBlock (s : State) (pos : Nat × Nat) (nIn : Nat) : AirBlock :=
  let run := (List.range ((pos.2 + nIn) / 480 + 1)).map fun i => (s.mem.ringSegment pos.1 i).received
  let frames := interpolateBlock run pos.2 nIn
  let g := s.mem.ringSegment pos.1 0
  ⟨frames, g.tag, g.alertId, g.lines, blockPeak frames⟩

/-- E after a read of a shape (R50). -/
def Shape.excessAfter (sh : Shape) (excess : Nat) : Nat :=
  match sh with
  | .stretch n => excess + n
  | .compress n => excess - n
  | .plain => excess

/-- The read at an output block boundary (R46 to R50). It fetches the segments that hold any of a[0] to a[N_in]; where
all of these lie in one segment it fetches that one, though R48 speaks of two or three (log entry 36). -/
def readDelay (pos : Nat × Nat) (s : State) : State :=
  let sh := s.readShape pos
  let n := sh.consumed
  let t := reportFetches pos.1 ((pos.2 + n) / 480 + 1) s
  { t with
    air := s.airBlock pos n
    delay := { s.delay with
      readPos := some (advance s.mem.ring pos n)
      excess := sh.excessAfter s.delay.excess
      alertSegs := s.delay.alertSegs - s.mem.alertsIn pos.1 ((pos.2 + n) / 480) } }

/-- The Delay Unit's work at an output block boundary: any pending dump, then the read, then the delay state; a
silent AIR block while OFF and until a block has been written after AIR START (R42, R43, R50, R53). -/
def outputDelay (s : State) : State :=
  if s.delay.state = .off then { s with air := .silent }
  else
    let t := carryOutDump s
    workOutDelay <|
      if t.delay.fed then
        match t.delay.readPos with
        | some pos => readDelay pos t
        | none => { t with air := .silent }
      else { t with air := .silent }

end Sys2Proof.Machine
end

