-- ==== Sys2Proof/Machine/CueHold.lean ====
section
/-! DEFINITION. The Cue Engine's list and voice records, and holding for an alert (chapter 05: R74, R75, R80, R92). -/

namespace Sys2Proof.Machine

def State.voice (s : State) : Voice → VoiceState
  | .A => s.cue.voiceA
  | .B => s.cue.voiceB

def State.setVoice (s : State) (v : Voice) (x : VoiceState) : State :=
  match v with
  | .A => { s with cue := { s.cue with voiceA := x } }
  | .B => { s with cue := { s.cue with voiceB := x } }

/-- The voice carries an entry (R80). -/
def VoiceState.carries : VoiceState → Bool
  | .carrying _ => true
  | _ => false

/-- The entry is PLAYING. -/
def Entry.playing (e : Entry) : Bool := decide (e.state = .playing)

/-- The entry is WAITING. -/
def Entry.waiting (e : Entry) : Bool := decide (e.state = .waiting)

/-- The end of the entry would start a successor (R89, R91). -/
def Entry.leadsOn (e : Entry) : Bool := e.segue && !e.successorStarted

/-- An entry set back to its start, WAITING (R74). -/
def Entry.setBack (e : Entry) : Entry :=
  { e with
    state := .waiting, ending := false, successorStarted := false, played := 0, resume := none, voice := none
    released := false }

/-- The engine state that follows the list (R79). -/
def followList (es : List Entry) : EngineState :=
  if es.any Entry.playing then .playing else if es.isEmpty then .idle else .armed

/-- The list holds a WAITING entry. -/
def Cue.hasWaiting (c : Cue) : Bool := c.entries.any Entry.waiting

/-- The cue list replaced; LIST_EMPTY when it goes from holding an entry to holding none (R75). -/
def setEntries (es : List Entry) (s : State) : State :=
  let t := { s with cue := { s.cue with entries := es } }
  if es.isEmpty && !s.cue.entries.isEmpty then raise .P .listEmpty t else t

/-- An entry's claim on its clip is released (R69, R75). -/
def releaseClaim (e : Entry) (s : State) : State :=
  match e.kind with
  | .clip id => useClip false (.playout id) s
  | _ => s

/-- An item's end: its claim is released and ITEM_ENDED records its tag (R89). -/
def itemEnded (e : Entry) (s : State) : State := raise .P (.itemEnded e.tag) (releaseClaim e s)

/-- The position of the entry a CARRYING voice carries. -/
def State.carried (s : State) (v : Voice) : Option Nat :=
  if (s.voice v).carries then
    s.cue.entries.findIdx? fun e => e.playing && decide (e.voice = some v)
  else none

/-- The first entry in a state becomes as `f` makes it. -/
def changeFirst (p : Entry → Bool) (f : Entry → Entry) : List Entry → List Entry
  | [] => []
  | e :: es => if p e then f e :: es else e :: changeFirst p f es

/-- The head becomes RESERVED (R91). -/
def reserveHead (es : List Entry) : List Entry :=
  changeFirst Entry.waiting (fun e => { e with state := .reserved }) es

/-- What a held entry keeps (R92): a CLIP its reader's position, a STREAM its blocks played; a GAP starts over. -/
def heldEntry (cs : ClipStore) (e : Entry) : Entry :=
  match e.kind with
  | .clip _ => { e with resume := (e.voice.bind fun v => cs.reader (voiceReader v)).map Reader.position }
  | .stream _ => { e with resume := some e.played }
  | _ => { e with played := 0 }

/-- Both voices cut and FREE. -/
def cutVoices (s : State) : State := ((cut .voiceB (cut .voiceA s)).setVoice .A .free).setVoice .B .free

/-- Entries that stay in the list at a takeover, and how (R92). -/
def heldList (cs : ClipStore) (es : List Entry) : List Entry :=
  (es.filter fun e => !(e.playing && e.ending)).map fun e => if e.playing then heldEntry cs e else e

/-- The state the engine would have entered after a TAKEN offer: PLAYING while an entry other than the one that made it is
PLAYING, one ending at this takeover included, and when an entry is RESERVED (R79, R92). -/
def stateAfterOffer (ended es : List Entry) : EngineState :=
  if !ended.isEmpty || es.any (fun e => !e.waiting) then .playing else if es.isEmpty then .idle else .armed

/-- The takeover notice reaches the engine (R92). `offer` is present when the notice answers an offer, and says
whether the entry or MARK that made it would have started the head. The PLAYING entries with their ending mark end in the
order of the list, so that ITEM_ENDED keeps the tag of the last of them: R92 gives no order (log entry 51). -/
def holdEngine (offer : Option Bool) (s : State) : State :=
  if s.cue.state = .held then s
  else
    let ended := s.cue.entries.filter fun e => e.playing && e.ending
    let kept := heldList s.clips s.cue.entries
    let es := if s.cue.goPending || ended.any Entry.leadsOn || offer == some true then reserveHead kept else kept
    let left := if offer.isSome then stateAfterOffer ended es else s.cue.state
    let fill := if s.cue.state = .filling ∧ s.cue.voiceA = .filling then s.clips.readerA.map Reader.position else none
    let t := setEntries es (ended.foldl (fun t e => itemEnded e t) (cutVoices s))
    raise .P .engineHeld { t with
      cue := { t.cue with state := .held, held := some ⟨left, fill⟩, goPending := false, window := none }
      alerts := { t.alerts with view := .held } }

end Sys2Proof.Machine
end

