-- ==== Sys2Proof/Machine/AlertWindows.lean ====
section
/-! DEFINITION. Taking the air (chapter 07: R123, R130, R132, R133; chapter 09: R168): the alert queue, eligibility at a
window check, and the takeover with its notices. -/

namespace Sys2Proof.Machine

/-- The class's rank, TEST lowest (R121). -/
def AlertClass.rank : AlertClass → Nat
  | .test => 0
  | .advisory => 1
  | .warning => 2
  | .immediate => 3

/-- WARNING and IMMEDIATE are mandatory (R121). -/
def AlertClass.mandatory : AlertClass → Bool
  | .warning => true
  | .immediate => true
  | _ => false

/-- The four alert record slots. -/
def alertSlots : List AlertSlot := [0, 1, 2, 3]

def State.record (s : State) (k : AlertSlot) : Option AlertRecord := s.alerts.records[k]

def State.setRecord (s : State) (k : AlertSlot) (r : Option AlertRecord) : State :=
  { s with alerts := { s.alerts with records := s.alerts.records.set k r } }

/-- An active record changed by `f`; nothing changes in a free slot. -/
def State.modRecord (s : State) (k : AlertSlot) (f : AlertRecord → AlertRecord) : State :=
  s.setRecord k ((s.record k).map f)

/-- The record in slot `k` is in phase `p`. -/
def State.inPhase (s : State) (p : AlertPhase) (k : AlertSlot) : Bool :=
  match s.record k with
  | some r => decide (r.phase = p)
  | none => false

/-- The slot of the AIRING record. -/
def State.airing (s : State) : Option AlertSlot := alertSlots.find? (s.inPhase .airing)

/-- ALERT_STATE of the record in slot `k` (R145). -/
def raiseAlertState (k : AlertSlot) (s : State) : State :=
  match s.record k with
  | some r => raise .A (.alertState r.id r.origin r.phase r.truncated r.damaged) s
  | none => s

/-- The wait notice worked out again: the Cue Engine's boundary wait is set while a TEST, ADVISORY or WARNING record
is PENDING (R132). -/
def workOutWait (s : State) : State :=
  let w := alertSlots.any fun k => match s.record k with
    | some r => decide (r.phase = .pending) && decide (r.cls ≠ .immediate)
    | none => false
  { s with cue := { s.cue with boundaryWait := w } }

/-- The FALLBACK condition is reported to the panel (R168). -/
def reportFallback (s : State) : State := s.report fun r => { r with fallback := decide (s.sup.mode = some .fallback) }

/-- The Air Supervisor takes the takeover notice (R168). -/
def takeoverAir (s : State) : State :=
  match s.sup.mode with
  | some .alert => s
  | some m => reportFallback { s with sup := { s.sup with mode := some .alert, remembered := some m } }
  | none => s

/-- The Air Supervisor takes the release notice (R168). -/
def releaseAirMode (s : State) : State :=
  if s.sup.mode = some .alert then
    reportFallback { s with sup := { s.sup with mode := s.sup.remembered, remembered := none } }
  else s

/-- The takeover asks for a forced dump (R133). -/
def AlertRecord.dumps (r : AlertRecord) (warningDump : Bool) : Bool :=
  decide (r.cls = .immediate) || (decide (r.cls = .warning) && warningDump)

/-- The ALERT contributor takes the record's audio (R133): S7 live, the attention tone, or its alert clip. -/
def bindAlert (k : AlertSlot) (r : AlertRecord) (s : State) : State :=
  if r.cutThrough then activate .alert (.source 7) 32768 0 0 s
  else match s.clips.tone with
    | some t =>
      activate .alert (.clip (.playout t)) 32768 0 0 { s with alerts := { s.alerts with tone := some (t, 0) } }
    | none => activate .alert (.clip (.alert k)) 32768 0 0 s

/-- The record in slot `k` takes the air (R133). `offer` is as `holdEngine` has it. -/
def takeover (k : AlertSlot) (offer : Option Bool) (s : State) : State :=
  match s.record k with
  | none => s
  | some r =>
    let t := { s with alerts := { s.alerts with queue := s.alerts.queue.filter (· ≠ k), tone := none } }
    let t := raise .C (.alertOnAir r.id r.cls) <| raiseAlertState k <| t.setRecord k (some { r with phase := .airing })
    let t := emptySlots .alert (holdEngine offer (takeoverAir t))
    let t := if r.dumps s.alerts.settings.warningDump then forcedDump t else t
    (workOutWait (bindAlert k r t)).report fun x => { x with alertActive := true }

/-- The window checks of R130's table. -/
inductive Check where
  /-- A record becoming PENDING, an overdue event or a state notice. -/
  | ordinary
  | itemOffer
  | markOffer
  | airingEnd
  deriving DecidableEq, Repr

/-- The record may take the air at the check (R130). -/
def eligible (c : Check) (view : EngineState) (r : AlertRecord) : Bool :=
  r.overdue || match c, r.cls with
    | .ordinary, .immediate => true
    | .ordinary, .warning => decide (view = .idle) || decide (view = .armed) || decide (view = .filling)
    | .ordinary, .advisory => false
    | .ordinary, .test => decide (view = .idle)
    | .itemOffer, .test => false
    | .itemOffer, _ => true
    | .markOffer, _ => true
    | .airingEnd, .test => false
    | .airingEnd, _ => true

/-- The record that takes the air at a window check, when the air is free (R130). -/
def windowTaker (c : Check) (s : State) : Option AlertSlot :=
  if s.onAir && s.airing.isNone then
    s.alerts.queue.find? fun k => match s.record k with
      | some r => eligible c s.alerts.view r
      | none => false
  else none

/-- A window check (R130). -/
def windowCheck (c : Check) (s : State) : State :=
  match windowTaker c s with
  | some k => takeover k none s
  | none => s

/-- The engine enters a state, having been in `was`: at a change it sends its state notice (R79), at which the Alert
Controller makes a window check. -/
def enterEngine (was st : EngineState) (s : State) : State :=
  let t := { s with cue := { s.cue with state := st } }
  if st = was then t else windowCheck .ordinary { t with alerts := { t.alerts with view := st } }

/-- A record becoming PENDING is placed in the alert queue, behind its own class and higher (R123). -/
def placeAlert (records : Vector (Option AlertRecord) 4) (cls : AlertClass) (k : AlertSlot) :
    List AlertSlot → List AlertSlot
  | [] => [k]
  | j :: js =>
    match records[j] with
    | some r => if r.cls.rank < cls.rank then k :: j :: js else j :: placeAlert records cls k js
    | none => j :: placeAlert records cls k js

end Sys2Proof.Machine
end

