-- ==== Sys2Proof/Machine/CueEngine.lean ====
section
/-! DEFINITION. The Cue Engine at work (chapter 05): the voice arbiter, starting and ending items, offers, GO and STOP,
the fill, the release of the air, the cancel window. -/

namespace Sys2Proof.Machine

/-- The entry a CARRYING voice carries has its ending mark set. -/
def State.carriesEnding (s : State) (v : Voice) : Bool :=
  match s.carried v with
  | some i => (s.cue.entries[i]?.map Entry.ending).getD false
  | none => false

/-- The voice the arbiter hands to an item (R81). -/
def pickVoice (s : State) : Option Voice :=
  if s.cue.voiceA = .free then some .A
  else if s.cue.voiceB = .free then some .B
  else match s.cue.voiceA, s.cue.voiceB with
    | .releasing a, .releasing b => some (if b < a then .B else .A)
    | .releasing _, _ => some .A
    | _, .releasing _ => some .B
    | .carrying a, .carrying b =>
      match s.carriesEnding .A, s.carriesEnding .B with
      | true, true => some (if b < a then .B else .A)
      | true, false => some .A
      | false, true => some .B
      | false, false => none
    | .carrying _, _ => if s.carriesEnding .A then some .A else none
    | _, .carrying _ => if s.carriesEnding .B then some .B else none
    | _, _ => none

/-- The window is closed when it names the voice's entry (R97). -/
def closeWindowOf (v : Voice) (s : State) : State :=
  match s.cue.window with
  | some w => if w.voice = v then { s with cue := { s.cue with window := none } } else s
  | none => s

/-- The item in a voice ends: the voice is cut and FREE, the entry leaves the list, ITEM_ENDED is raised (R89). -/
def leaveVoice (v : Voice) (s : State) : State :=
  match s.carried v with
  | none => s
  | some i =>
    match s.cue.entries[i]? with
    | none => s
    | some e =>
      let t := (cut (voiceContributor v) s).setVoice v .free
      closeWindowOf v (setEntries (s.cue.entries.eraseIdx i) (itemEnded e t))

/-- What starting an entry in a voice makes of it (R82): PLAYING, blocks played 0 but for a STREAM that rejoins. -/
def Entry.started (e : Entry) (v : Voice) : Entry :=
  { e with
    state := .playing
    ending := false
    successorStarted := false
    played := match e.kind, e.resume with | .stream _, some b => b | _, _ => 0
    resume := none
    voice := some v
    released := false }

/-- What a voice sounds for an entry (R82). -/
def StreamSource.source : StreamSource → Source
  | .s1 => 1
  | .s2 => 2

/-- The Mix Engine's requests for a started entry (R82). -/
def soundEntry (e : Entry) (v : Voice) (s : State) : State :=
  match e.kind with
  | .clip id => activate (voiceContributor v) (.clip (.playout id)) e.level e.fadeIn (e.resume.getD 0) s
  | .stream src => activate (voiceContributor v) (.source src.source) e.level e.fadeIn 0 s
  | _ => cut (voiceContributor v) s

/-- The first entry that `p` picks out is started in voice `v` (R82); starting an item closes a cancel window
(R97). -/
def startIn (p : Entry → Bool) (v : Voice) (s : State) : State :=
  match s.cue.entries.find? p with
  | none => s
  | some e =>
    let t := (soundEntry e v s).setVoice v (.carrying s.cue.clock)
    { t with cue := { t.cue with
      entries := changeFirst p (fun e => e.started v) s.cue.entries
      clock := s.cue.clock + 1
      goPending := false
      window := none } }

/-- A voice taken by the arbiter: a CARRYING one's item ends first (R81). -/
def takeVoice (v : Voice) (s : State) : State :=
  if (s.voice v).carries then leaveVoice v s else s

/-- A MARK is started (R91): it makes its offer and then leaves the list, which is here already without it, so that the head
is the entry behind it. It is no item, and starting it closes no cancel window (R97; log entry 54). -/
def leaveMark (p : Entry → Bool) (s : State) : State :=
  setEntries (s.cue.entries.eraseP p) { s with cue := { s.cue with goPending := false } }

/-- The first entry that `p` picks out is started (R82). A MARK makes its offer, then ends with ITEM_ENDED, after what a
takeover has ended, and, declined, starts the head when its segue flag is set (R91); each MARK leaves the list, so `fuel` of
the list's length suffices. -/
def startEntry (fuel : Nat) (p : Entry → Bool) (s : State) : State :=
  match fuel, s.cue.entries.find? p with
  | 0, _ => s
  | _, none => s
  | n + 1, some e =>
    if e.kind = .mark then
      let t := leaveMark p s
      match windowTaker .markOffer t with
      | some k => itemEnded e (takeover k (some e.leadsOn) t)
      | none => if e.leadsOn then startEntry n Entry.waiting (itemEnded e t) else itemEnded e t
    else match pickVoice s with
      | some v => startIn p v (takeVoice v s)
      | none => s

/-- The head is started (R82). -/
def startHead (s : State) : State := startEntry (s.cue.entries.length + 1) Entry.waiting s

/-- The engine works out its state after a command, item end or notice that found it in `was` (R79). In HELD and
FILLING it stays. -/
def settleFrom (was : EngineState) (s : State) : State :=
  if s.cue.state = .held ∨ s.cue.state = .filling then s
  else
    let t := if s.cue.hasWaiting then s else { s with cue := { s.cue with goPending := false } }
    enterEngine was (followList s.cue.entries) t

/-- An item ends with its boundary offered (R89, R91), before the engine works out its state. After the second GO of R85,
which marks nothing, an outgoing segue item with its successor-started mark clear starts a second successor here, and two
voices then carry entries without an ending mark, which R80 says do not come about: R85 and R89 are followed (log entry
49). A go-pending head starts at any item end whose offer is DECLINED, as R89 has it, be it of an older item than the one that
the GO of R85 ended, which may still fade (log entry 52). -/
def endItem (v : Voice) (s : State) : State :=
  match s.carried v with
  | none => s
  | some i =>
    let leads := (s.cue.entries[i]?.map Entry.leadsOn).getD false
    let t := leaveVoice v s
    match windowTaker .itemOffer t with
    | some k => takeover k (some leads) t
    | none => if t.cue.goPending || leads then startHead t else t

/-- An item ends (R89). -/
def itemEnd (v : Voice) (s : State) : State := settleFrom s.cue.state (endItem v s)

/-- A voice is let go with a fade: RELEASING, or FREE at a cut (R80, R86). A voice whose contributor an end fade of length
0 has already cut becomes RELEASING too, with nothing left to fade (log entry 50). The order in which fades began is that of
their requests: of two asked for by separate stops the earlier began first, though R7 starts both at the next boundary, and
only those of one stop began together (R81; log entry 57). -/
def releaseVoice (v : Voice) (length : Nat) (s : State) : State :=
  (fadeOut (voiceContributor v) length s).setVoice v (if length = 0 then .free else .releasing s.cue.clock)

/-- One CARRYING voice is stopped as CUE STOP stops it (R86). -/
def stopVoice (v : Voice) (s : State) : State :=
  match s.carried v with
  | none => s
  | some i =>
    match s.cue.entries[i]? with
    | none => s
    | some e => if e.kind = .gap then s.setVoice v .free else releaseVoice v e.fadeOut s

/-- Every PLAYING entry is stopped and set back to its start (R86). Both voices' fades begin together. -/
def stopEntries (s : State) : State :=
  let t := stopVoice .B (stopVoice .A s)
  { t with cue := { t.cue with
    entries := s.cue.entries.map fun e => if e.playing then e.setBack else e
    clock := s.cue.clock + 1
    goPending := false
    window := none } }

/-- The fill in VOICE A is faded out over the fallback fade time (R84, R96). -/
def fadeFill (s : State) : State :=
  let t := if s.cue.voiceA = .filling then releaseVoice .A s.sup.settings.fade s else s
  { t with cue := { t.cue with clock := s.cue.clock + 1, state := followList s.cue.entries } }

/-- The fill-end notice reaches the engine (R93, R96). -/
def fillEnd (s : State) : State :=
  match s.cue.state, s.cue.held with
  | .filling, _ => settleFrom .filling (fadeFill s)
  | .held, some h =>
    if h.stateLeft = .filling then
      let left := if s.cue.entries.isEmpty then .idle else .armed
      { s with cue := { s.cue with held := some { h with stateLeft := left } } }
    else s
  | _, _ => s

/-- The Air Supervisor takes a notice that ends FALLBACK (R167). -/
def endFallback (cause : LeftCause) (s : State) : State :=
  match s.sup.mode, s.sup.remembered with
  | some .fallback, _ =>
    let t := raise .C (.fallbackLeft cause) (reportFallback
      { s with sup := { s.sup with mode := some .normal, counter := 0 } })
    if cause = .go then t else fillEnd t
  | some .alert, some .fallback =>
    if cause = .studio then
      fillEnd (raise .C (.fallbackLeft .studio)
        { s with sup := { s.sup with remembered := some .normal, counter := 0 } })
    else s
  | _, _ => s

/-- The PLAYING entry without its ending mark (R85). -/
def presentItem (e : Entry) : Bool := e.playing && !e.ending

/-- A manual segue to the head (R85), before the engine works out its state. -/
def manualSegue (s : State) : State :=
  if s.cue.goPending then s
  else match s.cue.entries.find? presentItem with
    | none => if s.cue.boundaryWait then { s with cue := { s.cue with goPending := true } } else startHead s
    | some e =>
      let marked := { s with cue := { s.cue with
        entries := changeFirst presentItem (fun e => { e with ending := true, successorStarted := true }) s.cue.entries
        goPending := s.cue.boundaryWait } }
      let t := match e.voice with
        | some v => if e.fadeOut = 0 then endItem v marked else fadeOut (voiceContributor v) e.fadeOut marked
        | none => marked
      if s.cue.boundaryWait ∨ t.cue.state = .held then t else startHead t

/-- CUE GO (R84). From FILLING the go-from-fill notice goes out before the head is started, so that a head that is a MARK
whose offer is TAKEN finds the air mode NORMAL (R167; log entry 48). The fill is faded out before the head takes its voice: with
a fallback fade time of 0 VOICE A is FREE by then, and the head takes it (R81; log entry 53). -/
def goCue (s : State) : Reply :=
  match s.cue.state with
  | .held => .refuse .notNow
  | .idle => .refuse .notFound
  | .armed => .ok (settleFrom .armed (startHead s)) .none
  | .playing => if s.cue.hasWaiting then .ok (settleFrom .playing (manualSegue s)) .none else .refuse .notFound
  | .filling =>
    if s.cue.hasWaiting then .ok (settleFrom .filling (startHead (endFallback .go (fadeFill s)))) .none
    else .refuse .notFound

/-- CUE STOP (R86, R93). -/
def stopCue (s : State) : State :=
  match s.cue.state with
  | .playing => settleFrom .playing (stopEntries s)
  | .held =>
    match s.cue.held with
    | some h =>
      let es := s.cue.entries.map fun e => if e.waiting then e else e.setBack
      let left := if h.stateLeft = .filling then .filling else followList es
      { s with cue := { s.cue with entries := es, held := some { h with stateLeft := left } } }
    | none => s
  | _ => s

/-- The AIR STOP notice reaches the engine (R96). -/
def airStopCue (s : State) : State :=
  match s.cue.state with
  | .filling => fillEnd s
  | .playing => stopCue s
  | _ => s

/-- STREAM RELEASE looks for this entry (R90). -/
def releasable (src : StreamSource) (e : Entry) : Bool :=
  e.playing && !e.ending && decide (e.kind = .stream src)

/-- STREAM RELEASE of a held STREAM (R90, R93): it leaves the list; with its segue flag the head becomes RESERVED,
unless an entry already is. -/
def releaseHeldStream (p : Entry → Bool) (e : Entry) (s : State) : State :=
  let es := s.cue.entries.eraseP p
  setEntries (if e.segue && !es.any (fun x => decide (x.state = .reserved)) then reserveHead es else es) (itemEnded e s)

/-- STREAM RELEASE (R90). -/
def releaseStream (src : StreamSource) (s : State) : Reply :=
  match s.cue.entries.find? (releasable src) with
  | none => .refuse .notFound
  | some e =>
    if s.cue.state = .held then .ok (releaseHeldStream (releasable src) e s) .none
    else match e.voice with
      | none => .refuse .notFound
      | some v =>
        let starts := decide (0 < e.fadeOut) && e.segue && !s.cue.boundaryWait && s.cue.hasWaiting
        let marked := { s with cue := { s.cue with
          entries := changeFirst (releasable src)
            (fun e => { e with ending := true, released := true, successorStarted := e.successorStarted || starts })
            s.cue.entries } }
        .ok (settleFrom s.cue.state <|
          if e.fadeOut = 0 then endItem v marked
          else
            let t := fadeOut (voiceContributor v) e.fadeOut marked
            if starts then startHead t else t) .none

/-- The fill notice (R95), with the engine's answer (R166). -/
def fillNotice (s : State) : State × FillAnswer :=
  if s.cue.state = .filling ∨ s.cue.state = .held then (s, .notFilled)
  else
    let t := stopEntries s
    match s.clips.fallback with
    | some id =>
      (enterEngine s.cue.state .filling
        ((activate .voiceA (.clip (.playout id)) 32768 0 0 t).setVoice .A .filling), .filled)
    | none => (enterEngine s.cue.state .filling t, .filledSilent)

/-- The held entries, restarted each in the voice it had (R94). -/
def restartHeld (s : State) : State :=
  s.cue.entries.foldl (fun t e =>
    match e.state, e.voice with
    | .playing, some v =>
      startIn (fun x => x.playing && decide (x.voice = some v)) v t
    | _, _ => t) s

/-- The release notice reaches the engine (R94). -/
def releaseEngine (s : State) : State :=
  match s.cue.state, s.cue.held with
  | .held, some h =>
    let t := raise .P .engineResumed { s with cue := { s.cue with held := none, state := followList s.cue.entries } }
    if h.stateLeft = .filling then
      enterEngine .held .filling <| match s.clips.fallback with
        | some id =>
          (activate .voiceA (.clip (.playout id)) 32768 0 (h.fillPosition.getD 0) t).setVoice .A .filling
        | none => t
    else
      let u := restartHeld t
      settleFrom .held (startEntry (u.cue.entries.length + 1) (fun e => decide (e.state = .reserved)) u)
  | _, _ => s

/-- End-of-audio reported by the reader of a voice (R80, R89, R95). -/
def voiceEndOfAudio (v : Voice) (s : State) : State :=
  match s.voice v with
  | .carrying _ => itemEnd v s
  | .releasing _ => (cut (voiceContributor v) s).setVoice v .free
  | .filling =>
    match s.clips.reader (voiceReader v) with
    | some x => activate (voiceContributor v) (.clip x.clip) 32768 0 0 s
    | none => s
  | .free => s

/-- The Mix Engine's fade-out notice reaches the engine (R80, R89). -/
def voiceFadedOut (v : Voice) (s : State) : State :=
  match s.voice v with
  | .releasing _ => s.setVoice v .free
  | .carrying _ => if s.carriesEnding v then itemEnd v s else s
  | _ => s

/-- The entry a voice carries, when it carries one. -/
def State.entryIn (s : State) (v : Voice) : Option Entry := (s.carried v).bind fun i => s.cue.entries[i]?

/-- The remaining length of the entry in a voice, in blocks; none when it is unknown (R87). -/
def State.remaining (s : State) (v : Voice) (e : Entry) : Option Nat :=
  let byLimit := e.limit.map fun n => n - e.played
  let byClip := match e.kind, s.clips.reader (voiceReader v) with
    | .clip id, some x =>
      if (s.clip (.playout id)).loop then none else some ((s.clip (.playout id)).count - x.ordinal)
    | _, _ => none
  match byLimit, byClip with
  | some a, some b => some (min a b)
  | some a, none => some a
  | none, b => b

/-- The item in a voice has reached its duration limit (R89); a released STREAM's limit no longer applies (R90). -/
def State.limitReached (s : State) (v : Voice) : Bool :=
  match s.entryIn v with
  | some e => match e.limit with
    | some n => decide (n ≤ e.played) && !e.released
    | none => false
  | none => false

/-- The remaining length at which the item in a voice begins its end (R87); none while it does not. -/
def State.endsIn (s : State) (v : Voice) : Option Nat :=
  match s.entryIn v with
  | some e =>
    if e.ending ∨ e.fadeOut = 0 then none
    else match s.remaining v e with
      | some n => if n ≤ e.fadeOut then some n else none
      | none => none
  | none => none

/-- The item in a voice begins its end (R87, R88). -/
def beginEnd (v : Voice) (s : State) : State :=
  match s.carried v, s.endsIn v with
  | some i, some n =>
    match s.cue.entries[i]? with
    | some e =>
      let starts := e.leadsOn && !s.cue.boundaryWait && s.cue.hasWaiting
      let marked := { s with cue := { s.cue with
        entries := s.cue.entries.set i
          { e with ending := true, successorStarted := e.successorStarted || starts } } }
      let t := fadeOut (voiceContributor v) n marked
      settleFrom s.cue.state (if starts then startHead t else t)
    | none => s
  | _, _ => s

/-- An item's limit ends it (R89). -/
def endAtLimit (v : Voice) (s : State) : State := if s.limitReached v then itemEnd v s else s

/-- Blocks played of every PLAYING entry in a CARRYING voice, one more, at most 36,000 (R87). -/
def countPlayed (s : State) : State :=
  { s with cue := { s.cue with
      entries := s.cue.entries.map fun e =>
        match e.playing, e.voice with
        | true, some v => if (s.voice v).carries then { e with played := countUp 36000 e.played } else e
        | _, _ => e
      counted := s.cue.clock } }

/-- The item in a voice is one whose blocks the last input block boundary counted: not one started since (R87). -/
def State.itemCounted (s : State) (v : Voice) : Bool :=
  match s.voice v with
  | .carrying o => decide (o < s.cue.counted)
  | _ => false

/-- The item tag reported for the block formed (R83), from the entries as they stood when it was formed. -/
def State.reportedTag (s : State) : Option Nat :=
  match s.cue.state with
  | .playing => ((s.cue.entries.filter Entry.playing).getLast?).bind Entry.tag
  | .filling =>
    if s.cue.voiceA = .filling ∧ s.mix.voiceA.active then
      match s.clips.readerA with
      | some x => (s.clip x.clip).tag
      | none => none
    else none
  | _ => none

/-- The voice of an item started since the clock stood at `since`. -/
def State.startedSince (s : State) (since : Nat) : Option Voice :=
  [Voice.A, Voice.B].find? fun v => match s.voice v with | .carrying o => decide (since ≤ o) | _ => false

/-- A GO_EDGE's change to active (R97): a cancel while a window is open, else a CUE GO, which opens a window naming
the entry it starts. A cancel leaves a go-pending mark, which so passes to the cancelled entry, the new head (R85; log
entry 41). An entry counts as started by this GO also when, under the boundary wait, the present item has a fade-out of 0
and the GO itself starts the go-pending head, the boundary being DECLINED (R85; log entry 56). -/
def goEdge (s : State) : Reply :=
  match s.cue.window with
  | some w =>
    let es := s.cue.entries.map fun e => if e.playing && decide (e.voice = some w.voice) then e.setBack else e
    let t := (cut (voiceContributor w.voice) s).setVoice w.voice .free
    .ok (settleFrom s.cue.state { t with cue := { t.cue with entries := es, window := none } }) .none
  | none =>
    match goCue s with
    | .ok t r =>
      match t.startedSince s.cue.clock with
      | some v =>
        if t.cue.state = .held ∨ t.panel.settings.cancelWindow = 0 then .ok t r
        else .ok { t with cue := { t.cue with window := some ⟨v, 0⟩ } } r
      | none => .ok t r
    | x => x

/-- An open cancel window counts a block (R97). -/
def countWindow (s : State) : State :=
  { s with cue := { s.cue with window := s.cue.window.map fun w => { w with count := w.count + 1 } } }

/-- A cancel window whose count has reached the setting closes (R97, R177). -/
def closeWindow (s : State) : State :=
  match s.cue.window with
  | some w =>
    if s.panel.settings.cancelWindow ≤ w.count then { s with cue := { s.cue with window := none } } else s
  | none => s

end Sys2Proof.Machine
end

