-- ==== Sys2Proof/Machine/AlertControl.lean ====
section
/-! DEFINITION. The Alert Controller at work (chapter 07): captures and their ends, expiry and hold limits, the end of an
airing and the release of the air, cancel, confirmation, finishing. -/

namespace Sys2Proof.Machine

/-- The discard of an alert clip (R65): its capture ends, a reader on it is detached, its segments are freed. -/
def discardAlertClip (k : AlertSlot) (s : State) : State :=
  let t := if s.clips.alertCapture = some k then { s with clips := { s.clips with alertCapture := none } } else s
  let u := match t.clips.readerAlert with
    | some x => if x.clip = .alert k then t.setReader .alert (some { x with detached := true }) else t
    | none => t
  emptyClip (.alert k) u

/-- A record finishes with an outcome (R142): it leaves its slot and the queue, loses its clip and joins the head of the
history, ALERT_STATE is raised and the wait notice worked out again. -/
def finish (k : AlertSlot) (o : AlertOutcome) (s : State) : State :=
  match s.record k with
  | none => s
  | some r =>
    let r' := { r with phase := .finished o, clip := none }
    workOutWait <| raise .A (.alertState r'.id r'.origin r'.phase r'.truncated r'.damaged)
      { s with alerts := { s.alerts with
        records := s.alerts.records.set k none
        queue := s.alerts.queue.filter (· ≠ k)
        history := (r' :: s.alerts.history).take 8 } }

/-- The release of the air (R137): the Air Supervisor, the panel and the Cue Engine take the release notice. -/
def releaseAir (s : State) : State :=
  releaseEngine (workOutWait ((releaseAirMode s).report fun x => { x with alertActive := false }))

/-- The window check at the end of an airing, and the release when no record takes the air (R137). -/
def afterAiring (s : State) : State :=
  match windowTaker .airingEnd s with
  | some j => takeover j none s
  | none => releaseAir s

/-- The ALERT contributor is cut and a captured record's clip discarded (R136). -/
def stopAlertAudio (k : AlertSlot) (r : AlertRecord) (s : State) : State :=
  let t := cut .alert { s with alerts := { s.alerts with tone := none } }
  if r.cutThrough then t else discardAlertClip k t

/-- An airing ends at the end of its audio, or by a cancel (R136, R137). -/
def endAiring (k : AlertSlot) (cancelled : Bool) (s : State) : State :=
  match s.record k with
  | none => s
  | some r =>
    let t := raise .C (.alertOffAir r.id cancelled) (stopAlertAudio k r s)
    afterAiring <|
      if cancelled then finish k .cancelled t
      else
        let u := raiseAlertState k (t.modRecord k fun x => { x with phase := .confirming })
        if r.airBlocks = 0 then finish k .unconfirmed u else u

/-- A capture has ended (R127): the record becomes PENDING, or finishes UNCONFIRMED when it holds no audio. -/
def captureEnded (k : AlertSlot) (count : Nat) (truncated : Bool) (s : State) : State :=
  match s.record k with
  | none => s
  | some r =>
    if count = 0 then
      finish k .unconfirmed (s.setRecord k (some { r with truncated := true, clip := some (k, 0) }))
    else
      let t := s.setRecord k (some { r with
        phase := .pending, truncated := truncated, clip := some (k, count), hold := 0, overdue := false })
      windowCheck .ordinary <| workOutWait <| raiseAlertState k
        { t with alerts := { t.alerts with queue := placeAlert t.alerts.records r.cls k t.alerts.queue } }

/-- The alert capture starts for a slot (R64); nothing is started while one is recording. -/
def startAlertCapture (k : AlertSlot) (s : State) : State :=
  if s.clips.alertCapture.isSome then s
  else
    let t := (emptyClip (.alert k) s).modClip (.alert k) fun _ => { Clip.empty with state := .capturing }
    { t with clips := { t.clips with alertCapture := some k } }

/-- The alert capture ends (R64) and the controller takes the capture-end notice (R127). -/
def endAlertCapture (truncated : Bool) (s : State) : State :=
  match s.clips.alertCapture with
  | none => s
  | some k =>
    let n := (s.clip (.alert k)).count
    let t := { s with clips := { s.clips with alertCapture := none } }.modClip (.alert k) fun c =>
      if n = 0 then .empty else { c with state := .ready, truncated := truncated }
    captureEnded k n truncated t

/-- The record being captured shows the segments captured so far (R121; log entry 45). -/
def countCaptured (s : State) : State :=
  match s.clips.alertCapture with
  | some k => s.modRecord k fun r => { r with clip := some (k, (s.clip (.alert k)).count) }
  | none => s

/-- The alert capture has reached 12,000 segments (R64). -/
def alertCaptureFull (s : State) : State :=
  match s.clips.alertCapture with
  | some k => if 12000 ≤ (s.clip (.alert k)).count then endAlertCapture true s else s
  | none => s

/-- A RECEIVING or PENDING record whose age reaches its valid period expires (R129). -/
def AlertRecord.expired (r : AlertRecord) : Bool :=
  (decide (r.phase = .receiving) || decide (r.phase = .pending)) && decide (6000 * r.valid ≤ r.age)

def expire (k : AlertSlot) (s : State) : State :=
  match s.record k with
  | some r => if r.expired then finish k .expired (discardAlertClip k s) else s
  | none => s

/-- The hold limit of a class; TEST and IMMEDIATE have none (R131). -/
def AlertSettings.holdLimit (c : AlertSettings) : AlertClass → Option Nat
  | .warning => some c.warningHold
  | .advisory => some c.advisoryHold
  | _ => none

/-- A PENDING record has reached the hold limit of its class and is not yet overdue (R131). -/
def AlertRecord.reachesLimit (r : AlertRecord) (c : AlertSettings) : Bool :=
  decide (r.phase = .pending) && !r.overdue &&
    match c.holdLimit r.cls with
    | some n => decide (n ≤ r.hold)
    | none => false

/-- A record becomes overdue and a window check is made (R131). -/
def becomeOverdue (k : AlertSlot) (s : State) : State :=
  match s.record k with
  | some r =>
    if r.reachesLimit s.alerts.settings then
      windowCheck .ordinary (s.setRecord k (some { r with overdue := true }))
    else s
  | none => s

/-- A cut-through record has aired live for 12,000 blocks (R134). -/
def liveLimit (s : State) : State :=
  match s.airing with
  | some k =>
    match s.record k with
    | some r =>
      if r.cutThrough ∧ 12000 ≤ r.airBlocks then
        endAiring k false (s.setRecord k (some { r with truncated := true }))
      else s
    | none => s
  | none => s

/-- An active record is cancelled (R138). -/
def cancelRecord (k : AlertSlot) (s : State) : State :=
  match s.record k with
  | none => s
  | some r =>
    match r.phase with
    | .airing => endAiring k true s
    | .confirming => finish k .cancelled s
    | _ => finish k .cancelled (discardAlertClip k s)

/-- The AIR STOP notice reaches the controller (R143): TEST and ADVISORY records RECEIVING or PENDING are cancelled. -/
def airStopAlerts (s : State) : State :=
  alertSlots.foldl (fun t k => match t.record k with
    | some r =>
      if !r.cls.mandatory && (decide (r.phase = .receiving) || decide (r.phase = .pending)) then cancelRecord k t else t
    | none => t) s

/-- The ALERT reader's end-of-audio (R134): the tone gives way to the message; the message's end ends the airing. -/
def alertEndOfAudio (s : State) : State :=
  match s.airing with
  | none => s
  | some k =>
    match s.alerts.tone with
    | some _ =>
      activate .alert (.clip (.alert k)) 32768 0 0 { s with alerts := { s.alerts with tone := none } }
    | none => endAiring k false s

/-- The record's last frame has been sent (R139). -/
def AlertRecord.lastSent (r : AlertRecord) : Bool :=
  decide (r.phase = .confirming) && decide (r.framesSent = r.airBlocks)

/-- A frame report (R139). -/
def AlertRecord.framed (r : AlertRecord) (seq : Nat) (link : LinkHealth) : AlertRecord :=
  { r with
    firstSeq := some (r.firstSeq.getD seq)
    lastSeq := some seq
    framesSent := r.framesSent + 1
    clean := if r.firstSeq.isNone then decide (link ≠ .down) else r.clean
    confirm := 0 }

/-- The record is AIRING or CONFIRMING. -/
def AlertRecord.onLink (r : AlertRecord) : Bool := decide (r.phase = .airing) || decide (r.phase = .confirming)

/-- Every active record that `p` picks out changed by `f`. -/
def State.mapRecords (s : State) (p : AlertRecord → Bool) (f : AlertRecord → AlertRecord) : State :=
  { s with alerts := { s.alerts with
    records := Vector.ofFn fun k : Fin 4 => s.alerts.records[k].map fun r => if p r then f r else r } }

/-- The Transmitter Link Unit reports a frame that carries an alert id (R139, R154). -/
def frameReport (id seq : Nat) (s : State) : State :=
  s.mapRecords (fun r => decide (r.id = id) && r.onLink) fun r => r.framed seq s.alerts.lastLink

/-- A status reaches a record whose last frame has been sent (R140). -/
def AlertRecord.reachedBy (r : AlertRecord) (st : TxStatus) : Bool :=
  r.lastSent && match r.lastSeq with
    | some n => decide (seqDiff st.last n < 32768)
    | none => false

/-- The verdict of a status that reaches a record (R140). -/
def AlertRecord.verdict (r : AlertRecord) : AlertOutcome :=
  if r.clean && !r.damaged then .confirmed else .unconfirmed

/-- A status report (R140). Several records that one report finishes finish in slot order 1 to 4, which R140 leaves open
(log entry 42). -/
def statusReport (st : TxStatus) (s : State) : State :=
  let t := if !st.carrier ∨ 0 < st.missing then
      s.mapRecords (fun r => r.onLink && r.firstSeq.isSome) fun r => { r with clean := false }
    else s
  alertSlots.foldl (fun u k => match u.record k with
    | some r => if r.reachedBy st then finish k r.verdict u else u
    | none => u) t

/-- A link-state report (R141, R147). The records that DOWN finishes finish in slot order 1 to 4, which R141 leaves open
(log entry 42). -/
def linkReport (l : LinkHealth) (s : State) : State :=
  let t := { s with alerts := { s.alerts with lastLink := l } }
  if l = .down then
    alertSlots.foldl (fun u k => if u.inPhase .confirming k then finish k .unconfirmed u else u)
      (t.mapRecords (fun r => decide (r.phase = .airing) && r.firstSeq.isSome) fun r => { r with clean := false })
  else t

/-- At an output block boundary, the confirm counts of records whose last frame has been sent (R141). -/
def countConfirm (s : State) : State :=
  s.mapRecords AlertRecord.lastSent fun r => { r with confirm := countUp 500 r.confirm }

/-- A CONFIRMING record's confirm count has reached 500 (R141). -/
def confirmExpired (r : AlertRecord) : Bool := r.lastSent && decide (500 ≤ r.confirm)

def endConfirmWindow (k : AlertSlot) (s : State) : State :=
  match s.record k with
  | some r => if confirmExpired r then finish k .unconfirmed s else s
  | none => s

/-- At an input block boundary: ages, hold counts, the air blocks of the record the block was formed for, and the blocks
of an attention tone (R129, R131, R134). -/
def countAlerts (f : Formed) (s : State) : State :=
  let t := s.mapRecords (fun _ => true) fun r => { r with
    age := countUp 8640000 r.age
    hold := if r.phase = .pending then countUp 360000 r.hold else r.hold
    airBlocks := if r.phase = .airing ∧ f.alertId.isSome then r.airBlocks + 1 else r.airBlocks }
  { t with alerts := { t.alerts with
    tone := t.alerts.tone.map fun x => if f.alertId.isSome then (x.1, x.2 + 1) else x } }

/-- A looping attention tone has been played once (R134). -/
def toneOver (s : State) : Bool :=
  match s.alerts.tone with
  | some (id, n) => (s.clip (.playout id)).loop && decide ((s.clip (.playout id)).count ≤ n)
  | none => false

end Sys2Proof.Machine
end

