-- ==== Sys2Proof/Machine/TxUnit.lean ====
section
/-! DEFINITION. The Transmitter Link Unit (chapter 08): link frames, the sent-frame history, status frames, the silence
run and the link state. -/

namespace Sys2Proof.Machine

/-- The bytes of a link frame before its CRC (R197). -/
def LinkFrame.body (f : LinkFrame) : List Byte :=
  [0xC3, 0x3C] ++ be16 f.seq ++ f.station.toList ++ [f.flags.byte] ++ be16Opt f.tag ++ be16Opt f.alertId ++
    be16 f.blocks ++ blockBytes f.audio

/-- The 2,896 bytes of a link frame (R149, R197). -/
def LinkFrame.bytes (f : LinkFrame) : List Byte := f.body ++ be16 (crc16 f.body).toNat

/-- The frame made for the AIR block handed over (R149 to R151). -/
def State.linkFrame (s : State) : LinkFrame where
  seq := s.tx.seq
  station := s.tx.settings.station
  flags := airFlags s s.air.alertId s.delay.excess
  tag := s.air.tag
  alertId := s.air.alertId
  blocks := s.delay.excess / 480
  audio := s.air.frames

/-- An entry joins the end of the sent-frame history of at most 256 (R153). -/
def joinHistory (h : List Sent) (e : Sent) : List Sent := (h ++ [e]).drop (h.length + 1 - 256)

/-- The link frame of an output block boundary is sent (R148, R152, R153), its frame report first (R154). -/
def sendFrame (s : State) : State :=
  let t := match s.air.alertId with
    | some id => frameReport id s.tx.seq s
    | none => s
  { t with tx := { t.tx with
    frame := some s.linkFrame
    seq := (s.tx.seq + 1) % 65536
    history := joinHistory s.tx.history ⟨s.tx.seq, s.air.peak, s.air.alertId.isSome, s.air.lines⟩ } }

/-- The link takes a state; at a change LINK_STATE is raised on links C and A and the state is reported (R155, R160). -/
def changeLink (l : LinkHealth) (s : State) : State :=
  if s.tx.state = l then s
  else
    (linkReport l (raise .A (.linkState l) (raise .C (.linkState l)
      { s with tx := { s.tx with state := l } }))).report fun r => { r with linkOk := decide (l = .up) }

/-- The status frame its eight bytes spell, when its CRC matches (R156, R197); the marker bytes are not read. -/
def parseStatus (b : Vector Byte 8) : Option TxStatus :=
  if crc16 (b.toList.take 6) = BitVec.ofNat 16 (u16 b[6] b[7]) then
    some ⟨u16 b[2] b[3], b[4].toNat, b[5].getLsbD 0, b[5].getLsbD 1⟩
  else none

/-- The frames a status covers (R157). -/
def covered (t : TxLink) (last : Nat) : List Sent :=
  match t.mark with
  | some m =>
    if seqDiff last m < 32768 then
      t.history.filter fun e => decide (1 ≤ seqDiff e.seq m) && decide (seqDiff e.seq m ≤ seqDiff last m)
    else []
  | none => t.history.filter fun e => decide (e.seq = last)

/-- The silence run after a status (R157). -/
def silenceRun (run threshold : Nat) (silence : Bool) (frames : List Sent) : Nat :=
  if !silence then 0
  else if frames.any fun e => decide (threshold ≤ e.peak) then countUp 65535 run
  else if frames.isEmpty then run
  else 0

/-- The link state a valid status gives (R158). -/
def healthAfter (st : TxStatus) (run : Nat) : LinkHealth :=
  if st.missing = 0 ∧ st.carrier ∧ run < 3 then .up else .degraded

/-- A valid status frame is taken (R155 to R158). -/
def takeStatus (st : TxStatus) (s : State) : State :=
  let run := silenceRun s.tx.run s.sup.settings.threshold st.silence (covered s.tx st.last)
  let t := { s with tx := { s.tx with
    status := some st, mark := some st.last, run := run, age := 0 } }
  let u := if run = 3 ∧ s.tx.run ≠ 3 then raise .C (.linkAudioFault st.last) t else t
  statusReport st (changeLink (healthAfter st run) u)

/-- An invalid status frame is discarded and counted (R156). -/
def countBadStatus (s : State) : State := { s with tx := { s.tx with bad := countUp 65535 s.tx.bad } }

/-- The status age at an output block boundary (R159). -/
def countAge (s : State) : State := { s with tx := { s.tx with age := countUp 65535 s.tx.age } }

/-- The age reaches 30 in UP (R159). -/
def ageReached (t : TxLink) : Bool := decide (t.state = .up) && decide (30 ≤ t.age)

/-- The age reaches the link timeout in UP or DEGRADED (R159). -/
def timedOut (t : TxLink) : Bool := decide (t.state ≠ .down) && decide (t.settings.timeout ≤ t.age)

end Sys2Proof.Machine
end

