-- ==== Sys2Proof/Machine/MixEngine.lean ====
section
/-! DEFINITION. The Mix Engine (chapter 01) and the clip readers it reads through (chapter 04: R66 to R68): the block
formed at an input block boundary, the completion of fades, STUDIO SET. -/

namespace Sys2Proof.Machine

-- clip readers at work

/-- A check failure of a clip segment (R26, R27, R68): counted, the holding clip marked DAMAGED, CLIP_MEMORY_ERROR raised
on link P, and an alert clip's record marked DAMAGED (R135). -/
def clipFetchFailed (n : Nat) (s : State) : State :=
  let t := { s with mem := { s.mem with errors := countUp 65535 s.mem.errors } }
  match s.mem.holder n with
  | .clip c =>
    let u := raise .P (.clipMemoryError c n) (t.modClip c fun r => { r with damaged := true })
    match c with
    | .alert k => markDamaged (fun j _ => decide (j = k)) u
    | .playout _ => u
  | _ => t

/-- A checked fetch of a clip segment (R25, R68): what the reader receives, and what follows from a failure. -/
def fetchClip (n : Nat) (s : State) : Segment × State :=
  ((s.mem.read n).received, if (s.mem.read n).passes then s else clipFetchFailed n s)

/-- The reader after it has handed over the segment at its position, on a clip of `count` segments (R67). -/
def Reader.advanced (x : Reader) (loop : Bool) (count : Nat) : Reader :=
  if x.ordinal + 1 < count then { x with ordinal := x.ordinal + 1 }
  else if loop then { x with ordinal := 0 }
  else { x with ordinal := min (x.ordinal + 1) count, ended := true }

/-- A reader has reported end-of-audio, or (R134) a looping attention tone has been played once. -/
def readerOver (r : ReaderOf) (s : State) : Bool :=
  (match s.clips.reader r with | some x => x.ended && !x.detached | none => false) ||
    (decide (r = .alert) && toneOver s)

/-- An open reader hands one block to its contributor (R66, R67): silence once it has ended or is detached (R65). -/
def readBlock (r : ReaderOf) (s : State) : Block × State :=
  match s.clips.reader r with
  | none => (Block.silent, s)
  | some x =>
    if x.ended || x.detached then (Block.silent, s)
    else
      let c := s.clip x.clip
      let x' := x.advanced c.loop c.count
      let f := match (s.segments x.clip)[x.ordinal]? with
        | some n => ((fetchClip n s).1.frames, (fetchClip n s).2)
        | none => (Block.silent, s)
      let t := f.2.setReader r (some x')
      (f.1, if x'.ended then { t with due := t.due ++ [.endOfAudio r] } else t)

-- gains (R7 to R9)

/-- A pending fade becomes the running fade (R7, step 1; R9). -/
def Contrib.startFade (x : Contrib) : Contrib :=
  match x.waiting with
  | some p => { x with fade := some ⟨x.gain, p.endGain, p.length, 0, p.purpose⟩, waiting := none }
  | none => x

/-- The gain of frame `j` of the block being formed (R7, step 2; R8). -/
def Contrib.gainAt (x : Contrib) (j : Nat) : Nat :=
  match x.fade with
  | some f => (frameGain f j).toNat
  | none => x.gain

/-- The record after the block is formed (R7, step 3), a completed fade still in it. -/
def Contrib.stepFade (x : Contrib) : Contrib :=
  if x.active then
    { x with gain := x.gainAt 479, fade := x.fade.map fun f => { f with done := f.done + 1 } }
  else x

/-- The contributor's fade has done all its blocks (R7, step 3). -/
def Contrib.fadeDone (x : Contrib) : Bool :=
  match x.fade with
  | some f => decide (f.length ≤ f.done)
  | none => false

/-- Every contributor record changed by `f`. -/
def Mix.map (m : Mix) (f : Contrib → Contrib) : Mix :=
  { m with
    studio := f m.studio
    voiceA := f m.voiceA
    voiceB := f m.voiceB
    caller1 := f m.caller1
    caller2 := f m.caller2
    alert := f m.alert }

-- the sums (R11 to R15)

/-- The trim of the line a caller contributor is bound to (R13). -/
def State.trimOf (s : State) (c : Contributor) : Option Nat :=
  match c, (s.contrib c).binding with
  | .caller1, some (.source n) => (sourceLine n).map fun i => (s.line i).trim
  | .caller2, some (.source n) => (sourceLine n).map fun i => (s.line i).trim
  | _, _ => none

/-- The gain applied to contributor `c` in frame `j`: its gain of R7, the effective gain of R13 for a caller, and zero
under the duck of R14. -/
def appliedGain (s : State) (c : Contributor) (j : Nat) : Nat :=
  if c ≠ .alert ∧ s.mix.alert.active then 0
  else match s.trimOf c with
    | some t => effectiveGain ((s.contrib c).gainAt j) t
    | none => (s.contrib c).gainAt j

/-- The products of contributor `c` in frame `j`, left and right; zero while inactive (R11). -/
def products (s : State) (c : Contributor) (b : Block) (j : Fin 480) : Int × Int :=
  if (s.contrib c).active then
    let g := appliedGain s c j
    (product b[j].left g, product b[j].right g)
  else (0, 0)

/-- The sum of the products of every contributor but `without`, saturated, for frame `j` (R11, R12). -/
def mixFrame (s : State) (blocks : Contributor → Block) (without : Option Contributor) (j : Fin 480) : Frame :=
  let sum := (allContributors.filter fun c => decide (some c ≠ without)).foldl
    (fun (a : Int × Int) c => (a.1 + (products s c (blocks c) j).1, a.2 + (products s c (blocks c) j).2)) (0, 0)
  ⟨saturate sum.1, saturate sum.2⟩

/-- One of the three sums over a whole block (R11, R12). -/
def mixBlock (s : State) (blocks : Contributor → Block) (without : Option Contributor) : Block :=
  Vector.ofFn (mixFrame s blocks without)

/-- The block a contributor bound to a source reads (R5). -/
def State.sourceBlock (s : State) (c : Contributor) : Block :=
  match (s.contrib c).binding with
  | some (.source n) => s.inputs[n]
  | _ => Block.silent

/-- The block a contributor reads (R5, R10): its source's, or its clip reader's next. -/
def contributorBlock (c : Contributor) (r : ReaderOf) (s : State) : Block × State :=
  match (s.contrib c).binding with
  | some (.clip _) => readBlock r s
  | _ => (s.sourceBlock c, s)

/-- The telephone lines bound to the caller contributors, a fading one included (R44, R111). -/
def State.callerLines (s : State) : LineSet :=
  Vector.ofFn fun i : Fin 4 =>
    decide (s.mix.caller1.binding = some (.source (lineSource i))) ||
      decide (s.mix.caller2.binding = some (.source (lineSource i)))

/-- The alert id named for a block formed with ALERT active (R44). -/
def State.formedAlert (s : State) : Option Nat :=
  if s.mix.alert.active then (s.airing.bind s.record).map AlertRecord.id else none

/-- The Mix Engine's work at an input block boundary (R7, R10 to R15), the completion of its fades apart: the records
brought up to date, the readers read, the three blocks formed with their labels. The readers fetch in the order VOICE A, VOICE
B, ALERT; the spec gives none, and CLIP_MEMORY_ERROR records the latest failure (R68; log entry 39). -/
def formBlock (s : State) : State :=
  let s0 := { s with mix := s.mix.map Contrib.startFade }
  let a := contributorBlock .voiceA .voiceA s0
  let b := contributorBlock .voiceB .voiceB a.2
  let t := contributorBlock .alert .alert b.2
  let blocks : Contributor → Block := fun c => match c with
    | .voiceA => a.1
    | .voiceB => b.1
    | .alert => t.1
    | c => s0.sourceBlock c
  let pgm := mixBlock s0 blocks none
  { t.2 with
    mix := t.2.mix.map Contrib.stepFade
    formed := some ⟨pgm, mixBlock s0 blocks (some .caller1), mixBlock s0 blocks (some .caller2), blockPeak pgm,
      s.reportedTag, s.formedAlert, s.callerLines⟩ }

/-- The slot of a caller contributor. -/
def contributorSlot : Contributor → Option CallerSlot
  | .caller1 => some 0
  | .caller2 => some 1
  | _ => none

/-- The owner takes a fade-out notice (R7): the Cue Engine for a voice, the Caller Unit for a slot; STUDIO's needs
nothing further (R16). -/
def fadedOut (c : Contributor) (s : State) : State :=
  match c with
  | .voiceA => voiceFadedOut .A s
  | .voiceB => voiceFadedOut .B s
  | .caller1 => endRelease 0 s
  | .caller2 => endRelease 1 s
  | _ => s

/-- A fade whose blocks done have reached its length is removed; an OUT fade makes its contributor inactive and sends
the fade-out notice (R7, step 3). -/
def completeFade (c : Contributor) (s : State) : State :=
  let x := s.contrib c
  match x.fade with
  | some f =>
    if f.length ≤ f.done then
      match f.purpose with
      | .level => s.setContrib c { x with fade := none }
      | .out => fadedOut c ((closeReaderOf c s).setContrib c x.inactive)
    else s
  | none => s

-- STUDIO (R16, R17)

/-- The requests of R16's table. -/
def switchStudio (on : Bool) (gain length : Nat) (s : State) : State :=
  let x := s.mix.studio
  if on then
    if !x.active then activate .studio (.source 0) gain length 0 s
    else if !x.fadingOut then level .studio gain length s
    else if length = 0 then s.setContrib .studio { x with target := gain, gain := gain, fade := none, waiting := none }
    else s.setContrib .studio
      { x with target := gain, fade := none, waiting := some ⟨gain, min length 500, .level⟩ }
  else if x.active then fadeOut .studio length (s.setContrib .studio { x with target := gain })
  else level .studio gain length s

/-- STUDIO switched (R16): MIC_LIVE is reported, and a change from off to on sends the studio-on notice (R167). -/
def studioSwitch (on : Bool) (gain length : Nat) (s : State) : State :=
  let t := switchStudio on gain length s
  let u := t.report fun r => { r with micLive := t.studioOn }
  if !s.studioOn && t.studioOn then endFallback .studio u else u

/-- STUDIO SET's effect: the length is kept as the studio fade time (R16). -/
def studioSet (on : Bool) (gain length : Nat) (s : State) : State :=
  studioSwitch on gain length { s with mix := { s.mix with studioFade := min length 500 } }

/-- The MIC panel function (R17). -/
def micAction (on : Bool) (s : State) : State := studioSwitch on s.mix.studio.target s.mix.studioFade s

end Sys2Proof.Machine
end

