-- ==== Sys2Proof/Machine/Captures.lean ====
section
/-! DEFINITION. The captures of the Clip Store at an input block boundary and their ends (chapter 04: R59 to R64), and the
use counts of playout clips (R69). -/

namespace Sys2Proof.Machine

/-- The capture in a clip-capture channel. -/
def State.channel (s : State) (ch : Channel) : Option Capture := s.clips.channels[ch]

/-- The block a source completed at the boundary with its peak (R60). -/
def captureBlock (src : CaptureSource) (s : State) : Block × Nat :=
  match src with
  | .source n => (s.inputs[n], blockPeak s.inputs[n])
  | .pgmLive => match s.formed with
    | some f => (f.pgm, f.peak)
    | none => (Block.silent, 0)

/-- The state in which the end of a capture leaves its clip (R63). -/
def Clip.settled (c : Clip) (truncated : Bool) : Clip :=
  if c.count = 0 then .empty else { c with state := .ready, truncated := truncated }

/-- A playout capture ends, less its event (R63). -/
def settleCapture (ch : Channel) (truncated : Bool) (s : State) : State :=
  match s.channel ch with
  | none => s
  | some c =>
    { s with clips := { s.clips with channels := s.clips.channels.set ch none } }.modClip (.playout c.clip) fun r =>
      r.settled truncated

/-- A playout capture ends (R61, R63). -/
def endCapture (ch : Channel) (cause : CaptureCause) (s : State) : State :=
  match s.channel ch with
  | none => s
  | some c =>
    let n := (s.clip (.playout c.clip)).count
    let truncated := decide (cause = .noSegment)
    raise .P (.captureDone c.clip n cause (truncated || decide (n = 0))) (settleCapture ch truncated s)

/-- A recording capture asks for a segment and writes its block (R60, R61, R64). A channel that is refused ends here, before
one that the same boundary brings to its greatest length, so that the CAPTURE_DONE of the latter is the latest (R63; log entry
58). -/
def captureInto (c : Capturer) (s : State) : State :=
  match c with
  | .channel ch => match s.channel ch with
    | none => s
    | some x => (appendBlock (.playout x.clip) (captureBlock x.source s).1 (captureBlock x.source s).2 s).getD
        (endCapture ch .noSegment s)
  | .alert => match s.clips.alertCapture with
    | none => s
    | some k => (appendBlock (.alert k) (captureBlock (.source 7) s).1 (captureBlock (.source 7) s).2 s).getD
        { s with due := s.due ++ [.alertNoSegment] }

/-- The order in which the requests of one boundary are taken (R32): those named first, then the others. -/
def captureOrder (named : List Capturer) : List Capturer :=
  named.eraseDups ++ [Capturer.channel 0, .channel 1, .alert].filter fun c => !named.contains c

/-- Every recording capture at an input block boundary. -/
def runCaptures (named : List Capturer) (s : State) : State :=
  (captureOrder named).foldl (fun t c => captureInto c t) s

/-- The capture in a channel has reached its greatest length (R61). -/
def captureAtMax (ch : Channel) (s : State) : Bool :=
  match s.channel ch with
  | some c => decide (c.greatest ≤ (s.clip (.playout c.clip)).count)
  | none => false

/-- How many roles designate a clip (R71). -/
def ClipStore.roles (cs : ClipStore) (n : ClipId) : Nat :=
  (if cs.fallback = some n then 1 else 0) + (if cs.tone = some n then 1 else 0)

end Sys2Proof.Machine
end

