-- ==== Sys2Proof/Machine/PanelUnit.lean ====
section
/-! DEFINITION. The Panel Line Unit (chapter 09: R171 to R178) and the takes and releases that panel lines share with
commands (chapter 06: R112 to R116). -/

namespace Sys2Proof.Machine

-- takes and releases

/-- A line is taken to air (R113): it enters the free slot and the caller-on notice is sent (R167). -/
def takeLine (i : PhoneLine) (s : State) : State :=
  match s.freeSlot with
  | some k => endFallback .caller (enterSlot i k s)
  | none => s

/-- CALLER TAKE NEXT (R112, R113). -/
def takeNext (s : State) : Reply :=
  match takeRefusal s with
  | some c => .refuse c
  | none => match s.callers.queue.head? with
    | some i => .ok (takeLine i s) .none
    | none => .refuse .notFound

/-- RELEASE_CALLERS (R116): each occupied slot released with HOLD, slot 1 first. Each release that ends at once raises
QUEUE_CHANGED, two of them twice (R106, R115; log entry 55). -/
def releaseCallers (s : State) : Reply :=
  if s.callers.occupied then .ok (releaseSlot 1 .hold (releaseSlot 0 .hold s)) .none else .refuse .notFound

-- panel lines

/-- The line is an input. -/
def LineConfig.isInput (c : LineConfig) : Bool := decide (c.direction ≠ .output)

/-- The eight panel lines. -/
def panelLines : List PanelLineNo := [0, 1, 2, 3, 4, 5, 6, 7]

def State.panelLine (s : State) (n : PanelLineNo) : PanelLine := s.panel.lines[n]

def State.panelConfig (s : State) (n : PanelLineNo) : LineConfig := s.panel.settings.lines[n]

def State.setPanelLine (s : State) (n : PanelLineNo) (x : PanelLine) : State :=
  { s with panel := { s.panel with lines := s.panel.lines.set n x } }

/-- What PANEL_INPUT records (R173): the lines whose pending flags are set, with their recognised levels. -/
def panelInputs (s : State) : List (PanelLineNo × Bool) :=
  (panelLines.filter fun n => (s.panelLine n).flag).map fun n => (n, (s.panelLine n).recognised)

/-- A sample of an input line is taken up (R172): the line afterwards, and whether it is a recognised change. -/
def PanelLine.sample (x : PanelLine) (level : Bool) : PanelLine × Bool :=
  if x.seeding then ({ x with recognised := level, previous := level, seeding := false }, false)
  else if level ≠ x.recognised ∧ level = x.previous then
    ({ x with recognised := level, previous := level, flag := true }, true)
  else ({ x with previous := level }, false)

/-- A panel line at an input block boundary (R172, R173): sampled when it is an input; a recognised change raises
PANEL_INPUT and is handed on as an action. -/
def samplePanel (pins : Vector Contact 8) (n : PanelLineNo) (s : State) : State :=
  let c := s.panelConfig n
  if c.isInput then
    let level := s.pinReads n pins[n] == c.activeHigh
    let x := (s.panelLine n).sample level
    let t := s.setPanelLine n x.1
    if x.2 then raise .C (.panelInput (panelInputs t)) { t with due := t.due ++ [.panelAction n level] } else t
  else s

/-- The action of a recognised change on the owner of the line's function (R174). -/
def panelOwner (f : PanelFunction) (active : Bool) (s : State) : Reply :=
  match f, active with
  | .dump, true => operatorDump s
  | .goEdge, true => goEdge s
  | .fader, true => goCue s
  | .fader, false => .ok (stopCue s) .none
  | .stop, true => .ok (stopCue s) .none
  | .takeNext, true => takeNext s
  | .releaseCallers, true => releaseCallers s
  | .mic, on => .ok (micAction on s) .none
  | _, _ => .ok s .none

/-- A panel action is taken; a refusal raises PANEL_REFUSED (R174, R175). -/
def panelAction (n : PanelLineNo) (active : Bool) (s : State) : State :=
  match panelOwner (s.panelConfig n).function active s with
  | .ok t _ => t
  | .refuse c => raise .C (.panelRefused n c) s
  | .later t => t

/-- A PANEL_INPUT still pending records the lines that remain (R173, R177). -/
def refreshPanelInput (s : State) : State :=
  s.modLink .C fun p => { p with events := p.events.map fun e =>
    match e.event with
    | .panelInput _ => { e with event := .panelInput (panelInputs s) }
    | _ => e }

/-- The pending flags are cleared together (R173, R191). -/
def clearPanelFlags (s : State) : State :=
  { s with panel := { s.panel with lines := Vector.ofFn fun n : Fin 8 => { s.panel.lines[n] with flag := false } } }

/-- PANEL CONFIGURE's effect (R177): a line whose configuration changes starts afresh. -/
def configurePanel (c : PanelSettings) (s : State) : State :=
  refreshPanelInput { s with panel := { s.panel with
    settings := c
    lines := Vector.ofFn fun n : Fin 8 =>
      if c.lines[n] = s.panel.settings.lines[n] then s.panel.lines[n] else ⟨false, false, true, false, false⟩ } }

end Sys2Proof.Machine
end

