-- ==== Sys2Proof/Machine/ProfileStore.lean ====
section
/-! DEFINITION. The Profile Store, the device states and the resets (chapter 11), with each chapter's values after
reset. -/

namespace Sys2Proof.Machine

-- the contents of a generation (R204)

def flagByte (b : Bool) : Byte := if b then 1 else 0

/-- The code of a direction (R199). -/
def Direction.code : Direction → Byte
  | .inputPullup => 0x00
  | .input => 0x01
  | .output => 0x02

/-- The code of a panel function (R199). -/
def PanelFunction.code : PanelFunction → Byte
  | .dump => 0x00
  | .goEdge => 0x01
  | .fader => 0x02
  | .stop => 0x03
  | .takeNext => 0x04
  | .releaseCallers => 0x05
  | .mic => 0x06
  | .none => 0x07
  | .onAir => 0x10
  | .micLive => 0x11
  | .alertActive => 0x12
  | .delaySafe => 0x13
  | .fallback => 0x14
  | .linkOk => 0x15
  | .callerOn => 0x16
  | .general => 0x17

/-- The code of a rate (R199). -/
def Rate.code : Rate → Byte
  | .baud115200 => 0x00
  | .baud460800 => 0x01
  | .baud1000000 => 0x02
  | .baud2000000 => 0x03

def LineConfig.bytes (c : LineConfig) : List Byte := [c.direction.code, flagByte c.activeHigh, c.function.code]

/-- The contents of a generation in the order of R204's table, each field in its width of R199 (log entry 10). -/
def Settings.bytes (c : Settings) : List Byte :=
  c.link.station.toList ++ c.rates.toList.map Rate.code ++ be16 c.ring ++ be16 c.reserve ++ be16 c.target ++
    be16 c.delay.dumpStep ++ be16 c.delay.bA ++ be16 c.delay.bB ++ be16 c.delay.bC ++
    [byte c.delay.s1, byte c.delay.s2, byte c.delay.s3, byte c.delay.s4, byte c.delay.q] ++ be24 c.delay.quiet ++
    [flagByte c.supervision.safeTake, flagByte c.alert.warningDump] ++ be16 c.alert.warningHold ++
    be24 c.alert.advisoryHold ++ be24 c.supervision.threshold ++ be16 c.supervision.window ++
    be16 c.supervision.fade ++ be16 c.link.timeout ++ c.panel.lines.toList.flatMap LineConfig.bytes ++
    [byte c.panel.cancelWindow]

/-- The CRC of a generation (R204). -/
def Settings.crc (c : Settings) : BitVec 16 := crc16 c.bytes

/-- The state of a generation (R204). -/
def Generation.state : Generation → GenState
  | .unprogrammed => .unprogrammed
  | .writing _ _ => .writing
  | .written c crc => if c.crc = crc then .valid else .failing

/-- A write that stopped leaves its generation FAILING (R205, R206; log entry 10). -/
def Generation.broken : Generation → Generation
  | .writing c n =>
    let kept := Config.brokenContents c n
    .written kept (kept.crc ^^^ BitVec.ofNat 16 ((Config.brokenCrc c n).val + 1))
  | g => g

/-- Every write in progress is broken off (R203, R206). -/
def ProfileStore.broken (p : ProfileStore) : ProfileStore :=
  { p with gens := Vector.ofFn fun i : Fin 4 => p.gens[i].broken }

/-- The generations' places, highest first. -/
def gensDown : List (Fin 4) := [3, 2, 1, 0]

/-- The highest generation in a state (R205). -/
def ProfileStore.highest (p : ProfileStore) (st : GenState) : Option (Fin 4) :=
  gensDown.find? fun i => decide (p.gens[i].state = st)

/-- The contents of a generation that has been written. -/
def Generation.contents : Generation → Option Settings
  | .written c _ => some c
  | _ => none

/-- The settings that a load takes into use, the target clamped to R − 3 (R39, R205). -/
def ProfileStore.load (p : ProfileStore) : Settings :=
  let c := match p.highest .valid with
    | some i => p.gens[i].contents.getD Config.factory
    | none => Config.factory
  { c with target := min c.target (c.ring - 3) }

/-- The number of the generation a load takes (R205). -/
def ProfileStore.loadNumber (p : ProfileStore) : Nat :=
  match p.highest .valid with
  | some i => i.val + 1
  | none => 0

/-- The settings in use as a generation's contents, with the rates given (R206). -/
def State.inUse (s : State) (rates : Vector Rate 4) : Settings where
  link := s.tx.settings
  rates := rates
  ring := s.mem.ring
  reserve := s.mem.reserve
  target := s.delay.target
  delay := s.delay.settings
  supervision := s.sup.settings
  alert := s.alerts.settings
  panel := s.panel.settings

/-- A generation is being written. -/
def ProfileStore.isWriting (p : ProfileStore) : Bool := (p.highest .writing).isSome

/-- The lowest-numbered UNPROGRAMMED generation (R206). -/
def ProfileStore.nextFree (p : ProfileStore) : Option (Fin 4) :=
  [(0 : Fin 4), 1, 2, 3].find? fun i => decide (p.gens[i].state = .unprogrammed)

/-- A write counts an input block boundary (R206). -/
def Generation.counted : Generation → Generation
  | .writing c n => .writing c (n + 1)
  | g => g

/-- The writes in progress count an input block boundary. -/
def countProfile (s : State) : State :=
  { s with prof := { s.prof with gens := Vector.ofFn fun i : Fin 4 => s.prof.gens[i].counted } }

/-- The write of this generation has come to its 20th input block boundary (R206). -/
def Generation.complete : Generation → Bool
  | .writing _ n => decide (20 ≤ n)
  | _ => false

/-- A write ends (R206): the generation becomes VALID and PROFILE_DONE is raised. -/
def endWrite (s : State) : State :=
  match gensDown.find? fun i => s.prof.gens[i].complete with
  | some i =>
    match s.prof.gens[i] with
    | .writing c _ =>
      raise .C (.profileDone (i.val + 1))
        { s with prof := { s.prof with gens := s.prof.gens.set i (.written c c.crc) } }
    | _ => s
  | none => s

-- resets

/-- The four links. -/
def allLinks : List Link := [.P, .C, .S, .A]

/-- RESET_DONE on all four links (R195, R200, R203). -/
def raiseResetDone (k : ResetKind) (s : State) : State := allLinks.foldl (fun t l => raise l (.resetDone k) t) s

/-- PROFILE_FALLBACK, when a generation above the one loaded is FAILING (R205). -/
def raiseFallback (s : State) : State :=
  match s.prof.highest .failing with
  | some i =>
    if s.prof.loaded < i.val + 1 then raise .C (.profileFallback s.prof.loaded (i.val + 1)) s else s
  | none => s

/-- POWER_UP begins (R200): every block takes its values after power-on and hardware reset, those of the profile that
the load takes into use among them (R205), and the delay region is filled (R28). While the profile is being loaded
the links are held idle (R181, R195; log entry 11). -/
def beginPowerUp (k : ResetKind) (s : State) : State :=
  let store := s.prof.broken
  let c := store.load
  raiseFallback {
    dev := ⟨.loading, .powerUp, k, .internal, 0, 0⟩
    inputs := Vector.replicate 8 Block.silent
    mix := .initial
    formed := none
    mem := .initial c.ring c.reserve
    delay := .initial c.target c.delay
    clips := .initial
    cue := .initial
    callers := .initial
    alerts := .initial c.alert
    tx := .initial c.link
    sup := .initial c.supervision
    panel := .initial c.panel false
    prof := { store with loaded := store.loadNumber }
    links := ⟨.initial .P c.rates[0], .initial .C c.rates[1], .initial .S c.rates[2], .initial .A c.rates[3]⟩
    port := Vector.replicate 4 Block.silent
    air := .silent
    due := []
    pending := s.pending }

/-- The profile has been loaded (R181, R195): the receivers run HUNTING at the rates it gives. Nothing changes while
none is being loaded. -/
def profileLoaded (s : State) : State :=
  if s.dev.supply = .loading then { s with dev := { s.dev with supply := .running } } else s

/-- POWER_UP ends, the profile loaded by then (R200): STANDBY, and RESET_DONE on every link. -/
def endPowerUp (s : State) : State :=
  let t := profileLoaded s
  if t.dev.supply = .running ∧ t.dev.state = .powerUp then
    raiseResetDone t.dev.kind { t with dev := { t.dev with state := .standby } }
  else s

/-- Nothing is in flight on a link, and nothing is being received or sent. -/
def LinkPort.stopped (p : LinkPort) : LinkPort := { p with receiver := .hunting, inFlight := none, owed := [] }

/-- All activity stops (R200, R206): link frames, responses and outputs break off. -/
def stopAll (s : State) : State :=
  { s with
    links := ⟨s.links.p.stopped, s.links.c.stopped, s.links.s.stopped, s.links.a.stopped⟩
    tx := { s.tx with frame := none }
    port := Vector.replicate 4 Block.silent
    air := .silent
    due := [] }

/-- What is left in flight on a link by SOFT RESET (R195): a response being sent is sent to its end, the frames owed
an answer are dropped; when the head of the list is the answer being sent, it stays (log entry 21). -/
def LinkPort.softReset (l : Link) (p : LinkPort) : LinkPort :=
  { p with
    receiver := .hunting
    inFlight := p.inFlight.filter fun f => f.answer.isSome
    owed := if p.inFlight.isNone then p.owed.take 1 else []
    events := []
    enabled := linkEvents l }

/-- A use count after SOFT RESET: the roles the clip holds (R73). -/
def Clip.keptWith (roles : Nat) (c : Clip) : Clip := { c with uses := roles }

/-- The Clip Store and the pool after SOFT RESET (R36, R73): playout captures ended, readers closed, alert clips freed
in slot order, use counts the roles held. -/
def softResetClips (s : State) : State :=
  let t := settleCapture 1 false (settleCapture 0 false s)
  let u := alertSlots.foldl (fun u k => emptyClip (.alert k) u) t
  { u with clips := { u.clips with
    playout := Vector.ofFn fun n : Fin 63 => u.clips.playout[n].keptWith (u.clips.roles n)
    alertCapture := none
    readerA := none
    readerB := none
    readerAlert := none } }

/-- SOFT RESET is made (R203). -/
def softReset (s : State) : State :=
  let t := softResetClips s
  raiseResetDone .soft { t with
    dev := { t.dev with state := .standby }
    mix := .initial
    delay := .initial t.delay.target t.delay.settings
    cue := .initial
    callers := .initial
    alerts := { Alerts.initial t.alerts.settings with history := t.alerts.history, lastLink := t.alerts.lastLink }
    sup := .initial t.sup.settings
    panel := .initial t.panel.settings (decide (t.tx.state = .up))
    prof := t.prof.broken
    links := ⟨t.links.p.softReset .P, t.links.c.softReset .C, t.links.s.softReset .S, t.links.a.softReset .A⟩
    due := [] }

end Sys2Proof.Machine
end

