-- ==== Sys2Proof/Machine/Boundaries.lean ====
section
/-! DEFINITION. The input port and the clock source (chapter 01: R1 to R4), the Air Supervisor's counter and fill (chapter
09: R165, R166), going on air and leaving it (R201, R202), and the two block boundaries with the events they find
due. -/

namespace Sys2Proof.Machine

-- the input port and the clock source

/-- A frame of a source as the input port takes it: the mono sources S3 to S7 have their left sample copied (R1). -/
def portFrame (n : Source) (f : Frame) : Frame := if 3 ≤ n.val then ⟨f.left, f.left⟩ else f

/-- Frame `j` of a source's block: silence where it did not arrive, and in every frame that INTERNAL completes (R3). -/
def arrivedFrame (d : Device) (bus : Vector (Option BusPeriod) 480) (n : Source) (j : Fin 480) : Frame :=
  if d.clock = .internal ∧ d.arrived ≤ j.val then .silent
  else match bus[j] with
    | some p => portFrame n p[n]
    | none => .silent

/-- The input port completes a block of every source (R1, R3). -/
def completeInputs (bus : Vector (Option BusPeriod) 480) (s : State) : State :=
  { s with
    inputs := Vector.ofFn fun n : Fin 8 => Vector.ofFn fun j => arrivedFrame s.dev bus n j
    dev := { s.dev with arrived := 0 } }

/-- The return count while the clock source is INTERNAL (R4). -/
def countReturn (c : ClockSeen) (s : State) : State :=
  if s.dev.clock = .internal then
    { s with dev := { s.dev with returnCount := match c with
      | .throughout => s.dev.returnCount + 1
      | .brief => s.dev.returnCount
      | .long => 0 } }
  else s

/-- The word clock is lost (R3): INTERNAL from the frame it was lost at. -/
def loseClock (arrived : Nat) (s : State) : State :=
  if s.live && decide (s.dev.clock = .wordClock) then
    raise .C .clockLost
      { s with dev := { s.dev with clock := .internal, returnCount := 0, arrived := min arrived 480 } }
  else s

/-- The clock source changes back to WORD_CLOCK (R4). -/
def restoreClock (s : State) : State :=
  raise .C .clockRestored { s with dev := { s.dev with clock := .wordClock, returnCount := 0 } }

-- the Air Supervisor

/-- The silence counter after an AIR block (R165). -/
def silenceCount (counter threshold : Nat) (a : AirBlock) : Nat :=
  if a.alertId.isSome then counter
  else if a.peak < threshold then countUp 65535 counter
  else 0

/-- The silence counter at an output block boundary, while ON_AIR (R165). -/
def countSilence (s : State) : State :=
  if s.onAir then
    { s with sup := { s.sup with counter := silenceCount s.sup.counter s.sup.settings.threshold s.air } }
  else s

/-- The entry to FALLBACK begins (R165, R166): the fill notice goes out and its answer is on its way. -/
def beginFallback (s : State) : State :=
  let r := fillNotice s
  { r.1 with sup := { r.1.sup with answer := some r.2 }, due := r.1.due ++ [.fillAnswer] }

/-- FALLBACK entered, or remembered under an alert (R166). An answer on its way since before an AIR STOP finds the air mode
NORMAL of the next AIR START and makes it FALLBACK, the fill ended though it is (log entry 60); in STANDBY there is no air
mode (log entry 31). -/
def enterFallback (s : State) : State :=
  match s.sup.mode with
  | some .normal => reportFallback { s with sup := { s.sup with mode := some .fallback } }
  | some .alert => { s with sup := { s.sup with remembered := some .fallback } }
  | _ => s

/-- The Cue Engine's answer to a fill notice is taken (R166). -/
def takeFillAnswer (s : State) : State :=
  let t := { s with sup := { s.sup with answer := none } }
  match s.sup.answer with
  | some .filled => raise .P .fallbackEntered (raise .C .fallbackEntered (enterFallback t))
  | some .filledSilent => raise .P .fallbackEntered (raise .C .fallbackNoAudio (enterFallback t))
  | _ => t

/-- AIR START (R201). -/
def airStart (s : State) : State :=
  (startDelay { s with
    dev := { s.dev with state := .onAir }
    sup := { s.sup with mode := some .normal, remembered := none, counter := 0 } }).report fun r =>
      { r with onAir := true }

/-- AIR STOP is refused (R202). -/
def airStopRefused (s : State) : Bool :=
  s.airing.isSome || decide (0 < s.delay.alertSegs) || alertSlots.any fun k => match s.record k with
    | some r => r.cls.mandatory && (decide (r.phase = .pending) || decide (r.phase = .receiving))
    | none => false

/-- The Air Supervisor takes the AIR STOP notice (R164). -/
def endAirMode (s : State) : State :=
  let t := reportFallback { s with sup := { s.sup with mode := none, remembered := none, counter := 0 } }
  if s.sup.mode = some .fallback then raise .C (.fallbackLeft .airStop) t else t

/-- AIR STOP (R202): each block takes the notice. -/
def airStop (s : State) : State :=
  let t := { s with dev := { s.dev with state := .standby } }
  (stopDelay (endAirMode (airStopAlerts (emptySlots .airStop (airStopCue t))))).report fun r =>
    { r with onAir := false }

-- due events

/-- The event still has what makes it happen. A reported end-of-audio stands while the item it was reported for is in its
voice, be its reader closed since by a cut (R89); an item started at the boundary begins no end there (R87). -/
def stillDue (s : State) : Due → Bool
  | .endOfAudio .voiceA => readerOver .voiceA s || s.itemCounted .A
  | .endOfAudio .voiceB => readerOver .voiceB s || s.itemCounted .B
  | .endOfAudio .alert => readerOver .alert s
  | .alertNoSegment => s.clips.alertCapture.isSome
  | .panelAction _ _ => true
  | .fadeComplete c => (s.contrib c).fadeDone
  | .measureDone => match s.callers.measure with
    | some m => decide (200 ≤ m.count)
    | none => false
  | .captureMaxLength ch => captureAtMax ch s
  | .alertCaptureFull => match s.clips.alertCapture with
    | some k => decide (12000 ≤ (s.clip (.alert k)).count)
    | none => false
  | .liveAlertLimit => match s.airing.bind s.record with
    | some r => r.cutThrough && decide (12000 ≤ r.airBlocks)
    | none => false
  | .durationLimit v => s.limitReached v
  | .endFadeStart v => s.itemCounted v && (s.endsIn v).isSome
  | .cancelWindowClose => match s.cue.window with
    | some w => decide (s.panel.settings.cancelWindow ≤ w.count)
    | none => false
  | .alertExpiry k => match s.record k with
    | some r => r.expired
    | none => false
  | .holdLimitReached k => match s.record k with
    | some r => r.reachesLimit s.alerts.settings
    | none => false
  | .confirmWindowExpiry k => match s.record k with
    | some r => confirmExpired r
    | none => false
  | .silenceWindow => decide (s.sup.mode = some .normal) && decide (s.sup.settings.window ≤ s.sup.counter)
  | .fillAnswer => s.sup.answer.isSome
  | .profileDone => gensDown.any fun i => s.prof.gens[i].complete
  | .clockRestored => decide (s.dev.clock = .internal) && decide (100 ≤ s.dev.returnCount)
  | .statusAgeLimit => ageReached s.tx
  | .linkTimeout => timedOut s.tx

/-- What a due event does. -/
def happen (d : Due) (s : State) : State :=
  match d with
  | .endOfAudio .voiceA => voiceEndOfAudio .A s
  | .endOfAudio .voiceB => voiceEndOfAudio .B s
  | .endOfAudio .alert => alertEndOfAudio s
  | .alertNoSegment => endAlertCapture true s
  | .panelAction n on => panelAction n on s
  | .fadeComplete c => completeFade c s
  | .measureDone => measureDone s
  | .captureMaxLength ch => endCapture ch .maxLength s
  | .alertCaptureFull => alertCaptureFull s
  | .liveAlertLimit => liveLimit s
  | .durationLimit v => endAtLimit v s
  | .endFadeStart v => beginEnd v s
  | .cancelWindowClose => closeWindow s
  | .alertExpiry k => expire k s
  | .holdLimitReached k => becomeOverdue k s
  | .confirmWindowExpiry k => endConfirmWindow k s
  | .silenceWindow => beginFallback s
  | .fillAnswer => takeFillAnswer s
  | .profileDone => endWrite s
  | .clockRestored => restoreClock s
  | .statusAgeLimit => changeLink .degraded s
  | .linkTimeout => changeLink .down s

/-- A due event is taken (log entries 4, 5): it happens when it still has what makes it happen; an event that is not
due changes nothing. -/
def take (d : Due) (s : State) : State :=
  if s.due.contains d then
    let t := { s with due := s.due.erase d }
    if stillDue t d then happen d t else t
  else s

/-- Due events taken in an order. -/
def takeEach (ds : List Due) (s : State) : State := ds.foldl (fun t d => take d t) s

/-- The events of an output block boundary that a status frame would undo. -/
def linkDue : List Due := [.statusAgeLimit, .linkTimeout] ++ alertSlots.map .confirmWindowExpiry

/-- Those of them that the last boundary left to their rows are taken before a status frame is: that boundary was taken first
(R141, R159). -/
def settleLink (s : State) : State := takeEach linkDue s

/-- The reports of clip readers and of the pool, which have no row of the table. -/
def reportsDue : List Due := [.endOfAudio .voiceA, .endOfAudio .voiceB, .endOfAudio .alert, .alertNoSegment]

/-- The panel actions, by line, which have no row of the table. -/
def actionsDue : List Due := panelLines.flatMap fun n => [.panelAction n true, .panelAction n false]

/-- The timed events of an input block boundary. -/
def inputDue : List Due :=
  allContributors.map .fadeComplete ++
    [.durationLimit .A, .durationLimit .B, .endFadeStart .A, .endFadeStart .B, .cancelWindowClose,
      .captureMaxLength 0, .captureMaxLength 1, .alertCaptureFull, .liveAlertLimit] ++
    alertSlots.map .alertExpiry ++ alertSlots.map .holdLimitReached ++ [.measureDone, .profileDone, .clockRestored]

/-- The timed events of an output block boundary. -/
def outputDue : List Due :=
  linkDue ++ [.silenceWindow]

/-- What boundaries find, in the order in which it is taken when nothing else is asked for (log entry 4). -/
def foundOrder : List Due := reportsDue ++ inputDue ++ actionsDue ++ outputDue

/-- The order in which all due events are taken when nothing else is asked for: the answer to a fill notice, which no boundary
finds, comes last. -/
def defaultOrder : List Due := foundOrder ++ [.fillAnswer]

/-- What the last boundary found and left to its rows is taken before a command is (R61, R64, R131, R146, R159, R169): that
boundary was taken first, and each event at it (log entry 4). The Air Supervisor may still wait for the answer to its fill
notice (R166). -/
def settleFound (s : State) : State := if s.live && !s.due.isEmpty then takeEach foundOrder s else s

/-- A boundary finds what is due among `ds`. -/
def findDue (ds : List Due) (s : State) : State := { s with due := s.due ++ ds.filter (stillDue s) }

/-- The events a boundary has found are taken: those of `first`, then the others, or only those without a row. -/
def settleDue (first : List Due) (leave : Bool) (s : State) : State :=
  takeEach (if leave then reportsDue ++ actionsDue else defaultOrder) (takeEach first s)

-- the boundaries

/-- What the DRAM has changed (R26; log entry 7). -/
def applyUpsets (us : List (Nat × Block)) (s : State) : State := { s with mem := s.mem.upset us }

/-- A looping attention tone that has been played once is at its end (R134). -/
def findToneEnd (s : State) : State := if toneOver s then { s with due := s.due ++ [.endOfAudio .alert] } else s

/-- The counts that depend on the block just formed (R44, R134). -/
def useFormed (s : State) : State :=
  match s.formed with
  | some f => countAlerts f (writeDelay f s)
  | none => s

/-- What an input block boundary forms, writes, records and counts, before the events it finds are taken. -/
def inputWork (env : InputBoundary) (s : State) : State :=
  let t := formBlock (countReturn env.clock (completeInputs env.bus (applyUpsets env.upsets s)))
  countProfile (countWindow (countPlayed (countMeasure (countCaptured (runCaptures env.captures (useFormed t))))))

/-- The panel lines at an input block boundary (R172). -/
def samplePanels (pins : Vector Contact 8) (s : State) : State := panelLines.foldl (fun t n => samplePanel pins n t) s

/-- An input block boundary. Events the last boundary left are taken first. Those that it finds itself come after the
requests of its captures, so that a segment they free helps no request of the same boundary, which R32 and R61 leave
open (log entry 35). In POWER_UP, and while the part does not run, there is none (R4, R19). -/
def inputBoundary (env : InputBoundary) (s : State) : State :=
  if s.live then
    let t := findToneEnd (findDue inputDue (inputWork env (takeEach defaultOrder s)))
    settleDue env.first env.leave (samplePanels env.pins t)
  else s

/-- The audio output port takes up AIR and the three feeds formed last (R19). -/
def sendOutputs (s : State) : State :=
  { s with port := match s.formed with
    | some f => #v[s.air.frames, f.pgm, f.minus1, f.minus2]
    | none => #v[s.air.frames, Block.silent, Block.silent, Block.silent] }

/-- What an output block boundary reads, sends and counts, before the events it finds are taken. The link frame and its
report so come before a change of the link state at the same boundary, an order that R154 and R159 leave open (log entry
46). -/
def outputWork (env : OutputBoundary) (s : State) : State :=
  countSilence (sendOutputs (sendFrame (countConfirm (countAge (outputDelay (applyUpsets env.upsets s))))))

/-- An output block boundary (R50). -/
def outputBoundary (env : OutputBoundary) (s : State) : State :=
  if s.live then
    settleDue env.first env.leave (findDue outputDue (outputWork env (takeEach defaultOrder s)))
  else s

end Sys2Proof.Machine
end

