-- ==== Sys2Proof/Machine/Operands.lean ====
section
/-! DEFINITION. The operands of the commands (chapter 10: R199): fields of the parameter bytes, the codes of enumerated
bytes, cue list entries. A value out of range is `none`, which the command's own rule answers BAD_PARAM. -/

namespace Sys2Proof.Machine

/-- Byte `i` of the parameters. -/
def byteAt (ps : List Byte) (i : Nat) : Byte := ps.getD i 0

/-- The 16-bit field at byte `i`, most significant byte first. -/
def u16At (ps : List Byte) (i : Nat) : Nat := u16 (byteAt ps i) (byteAt ps (i + 1))

/-- The 24-bit field at byte `i`, most significant byte first. -/
def u24At (ps : List Byte) (i : Nat) : Nat := u24 (byteAt ps i) (byteAt ps (i + 1)) (byteAt ps (i + 2))

/-- A number of 1..`n`, as an index. -/
def numberOf (n : Nat) (b : Byte) : Option (Fin n) :=
  if h : 1 ≤ b.toNat ∧ b.toNat ≤ n then some ⟨b.toNat - 1, by omega⟩ else none

/-- A clip id 1..63. -/
def clipIdOf (b : Byte) : Option ClipId := numberOf 63 b

/-- A telephone line 1..4. -/
def lineOf (b : Byte) : Option PhoneLine := numberOf 4 b

/-- A caller slot 1, 2. -/
def slotOf (b : Byte) : Option CallerSlot := numberOf 2 b

/-- A panel line 1..8. -/
def panelLineOf (b : Byte) : Option PanelLineNo := numberOf 8 b

/-- Switch, policy and state: OFF 00h, ON 01h. -/
def switchOf (b : Byte) : Option Bool :=
  if b = 0x00 then some false else if b = 0x01 then some true else none

/-- A capture source: S0 to S7 are 00h to 07h, PGM_LIVE is 08h. -/
def captureSourceOf (b : Byte) : Option CaptureSource :=
  if h : b.toNat < 8 then some (.source ⟨b.toNat, h⟩) else if b = 0x08 then some .pgmLive else none

/-- A stream source, S1 or S2. -/
def streamOf (b : Byte) : Option StreamSource :=
  if b = 0x01 then some .s1 else if b = 0x02 then some .s2 else none

/-- Protection: NORMAL 00h, PROTECTED 01h. -/
def protectionOf (b : Byte) : Option Bool := switchOf b

/-- Disposition: HOLD 00h, DROP 01h. -/
def dispositionOf (b : Byte) : Option Disposition :=
  if b = 0x00 then some .hold else if b = 0x01 then some .drop else none

/-- The roles of a playout clip (R71). -/
inductive Role where
  | fallback | tone
  deriving DecidableEq, Repr

/-- Role: FALLBACK 00h, ATTENTION_TONE 01h. -/
def roleOf (b : Byte) : Option Role :=
  if b = 0x00 then some .fallback else if b = 0x01 then some .tone else none

/-- Class: TEST 00h, ADVISORY 01h, WARNING 02h, IMMEDIATE 03h. -/
def classOf (b : Byte) : Option AlertClass :=
  if b = 0x00 then some .test
  else if b = 0x01 then some .advisory
  else if b = 0x02 then some .warning
  else if b = 0x03 then some .immediate
  else none

/-- Direction: INPUT_PULLUP 00h, INPUT 01h, OUTPUT 02h. -/
def directionOf (b : Byte) : Option Direction :=
  [Direction.inputPullup, .input, .output].find? fun d => decide (d.code = b)

/-- The panel functions of R171. -/
def panelFunctions : List PanelFunction :=
  [.dump, .goEdge, .fader, .stop, .takeNext, .releaseCallers, .mic, .none, .onAir, .micLive, .alertActive,
    .delaySafe, .fallback, .linkOk, .callerOn, .general]

/-- A panel function by its code. -/
def functionOf (b : Byte) : Option PanelFunction := panelFunctions.find? fun f => decide (f.code = b)

/-- Rate: 115,200 is 00h, 460,800 is 01h, 1,000,000 is 02h, 2,000,000 is 03h. -/
def rateOf (b : Byte) : Option Rate :=
  [Rate.baud115200, .baud460800, .baud1000000, .baud2000000].find? fun r => decide (r.code = b)

/-- A character of a text: 20h..7Eh (R100, R161). -/
def isText (b : Byte) : Bool := decide (0x20 ≤ b.toNat) && decide (b.toNat ≤ 0x7E)

/-- A decimal digit. -/
def isDigit (b : Byte) : Bool := decide (0x30 ≤ b.toNat) && decide (b.toNat ≤ 0x39)

/-- A character of an origin or event code: A to Z and 0 to 9 (R121). -/
def isCode (b : Byte) : Bool := isDigit b || (decide (0x41 ≤ b.toNat) && decide (b.toNat ≤ 0x5A))

/-- A field that its flag marks as not given, or a value that `p` takes; a value it does not take is out of range. -/
def givenField (isGiven : Bool) (p : Nat → Bool) (v : Nat) : Option (Option Nat) :=
  if isGiven then (if p v then some (some v) else none) else some none

-- cue list entries (R74, R76, R199)

/-- The kind of an entry with the clip id or source it requires; none when the kind is not one of the four, when a
clip id or source is missing, out of range, or given where it is not taken. -/
def entryKindOf (kind : Byte) (isGiven : Bool) (id : Byte) : Option EntryKind :=
  if kind = 0x00 then (if isGiven then (clipIdOf id).map .clip else none)
  else if kind = 0x01 then (if isGiven then (streamOf id).map .stream else none)
  else if kind = 0x02 then (if isGiven then none else some .gap)
  else if kind = 0x03 then (if isGiven then none else some .mark)
  else none

/-- The kind admits the duration limit as given: a GAP always has one, a MARK never (R74). -/
def limitFits (k : EntryKind) (limit : Option Nat) : Bool :=
  match k with
  | .gap => limit.isSome
  | .mark => limit.isNone
  | _ => true

/-- A duration limit: 1..36,000 blocks. -/
def limitInRange (n : Nat) : Bool := decide (1 ≤ n) && decide (n ≤ 36000)

/-- The entry that 13 bytes spell, WAITING at its start (R74, R76, R199). -/
def entryOf (ps : List Byte) : Option Entry := do
  let flags := byteAt ps 1
  let kind ← entryKindOf (byteAt ps 0) (flags.getLsbD 0) (byteAt ps 2)
  let limit ← givenField (flags.getLsbD 1) limitInRange (u16At ps 3)
  let tag ← givenField (flags.getLsbD 2) (fun n => decide (n ≠ 0)) (u16At ps 5)
  if limitFits kind limit then
    some {
      kind := kind
      limit := limit
      tag := tag
      fadeIn := min (u16At ps 7) 500
      fadeOut := min (u16At ps 9) 500
      segue := flags.getLsbD 4
      level := if flags.getLsbD 3 then u16At ps 11 else 32768
      state := .waiting
      ending := false
      successorStarted := false
      played := 0
      resume := none
      voice := none
      released := false }
  else none

-- panel configurations (R171, R177)

/-- A function that an output line may have. -/
def PanelFunction.isOutput (f : PanelFunction) : Bool := decide (0x10 ≤ f.code.toNat)

/-- A line configuration of three bytes; an input function on an OUTPUT line and an output function on an input line are
out of range. -/
def lineConfigOf (d l f : Byte) : Option LineConfig := do
  let d ← directionOf d
  let l ← switchOf l
  let f ← functionOf f
  if decide (d = .output) = f.isOutput then some ⟨d, l, f⟩ else none

/-- The panel configuration of 25 bytes. -/
def panelSettingsOf (ps : List Byte) : Option PanelSettings :=
  let line (n : Fin 8) : Option LineConfig :=
    lineConfigOf (byteAt ps (3 * n.val)) (byteAt ps (3 * n.val + 1)) (byteAt ps (3 * n.val + 2))
  if panelLines.all (fun n => (line n).isSome) && decide ((byteAt ps 24).toNat ≤ 100) then
    some ⟨Vector.ofFn fun n => (line n).getD ⟨.input, false, .none⟩, (byteAt ps 24).toNat⟩
  else none

/-- The delay settings of 16 bytes (R54). -/
def delaySettingsOf (ps : List Byte) : Option DelaySettings :=
  let small (i : Nat) : Nat := min (byteAt ps i).toNat 48
  let c : DelaySettings := ⟨u16At ps 0, u16At ps 2, u16At ps 4, small 6, small 7, small 8, small 9, small 10, u24At ps 11,
    u16At ps 14⟩
  if 1 ≤ c.bA ∧ c.bA < c.bB ∧ c.bB < c.bC ∧ c.bC ≤ 4000 ∧ c.quiet ≤ 8388608 ∧ 1 ≤ c.dumpStep ∧ c.dumpStep ≤ 4000 then
    some c
  else none

/-- The alert settings of 6 bytes (R146). -/
def alertSettingsOf (ps : List Byte) : Option AlertSettings := do
  let policy ← switchOf (byteAt ps 5)
  let c : AlertSettings := ⟨u16At ps 0, u24At ps 2, policy⟩
  if 1000 ≤ c.warningHold ∧ c.warningHold ≤ 30000 ∧ 6000 ≤ c.advisoryHold ∧ c.advisoryHold ≤ 360000 then some c else none

/-- The supervision settings of 8 bytes (R169). -/
def supervisionSettingsOf (ps : List Byte) : Option SupervisionSettings := do
  let policy ← switchOf (byteAt ps 7)
  let c : SupervisionSettings := ⟨u24At ps 0, u16At ps 3, min (u16At ps 5) 500, policy⟩
  if c.threshold ≤ 8388608 ∧ 200 ≤ c.window ∧ c.window ≤ 12000 then some c else none

/-- The link settings of 5 bytes (R161). -/
def linkSettingsOf (ps : List Byte) : Option LinkSettings :=
  let c : LinkSettings := ⟨u16At ps 0, #v[byteAt ps 2, byteAt ps 3, byteAt ps 4]⟩
  if 50 ≤ c.timeout ∧ c.timeout ≤ 1000 ∧ c.station.toList.all isText then some c else none

/-- The four rates of PROFILE PROGRAM (R206). -/
def ratesOf (ps : List Byte) : Option (Vector Rate 4) := do
  let p ← rateOf (byteAt ps 0)
  let c ← rateOf (byteAt ps 1)
  let s ← rateOf (byteAt ps 2)
  let a ← rateOf (byteAt ps 3)
  some #v[p, c, s, a]

-- alerts (R121, R124)

/-- The area codes of six bytes each, at most `n` of them. -/
def areasOf : Nat → List Byte → List (List Byte)
  | 0, _ => []
  | _, [] => []
  | n + 1, bs => bs.take 6 :: areasOf n (bs.drop 6)

/-- What an ALERT BEGIN gives (R124). -/
structure Arrival where
  id : Nat
  origin : List Byte
  event : List Byte
  cls : AlertClass
  areas : List (List Byte)
  valid : Nat
  deriving DecidableEq, Repr

/-- The parameters of ALERT BEGIN; none when one is out of range (R124). -/
def arrivalOf (ps : List Byte) : Option Arrival := do
  let cls ← classOf (byteAt ps 8)
  let areas := areasOf 42 (ps.drop 11)
  let a : Arrival := ⟨u16At ps 0, (ps.drop 2).take 3, (ps.drop 5).take 3, cls, areas, u16At ps 9⟩
  if a.id ≠ 0 ∧ a.origin.all isCode ∧ a.event.all isCode ∧ a.areas ≠ [] ∧ a.areas.length ≤ 8 ∧
      a.areas.all (fun c => decide (c.length = 6) && c.all isDigit) ∧ 1 ≤ a.valid ∧ a.valid ≤ 1440 then
    some a
  else none

end Sys2Proof.Machine
end

