-- ==== Sys2Proof/Machine/Links.lean ====
section
/-! DEFINITION. The Control Link Interface (chapter 10): receivers, the availability table and the checks of a command,
one command at a time, responses and their bytes. -/

namespace Sys2Proof.Machine

-- the availability table (R187) with the parameter bytes of R199

/-- How many parameter bytes a command takes (R199). -/
inductive ParamBytes where
  | exactly (n : Nat)
  | oneOrFour
  | pairs
  | upTo (n : Nat)
  | atLeast (n : Nat)
  /-- 11 plus a multiple of 6. -/
  | arrival
  deriving DecidableEq, Repr

def ParamBytes.admits (p : ParamBytes) (n : Nat) : Bool :=
  match p with
  | .exactly m => decide (n = m)
  | .oneOrFour => decide (n = 1) || decide (n = 4)
  | .pairs => decide (2 ≤ n) && decide (n ≤ 80) && decide (n % 2 = 0)
  | .upTo m => decide (n ≤ m)
  | .atLeast m => decide (m ≤ n)
  | .arrival => decide (11 ≤ n) && decide ((n - 11) % 6 = 0)

/-- A row of the availability table; every row is "—" in POWER_UP. -/
structure CommandRow where
  code : Nat
  links : List Link
  standby : Bool
  normal : Bool
  alert : Bool
  fallback : Bool
  params : ParamBytes
  deriving DecidableEq, Repr

/-- A row that is "yes" in STANDBY and in every air mode. -/
def always (code : Nat) (links : List Link) (params : ParamBytes) : CommandRow :=
  ⟨code, links, true, true, true, true, params⟩

/-- The rows of every link and of link P (R187). -/
def sharedRows : List CommandRow :=
  [always 0x01 [.P, .C, .S, .A] (.exactly 0), always 0x02 [.P, .C, .S, .A] (.exactly 1),
    always 0x03 [.P, .C, .S, .A] (.exactly 0), always 0x04 [.P, .C, .S, .A] .pairs,
    always 0x05 [.P, .C, .S, .A] (.upTo 25)]

/-- The rows of link P, two of them shared with link C (R187). -/
def playoutRows : List CommandRow :=
  [always 0x10 [.P] (.exactly 8), always 0x11 [.P] (.exactly 1), always 0x12 [.P] (.exactly 1),
    always 0x13 [.P] (.exactly 6), always 0x14 [.P] (.exactly 2), always 0x18 [.P] (.exactly 13),
    always 0x19 [.P] (.exactly 14), always 0x1A [.P] (.exactly 1), always 0x1B [.P] (.exactly 0),
    always 0x1C [.P] (.exactly 1), always 0x1D [.P] (.exactly 1), always 0x20 [.P, .C] (.exactly 0),
    always 0x21 [.P, .C] (.exactly 0)]

/-- The rows of link C, one of them shared with link A (R187). -/
def consoleRows : List CommandRow :=
  [⟨0x30, [.C], true, false, false, false, .exactly 0⟩, ⟨0x31, [.C], false, true, true, true, .exactly 0⟩,
    always 0x32 [.C] (.exactly 0), always 0x33 [.C] (.exactly 2), ⟨0x34, [.C], false, true, true, true, .exactly 0⟩,
    always 0x35 [.C] (.exactly 16), always 0x36 [.C] (.exactly 5), always 0x37 [.C] (.exactly 5),
    ⟨0x38, [.C], false, true, false, true, .exactly 0⟩, ⟨0x39, [.C], false, true, false, true, .exactly 1⟩,
    always 0x3A [.C] (.exactly 2), always 0x3B [.C] (.exactly 6), always 0x3C [.C] (.exactly 8),
    always 0x3D [.C] (.exactly 25), always 0x3E [.C] (.exactly 2), ⟨0x3F, [.C], true, false, false, false, .exactly 4⟩,
    always 0x40 [.C] (.exactly 5), ⟨0x41, [.C], true, false, false, false, .exactly 4⟩, always 0x42 [.C] (.exactly 1),
    always 0x48 [.C, .A] (.exactly 2)]

/-- The rows of links S and A (R187). -/
def screenerRows : List CommandRow :=
  [always 0x50 [.S] (.exactly 1), always 0x51 [.S] (.exactly 1), always 0x52 [.S] .oneOrFour,
    always 0x53 [.S] (.atLeast 2), always 0x54 [.S] (.atLeast 2), always 0x55 [.S] (.exactly 1),
    always 0x56 [.S] (.exactly 0), ⟨0x60, [.A], false, true, true, true, .arrival⟩, always 0x61 [.A] (.exactly 2),
    always 0x62 [.A] (.exactly 2), always 0x63 [.A] (.exactly 1)]

/-- The availability table (R187). -/
def commandTable : List CommandRow := sharedRows ++ playoutRows ++ consoleRows ++ screenerRows

/-- The table marks the command as taken in the present device state and air mode (R186, check 3). -/
def CommandRow.taken (r : CommandRow) (s : State) : Bool :=
  match s.dev.state, s.sup.mode with
  | .powerUp, _ => false
  | .standby, _ => r.standby
  | .onAir, some .normal => r.normal
  | .onAir, some .alert => r.alert
  | .onAir, some .fallback => r.fallback
  | .onAir, none => false

/-- The first check of R186 that a command fails. -/
def failedCheck (l : Link) (code : Nat) (ps : List Byte) (s : State) : Option Status :=
  match commandTable.find? fun r => decide (r.code = code) with
  | none => some .unknownCommand
  | some r =>
    if !r.links.contains l then some .notPermitted
    else if !r.taken s then some .notNow
    else if !r.params.admits ps.length then some .badParam
    else none

-- one command at a time (R184, R185)

/-- The part runs, POWER_UP included; its links take frames. -/
def State.running (s : State) : Bool := decide (s.dev.supply = .running)

/-- The answer to the command in flight on a link begins (R185). -/
def respond (l : Link) (code : Nat) (st : Status) (r : Result) (s : State) : State :=
  s.modLink l fun p => { p with inFlight := some ⟨code, some ⟨code, st, r⟩⟩ }

/-- A command in flight whose answer its owner delays (R185). -/
def delayAnswer (l : Link) (code : Nat) (s : State) : State :=
  s.modLink l fun p => { p with inFlight := some ⟨code, none⟩ }

/-- A receive fault is counted (R182, R184). -/
def LinkPort.faulted (p : LinkPort) : LinkPort := { p with faults := countUp 65535 p.faults }

/-- A frame completed while the link is busy (R184): owed a short answer, or discarded when 8 already are. -/
def LinkPort.owe (p : LinkPort) (x : Owed) : LinkPort :=
  if p.owed.length < 8 then { p with owed := p.owed ++ [x] } else p.faulted

/-- A frame is complete: the receiver is HUNTING again (R182). -/
def frameComplete (l : Link) (s : State) : State := s.modLink l fun p => { p with receiver := .hunting }

/-- The owner's reply becomes the command's answer (R185, R186). -/
def conclude (l : Link) (code : Nat) (s : State) : Reply → State
  | .ok t r => respond l code .ok r t
  | .refuse c => respond l code c .none s
  | .later t => delayAnswer l code t

/-- A checked frame with a command code arrives on a link (R184 to R186): owed BUSY while the link is busy; otherwise
judged, handed to its owner, and answered, what the last boundary found having been taken. Nothing arrives while the part
does not run. -/
def command (l : Link) (code : Nat) (ps : List Byte) (owner : State → Reply) (s : State) : State :=
  if s.running then
    if (s.link l).busy then (frameComplete l s).modLink l fun p => p.owe (.command code)
    else
      let t := frameComplete l (settleFound s)
      match failedCheck l code ps t with
      | some st => respond l code st .none t
      | none => conclude l code t (owner t)
  else s

/-- A body that a frame can have: 1 to 250 bytes (R182, R196). -/
def bodyFits (body : List Byte) : Bool := decide (1 ≤ body.length) && decide (body.length ≤ 250)

/-- A complete frame passes its check: the CRC-8 over its length byte and its body is its check byte (R183). -/
def framePasses (body : List Byte) (check : Byte) : Bool := decide (crc8 (byte body.length :: body) = check)

/-- A complete frame that fails its check (R183, R184); one that passes is no such frame, and nothing changes. -/
def badFrame (l : Link) (body : List Byte) (check : Byte) (s : State) : State :=
  if s.running && bodyFits body && !framePasses body check then
    let t := frameComplete l s
    if (t.link l).busy then t.modLink l fun p => p.owe .badFrame
    else respond l 0 .badFrame .none t
  else s

/-- What a frame completed on a busy link is owed an answer as (R184): its command code when it passes its check, else
the mark BAD_FRAME. -/
def owedFor (body : List Byte) (check : Byte) : Owed :=
  if framePasses body check then .command (body.headD 0).toNat else .badFrame

/-- A frame completed while the link is busy (R184); nothing changes when it is not. -/
def frameWhileBusy (l : Link) (body : List Byte) (check : Byte) (s : State) : State :=
  if s.running && bodyFits body && (s.link l).busy then
    (frameComplete l s).modLink l fun p => p.owe (owedFor body check)
  else s

-- receivers (R182)

/-- The receiver takes a byte with a good stop bit; none when the byte abandons the frame. -/
def Receiver.byte (r : Receiver) (b : Byte) : Option Receiver :=
  match r with
  | .hunting => some (if b = 0xA5 then .length else .hunting)
  | .length => if 1 ≤ b.toNat ∧ b.toNat ≤ 250 then some (.body b.toNat 0) else none
  | .body len got => some (if got < len then .body len (got + 1) else .hunting)

/-- The receiver takes bytes, none of which abandons the frame. -/
def Receiver.bytes (r : Receiver) (bs : List Byte) : Option Receiver :=
  bs.foldl (fun (x : Option Receiver) b => x.bind fun r => r.byte b) (some r)

/-- What a cause does to a receiver (R182): its state afterwards, and whether a frame is abandoned. -/
def Receiver.abandon (r : Receiver) : AbandonCause → Receiver × Bool
  | .gap next =>
    if r = .hunting then ((Receiver.hunting.byte next).getD .hunting, false)
    else ((Receiver.hunting.byte next).getD .hunting, true)
  | .badLength b => match r.byte b with
    | some x => (x, false)
    | none => (.hunting, true)
  | .badStop => (.hunting, decide (r ≠ .hunting))

/-- Bytes have come and a frame may be abandoned (R182): an abandoned frame is counted and not answered. In POWER_UP
before the profile is loaded, and while the part does not run, receivers are idle. -/
def frameAbandoned (l : Link) (bs : List Byte) (cause : AbandonCause) (s : State) : State :=
  if s.running then
    s.modLink l fun p => match p.receiver.bytes bs with
      | some r =>
        let x := r.abandon cause
        let q := { p with receiver := x.1 }
        if x.2 then q.faulted else q
      | none => { p with receiver := .hunting }.faulted
  else s

-- responses (R184, R196)

/-- The SOFT RESET command is in flight on link C, answered OK (R185, R203). -/
def State.softResetAnswered (s : State) : Bool :=
  match (s.link .C).inFlight with
  | some f => decide (f.answer = some ⟨0x32, .ok, .none⟩)
  | none => false

/-- The response being sent on a link has been sent (R184): the command in flight, when it has its answer, or else the
head of the frames owed one. -/
def LinkPort.sent (p : LinkPort) : LinkPort :=
  match p.inFlight with
  | some f => if f.answer.isSome then { p with inFlight := none } else p
  | none => { p with owed := p.owed.tail }

/-- The last byte of a response has been sent (R184); after that of SOFT RESET's, the reset is made (R185; log entry
21), which leaves nothing in flight or owed on link C (R195). What the last boundary found is taken before the reset. -/
def responseSent (l : Link) (s : State) : State :=
  if s.running then
    if decide (l = .C) && s.softResetAnswered then (softReset (settleFound s)).modLink .C LinkPort.sent else s.modLink l LinkPort.sent
  else s

/-- SOFT RESET is made once its response has been sent (R185, R203; log entry 21). -/
def softResetMade (s : State) : State :=
  if s.running && s.softResetAnswered then (softReset (settleFound s)).modLink .C LinkPort.sent else s

/-- The silent fill after a change of R is complete (R35): the delayed OK is sent. -/
def silentFillComplete (s : State) : State :=
  if s.running && decide ((s.link .C).inFlight = some ⟨0x3F, none⟩) then
    respond .C 0x3F .ok .none { s with mem := s.mem.fill }
  else s

/-- The value of a status code (R196). -/
def Status.code : Status → Byte
  | .ok => 0x00
  | .badFrame => 0x01
  | .unknownCommand => 0x02
  | .notPermitted => 0x03
  | .notNow => 0x04
  | .badParam => 0x05
  | .duplicate => 0x06
  | .notFound => 0x07
  | .inUse => 0x08
  | .full => 0x09
  | .busy => 0x0A
  | .noSlot => 0x0B
  | .notSafe => 0x0C

/-- The bytes of result data: none, those the spec lays out (R198), or those of an unstated layout (log entry 8); at
most 248, since a response body holds at most 250 bytes, two of them its codes (R185, R196). -/
def Result.data (r : Result) : List Byte :=
  (match r with
    | .none => []
    | .bytes bs => bs
    | r => Config.resultBytes r).take 248

/-- The frame around a body (R196). -/
def frameOf (body : List Byte) : List Byte :=
  [0xA5, byte body.length] ++ body ++ [crc8 (byte body.length :: body)]

/-- The bytes of a response (R196). -/
def Response.frame (r : Response) : List Byte := frameOf ([byte r.code, r.status.code] ++ r.result.data)

/-- The short answer owed to a frame (R184). -/
def Owed.response : Owed → Response
  | .command c => ⟨c, .busy, .none⟩
  | .badFrame => ⟨0, .badFrame, .none⟩

/-- The response that a link is sending (R184). -/
def LinkPort.sending (p : LinkPort) : Option Response :=
  match p.inFlight with
  | some f => f.answer
  | none => p.owed.head?.map Owed.response

/-- The bytes a link sends for the response it is sending (R196). -/
def LinkPort.sendingBytes (p : LinkPort) : List Byte :=
  match p.sending with
  | some r => r.frame
  | none => []

end Sys2Proof.Machine
end

