-- ==== Sys2Proof/Decode.lean ====
section
/-! DEFINITION. How commands are spelt. No row of spec/opcode_table.json gives bits, so no word spells a command; on the
control links commands come as frames, whose bytes are read here (R182, R183, R196). -/

namespace Sys2Proof

open Sys2Proof.Machine

/-- The command that a word spells by the table's bits: none, since no row has bits. -/
def decodeTableWord (_nbits _w : Nat) : Option Instr := none

/-- The command of a checked frame with a command code and parameters, on a link (R187). -/
def commandOf (l : Link) (code : Byte) (ps : List Byte) : Instr :=
  match code.toNat with
  | 0x01 => .identify l ps
  | 0x02 => .statusRead l ps
  | 0x03 => .eventsRead l ps
  | 0x04 => .eventsAcknowledge l ps
  | 0x05 => .eventMaskSet l ps
  | 0x10 => .clipCaptureStart l ps
  | 0x11 => .clipCaptureStop l ps
  | 0x12 => .clipDelete l ps
  | 0x13 => .clipRead l ps
  | 0x14 => .clipRoleSet l ps
  | 0x18 => .cueAppend l ps
  | 0x19 => .cueInsert l ps
  | 0x1A => .cueRemove l ps
  | 0x1B => .cueClear l ps
  | 0x1C => .cueListRead l ps
  | 0x1D => .streamRelease l ps
  | 0x20 => .cueGo l ps
  | 0x21 => .cueStop l ps
  | 0x30 => .airStart l ps
  | 0x31 => .airStop l ps
  | 0x32 => .softReset l ps
  | 0x33 => .delayTargetSet l ps
  | 0x34 => .dump l ps
  | 0x35 => .delaySettingsSet l ps
  | 0x36 => .studioSet l ps
  | 0x37 => .slotGainSet l ps
  | 0x38 => .callerTakeNext l ps
  | 0x39 => .callerTakeLine l ps
  | 0x3A => .callerRelease l ps
  | 0x3B => .alertSettingsSet l ps
  | 0x3C => .supervisionSet l ps
  | 0x3D => .panelConfigure l ps
  | 0x3E => .panelOutputSet l ps
  | 0x3F => .memorySettingsSet l ps
  | 0x40 => .linkSettingsSet l ps
  | 0x41 => .profileProgram l ps
  | 0x42 => .profileRead l ps
  | 0x48 => .alertCancel l ps
  | 0x50 => .lineConnect l ps
  | 0x51 => .lineDown l ps
  | 0x52 => .lineMeasure l ps
  | 0x53 => .callerAdmit l ps
  | 0x54 => .callerUpdate l ps
  | 0x55 => .callerWithdraw l ps
  | 0x56 => .queueRead l ps
  | 0x60 => .alertBegin l ps
  | 0x61 => .alertAudioEnd l ps
  | 0x62 => .alertRead l ps
  | 0x63 => .alertHistoryRead l ps
  | _ => .unknownCommand l code ps

/-- What a complete frame on a link is, by its body and its check byte (R183, R184, R196): owed a short answer on a busy
link; else a bad frame when it fails its check, and the command of its first body byte with the rest as parameters. -/
def frameRead (isBusy : Bool) (l : Link) (body : List Byte) (check : Byte) : Instr :=
  if isBusy then .frameWhileBusy l ⟨body, check⟩
  else if framePasses body check then commandOf l (body.headD 0) body.tail
  else .badFrame ⟨l, body, check⟩

/-- The command that the bytes of one whole frame spell on a link (R196): the start byte, the length 1..250, the body, the
check byte; none for other bytes. -/
def readFrame (isBusy : Bool) (l : Link) : List Byte → Option Instr
  | start :: len :: rest =>
    if start = 0xA5 ∧ 1 ≤ len.toNat ∧ len.toNat ≤ 250 ∧ rest.length = len.toNat + 1 then
      some (frameRead isBusy l (rest.take len.toNat) (rest.getD len.toNat 0))
    else none
  | _ => none

end Sys2Proof
end

