-- ==== Sys2Proof/Machine/LinkCommands.lean ====
section
/-! DEFINITION. The commands of every link (chapter 10: R190 to R194) and the rows of the frames and responses
(R182 to R185, R203). -/

namespace Sys2Proof.Machine

-- identity and events

/-- IDENTIFY's owner (R193). -/
def identifyOwner (l : Link) (s : State) : Reply :=
  .ok s (.identity "USHGEN" "7320" (Config.revision.val + 1) l s.prof.loaded (s.link l).rate)

/-- EVENTS READ's owner (R190). -/
def eventsReadOwner (l : Link) (s : State) : Reply :=
  .ok s (.events ((s.link l).events.map fun p =>
    ⟨p.event.number, (s.link l).enabled.contains p.event.number, p.count, p.event⟩))

/-- One pair of EVENTS ACKNOWLEDGE on an event set (R191). -/
def acknowledgeOne (number count : Nat) : List PendingEvent → List PendingEvent
  | [] => []
  | p :: ps =>
    if p.event.number = number then
      (if count = 0 ∨ p.count ≤ count then ps else { p with count := p.count - count } :: ps)
    else p :: acknowledgeOne number count ps

/-- The pairs of an EVENTS ACKNOWLEDGE (R199). -/
def ackPairs : List Byte → List (Nat × Nat)
  | n :: c :: rest => (n.toNat, c.toNat) :: ackPairs rest
  | _ => []

/-- The number of PANEL_INPUT. -/
def panelInputNumber : Nat := 0x20

/-- One pair is applied on a link (R191); the clearing of PANEL_INPUT on link C clears the pending flags (R173). -/
def acknowledge (l : Link) (number count : Nat) (s : State) : State :=
  let t := s.modLink l fun p => { p with events := acknowledgeOne number count p.events }
  if l = .C ∧ number = panelInputNumber ∧ (s.pendingEvent .C number).isSome ∧ (t.pendingEvent .C number).isNone then
    clearPanelFlags t
  else t

/-- EVENTS ACKNOWLEDGE's owner (R191). -/
def eventsAcknowledgeOwner (l : Link) (ps : List Byte) (s : State) : Reply :=
  if (ackPairs ps).all fun x => (linkEvents l).contains x.1 then
    let t := (ackPairs ps).foldl (fun t x => acknowledge l x.1 x.2 t) s
    .ok t (.remaining ((t.link l).events.map fun p => p.event.number))
  else .refuse .badParam

/-- EVENT MASK SET's owner (R192). -/
def eventMaskSetOwner (l : Link) (ps : List Byte) (s : State) : Reply :=
  if ps.all fun b => (linkEvents l).contains b.toNat then
    .ok (s.modLink l fun p => { p with
      enabled := (linkEvents l).filter fun n => ps.any fun b => decide (b.toNat = n) }) .none
  else .refuse .badParam

-- status (R194)

def State.devicePage (s : State) : DevicePage :=
  ⟨s.dev.state, s.sup.mode, s.sup.remembered, s.dev.clock, s.dev.returnCount, s.prof.loaded,
    #v[s.links.p.rate, s.links.c.rate, s.links.s.rate, s.links.a.rate],
    #v[s.links.p.faults, s.links.c.faults, s.links.s.faults, s.links.a.faults]⟩

def State.delayPage (s : State) : DelayPage :=
  ⟨s.delay.state, s.delay.excess, s.delay.target, s.delay.targetSamples, s.delay.state.isSafe, s.delay.alertSegs,
    s.delay.dump, s.delay.settings⟩

def State.memoryPage (s : State) : MemoryPage :=
  ⟨s.mem.ring, s.mem.pool, s.mem.reserve, s.mem.free.length, s.mem.general, s.mem.alertCount, s.mem.errors,
    s.clips.fallback, s.clips.tone⟩

/-- The number of active alert records (R122). -/
def State.activeAlerts (s : State) : Nat := alertSlots.countP fun k => (s.record k).isSome

def State.programmePage (s : State) : ProgrammePage :=
  ⟨s.cue.state, s.studioOn, #v[(s.slot 0).occupant, (s.slot 1).occupant], s.callers.queue.length,
    s.sup.settings.safeTake, s.activeAlerts, s.alerts.settings⟩

def State.linkPage (s : State) : LinkPage :=
  ⟨s.tx.state, s.tx.age, s.tx.run, s.tx.bad, s.tx.seq, s.tx.status, s.tx.mark, s.tx.history.getLast?,
    s.tx.settings⟩

def State.panelPage (s : State) : PanelPage :=
  ⟨s.sup.counter, s.sup.settings, s.panel.settings, s.panel.lines.map fun x => ⟨x.recognised, x.flag, x.general⟩⟩

/-- The page a STATUS READ names (R194). -/
def statusPage (page : Byte) (s : State) : Option Result :=
  match page.toNat with
  | 0 => some (.devicePage s.devicePage)
  | 1 => some (.delayPage s.delayPage)
  | 2 => some (.memoryPage s.memoryPage)
  | 3 => some (.programmePage s.programmePage)
  | 4 => some (.linkPage s.linkPage)
  | 5 => some (.panelPage s.panelPage)
  | _ => none

/-- STATUS READ's owner (R194). -/
def statusReadOwner (ps : List Byte) (s : State) : Reply :=
  match statusPage (byteAt ps 0) s with
  | some r => .ok s r
  | none => .refuse .badParam

-- the meanings

/-- IDENTIFY (R193). -/
def execIdentify (l : Link) (ps : List Byte) (s : State) : Host.Outcome State Fault Refusal :=
  .next (command l 0x01 ps (identifyOwner l) s)

/-- STATUS READ (R194). -/
def execStatusRead (l : Link) (ps : List Byte) (s : State) : Host.Outcome State Fault Refusal :=
  .next (command l 0x02 ps (statusReadOwner ps) s)

/-- EVENTS READ (R190). -/
def execEventsRead (l : Link) (ps : List Byte) (s : State) : Host.Outcome State Fault Refusal :=
  .next (command l 0x03 ps (eventsReadOwner l) s)

/-- EVENTS ACKNOWLEDGE (R191). -/
def execEventsAcknowledge (l : Link) (ps : List Byte) (s : State) : Host.Outcome State Fault Refusal :=
  .next (command l 0x04 ps (eventsAcknowledgeOwner l ps) s)

/-- EVENT MASK SET (R192). -/
def execEventMaskSet (l : Link) (ps : List Byte) (s : State) : Host.Outcome State Fault Refusal :=
  .next (command l 0x05 ps (eventMaskSetOwner l ps) s)

/-- A checked frame whose command code is not in the availability table (R186); a code that is in it is no such
frame, and nothing changes. -/
def execUnknownCommand (l : Link) (code : Byte) (ps : List Byte) (s : State) : Host.Outcome State Fault Refusal :=
  .next (if commandTable.any fun r => decide (r.code = code.toNat) then s
    else command l code.toNat ps (fun _ => .refuse .unknownCommand) s)

/-- A complete frame that fails its CRC-8 (R183). -/
def execBadFrame (f : FrameOnLink) (s : State) : Host.Outcome State Fault Refusal :=
  .next (badFrame f.link f.frame.body f.frame.check s)

/-- A frame completed while the link is busy (R184). -/
def execFrameWhileBusy (l : Link) (frame : ReceivedFrame) (s : State) : Host.Outcome State Fault Refusal :=
  .next (frameWhileBusy l frame.body frame.check s)

/-- A frame is abandoned (R182). -/
def execFrameAbandoned (l : Link) (bs : List Byte) (cause : AbandonCause) (s : State) :
    Host.Outcome State Fault Refusal :=
  .next (frameAbandoned l bs cause s)

/-- A response has been sent (R184). -/
def execResponseSent (l : Link) (s : State) : Host.Outcome State Fault Refusal := .next (responseSent l s)

/-- SOFT RESET is made (R203). -/
def execSoftResetMade (s : State) : Host.Outcome State Fault Refusal := .next (softResetMade s)

/-- The silent fill after a change of R is complete (R35). -/
def execSilentFillComplete (s : State) : Host.Outcome State Fault Refusal := .next (silentFillComplete s)

end Sys2Proof.Machine
end

