-- ==== Sys2Proof/Machine/ClipCommands.lean ====
section
/-! DEFINITION. The clip commands of link P (chapter 04: R59, R62, R70 to R72; R198). -/

namespace Sys2Proof.Machine

/-- The parameters of CLIP CAPTURE START, in range (R59). -/
structure CaptureOrder where
  id : ClipId
  source : CaptureSource
  greatest : Nat
  isProtected : Bool
  loop : Bool
  tag : Option Nat
  deriving DecidableEq, Repr

/-- The parameters of CLIP CAPTURE START; none when one is out of range (R59). -/
def captureOrderOf (ps : List Byte) : Option CaptureOrder := do
  let id ← clipIdOf (byteAt ps 0)
  let source ← captureSourceOf (byteAt ps 1)
  let protection ← protectionOf (byteAt ps 4)
  let flags := byteAt ps 5
  let tag ← givenField (flags.getLsbD 1) (fun n => decide (n ≠ 0)) (u16At ps 6)
  if 1 ≤ u16At ps 2 ∧ u16At ps 2 ≤ 12000 then
    some ⟨id, source, u16At ps 2, protection, flags.getLsbD 0, tag⟩
  else none

/-- The lower-numbered free clip-capture channel (R59). -/
def State.freeChannel (s : State) : Option Channel :=
  if (s.channel 0).isNone then some 0 else if (s.channel 1).isNone then some 1 else none

/-- A playout capture starts on a channel (R59). -/
def startCapture (ch : Channel) (o : CaptureOrder) (s : State) : State :=
  ({ s with clips := { s.clips with channels := s.clips.channels.set ch (some ⟨o.id, o.source, o.greatest⟩) } }).modClip
    (.playout o.id) fun _ =>
      { Clip.empty with state := .capturing, isProtected := o.isProtected, loop := o.loop, tag := o.tag }

/-- CLIP CAPTURE START's owner (R59). -/
def captureStartOwner (ps : List Byte) (s : State) : Reply :=
  match captureOrderOf ps with
  | none => .refuse .badParam
  | some o =>
    if (s.clip (.playout o.id)).state ≠ .empty then .refuse .inUse
    else match s.freeChannel with
      | none => .refuse .busy
      | some ch => .ok (startCapture ch o s) .none

/-- The channel that records a playout clip. -/
def State.channelOf (s : State) (n : ClipId) : Option Channel :=
  [(0 : Channel), 1].find? fun ch => match s.channel ch with
    | some c => decide (c.clip = n)
    | none => false

/-- CLIP CAPTURE STOP's owner (R62). -/
def captureStopOwner (ps : List Byte) (s : State) : Reply :=
  match clipIdOf (byteAt ps 0) with
  | none => .refuse .badParam
  | some n =>
    if (s.clip (.playout n)).state ≠ .capturing then .refuse .notFound
    else match s.channelOf n with
      | none => .refuse .notFound
      | some ch => .ok (endCapture ch .stopped s) .none

/-- CLIP DELETE's owner (R70). -/
def clipDeleteOwner (ps : List Byte) (s : State) : Reply :=
  match clipIdOf (byteAt ps 0) with
  | none => .refuse .badParam
  | some n =>
    let c := s.clip (.playout n)
    if c.isProtected && s.onAir then .refuse .notNow
    else if c.state = .empty then .refuse .notFound
    else if c.state = .capturing ∨ 0 < c.uses then .refuse .inUse
    else .ok (emptyClip (.playout n) s) .none

-- CLIP READ (R72, R198)

/-- The value of a clip state (R198). -/
def ClipState.code : ClipState → Byte
  | .empty => 0
  | .capturing => 1
  | .ready => 2

/-- A byte of flags, bit 0 first. -/
def flagBits (a b c d : Bool) : Byte :=
  byte ((if a then 1 else 0) + (if b then 2 else 0) + (if c then 4 else 0) + (if d then 8 else 0))

/-- An optional segment number: FFFFh when absent (R198). -/
def segmentBytes (n : Option Nat) : List Byte := be16 (n.getD 0xFFFF)

/-- The clip part of CLIP READ's result (R198). -/
def clipPart (s : State) (n : ClipId) : List Byte :=
  let c := s.clip (.playout n)
  [byte (n.val + 1), c.state.code, flagBits c.isProtected c.loop c.truncated c.damaged] ++ be16Opt c.tag ++
    be24 c.length ++ be16 c.count ++
    [byte c.uses, flagBits (decide (s.clips.fallback = some n)) (decide (s.clips.tone = some n)) false false] ++
    segmentBytes c.first

/-- The segment part and the frames of CLIP READ's result, for the segment as stored (R198). -/
def segmentPart (g : Segment) (ordinal number count first frames : Nat) : List Byte :=
  be16 ordinal ++ be16 number ++ be24 g.received.peak ++
    [flagBits (decide (ordinal + 1 = count)) g.passes false false] ++ segmentBytes g.link ++ be16 first ++
    [byte frames] ++ ((g.received.frames.toList.drop first).take frames).flatMap frameBytes

/-- CLIP READ's owner (R72); a segment asked for is fetched whole and checked, and a failure acts as R68 gives. The clip
record returned is the one after the fetch, so a failure that the command itself finds shows in it as DAMAGED; R72
does not say (log entry 38). -/
def clipReadOwner (ps : List Byte) (s : State) : Reply :=
  match clipIdOf (byteAt ps 0) with
  | none => .refuse .badParam
  | some n =>
    let ordinal := u16At ps 1
    let first := u16At ps 3
    let frames := (byteAt ps 5).toNat
    if 480 ≤ first ∨ 36 < frames ∨ 480 < first + frames then .refuse .badParam
    else if frames = 0 then .ok s (.bytes (clipPart s n))
    else match (s.segments (.playout n))[ordinal]? with
      | none => .refuse .notFound
      | some k =>
        let t := (fetchClip k s).2
        .ok t (.bytes (clipPart t n ++
          segmentPart (s.mem.read k) ordinal k (s.clip (.playout n)).count first frames))

-- roles (R71)

/-- A clip id 1..63, or 00h for none; the outer none is a value out of range (R199). -/
def optionalClipOf (b : Byte) : Option (Option ClipId) :=
  if b = 0x00 then some none else (clipIdOf b).map some

def ClipStore.role (cs : ClipStore) : Role → Option ClipId
  | .fallback => cs.fallback
  | .tone => cs.tone

def ClipStore.setRole (cs : ClipStore) (r : Role) (n : Option ClipId) : ClipStore :=
  match r with
  | .fallback => { cs with fallback := n }
  | .tone => { cs with tone := n }

/-- A playout clip gains or loses a use, when one is named. -/
def useOptional (up : Bool) (n : Option ClipId) (s : State) : State :=
  match n with
  | some i => useClip up (.playout i) s
  | none => s

/-- The clip named becomes the clip of the role (R71). -/
def designate (r : Role) (n : Option ClipId) (s : State) : State :=
  let t := useOptional true n (useOptional false (s.clips.role r) s)
  { t with clips := t.clips.setRole r n }

/-- A clip that may be given a role: READY and PROTECTED (R71). -/
def State.mayDesignate (s : State) (n : Option ClipId) : Bool :=
  match n with
  | some i => decide ((s.clip (.playout i)).state = .ready) && (s.clip (.playout i)).isProtected
  | none => true

/-- CLIP ROLE SET's owner (R71). -/
def clipRoleSetOwner (ps : List Byte) (s : State) : Reply :=
  match roleOf (byteAt ps 0), optionalClipOf (byteAt ps 1) with
  | some r, some n => if s.mayDesignate n then .ok (designate r n s) .none else .refuse .badParam
  | _, _ => .refuse .badParam

-- the meanings

/-- CLIP CAPTURE START (R59). -/
def execClipCaptureStart (l : Link) (ps : List Byte) (s : State) : Host.Outcome State Fault Refusal :=
  .next (command l 0x10 ps (captureStartOwner ps) s)

/-- CLIP CAPTURE STOP (R62). -/
def execClipCaptureStop (l : Link) (ps : List Byte) (s : State) : Host.Outcome State Fault Refusal :=
  .next (command l 0x11 ps (captureStopOwner ps) s)

/-- CLIP DELETE (R70). -/
def execClipDelete (l : Link) (ps : List Byte) (s : State) : Host.Outcome State Fault Refusal :=
  .next (command l 0x12 ps (clipDeleteOwner ps) s)

/-- CLIP READ (R72). -/
def execClipRead (l : Link) (ps : List Byte) (s : State) : Host.Outcome State Fault Refusal :=
  .next (command l 0x13 ps (clipReadOwner ps) s)

/-- CLIP ROLE SET (R71). -/
def execClipRoleSet (l : Link) (ps : List Byte) (s : State) : Host.Outcome State Fault Refusal :=
  .next (command l 0x14 ps (clipRoleSetOwner ps) s)

end Sys2Proof.Machine
end

