-- ==== Sys2Proof/Machine/CueCommands.lean ====
section
/-! DEFINITION. The cue commands (chapter 05: R76 to R78, R84, R86, R90). -/

namespace Sys2Proof.Machine

/-- A CLIP entry without a duration limit names a READY looping clip (R76). -/
def endless (e : Entry) (s : State) : Bool :=
  match e.kind with
  | .clip n => e.limit.isNone && decide ((s.clip (.playout n)).state = .ready) && (s.clip (.playout n)).loop
  | _ => false

/-- The claim on the entry's clip would be refused (R69). -/
def claimRefused (e : Entry) (s : State) : Bool :=
  match e.kind with
  | .clip n => decide ((s.clip (.playout n)).state ≠ .ready)
  | _ => false

/-- An entry's claim on its clip is made (R69, R75). -/
def makeClaim (e : Entry) (s : State) : State :=
  match e.kind with
  | .clip n => useClip true (.playout n) s
  | _ => s

/-- A CLIP entry without a tag takes the clip's (R76; log entry 16). -/
def withClipTag (e : Entry) (s : State) : Entry :=
  match e.kind, e.tag with
  | .clip n, none => { e with tag := (s.clip (.playout n)).tag }
  | _, _ => e

/-- The greatest length of the cue list (R75). -/
def listCapacity : Nat := 32

/-- An entry joins the list behind its first `i` entries, claimed (R76, R77). -/
def joinList (i : Nat) (e : Entry) (s : State) : State :=
  settleFrom s.cue.state
    (setEntries (s.cue.entries.take i ++ withClipTag e s :: s.cue.entries.drop i) (makeClaim e s))

/-- CUE APPEND's owner (R76). -/
def cueAppendOwner (ps : List Byte) (s : State) : Reply :=
  match entryOf ps with
  | none => .refuse .badParam
  | some e =>
    if endless e s then .refuse .badParam
    else if listCapacity ≤ s.cue.entries.length then .refuse .full
    else if claimRefused e s then .refuse .notFound
    else .ok (joinList s.cue.entries.length e s) (.position (s.cue.entries.length + 1))

/-- A list position 1..32 (R77, R78). -/
def positionOf (b : Byte) : Option Nat :=
  if 1 ≤ b.toNat ∧ b.toNat ≤ 32 then some b.toNat else none

/-- How many PLAYING and RESERVED entries stand at the front (R75). -/
def Cue.front (c : Cue) : Nat := c.entries.countP fun e => !e.waiting

/-- CUE INSERT's owner (R77). The tail is the last entry's position here: beyond it plus one is a position above the number of
entries plus one (log entry 59). -/
def cueInsertOwner (ps : List Byte) (s : State) : Reply :=
  match positionOf (byteAt ps 0), entryOf (ps.drop 1) with
  | some p, some e =>
    if endless e s then .refuse .badParam
    else if p ≤ s.cue.front then .refuse .inUse
    else if s.cue.entries.length + 1 < p then .refuse .notFound
    else if listCapacity ≤ s.cue.entries.length then .refuse .full
    else if claimRefused e s then .refuse .notFound
    else .ok (joinList (p - 1) e s) .none
  | _, _ => .refuse .badParam

/-- CUE REMOVE's owner (R78). Beyond the tail is a position above the number of entries (log entry 59). -/
def cueRemoveOwner (ps : List Byte) (s : State) : Reply :=
  match positionOf (byteAt ps 0) with
  | none => .refuse .badParam
  | some p => match s.cue.entries[p - 1]? with
    | none => .refuse .notFound
    | some e =>
      if e.waiting then
        .ok (settleFrom s.cue.state (setEntries (s.cue.entries.eraseIdx (p - 1)) (releaseClaim e s))) .none
      else .refuse .inUse

/-- CUE CLEAR's owner (R78). -/
def cueClearOwner (s : State) : Reply :=
  let gone := s.cue.entries.filter Entry.waiting
  .ok (settleFrom s.cue.state
      (setEntries (s.cue.entries.filter fun e => !e.waiting) (gone.foldl (fun t e => releaseClaim e t) s)))
    (.removed gone.length)

/-- CUE LIST READ's owner (R78). -/
def cueListReadOwner (ps : List Byte) (s : State) : Reply :=
  match positionOf (byteAt ps 0) with
  | none => .refuse .badParam
  | some p => .ok s (.cueList ⟨s.cue.state, s.cue.entries.length, s.cue.voiceA, s.cue.voiceB,
      (s.cue.entries.drop (p - 1)).take 8, s.cue.held.map HeldRecord.stateLeft⟩)

/-- STREAM RELEASE's owner (R90). -/
def streamReleaseOwner (ps : List Byte) (s : State) : Reply :=
  match streamOf (byteAt ps 0) with
  | none => .refuse .badParam
  | some src => releaseStream src s

-- the meanings

/-- CUE APPEND (R76). -/
def execCueAppend (l : Link) (ps : List Byte) (s : State) : Host.Outcome State Fault Refusal :=
  .next (command l 0x18 ps (cueAppendOwner ps) s)

/-- CUE INSERT (R77). -/
def execCueInsert (l : Link) (ps : List Byte) (s : State) : Host.Outcome State Fault Refusal :=
  .next (command l 0x19 ps (cueInsertOwner ps) s)

/-- CUE REMOVE (R78). -/
def execCueRemove (l : Link) (ps : List Byte) (s : State) : Host.Outcome State Fault Refusal :=
  .next (command l 0x1A ps (cueRemoveOwner ps) s)

/-- CUE CLEAR (R78). -/
def execCueClear (l : Link) (ps : List Byte) (s : State) : Host.Outcome State Fault Refusal :=
  .next (command l 0x1B ps cueClearOwner s)

/-- CUE LIST READ (R78). -/
def execCueListRead (l : Link) (ps : List Byte) (s : State) : Host.Outcome State Fault Refusal :=
  .next (command l 0x1C ps (cueListReadOwner ps) s)

/-- STREAM RELEASE (R90). -/
def execStreamRelease (l : Link) (ps : List Byte) (s : State) : Host.Outcome State Fault Refusal :=
  .next (command l 0x1D ps (streamReleaseOwner ps) s)

/-- CUE GO (R84). -/
def execCueGo (l : Link) (ps : List Byte) (s : State) : Host.Outcome State Fault Refusal :=
  .next (command l 0x20 ps goCue s)

/-- CUE STOP (R86, R93). -/
def execCueStop (l : Link) (ps : List Byte) (s : State) : Host.Outcome State Fault Refusal :=
  .next (command l 0x21 ps (fun t => .ok (stopCue t) .none) s)

end Sys2Proof.Machine
end

