-- ==== Sys2Proof/Machine/AirCommands.lean ====
section
/-! DEFINITION. The console's commands on the air, the delay and the mix (R16, R18, R39, R51, R54, R201 to R203). -/

namespace Sys2Proof.Machine

/-- DELAY TARGET SET's owner (R39). -/
def delayTargetSetOwner (ps : List Byte) (s : State) : Reply :=
  let t := min (u16At ps 0) (s.mem.ring - 3)
  .ok (workOutDelay { s with delay := { s.delay with target := t } }) (.target t)

/-- DELAY SETTINGS SET's owner (R54). -/
def delaySettingsSetOwner (ps : List Byte) (s : State) : Reply :=
  match delaySettingsOf ps with
  | some c => .ok { s with delay := { s.delay with settings := c } } (.delaySettings c)
  | none => .refuse .badParam

/-- STUDIO SET's owner (R16). -/
def studioSetOwner (ps : List Byte) (s : State) : Reply :=
  match switchOf (byteAt ps 0) with
  | some on => .ok (studioSet on (u16At ps 1) (u16At ps 3) s) .none
  | none => .refuse .badParam

/-- SLOT GAIN SET's effect (R18). -/
def setSlotGain (k : CallerSlot) (gain length : Nat) (s : State) : State :=
  level (slotContributor k) gain length
    { s with mix := { s.mix with slotFade := s.mix.slotFade.set k (min length 500) } }

/-- SLOT GAIN SET's owner (R18). -/
def slotGainSetOwner (ps : List Byte) (s : State) : Reply :=
  match slotOf (byteAt ps 0) with
  | some k => .ok (setSlotGain k (u16At ps 1) (u16At ps 3) s) .none
  | none => .refuse .badParam

/-- AIR STOP's owner (R202). -/
def airStopOwner (s : State) : Reply :=
  if airStopRefused s then .refuse .notNow else .ok (airStop s) .none

/-- AIR START (R201). -/
def execAirStart (l : Link) (ps : List Byte) (s : State) : Host.Outcome State Fault Refusal :=
  .next (command l 0x30 ps (fun t => .ok (airStart t) .none) s)

/-- AIR STOP (R202). -/
def execAirStop (l : Link) (ps : List Byte) (s : State) : Host.Outcome State Fault Refusal :=
  .next (command l 0x31 ps airStopOwner s)

/-- SOFT RESET (R203): answered OK; the reset is made when the response has been sent. -/
def execSoftReset (l : Link) (ps : List Byte) (s : State) : Host.Outcome State Fault Refusal :=
  .next (command l 0x32 ps (fun t => .ok t .none) s)

/-- DELAY TARGET SET (R39). -/
def execDelayTargetSet (l : Link) (ps : List Byte) (s : State) : Host.Outcome State Fault Refusal :=
  .next (command l 0x33 ps (delayTargetSetOwner ps) s)

/-- DUMP (R51). -/
def execDump (l : Link) (ps : List Byte) (s : State) : Host.Outcome State Fault Refusal :=
  .next (command l 0x34 ps operatorDump s)

/-- DELAY SETTINGS SET (R54). -/
def execDelaySettingsSet (l : Link) (ps : List Byte) (s : State) : Host.Outcome State Fault Refusal :=
  .next (command l 0x35 ps (delaySettingsSetOwner ps) s)

/-- STUDIO SET (R16). -/
def execStudioSet (l : Link) (ps : List Byte) (s : State) : Host.Outcome State Fault Refusal :=
  .next (command l 0x36 ps (studioSetOwner ps) s)

/-- SLOT GAIN SET (R18). -/
def execSlotGainSet (l : Link) (ps : List Byte) (s : State) : Host.Outcome State Fault Refusal :=
  .next (command l 0x37 ps (slotGainSetOwner ps) s)

end Sys2Proof.Machine
end

