-- ==== Sys2Proof/Machine/CallerCommands.lean ====
section
/-! DEFINITION. The callers' commands of links C and S (chapter 06). -/

namespace Sys2Proof.Machine

/-- CALLER TAKE LINE's owner (R112). -/
def takeLineOwner (ps : List Byte) (s : State) : Reply :=
  match lineOf (byteAt ps 0) with
  | none => .refuse .badParam
  | some i => match takeRefusal s with
    | some c => .refuse c
    | none => if (s.line i).state = .held then .ok (takeLine i s) .none else .refuse .notFound

/-- CALLER RELEASE's owner (R114). -/
def callerReleaseOwner (ps : List Byte) (s : State) : Reply :=
  match slotOf (byteAt ps 0), dispositionOf (byteAt ps 1) with
  | some k, some d => if (s.slot k).occupant.isSome then .ok (releaseSlot k d s) .none else .refuse .notFound
  | _, _ => .refuse .badParam

/-- A line record at LINE CONNECT (R101). -/
def LineRecord.connected : LineRecord := ⟨.screening, 4096, none, none, none, none, .none⟩

/-- LINE CONNECT's owner (R101). -/
def lineConnectOwner (ps : List Byte) (s : State) : Reply :=
  match lineOf (byteAt ps 0) with
  | none => .refuse .badParam
  | some i => if (s.line i).state = .free then .ok (s.setLine i .connected) .none else .refuse .inUse

/-- A caller slot is cut and emptied, and its line made FREE (R102). -/
def hangUp (i : PhoneLine) (k : CallerSlot) (s : State) : State :=
  raise .S (.lineOffAir i k .lineDown) <|
    ((cut (slotContributor k) s).setSlot k ⟨none, none⟩).setLine i (s.line i).freed

/-- The call on a line has ended (R102). -/
def lineDown (i : PhoneLine) (s : State) : State :=
  match (s.line i).state, (s.line i).slot with
  | .free, _ => s
  | .screening, _ =>
    let t := abortMeasure i s
    t.setLine i (t.line i).freed
  | .held, _ => raiseQueue ((leaveQueue i s).setLine i (s.line i).freed)
  | .onAir, some k => hangUp i k s
  | .onAir, none => s.setLine i (s.line i).freed

/-- LINE DOWN's owner (R102). -/
def lineDownOwner (ps : List Byte) (s : State) : Reply :=
  match lineOf (byteAt ps 0) with
  | none => .refuse .badParam
  | some i => .ok (lineDown i s) .none

/-- The measurement target of LINE MEASURE (R103). -/
def measureTarget (ps : List Byte) : Nat :=
  if ps.length = 4 then max 1 (min (u24At ps 1) 8388607) else 4194304

/-- LINE MEASURE's owner (R103). -/
def lineMeasureOwner (ps : List Byte) (s : State) : Reply :=
  match lineOf (byteAt ps 0) with
  | none => .refuse .badParam
  | some i =>
    if s.callers.measure.isSome then .refuse .busy
    else if (s.line i).state ≠ .screening then .refuse .notFound
    else .ok { s with callers := { s.callers with measure := some ⟨i, measureTarget ps, 0, 0⟩ } } .none

/-- A priority 0..3. -/
def priorityOf (b : Byte) : Option Nat := if b.toNat ≤ 3 then some b.toNat else none

/-- A tag text of at most 24 characters; none of its characters is taken as absent (R107). -/
def tagTextOf (ps : List Byte) : Option (Option (List Byte)) :=
  if ps.length ≤ 24 ∧ ps.all isText then some (if ps.isEmpty then none else some ps) else none

/-- The line, priority and tag text of CALLER ADMIT and CALLER UPDATE (R107, R108). -/
def callerOf (ps : List Byte) : Option (PhoneLine × Nat × Option (List Byte)) := do
  let i ← lineOf (byteAt ps 0)
  let p ← priorityOf (byteAt ps 1)
  let t ← tagTextOf (ps.drop 2)
  some (i, p, t)

/-- A SCREENING line is admitted (R107). -/
def admitLine (i : PhoneLine) (priority : Nat) (tag : Option (List Byte)) (s : State) : State :=
  let t := abortMeasure i s
  raiseQueue (joinQueue i (t.setLine i { t.line i with state := .held, priority := some priority, tag := tag }))

/-- CALLER ADMIT's owner (R107). -/
def callerAdmitOwner (ps : List Byte) (s : State) : Reply :=
  match callerOf ps with
  | none => .refuse .badParam
  | some (i, p, t) => match (s.line i).state with
    | .free => .refuse .notFound
    | .screening => .ok (admitLine i p t s) .none
    | _ => .refuse .inUse

/-- A HELD line takes a priority and tag text and is placed again (R108). -/
def updateCaller (i : PhoneLine) (priority : Nat) (tag : Option (List Byte)) (s : State) : State :=
  let t := placeLine i (leaveQueue i (s.setLine i { s.line i with priority := some priority, tag := tag }))
  if t.callers.queue = s.callers.queue then t else raiseQueue t

/-- CALLER UPDATE's owner (R108). -/
def callerUpdateOwner (ps : List Byte) (s : State) : Reply :=
  match callerOf ps with
  | none => .refuse .badParam
  | some (i, p, t) => if (s.line i).state = .held then .ok (updateCaller i p t s) .none else .refuse .notFound

/-- A HELD line goes back to SCREENING (R109). -/
def withdraw (i : PhoneLine) (s : State) : State :=
  raiseQueue ((leaveQueue i s).setLine i { s.line i with state := .screening, number := none, priority := none })

/-- CALLER WITHDRAW's owner (R109). -/
def callerWithdrawOwner (ps : List Byte) (s : State) : Reply :=
  match lineOf (byteAt ps 0) with
  | none => .refuse .badParam
  | some i => if (s.line i).state = .held then .ok (withdraw i s) .none else .refuse .notFound

/-- QUEUE READ's owner (R110). -/
def queueReadOwner (s : State) : Reply :=
  .ok s (.callerQueue ⟨s.callers.lines, s.callers.queue, s.callers.slots, s.callers.measure, s.callers.nextNumber,
    s.sup.settings.safeTake⟩)

-- the meanings

/-- CALLER TAKE NEXT (R112, R113). -/
def execCallerTakeNext (l : Link) (ps : List Byte) (s : State) : Host.Outcome State Fault Refusal :=
  .next (command l 0x38 ps takeNext s)

/-- CALLER TAKE LINE (R112, R113). -/
def execCallerTakeLine (l : Link) (ps : List Byte) (s : State) : Host.Outcome State Fault Refusal :=
  .next (command l 0x39 ps (takeLineOwner ps) s)

/-- CALLER RELEASE (R114). -/
def execCallerRelease (l : Link) (ps : List Byte) (s : State) : Host.Outcome State Fault Refusal :=
  .next (command l 0x3A ps (callerReleaseOwner ps) s)

/-- LINE CONNECT (R101). -/
def execLineConnect (l : Link) (ps : List Byte) (s : State) : Host.Outcome State Fault Refusal :=
  .next (command l 0x50 ps (lineConnectOwner ps) s)

/-- LINE DOWN (R102). -/
def execLineDown (l : Link) (ps : List Byte) (s : State) : Host.Outcome State Fault Refusal :=
  .next (command l 0x51 ps (lineDownOwner ps) s)

/-- LINE MEASURE (R103). -/
def execLineMeasure (l : Link) (ps : List Byte) (s : State) : Host.Outcome State Fault Refusal :=
  .next (command l 0x52 ps (lineMeasureOwner ps) s)

/-- CALLER ADMIT (R107). -/
def execCallerAdmit (l : Link) (ps : List Byte) (s : State) : Host.Outcome State Fault Refusal :=
  .next (command l 0x53 ps (callerAdmitOwner ps) s)

/-- CALLER UPDATE (R108). -/
def execCallerUpdate (l : Link) (ps : List Byte) (s : State) : Host.Outcome State Fault Refusal :=
  .next (command l 0x54 ps (callerUpdateOwner ps) s)

/-- CALLER WITHDRAW (R109). -/
def execCallerWithdraw (l : Link) (ps : List Byte) (s : State) : Host.Outcome State Fault Refusal :=
  .next (command l 0x55 ps (callerWithdrawOwner ps) s)

/-- QUEUE READ (R110). -/
def execQueueRead (l : Link) (ps : List Byte) (s : State) : Host.Outcome State Fault Refusal :=
  .next (command l 0x56 ps queueReadOwner s)

end Sys2Proof.Machine
end

