-- ==== Sys2Proof/Machine/AlertCommands.lean ====
section
/-! DEFINITION. The alert commands (chapter 07: R124 to R126, R128, R138, R144, R146). -/

namespace Sys2Proof.Machine

/-- A record is taking the decoder's audio (R122): RECEIVING, or cut-through and AIRING. -/
def AlertRecord.taking (r : AlertRecord) : Bool :=
  decide (r.phase = .receiving) || (r.cutThrough && decide (r.phase = .airing))

/-- An active record that `p` picks out. -/
def State.anyRecord (s : State) (p : AlertRecord → Bool) : Bool :=
  alertSlots.any fun k => match s.record k with
    | some r => p r
    | none => false

/-- The lowest-numbered free alert record slot (R122). -/
def State.freeAlertSlot (s : State) : Option AlertSlot := alertSlots.find? fun k => (s.record k).isNone

/-- The record that a newcomer of a class would evict (R125): the tail of the alert queue, when it ranks lower. -/
def State.evictable (s : State) (cls : AlertClass) : Option AlertSlot :=
  match s.alerts.queue.getLast? with
  | some k => match s.record k with
    | some r => if r.cls.rank < cls.rank then some k else none
    | none => none
  | none => none

/-- The checks of ALERT BEGIN after its parameters (R124). -/
def arrivalRefused (a : Arrival) (s : State) : Option Status :=
  let same (r : AlertRecord) : Bool := decide (r.id = a.id) && decide (r.origin = a.origin)
  let other (r : AlertRecord) : Bool := decide (r.id = a.id) && decide (r.origin ≠ a.origin)
  if s.anyRecord same || s.alerts.history.any same then some .duplicate
  else if s.anyRecord other || (s.alerts.history.any other && decide (0 < s.delay.alertSegs)) then some .inUse
  else if s.anyRecord AlertRecord.taking then some .busy
  else if s.freeAlertSlot.isNone && (s.evictable a.cls).isNone then some .full
  else none

/-- Room is made for a newcomer by eviction when all four slots are taken (R125). -/
def makeRoom (cls : AlertClass) (s : State) : State :=
  if s.freeAlertSlot.isSome then s
  else match s.evictable cls with
    | some k => finish k .discarded (discardAlertClip k s)
    | none => s

/-- The record an arrival creates (R121, R126); a captured one names its slot with no segment captured yet. -/
def Arrival.record (a : Arrival) (k : AlertSlot) (cutThrough : Bool) : AlertRecord where
  id := a.id
  origin := a.origin
  event := a.event
  cls := a.cls
  areas := a.areas
  valid := a.valid
  phase := if cutThrough then .airing else .receiving
  cutThrough := cutThrough
  truncated := false
  damaged := false
  clip := if cutThrough then none else some (k, 0)
  firstSeq := none
  lastSeq := none
  age := 0
  hold := 0
  overdue := false
  airBlocks := 0
  framesSent := 0
  clean := false
  confirm := 0

/-- An arrival takes slot `k` (R126): by cut-through when it is IMMEDIATE and no record is AIRING, else captured. -/
def arrive (a : Arrival) (k : AlertSlot) (s : State) : Reply :=
  let through := decide (a.cls = .immediate) && s.airing.isNone
  let t := raiseAlertState k (s.setRecord k (some (a.record k through)))
  .ok (if through then takeover k none t else startAlertCapture k t) (.alertTaken k through)

/-- ALERT BEGIN's owner (R124 to R126). -/
def alertBeginOwner (ps : List Byte) (s : State) : Reply :=
  if !s.onAir then .refuse .notNow
  else match arrivalOf ps with
    | none => .refuse .badParam
    | some a => match arrivalRefused a s with
      | some c => .refuse c
      | none =>
        let t := makeRoom a.cls s
        match t.freeAlertSlot with
        | some k => arrive a k t
        | none => .refuse .full

/-- The slot of the active record with an id (R122). -/
def State.slotOfAlert (s : State) (id : Nat) : Option AlertSlot :=
  alertSlots.find? fun k => match s.record k with
    | some r => decide (r.id = id)
    | none => false

/-- The decoder says the audio of a record has ended (R128). -/
def alertAudioEnd (k : AlertSlot) (s : State) : State :=
  match s.record k with
  | some r => match r.phase, r.cutThrough with
    | .receiving, _ => endAlertCapture false s
    | .airing, true => endAiring k false s
    | _, _ => s
  | none => s

/-- ALERT AUDIO END's owner (R128). -/
def alertAudioEndOwner (ps : List Byte) (s : State) : Reply :=
  if u16At ps 0 = 0 then .refuse .badParam
  else match s.slotOfAlert (u16At ps 0) with
    | some k => .ok (alertAudioEnd k s) .none
    | none => .refuse .notFound

/-- Link C may not cancel a mandatory record (R138). -/
def cancelForbidden (l : Link) (k : AlertSlot) (s : State) : Bool :=
  decide (l = .C) && match s.record k with
    | some r => r.cls.mandatory
    | none => false

/-- ALERT CANCEL's owner (R138). -/
def alertCancelOwner (l : Link) (ps : List Byte) (s : State) : Reply :=
  if u16At ps 0 = 0 then .refuse .badParam
  else match s.slotOfAlert (u16At ps 0) with
    | none => .refuse .notFound
    | some k => if cancelForbidden l k s then .refuse .notPermitted else .ok (cancelRecord k s) .none

-- reading (R144)

/-- The place of a slot in the alert queue, from 1. -/
def State.queuePlace (s : State) (k : AlertSlot) : Option Nat :=
  (s.alerts.queue.findIdx? fun j => decide (j = k)).map (· + 1)

/-- The active slots in the order of ALERT READ's summary (R144). -/
def State.summarySlots (s : State) : List AlertSlot :=
  alertSlots.filter (s.inPhase .airing) ++ alertSlots.filter (s.inPhase .receiving) ++ s.alerts.queue ++
    alertSlots.filter (s.inPhase .confirming)

/-- ALERT READ's summary of the active records (R144). -/
def State.alertSummary (s : State) : Result :=
  .alertSummary (s.summarySlots.filterMap fun k => (s.record k).map fun r => ⟨r.id, r.origin, k, r.cls, r.phase⟩)
    s.alerts.settings

/-- The fields of a record, without its bookkeeping (R121). -/
def AlertRecord.fields (r : AlertRecord) : AlertFields :=
  ⟨r.id, r.origin, r.event, r.cls, r.areas, r.valid, r.phase, r.cutThrough, r.truncated, r.damaged, r.clip, r.firstSeq,
    r.lastSeq⟩

/-- ALERT READ's owner (R144). Of two history records with the id, which R124 allows when their origins differ, it
returns the newer; R144 does not say which (log entry 43). ALERT HISTORY READ returns the whole record. -/
def alertReadOwner (ps : List Byte) (s : State) : Reply :=
  let id := u16At ps 0
  if id = 0 then .ok s s.alertSummary
  else match (s.slotOfAlert id).bind fun k => (s.record k).map fun r => (k, r) with
    | some (k, r) => .ok s (.alertRecord r (some k) (s.queuePlace k))
    | none => match s.alerts.history.find? fun r => decide (r.id = id) with
      | some r => .ok s (.finishedAlert r.fields)
      | none => .refuse .notFound

/-- ALERT HISTORY READ's owner (R144). -/
def alertHistoryReadOwner (ps : List Byte) (s : State) : Reply :=
  let index := (byteAt ps 0).toNat
  if 8 < index then .refuse .badParam
  else if index = 0 then .ok s (.historySummary (s.alerts.history.map fun r => ⟨r.id, r.origin, r.cls, r.phase⟩))
  else match s.alerts.history[index - 1]? with
    | some r => .ok s (.alertRecord r none none)
    | none => .refuse .notFound

/-- The alert settings replaced. -/
def State.setAlertSettings (s : State) (c : AlertSettings) : State := { s with alerts := { s.alerts with settings := c } }

/-- ALERT SETTINGS SET's owner (R146). -/
def alertSettingsSetOwner (ps : List Byte) (s : State) : Reply :=
  match alertSettingsOf ps with
  | some c => .ok (s.setAlertSettings c) .none
  | none => .refuse .badParam

-- the meanings

/-- ALERT SETTINGS SET (R146). -/
def execAlertSettingsSet (l : Link) (ps : List Byte) (s : State) : Host.Outcome State Fault Refusal :=
  .next (command l 0x3B ps (alertSettingsSetOwner ps) s)

/-- ALERT CANCEL (R138). -/
def execAlertCancel (l : Link) (ps : List Byte) (s : State) : Host.Outcome State Fault Refusal :=
  .next (command l 0x48 ps (alertCancelOwner l ps) s)

/-- ALERT BEGIN (R124 to R126). -/
def execAlertBegin (l : Link) (ps : List Byte) (s : State) : Host.Outcome State Fault Refusal :=
  .next (command l 0x60 ps (alertBeginOwner ps) s)

/-- ALERT AUDIO END (R128). -/
def execAlertAudioEnd (l : Link) (ps : List Byte) (s : State) : Host.Outcome State Fault Refusal :=
  .next (command l 0x61 ps (alertAudioEndOwner ps) s)

/-- ALERT READ (R144). -/
def execAlertRead (l : Link) (ps : List Byte) (s : State) : Host.Outcome State Fault Refusal :=
  .next (command l 0x62 ps (alertReadOwner ps) s)

/-- ALERT HISTORY READ (R144). -/
def execAlertHistoryRead (l : Link) (ps : List Byte) (s : State) : Host.Outcome State Fault Refusal :=
  .next (command l 0x63 ps (alertHistoryReadOwner ps) s)

end Sys2Proof.Machine
end

