-- ==== Sys2Proof/Machine/SettingsCommands.lean ====
section
/-! DEFINITION. The settings commands of link C (R35, R161, R169, R177, R178, R206, R207). -/

namespace Sys2Proof.Machine

/-- The supervision settings replaced. -/
def State.setSupervision (s : State) (c : SupervisionSettings) : State := { s with sup := { s.sup with settings := c } }

/-- SUPERVISION SET's owner (R169). -/
def supervisionSetOwner (ps : List Byte) (s : State) : Reply :=
  match supervisionSettingsOf ps with
  | some c => .ok (s.setSupervision c) (.supervision c)
  | none => .refuse .badParam

/-- PANEL CONFIGURE's owner (R177). -/
def panelConfigureOwner (ps : List Byte) (s : State) : Reply :=
  match panelSettingsOf ps with
  | some c => .ok (configurePanel c s) .none
  | none => .refuse .badParam

/-- PANEL OUTPUT SET's owner (R178). -/
def panelOutputSetOwner (ps : List Byte) (s : State) : Reply :=
  match panelLineOf (byteAt ps 0), switchOf (byteAt ps 1) with
  | some n, some on =>
    if (s.panelConfig n).direction = .output ∧ (s.panelConfig n).function = .general then
      .ok (s.setPanelLine n { s.panelLine n with general := on }) .none
    else .refuse .notFound
  | _, _ => .refuse .badParam

/-- A new R and A_res lie in their ranges (R35). -/
def memoryInRange (ring reserve : Nat) : Bool :=
  decide (259 ≤ ring) && decide (ring ≤ 4003) && decide (reserve ≤ min 12000 (Config.segments - ring))

/-- What the pool holds forbids the change (R35). -/
def memoryInUse (ring reserve : Nat) (s : State) : Bool :=
  if ring = s.mem.ring then decide (s.mem.pool - reserve < s.mem.general)
  else decide (0 < s.mem.general) || decide (0 < s.mem.alertCount) || (s.channel 0).isSome || (s.channel 1).isSome

/-- A change of R, its silent fill still to come (R35, R39). -/
def changeRing (ring reserve : Nat) (s : State) : State :=
  { s with
    mem := s.mem.rebuild ring reserve
    delay := { s.delay with writeHead := 0, target := min s.delay.target (ring - 3) } }

/-- MEMORY SETTINGS SET's owner (R35). -/
def memorySettingsSetOwner (ps : List Byte) (s : State) : Reply :=
  let ring := u16At ps 0
  let reserve := u16At ps 2
  if !memoryInRange ring reserve then .refuse .badParam
  else if memoryInUse ring reserve s then .refuse .inUse
  else if ring = s.mem.ring then .ok { s with mem := { s.mem with reserve := reserve } } .none
  else .later (changeRing ring reserve s)

/-- The link settings replaced. -/
def State.setLinkSettings (s : State) (c : LinkSettings) : State := { s with tx := { s.tx with settings := c } }

/-- LINK SETTINGS SET's owner (R161). -/
def linkSettingsSetOwner (ps : List Byte) (s : State) : Reply :=
  match linkSettingsOf ps with
  | some c => .ok (s.setLinkSettings c) .none
  | none => .refuse .badParam

/-- PROFILE PROGRAM's owner (R206). -/
def profileProgramOwner (ps : List Byte) (s : State) : Reply :=
  match ratesOf ps with
  | none => .refuse .badParam
  | some rates =>
    if s.prof.isWriting then .refuse .busy
    else match s.prof.nextFree with
      | none => .refuse .full
      | some i => .ok { s with prof := { s.prof with
          gens := s.prof.gens.set i (.writing (s.inUse rates) 0) } } .none

/-- PROFILE READ's owner (R207). -/
def profileReadOwner (ps : List Byte) (s : State) : Reply :=
  let n := (byteAt ps 0).toNat
  if n = 0 then .ok s (.profileStates s.prof.loaded (Vector.ofFn fun i : Fin 4 => s.prof.gens[i].state))
  else if h : n - 1 < 4 then
    match s.prof.gens[n - 1] with
    | .written c crc => .ok s (.profileContents c (decide (c.crc = crc)))
    | _ => .refuse .notFound
  else .refuse .badParam

-- the meanings

/-- SUPERVISION SET (R169). -/
def execSupervisionSet (l : Link) (ps : List Byte) (s : State) : Host.Outcome State Fault Refusal :=
  .next (command l 0x3C ps (supervisionSetOwner ps) s)

/-- PANEL CONFIGURE (R177). -/
def execPanelConfigure (l : Link) (ps : List Byte) (s : State) : Host.Outcome State Fault Refusal :=
  .next (command l 0x3D ps (panelConfigureOwner ps) s)

/-- PANEL OUTPUT SET (R178). -/
def execPanelOutputSet (l : Link) (ps : List Byte) (s : State) : Host.Outcome State Fault Refusal :=
  .next (command l 0x3E ps (panelOutputSetOwner ps) s)

/-- MEMORY SETTINGS SET (R35). -/
def execMemorySettingsSet (l : Link) (ps : List Byte) (s : State) : Host.Outcome State Fault Refusal :=
  .next (command l 0x3F ps (memorySettingsSetOwner ps) s)

/-- LINK SETTINGS SET (R161). -/
def execLinkSettingsSet (l : Link) (ps : List Byte) (s : State) : Host.Outcome State Fault Refusal :=
  .next (command l 0x40 ps (linkSettingsSetOwner ps) s)

/-- PROFILE PROGRAM (R206). -/
def execProfileProgram (l : Link) (ps : List Byte) (s : State) : Host.Outcome State Fault Refusal :=
  .next (command l 0x41 ps (profileProgramOwner ps) s)

/-- PROFILE READ (R207). -/
def execProfileRead (l : Link) (ps : List Byte) (s : State) : Host.Outcome State Fault Refusal :=
  .next (command l 0x42 ps (profileReadOwner ps) s)

end Sys2Proof.Machine
end

