-- ==== Sys2Proof/Machine/EventRows.lean ====
section
/-! DEFINITION. The rows of the table that are not frames of a control link: supplies, resets, clocks, the boundaries,
status frames, and the events that boundaries find due. -/

namespace Sys2Proof.Machine

/-- A status frame's eight bytes are taken (R156 to R159): a status when they check, after what the last boundary found of
the link, else an invalid one. Status frames arrive in STANDBY and ON_AIR. -/
def receiveStatus (b : Vector Byte 8) (s : State) : State :=
  if s.live then
    match parseStatus b with
    | some st => takeStatus st (settleLink s)
    | none => countBadStatus s
  else s

/-- Bytes that end as an invalid status frame (R156): fewer than eight, or eight that fail their CRC; any others are
no such frame, and nothing changes. Whatever part of the start marker has come, none included, the row counts as a frame
that broke off (log entry 47). -/
def receiveInvalidStatus (bs : List Byte) (s : State) : State :=
  if s.live then
    if h : bs.length = 8 then
      match parseStatus ⟨⟨bs⟩, h⟩ with
      | some _ => s
      | none => countBadStatus s
    else if bs.length < 8 then countBadStatus s
    else s
  else s

/-- A due event is taken by its row, while the part is out of POWER_UP. -/
def takeRow (d : Due) (s : State) : State := if s.live then take d s else s

/-- A write of the profile that the last boundary found complete stands (R206), whatever the supplies or RESET do then. -/
def settleWrite (s : State) : State := takeRow .profileDone s

/-- POWER ON (R200). -/
def execPowerOn (s : State) : Host.Outcome State Fault Refusal := .next (beginPowerUp .powerOn (settleWrite s))

/-- HARDWARE RESET (R200): the RESET line returns high; without supplies nothing happens. -/
def execHardwareReset (s : State) : Host.Outcome State Fault Refusal :=
  .next (if s.dev.supply = .failed then s else beginPowerUp .hardware (settleWrite s))

/-- POWER UP END (R200). -/
def execPowerUpEnd (s : State) : Host.Outcome State Fault Refusal := .next (endPowerUp s)

/-- POWER LOSS (R206): all activity stops, and a generation being written is left WRITING. -/
def execPowerLoss (s : State) : Host.Outcome State Fault Refusal :=
  .next (stopAll { settleWrite s with dev := { s.dev with supply := .failed } })

/-- RESET LINE LOW (R200, R203): the part stops at once, and a profile write is broken off. -/
def execResetLineLow (s : State) : Host.Outcome State Fault Refusal :=
  .next (if s.dev.supply = .failed then s
    else
      let t := settleWrite s
      stopAll { t with dev := { t.dev with supply := .resetLow }, prof := t.prof.broken })

/-- INPUT BLOCK BOUNDARY (R7). -/
def execInputBlockBoundary (env : InputBoundary) (s : State) : Host.Outcome State Fault Refusal :=
  .next (inputBoundary env s)

/-- OUTPUT BLOCK BOUNDARY (R50). -/
def execOutputBlockBoundary (env : OutputBoundary) (s : State) : Host.Outcome State Fault Refusal :=
  .next (outputBoundary env s)

/-- CLOCK LOST (R3), after what the last boundary found of the clock source (R4). -/
def execClockLost (arrived : Nat) (s : State) : Host.Outcome State Fault Refusal :=
  .next (loseClock arrived (takeRow .clockRestored s))

/-- CLOCK RESTORED (R4). -/
def execClockRestored (s : State) : Host.Outcome State Fault Refusal := .next (takeRow .clockRestored s)

/-- STATUS FRAME (R157). -/
def execStatusFrame (b : Vector Byte 8) (s : State) : Host.Outcome State Fault Refusal := .next (receiveStatus b s)

/-- INVALID STATUS FRAME (R156). -/
def execInvalidStatusFrame (bs : List Byte) (s : State) : Host.Outcome State Fault Refusal :=
  .next (receiveInvalidStatus bs s)

/-- STATUS AGE LIMIT (R159). -/
def execStatusAgeLimit (s : State) : Host.Outcome State Fault Refusal := .next (takeRow .statusAgeLimit s)

/-- LINK TIMEOUT (R159). -/
def execLinkTimeout (s : State) : Host.Outcome State Fault Refusal := .next (takeRow .linkTimeout s)

/-- FADE COMPLETE (R7). -/
def execFadeComplete (c : Contributor) (s : State) : Host.Outcome State Fault Refusal :=
  .next (takeRow (.fadeComplete c) s)

/-- MEASURE DONE (R104). -/
def execMeasureDone (s : State) : Host.Outcome State Fault Refusal := .next (takeRow .measureDone s)

/-- CAPTURE MAX LENGTH (R61). -/
def execCaptureMaxLength (ch : Channel) (s : State) : Host.Outcome State Fault Refusal :=
  .next (takeRow (.captureMaxLength ch) s)

/-- ALERT CAPTURE FULL (R64). -/
def execAlertCaptureFull (s : State) : Host.Outcome State Fault Refusal := .next (takeRow .alertCaptureFull s)

/-- LIVE ALERT LIMIT (R134). -/
def execLiveAlertLimit (s : State) : Host.Outcome State Fault Refusal := .next (takeRow .liveAlertLimit s)

/-- DURATION LIMIT (R89). -/
def execDurationLimit (v : Voice) (s : State) : Host.Outcome State Fault Refusal :=
  .next (takeRow (.durationLimit v) s)

/-- END FADE START (R87, R88). -/
def execEndFadeStart (v : Voice) (s : State) : Host.Outcome State Fault Refusal := .next (takeRow (.endFadeStart v) s)

/-- CANCEL WINDOW CLOSE (R97). -/
def execCancelWindowClose (s : State) : Host.Outcome State Fault Refusal := .next (takeRow .cancelWindowClose s)

/-- ALERT EXPIRY (R129). -/
def execAlertExpiry (k : AlertSlot) (s : State) : Host.Outcome State Fault Refusal := .next (takeRow (.alertExpiry k) s)

/-- HOLD LIMIT REACHED (R131). -/
def execHoldLimitReached (k : AlertSlot) (s : State) : Host.Outcome State Fault Refusal :=
  .next (takeRow (.holdLimitReached k) s)

/-- CONFIRM WINDOW EXPIRY (R141). -/
def execConfirmWindowExpiry (k : AlertSlot) (s : State) : Host.Outcome State Fault Refusal :=
  .next (takeRow (.confirmWindowExpiry k) s)

/-- SILENCE WINDOW (R165, R166). -/
def execSilenceWindow (s : State) : Host.Outcome State Fault Refusal := .next (takeRow .silenceWindow s)

/-- FILL ANSWER (R166). -/
def execFillAnswer (s : State) : Host.Outcome State Fault Refusal := .next (takeRow .fillAnswer s)

/-- PROFILE DONE (R206). -/
def execProfileDone (s : State) : Host.Outcome State Fault Refusal := .next (takeRow .profileDone s)

end Sys2Proof.Machine
end

