-- ==== Sys2Proof/Machine/Dispatch.lean ====
section
/-! DEFINITION. The meaning of every command: one arm per constructor of `Instr`. -/

namespace Sys2Proof.Machine

/-- A command's effect on everything but the queue. -/
def exec (i : Instr) (s : State) : Host.Outcome State Fault Refusal :=
  match i with
  | .identify l ps => Sys2Proof.Machine.execIdentify l ps s
  | .statusRead l ps => Sys2Proof.Machine.execStatusRead l ps s
  | .eventsRead l ps => Sys2Proof.Machine.execEventsRead l ps s
  | .eventsAcknowledge l ps => Sys2Proof.Machine.execEventsAcknowledge l ps s
  | .eventMaskSet l ps => Sys2Proof.Machine.execEventMaskSet l ps s
  | .clipCaptureStart l ps => Sys2Proof.Machine.execClipCaptureStart l ps s
  | .clipCaptureStop l ps => Sys2Proof.Machine.execClipCaptureStop l ps s
  | .clipDelete l ps => Sys2Proof.Machine.execClipDelete l ps s
  | .clipRead l ps => Sys2Proof.Machine.execClipRead l ps s
  | .clipRoleSet l ps => Sys2Proof.Machine.execClipRoleSet l ps s
  | .cueAppend l ps => Sys2Proof.Machine.execCueAppend l ps s
  | .cueInsert l ps => Sys2Proof.Machine.execCueInsert l ps s
  | .cueRemove l ps => Sys2Proof.Machine.execCueRemove l ps s
  | .cueClear l ps => Sys2Proof.Machine.execCueClear l ps s
  | .cueListRead l ps => Sys2Proof.Machine.execCueListRead l ps s
  | .streamRelease l ps => Sys2Proof.Machine.execStreamRelease l ps s
  | .cueGo l ps => Sys2Proof.Machine.execCueGo l ps s
  | .cueStop l ps => Sys2Proof.Machine.execCueStop l ps s
  | .airStart l ps => Sys2Proof.Machine.execAirStart l ps s
  | .airStop l ps => Sys2Proof.Machine.execAirStop l ps s
  | .softReset l ps => Sys2Proof.Machine.execSoftReset l ps s
  | .delayTargetSet l ps => Sys2Proof.Machine.execDelayTargetSet l ps s
  | .dump l ps => Sys2Proof.Machine.execDump l ps s
  | .delaySettingsSet l ps => Sys2Proof.Machine.execDelaySettingsSet l ps s
  | .studioSet l ps => Sys2Proof.Machine.execStudioSet l ps s
  | .slotGainSet l ps => Sys2Proof.Machine.execSlotGainSet l ps s
  | .callerTakeNext l ps => Sys2Proof.Machine.execCallerTakeNext l ps s
  | .callerTakeLine l ps => Sys2Proof.Machine.execCallerTakeLine l ps s
  | .callerRelease l ps => Sys2Proof.Machine.execCallerRelease l ps s
  | .alertSettingsSet l ps => Sys2Proof.Machine.execAlertSettingsSet l ps s
  | .supervisionSet l ps => Sys2Proof.Machine.execSupervisionSet l ps s
  | .panelConfigure l ps => Sys2Proof.Machine.execPanelConfigure l ps s
  | .panelOutputSet l ps => Sys2Proof.Machine.execPanelOutputSet l ps s
  | .memorySettingsSet l ps => Sys2Proof.Machine.execMemorySettingsSet l ps s
  | .linkSettingsSet l ps => Sys2Proof.Machine.execLinkSettingsSet l ps s
  | .profileProgram l ps => Sys2Proof.Machine.execProfileProgram l ps s
  | .profileRead l ps => Sys2Proof.Machine.execProfileRead l ps s
  | .alertCancel l ps => Sys2Proof.Machine.execAlertCancel l ps s
  | .lineConnect l ps => Sys2Proof.Machine.execLineConnect l ps s
  | .lineDown l ps => Sys2Proof.Machine.execLineDown l ps s
  | .lineMeasure l ps => Sys2Proof.Machine.execLineMeasure l ps s
  | .callerAdmit l ps => Sys2Proof.Machine.execCallerAdmit l ps s
  | .callerUpdate l ps => Sys2Proof.Machine.execCallerUpdate l ps s
  | .callerWithdraw l ps => Sys2Proof.Machine.execCallerWithdraw l ps s
  | .queueRead l ps => Sys2Proof.Machine.execQueueRead l ps s
  | .alertBegin l ps => Sys2Proof.Machine.execAlertBegin l ps s
  | .alertAudioEnd l ps => Sys2Proof.Machine.execAlertAudioEnd l ps s
  | .alertRead l ps => Sys2Proof.Machine.execAlertRead l ps s
  | .alertHistoryRead l ps => Sys2Proof.Machine.execAlertHistoryRead l ps s
  | .unknownCommand l code ps => Sys2Proof.Machine.execUnknownCommand l code ps s
  | .badFrame f => Sys2Proof.Machine.execBadFrame f s
  | .frameWhileBusy l frame => Sys2Proof.Machine.execFrameWhileBusy l frame s
  | .frameAbandoned l bytes cause => Sys2Proof.Machine.execFrameAbandoned l bytes cause s
  | .responseSent l => Sys2Proof.Machine.execResponseSent l s
  | .softResetMade => Sys2Proof.Machine.execSoftResetMade s
  | .silentFillComplete => Sys2Proof.Machine.execSilentFillComplete s
  | .powerOn => Sys2Proof.Machine.execPowerOn s
  | .hardwareReset => Sys2Proof.Machine.execHardwareReset s
  | .powerUpEnd => Sys2Proof.Machine.execPowerUpEnd s
  | .inputBlockBoundary env => Sys2Proof.Machine.execInputBlockBoundary env s
  | .outputBlockBoundary env => Sys2Proof.Machine.execOutputBlockBoundary env s
  | .clockLost arrived => Sys2Proof.Machine.execClockLost arrived s
  | .clockRestored => Sys2Proof.Machine.execClockRestored s
  | .statusFrame bytes => Sys2Proof.Machine.execStatusFrame bytes s
  | .invalidStatusFrame bytes => Sys2Proof.Machine.execInvalidStatusFrame bytes s
  | .statusAgeLimit => Sys2Proof.Machine.execStatusAgeLimit s
  | .linkTimeout => Sys2Proof.Machine.execLinkTimeout s
  | .fadeComplete c => Sys2Proof.Machine.execFadeComplete c s
  | .measureDone => Sys2Proof.Machine.execMeasureDone s
  | .captureMaxLength ch => Sys2Proof.Machine.execCaptureMaxLength ch s
  | .alertCaptureFull => Sys2Proof.Machine.execAlertCaptureFull s
  | .liveAlertLimit => Sys2Proof.Machine.execLiveAlertLimit s
  | .durationLimit v => Sys2Proof.Machine.execDurationLimit v s
  | .endFadeStart v => Sys2Proof.Machine.execEndFadeStart v s
  | .cancelWindowClose => Sys2Proof.Machine.execCancelWindowClose s
  | .alertExpiry k => Sys2Proof.Machine.execAlertExpiry k s
  | .holdLimitReached k => Sys2Proof.Machine.execHoldLimitReached k s
  | .confirmWindowExpiry k => Sys2Proof.Machine.execConfirmWindowExpiry k s
  | .silenceWindow => Sys2Proof.Machine.execSilenceWindow s
  | .fillAnswer => Sys2Proof.Machine.execFillAnswer s
  | .profileDone => Sys2Proof.Machine.execProfileDone s
  | .powerLoss => Sys2Proof.Machine.execPowerLoss s
  | .resetLineLow => Sys2Proof.Machine.execResetLineLow s

end Sys2Proof.Machine
end

