-- ==== Sys2Proof/Safety.lean ====
section
/-! DEFINITION. What a safe state is: the laws of the device that its state shows (laws 1, 3, 4, 5, 11, 13) and the
canonical form of the memory; what a safe run is; and the terms in which the statements speak. -/

namespace Sys2Proof.Safety

open Sys2Proof.Machine

/-- Law 1: E never exceeds 480·(R − 3) (R37). -/
def ExcessBounded (s : State) : Prop := s.delay.excess ≤ 480 * (s.mem.ring - 3)

/-- Law 3: the free list and the two counts add up to P (R30). -/
def PoolAccounted (s : State) : Prop :=
  s.mem.free.length + s.mem.general + s.mem.alertCount = s.mem.pool

/-- Law 4: playout clips together never hold more than P − A_res segments (R31). -/
def ReserveKept (s : State) : Prop := s.mem.general ≤ s.mem.pool - s.mem.reserve

/-- Law 5: a line is in the queue exactly when it is HELD, and in a slot exactly when it is ON_AIR (R111). -/
def LinesPlaced (s : State) : Prop :=
  ∀ i : PhoneLine,
    (i ∈ s.callers.queue ↔ (s.line i).state = .held) ∧
      ((∃ k : CallerSlot, (s.slot k).occupant = some i) ↔ (s.line i).state = .onAir)

/-- Law 11: the next link frame's number is one more, modulo 65,536, than that of the frame sent last (R152). -/
def Numbered (s : State) : Prop := ∀ f, s.tx.frame = some f → s.tx.seq = (f.seq + 1) % 65536

/-- Law 13: at most one alert record is AIRING (R133). -/
def OneAiring (s : State) : Prop :=
  ∀ j k : AlertSlot, s.inPhase .airing j = true → s.inPhase .airing k = true → j = k

/-- The sample memory has its canonical form. -/
def MemoryCanonical (s : State) : Prop := s.mem.wf = true

/-- Law 1 with what keeps it: T ≤ R − 3 (R39), and the delay is OFF with E = 0 unless the device is ON_AIR (R40). -/
def DelayBounded (s : State) : Prop :=
  ExcessBounded s ∧ s.delay.target ≤ s.mem.ring - 3 ∧
    (s.dev.state ≠ .onAir → s.delay.excess = 0 ∧ s.delay.state = .off)

/-- R23, R29, R30: every pool segment stands in the free list or has one clip as its holder, and not both, and the two counts
are the numbers of segments that playout and alert clips hold. -/
def PoolMapped (s : State) : Prop :=
  (s.mem.free ++ s.mem.held.map Prod.fst).Nodup ∧
    (∀ n, n ∈ s.mem.free ++ s.mem.held.map Prod.fst ↔ s.mem.ring ≤ n ∧ n < Config.segments) ∧
    s.mem.general = s.mem.held.countP (fun h => match h.2 with | .playout _ => true | .alert _ => false) ∧
    s.mem.alertCount = s.mem.held.countP fun h => match h.2 with | .playout _ => false | .alert _ => true

/-- Law 5 with what keeps it: each line is in the queue at most once, and a line ON_AIR names the slot that holds it
(R106, R111). -/
def LinesKept (s : State) : Prop :=
  LinesPlaced s ∧ s.callers.queue.Nodup ∧
    ∀ (i : PhoneLine) (k : CallerSlot), (s.slot k).occupant = some i ↔
      (s.line i).state = .onAir ∧ (s.line i).slot = some k

/-- `t` follows `s` in `k` steps, commands joining the queue's tail between them. -/
inductive Run : Nat → State → State → Prop where
  | done (s : State) : Run 0 s s
  | arrives {k : Nat} {s t : State} (c : Instr) : Run k { s with pending := s.pending ++ [c] } t → Run k s t
  | steps {k : Nat} {s u t : State} : step s = .next u → Run k u t → Run (k + 1) s t

-- the terms the statements use

/-- The part runs and link `l` is not busy: a frame completed on it is judged at once (R184). -/
def LinkFree (l : Link) (s : State) : Prop :=
  s.dev.supply = .running ∧ (s.link l).inFlight = none ∧ (s.link l).owed = []

/-- A frame completed on link `l` is judged at once, out of POWER_UP, whatever the last boundary left. -/
def Reaches (l : Link) (s : State) : Prop :=
  LinkFree l s ∧ (s.dev.state = .standby ∨ s.dev.state = .onAir ∧ s.sup.mode.isSome = true)

/-- No event is left to its row that the last boundary found: a command finds everything that came before it taken (log entry
4). An answer to a fill notice may still be on its way (R166). -/
def Settled (s : State) : Prop := ∀ d ∈ s.due, d = .fillAnswer

/-- The part runs, out of POWER_UP, link `l` is not busy, and nothing is left from the last boundary: a frame completed on it
is judged at once (R184), and a command marked "yes" in every column of R187 is taken. -/
def Takes (l : Link) (s : State) : Prop :=
  s.dev.supply = .running ∧ (s.dev.state = .standby ∨ s.dev.state = .onAir ∧ s.sup.mode.isSome = true) ∧
    (s.link l).inFlight = none ∧ (s.link l).owed = [] ∧ ∀ d ∈ s.due, d = .fillAnswer

/-- `s` once its link `l` has a frame answered: the receiver is HUNTING and the answer is being sent (R182, R184). -/
def answered (l : Link) (code : Nat) (st : Status) (r : Result) (s : State) : State :=
  s.modLink l fun p => { p with receiver := .hunting, inFlight := some ⟨code, some ⟨code, st, r⟩⟩ }

/-- The engine state follows the list (R79): in HELD and FILLING it stays as it is; otherwise the engine is PLAYING exactly
when an entry is, and IDLE exactly when the list is empty. -/
def EngineFollows (s : State) : Prop :=
  s.cue.state = .held ∨ s.cue.state = .filling ∨
    s.cue.state = (if s.cue.entries.any fun e => decide (e.state = .playing) then .playing
      else if s.cue.entries = [] then .idle else .armed)

/-- The hold queue stands in order: by priority, 0 first, then by admission number (R106). -/
def QueueInOrder (ls : Vector LineRecord 4) (q : List PhoneLine) : Prop :=
  q.Pairwise fun a b =>
    ls[a].priority.getD 0 < ls[b].priority.getD 0 ∨
      ls[a].priority.getD 0 = ls[b].priority.getD 0 ∧ ls[a].number.getD 0 < ls[b].number.getD 0

/-- The hold queue stands as the Caller Unit keeps it (R106): in order, its lines numbered, each below the next number, no two
alike; and the next number is far enough from 65,535 that no renumbering is due. -/
def QueueNumbered (s : State) : Prop :=
  QueueInOrder s.callers.lines s.callers.queue ∧ s.callers.nextNumber < 65534 ∧
    (∀ j ∈ s.callers.queue, ∃ n, (s.line j).number = some n ∧ n < s.callers.nextNumber) ∧
    s.callers.queue.Pairwise fun a b => (s.line a).number ≠ (s.line b).number

/-- The checks of R124 accept the alert, and slot `k` is the lowest-numbered free one (R122). -/
def AlertAccepted (a : Arrival) (k : AlertSlot) (s : State) : Prop :=
  (∀ j r, s.record j = some r → r.id ≠ a.id ∧ r.phase ≠ .receiving ∧ ¬(r.cutThrough = true ∧ r.phase = .airing)) ∧
    (∀ r ∈ s.alerts.history, r.id ≠ a.id ∨ r.origin ≠ a.origin ∧ s.delay.alertSegs = 0) ∧ s.record k = none ∧ (∀ j, j < k → (s.record j).isSome) ∧
    s.clips.alertCapture = none

/-- No record takes the air at a window check (R130): the air is not free, or the table marks no queued record for the check,
the engine view being `view`. -/
def NoneTakes (c : Check) (view : EngineState) (s : State) : Prop :=
  s.dev.state ≠ .onAir ∨ (∃ k r, s.record k = some r ∧ r.phase = .airing) ∨
    ∀ k ∈ s.alerts.queue, ∀ r, s.record k = some r → r.overdue = false ∧ match c with
      | .ordinary => r.cls ≠ .immediate ∧ (r.cls = .warning → view = .playing ∨ view = .held) ∧
        (r.cls = .test → view ≠ .idle)
      | .itemOffer => r.cls = .test
      | .markOffer => False
      | .airingEnd => r.cls = .test

/-- The queued record in slot `k` is the first that a window check gives the air, which is free (R130). -/
def TakesAir (c : Check) (view : EngineState) (k : AlertSlot) (s : State) : Prop :=
  s.dev.state = .onAir ∧ (∀ j r, s.record j = some r → r.phase ≠ .airing) ∧
    ∃ before after r, s.alerts.queue = before ++ k :: after ∧ s.record k = some r ∧
      (r.overdue = true ∨ match c with
        | .ordinary => r.cls = .immediate ∨ r.cls = .warning ∧ view ≠ .playing ∧ view ≠ .held ∨
          r.cls = .test ∧ view = .idle
        | .itemOffer => r.cls ≠ .test
        | .markOffer => True
        | .airingEnd => r.cls ≠ .test) ∧
      NoneTakes c view { s with alerts := { s.alerts with queue := before } }

/-- A boundary has found `d` due and it has not been taken (log entry 4); the part is out of POWER_UP. -/
def Found (d : Due) (s : State) : Prop := s.live = true ∧ d ∈ s.due

/-- No event is left to its row that the last output block boundary found of the link and that a status frame would have
taken first (R141, R159; log entry 4). -/
def LinkSettled (s : State) : Prop :=
  ∀ d ∈ s.due, d ≠ .statusAgeLimit ∧ d ≠ .linkTimeout ∧ ∀ k, d ≠ .confirmWindowExpiry k

/-- The event set is in ascending order, each event at most once (R188, R190). -/
def Ascending (ps : List PendingEvent) : Prop := ps.Pairwise fun a b => a.event.number < b.event.number

end Sys2Proof.Safety
end

