-- ==== Sys2Proof/WellFormed.lean ====
section
/-! DEFINITION. Well-formed commands: what the outside world can send. A frame's body holds at most 250 bytes (R182), a
checked frame with an unknown code has no row of R187, a bad length byte is 0 or above 250, and so on. The meanings
are total: they do not rely on it. -/

namespace Sys2Proof

open Sys2Proof.Machine

/-- The parameters fit the body of a frame (R182, R196). -/
def paramsFit (ps : List Byte) : Bool := decide (ps.length ≤ 249)

/-- DRAM changes name segments of the sample memory (R21). -/
def upsetsFit (us : List (Nat × Block)) : Bool := us.all fun u => decide (u.1 < Config.segments)

/-- The cause of an abandoned frame: a bad length byte is one (R182). -/
def causeFits : AbandonCause → Bool
  | .badLength b => decide (b.toNat = 0) || decide (250 < b.toNat)
  | _ => true

/-- A command that can arrive. -/
def Instr.wellFormed : Instr → Bool
  | .unknownCommand _ code ps => paramsFit ps && commandTable.all fun r => decide (r.code ≠ code.toNat)
  | .badFrame f => bodyFits f.frame.body && !framePasses f.frame.body f.frame.check
  | .frameWhileBusy _ frame => bodyFits frame.body
  | .frameAbandoned _ bs cause => decide (bs.length ≤ 252) && causeFits cause
  | .responseSent _ => true
  | .softResetMade => true
  | .silentFillComplete => true
  | .powerOn => true
  | .hardwareReset => true
  | .powerUpEnd => true
  | .inputBlockBoundary env => upsetsFit env.upsets
  | .outputBlockBoundary env => upsetsFit env.upsets
  | .clockLost n => decide (n < 480)
  | .clockRestored => true
  | .statusFrame b => (parseStatus b).isSome
  | .invalidStatusFrame bs =>
    if h : bs.length = 8 then (parseStatus ⟨⟨bs⟩, h⟩).isNone else decide (bs.length < 8)
  | .statusAgeLimit => true
  | .linkTimeout => true
  | .fadeComplete _ => true
  | .measureDone => true
  | .captureMaxLength _ => true
  | .alertCaptureFull => true
  | .liveAlertLimit => true
  | .durationLimit _ => true
  | .endFadeStart _ => true
  | .cancelWindowClose => true
  | .alertExpiry _ => true
  | .holdLimitReached _ => true
  | .confirmWindowExpiry _ => true
  | .silenceWindow => true
  | .fillAnswer => true
  | .profileDone => true
  | .powerLoss => true
  | .resetLineLow => true
  | .identify _ ps => paramsFit ps
  | .statusRead _ ps => paramsFit ps
  | .eventsRead _ ps => paramsFit ps
  | .eventsAcknowledge _ ps => paramsFit ps
  | .eventMaskSet _ ps => paramsFit ps
  | .clipCaptureStart _ ps => paramsFit ps
  | .clipCaptureStop _ ps => paramsFit ps
  | .clipDelete _ ps => paramsFit ps
  | .clipRead _ ps => paramsFit ps
  | .clipRoleSet _ ps => paramsFit ps
  | .cueAppend _ ps => paramsFit ps
  | .cueInsert _ ps => paramsFit ps
  | .cueRemove _ ps => paramsFit ps
  | .cueClear _ ps => paramsFit ps
  | .cueListRead _ ps => paramsFit ps
  | .streamRelease _ ps => paramsFit ps
  | .cueGo _ ps => paramsFit ps
  | .cueStop _ ps => paramsFit ps
  | .airStart _ ps => paramsFit ps
  | .airStop _ ps => paramsFit ps
  | .softReset _ ps => paramsFit ps
  | .delayTargetSet _ ps => paramsFit ps
  | .dump _ ps => paramsFit ps
  | .delaySettingsSet _ ps => paramsFit ps
  | .studioSet _ ps => paramsFit ps
  | .slotGainSet _ ps => paramsFit ps
  | .callerTakeNext _ ps => paramsFit ps
  | .callerTakeLine _ ps => paramsFit ps
  | .callerRelease _ ps => paramsFit ps
  | .alertSettingsSet _ ps => paramsFit ps
  | .supervisionSet _ ps => paramsFit ps
  | .panelConfigure _ ps => paramsFit ps
  | .panelOutputSet _ ps => paramsFit ps
  | .memorySettingsSet _ ps => paramsFit ps
  | .linkSettingsSet _ ps => paramsFit ps
  | .profileProgram _ ps => paramsFit ps
  | .profileRead _ ps => paramsFit ps
  | .alertCancel _ ps => paramsFit ps
  | .lineConnect _ ps => paramsFit ps
  | .lineDown _ ps => paramsFit ps
  | .lineMeasure _ ps => paramsFit ps
  | .callerAdmit _ ps => paramsFit ps
  | .callerUpdate _ ps => paramsFit ps
  | .callerWithdraw _ ps => paramsFit ps
  | .queueRead _ ps => paramsFit ps
  | .alertBegin _ ps => paramsFit ps
  | .alertAudioEnd _ ps => paramsFit ps
  | .alertRead _ ps => paramsFit ps
  | .alertHistoryRead _ ps => paramsFit ps

/-- The link, the command code and the parameter bytes of a checked frame that arrives as a command of its own (R187,
R199); none for the other rows, and for `unknownCommand` with a code that the table has, which is no such frame. -/
def Instr.frame : Instr → Option (Link × Nat × List Byte)
  | .identify l ps => some (l, 0x01, ps)
  | .statusRead l ps => some (l, 0x02, ps)
  | .eventsRead l ps => some (l, 0x03, ps)
  | .eventsAcknowledge l ps => some (l, 0x04, ps)
  | .eventMaskSet l ps => some (l, 0x05, ps)
  | .clipCaptureStart l ps => some (l, 0x10, ps)
  | .clipCaptureStop l ps => some (l, 0x11, ps)
  | .clipDelete l ps => some (l, 0x12, ps)
  | .clipRead l ps => some (l, 0x13, ps)
  | .clipRoleSet l ps => some (l, 0x14, ps)
  | .cueAppend l ps => some (l, 0x18, ps)
  | .cueInsert l ps => some (l, 0x19, ps)
  | .cueRemove l ps => some (l, 0x1A, ps)
  | .cueClear l ps => some (l, 0x1B, ps)
  | .cueListRead l ps => some (l, 0x1C, ps)
  | .streamRelease l ps => some (l, 0x1D, ps)
  | .cueGo l ps => some (l, 0x20, ps)
  | .cueStop l ps => some (l, 0x21, ps)
  | .airStart l ps => some (l, 0x30, ps)
  | .airStop l ps => some (l, 0x31, ps)
  | .softReset l ps => some (l, 0x32, ps)
  | .delayTargetSet l ps => some (l, 0x33, ps)
  | .dump l ps => some (l, 0x34, ps)
  | .delaySettingsSet l ps => some (l, 0x35, ps)
  | .studioSet l ps => some (l, 0x36, ps)
  | .slotGainSet l ps => some (l, 0x37, ps)
  | .callerTakeNext l ps => some (l, 0x38, ps)
  | .callerTakeLine l ps => some (l, 0x39, ps)
  | .callerRelease l ps => some (l, 0x3A, ps)
  | .alertSettingsSet l ps => some (l, 0x3B, ps)
  | .supervisionSet l ps => some (l, 0x3C, ps)
  | .panelConfigure l ps => some (l, 0x3D, ps)
  | .panelOutputSet l ps => some (l, 0x3E, ps)
  | .memorySettingsSet l ps => some (l, 0x3F, ps)
  | .linkSettingsSet l ps => some (l, 0x40, ps)
  | .profileProgram l ps => some (l, 0x41, ps)
  | .profileRead l ps => some (l, 0x42, ps)
  | .alertCancel l ps => some (l, 0x48, ps)
  | .lineConnect l ps => some (l, 0x50, ps)
  | .lineDown l ps => some (l, 0x51, ps)
  | .lineMeasure l ps => some (l, 0x52, ps)
  | .callerAdmit l ps => some (l, 0x53, ps)
  | .callerUpdate l ps => some (l, 0x54, ps)
  | .callerWithdraw l ps => some (l, 0x55, ps)
  | .queueRead l ps => some (l, 0x56, ps)
  | .alertBegin l ps => some (l, 0x60, ps)
  | .alertAudioEnd l ps => some (l, 0x61, ps)
  | .alertRead l ps => some (l, 0x62, ps)
  | .alertHistoryRead l ps => some (l, 0x63, ps)
  | .unknownCommand l c ps => if commandTable.any fun r => decide (r.code = c.toNat) then none else some (l, c.toNat, ps)
  | .badFrame _ => none
  | .frameWhileBusy _ _ => none
  | .frameAbandoned _ _ _ => none
  | .responseSent _ => none
  | .softResetMade => none
  | .silentFillComplete => none
  | .powerOn => none
  | .hardwareReset => none
  | .powerUpEnd => none
  | .inputBlockBoundary _ => none
  | .outputBlockBoundary _ => none
  | .clockLost _ => none
  | .clockRestored => none
  | .statusFrame _ => none
  | .invalidStatusFrame _ => none
  | .statusAgeLimit => none
  | .linkTimeout => none
  | .fadeComplete _ => none
  | .measureDone => none
  | .captureMaxLength _ => none
  | .alertCaptureFull => none
  | .liveAlertLimit => none
  | .durationLimit _ => none
  | .endFadeStart _ => none
  | .cancelWindowClose => none
  | .alertExpiry _ => none
  | .holdLimitReached _ => none
  | .confirmWindowExpiry _ => none
  | .silenceWindow => none
  | .fillAnswer => none
  | .profileDone => none
  | .powerLoss => none
  | .resetLineLow => none

end Sys2Proof
end

