-- ==== Sys2Proof/Certificates/Slice0/Obligations.lean ====
section
/-! DEFINITION. The statements for the provers: what the commands and events do, by the spec's numbered rules; the device's
laws kept by every step. -/

open Sys2Proof Sys2Proof.Machine Sys2Proof.Safety

-- the step

/-- A step takes the command at the front of the queue and runs it on the state with the queue's rest. On an empty
queue a profile that is being loaded comes to have been loaded (R181, R195), which has no row, and nothing else
changes (the model's choice, log entries 2 and 11). -/
def Obligations.StepTakesTheFront : Prop :=
  (∀ (c : Instr) (rest : List Instr) (s : State),
      step { s with pending := c :: rest } = exec c { s with pending := rest }) ∧
    ∀ s : State, step { s with pending := [] } = .next { s with
      pending := []
      dev := { s.dev with supply := if s.dev.supply = .loading then .running else s.dev.supply } }

-- control links

/-- R193: what IDENTIFY answers, on any link; nothing else changes. -/
def Sys2Proof.Claims.IdentifyAnswers : Prop :=
  ∀ (l : Link) (s : State), Takes l s → ∃ n, 1 ≤ n ∧ n ≤ 255 ∧
    exec (.identify l []) s =
      .next (answered l 0x01 .ok (.identity "USHGEN" "7320" n l s.prof.loaded (s.link l).rate) s)

/-- R194: the values of each page of STATUS READ, on any link; a page above 5 is refused BAD_PARAM; nothing else
changes. -/
def Sys2Proof.Claims.StatusReadPages : Prop :=
  ∀ (l : Link) (s : State), Takes l s →
    exec (.statusRead l [0]) s = .next (answered l 0x02 .ok (.devicePage
      { state := s.dev.state, mode := s.sup.mode, remembered := s.sup.remembered, clock := s.dev.clock,
        returnCount := s.dev.returnCount, loaded := s.prof.loaded,
        rates := #v[s.links.p.rate, s.links.c.rate, s.links.s.rate, s.links.a.rate],
        faults := #v[s.links.p.faults, s.links.c.faults, s.links.s.faults, s.links.a.faults] }) s) ∧
    exec (.statusRead l [1]) s = .next (answered l 0x02 .ok (.delayPage
      { state := s.delay.state, excess := s.delay.excess, target := s.delay.target,
        targetSamples := 480 * s.delay.target,
        safe := decide (s.delay.state = .safe) || decide (s.delay.state = .shrinking),
        alertSegs := s.delay.alertSegs, dump := s.delay.dump, settings := s.delay.settings }) s) ∧
    exec (.statusRead l [2]) s = .next (answered l 0x02 .ok (.memoryPage
      { ring := s.mem.ring, pool := 16384 - s.mem.ring, reserve := s.mem.reserve, freeLength := s.mem.free.length,
        general := s.mem.general, alertCount := s.mem.alertCount, errors := s.mem.errors,
        fallback := s.clips.fallback, tone := s.clips.tone }) s) ∧
    exec (.statusRead l [3]) s = .next (answered l 0x02 .ok (.programmePage
      { engine := s.cue.state, studioOn := s.mix.studio.active && !s.mix.studio.fadingOut,
        occupants := #v[s.callers.slots[0].occupant, s.callers.slots[1].occupant],
        queueLength := s.callers.queue.length, safeTake := s.sup.settings.safeTake,
        activeAlerts := s.alerts.records.toList.countP Option.isSome, alert := s.alerts.settings }) s) ∧
    exec (.statusRead l [4]) s = .next (answered l 0x02 .ok (.linkPage
      { state := s.tx.state, age := s.tx.age, run := s.tx.run, bad := s.tx.bad, seq := s.tx.seq,
        status := s.tx.status, mark := s.tx.mark, sent := s.tx.history.getLast?, settings := s.tx.settings }) s) ∧
    exec (.statusRead l [5]) s = .next (answered l 0x02 .ok (.panelPage
      { counter := s.sup.counter, supervision := s.sup.settings, panel := s.panel.settings,
        lines := s.panel.lines.map fun x => ⟨x.recognised, x.flag, x.general⟩ }) s) ∧
    ∀ p : Byte, 5 < p.toNat → exec (.statusRead l [p]) s = .next (answered l 0x02 .badParam .none s)

/-- R190: EVENTS READ returns each pending event of the link with its mask bit, count and values, in ascending order
when the set stands so; nothing else changes. -/
def Sys2Proof.Claims.EventsReadReturnsThePendingEvents : Prop :=
  ∀ (l : Link) (s : State), Takes l s → ∃ es : List EventLine,
    exec (.eventsRead l []) s = .next (answered l 0x03 .ok (.events es) s) ∧
    es.map (fun e => (⟨e.event, e.count⟩ : PendingEvent)) = (s.link l).events ∧
    (∀ e ∈ es, e.number = e.event.number ∧ (e.enabled = true ↔ e.number ∈ (s.link l).enabled)) ∧
    (Ascending (s.link l).events → es.Pairwise fun a b => a.number < b.number)

/-- R78, R110: CUE LIST READ answers the engine state, the number of entries, the voices, at most 8 entries from the
position asked, and in HELD the state left; QUEUE READ answers the line records, the queue, the slots, the
measurement, the next number and the SAFE-TAKE policy. Nothing changes. -/
def Sys2Proof.Claims.ListsAreRead : Prop :=
  (∀ (p : Byte) (s : State), Takes .P s → 1 ≤ p.toNat → p.toNat ≤ 32 →
    exec (.cueListRead .P [p]) s = .next (answered .P 0x1C .ok (.cueList
      { engine := s.cue.state, count := s.cue.entries.length, voiceA := s.cue.voiceA, voiceB := s.cue.voiceB,
        entries := (s.cue.entries.drop (p.toNat - 1)).take 8, stateLeft := s.cue.held.map HeldRecord.stateLeft }) s)) ∧
  ∀ s : State, Takes .S s → exec (.queueRead .S []) s = .next (answered .S 0x56 .ok (.callerQueue
    { lines := s.callers.lines, queue := s.callers.queue, slots := s.callers.slots, measure := s.callers.measure,
      nextNumber := s.callers.nextNumber, safeTake := s.sup.settings.safeTake }) s)

/-- What the reading commands of every link, CUE LIST READ and QUEUE READ answer (R78, R110, R190, R193, R194). -/
def Obligations.TheDeviceIsRead : Prop :=
  Claims.IdentifyAnswers ∧
    Claims.StatusReadPages ∧
    Claims.EventsReadReturnsThePendingEvents ∧
    Claims.ListsAreRead

/-- R188: raising an event on a link. A set in ascending order stays so; the event is pending with the values of this
occurrence and a count of 1, or one more, at most 255, than it had; every other pending event stays as it is. -/
def Sys2Proof.Claims.RaisingAnEvent : Prop :=
  ∀ (l : Link) (e : Event) (s : State), Ascending (s.link l).events →
    let es := ((raise l e s).link l).events
    Ascending es ∧
    (∀ p, p.event.number ≠ e.number → (p ∈ es ↔ p ∈ (s.link l).events)) ∧
    (∃ p ∈ es, p.event = e ∧
      ((∀ q ∈ (s.link l).events, q.event.number ≠ e.number) → p.count = 1) ∧
      ∀ q ∈ (s.link l).events, q.event.number = e.number → p.count = min 255 (q.count + 1)) ∧
    ∀ k, k ≠ l → (raise l e s).link k = s.link k

/-- R189: ATTN of a link is asserted exactly while a pending event of it is enabled, and released in POWER_UP. -/
def Sys2Proof.Claims.AttnFollowsThePendingEvents : Prop :=
  ∀ (l : Link) (s : State), s.dev.supply = .running →
    (s.dev.state = .powerUp → s.attn l = false) ∧
    (s.dev.state ≠ .powerUp →
      (s.attn l = true ↔ ∃ p ∈ (s.link l).events, p.event.number ∈ (s.link l).enabled))

/-- Events are kept pending on their link, and ATTN tells of them (R188, R189). -/
def Obligations.EventsArePendingAndSignalled : Prop :=
  Claims.RaisingAnEvent ∧
    Claims.AttnFollowsThePendingEvents

/-- R191: one pair of EVENTS ACKNOWLEDGE, on any link. A number that is not one of the link's events is refused; a
pending event is cleared when the count given is 0 or at or above its own, and otherwise keeps its values with its
count reduced; the others stay; clearing PANEL_INPUT on link C clears the panel's pending flags (R173). -/
def Sys2Proof.Claims.AcknowledgingAnEvent : Prop :=
  ∀ (l : Link) (n c : Byte) (s : State), Takes l s →
    (n.toNat ∉ linkEvents l → exec (.eventsAcknowledge l [n, c]) s = .next (answered l 0x04 .badParam .none s)) ∧
    (n.toNat ∈ linkEvents l → Ascending (s.link l).events → ∃ t, exec (.eventsAcknowledge l [n, c]) s = .next t ∧
      (∃ es, es = (s.link l).events.filterMap (fun p =>
        if p.event.number ≠ n.toNat then some p
        else if c.toNat = 0 ∨ p.count ≤ c.toNat then none
        else some { p with count := p.count - c.toNat }) ∧
        t.links = (answered l 0x04 .ok (.remaining (es.map fun p => p.event.number))
          (s.modLink l fun p => { p with events := es })).links) ∧
      (∀ i : Fin 8, t.panel.lines[i] = { s.panel.lines[i] with flag :=
        if l = .C ∧ n.toNat = 0x20 ∧ (∃ p ∈ (s.link .C).events, p.event.number = 0x20) ∧
          (∀ p ∈ (t.link .C).events, p.event.number ≠ 0x20) then false else s.panel.lines[i].flag }) ∧
      { t with links := s.links, panel := { t.panel with lines := s.panel.lines } } = s)

/-- R192: EVENT MASK SET, on any link: the events listed become enabled and the link's others disabled, the event set
stays; a number that is not one of the link's events is refused. -/
def Sys2Proof.Claims.SettingTheEventMask : Prop :=
  ∀ (l : Link) (ps : List Byte) (s : State), Takes l s → ps.length ≤ 25 →
    ((∀ b ∈ ps, b.toNat ∈ linkEvents l) → ∃ t, exec (.eventMaskSet l ps) s = .next t ∧
      (∀ n, n ∈ (t.link l).enabled ↔ n ∈ linkEvents l ∧ ∃ b ∈ ps, b.toNat = n) ∧
      t = answered l 0x05 .ok .none (s.modLink l fun p => { p with enabled := (t.link l).enabled })) ∧
    ((∃ b ∈ ps, b.toNat ∉ linkEvents l) →
      exec (.eventMaskSet l ps) s = .next (answered l 0x05 .badParam .none s))

/-- EVENTS ACKNOWLEDGE and EVENT MASK SET (R191, R192). -/
def Obligations.EventsAreAcknowledgedAndMasked : Prop :=
  Claims.AcknowledgingAnEvent ∧
    Claims.SettingTheEventMask

/-- R187: the availability table: its codes, the links of each, and the states in which a command is not taken. -/
def Sys2Proof.Claims.AvailabilityTable : Prop :=
  commandTable.map CommandRow.code =
    [0x01, 0x02, 0x03, 0x04, 0x05, 0x10, 0x11, 0x12, 0x13, 0x14, 0x18, 0x19, 0x1A, 0x1B, 0x1C, 0x1D, 0x20, 0x21,
      0x30, 0x31, 0x32, 0x33, 0x34, 0x35, 0x36, 0x37, 0x38, 0x39, 0x3A, 0x3B, 0x3C, 0x3D, 0x3E, 0x3F, 0x40, 0x41,
      0x42, 0x48, 0x50, 0x51, 0x52, 0x53, 0x54, 0x55, 0x56, 0x60, 0x61, 0x62, 0x63] ∧
  (∀ r ∈ commandTable, r.links =
    if r.code ≤ 0x05 then [.P, .C, .S, .A] else if r.code ≤ 0x1D then [.P] else if r.code ≤ 0x21 then [.P, .C]
    else if r.code ≤ 0x42 then [.C] else if r.code = 0x48 then [.C, .A] else if r.code ≤ 0x56 then [.S] else [.A]) ∧
  (∀ r ∈ commandTable, r.standby = false ↔ r.code ∈ [0x31, 0x34, 0x38, 0x39, 0x60]) ∧
  (∀ r ∈ commandTable, r.normal = false ↔ r.code ∈ [0x30, 0x3F, 0x41]) ∧
  (∀ r ∈ commandTable, r.alert = false ↔ r.code ∈ [0x30, 0x38, 0x39, 0x3F, 0x41]) ∧
  (∀ r ∈ commandTable, r.fallback = false ↔ r.code ∈ [0x30, 0x3F, 0x41])

/-- R186: UNKNOWN COMMAND, a frame whose code no row of the table has, is answered so. -/
def Sys2Proof.Claims.UnknownCommandsAreAnswered : Prop :=
  ∀ (l : Link) (code : Byte) (ps : List Byte) (s : State), LinkFree l s → Settled s → (∀ r ∈ commandTable, r.code ≠ code.toNat) →
    exec (.unknownCommand l code ps) s = .next (answered l code.toNat .unknownCommand .none s)

/-- R186: a frame of any command that fails one of the four checks is answered as the first of them gives, and nothing
else changes: an unknown code, a wrong link, a state in which the table does not take it, a wrong number of
parameter bytes. -/
def Sys2Proof.Claims.FailedChecksAreAnswered : Prop :=
  ∀ (i : Instr) (l : Link) (code : Nat) (ps : List Byte) (s : State), i.frame = some (l, code, ps) →
    LinkFree l s → Settled s →
    ((∀ r ∈ commandTable, r.code ≠ code) → exec i s = .next (answered l code .unknownCommand .none s)) ∧
    ∀ r ∈ commandTable, r.code = code →
      (l ∉ r.links → exec i s = .next (answered l code .notPermitted .none s)) ∧
      (l ∈ r.links → r.taken s = false → exec i s = .next (answered l code .notNow .none s)) ∧
      (l ∈ r.links → r.taken s = true → r.params.admits ps.length = false →
        exec i s = .next (answered l code .badParam .none s))

/-- R186, R187: the table takes a command in STANDBY, and in ON_AIR by the column of the air mode, and in POWER_UP
no command at all: a frame of any command that the table does not take then is answered NOT_NOW on a link that has
the command. -/
def Sys2Proof.Claims.CommandsAreTaken : Prop :=
  (∀ r ∈ commandTable, ∀ s : State, r.taken s = true ↔
    s.dev.state = .standby ∧ r.standby = true ∨ s.dev.state = .onAir ∧
      (s.sup.mode = some .normal ∧ r.normal = true ∨ s.sup.mode = some .alert ∧ r.alert = true ∨
        s.sup.mode = some .fallback ∧ r.fallback = true)) ∧
  ∀ (i : Instr) (l : Link) (code : Nat) (ps : List Byte) (s : State), i.frame = some (l, code, ps) →
    LinkFree l s → Settled s →
    (∃ r ∈ commandTable, r.code = code ∧ l ∈ r.links) →
    s.dev.state = .powerUp ∨ s.dev.state = .standby ∧ code ∈ [0x31, 0x34, 0x38, 0x39, 0x60] ∨
      s.dev.state = .onAir ∧ s.sup.mode.isSome ∧ code ∈ [0x30, 0x3F, 0x41] ∨
      s.dev.state = .onAir ∧ s.sup.mode = some .alert ∧ code ∈ [0x38, 0x39] →
    exec i s = .next (answered l code .notNow .none s)

/-- R199: how many parameter bytes each command takes. -/
def Sys2Proof.Claims.ParameterBytes : Prop :=
  ∀ r ∈ commandTable, ∀ n : Nat, r.params.admits n = true ↔
    if r.code = 0x04 then 2 ≤ n ∧ n ≤ 80 ∧ n % 2 = 0
    else if r.code = 0x05 then n ≤ 25
    else if r.code = 0x52 then n = 1 ∨ n = 4
    else if r.code = 0x53 ∨ r.code = 0x54 then 2 ≤ n
    else if r.code = 0x60 then 11 ≤ n ∧ (n - 11) % 6 = 0
    else (r.code, n) ∈ [(0x01, 0), (0x02, 1), (0x03, 0), (0x10, 8), (0x11, 1), (0x12, 1), (0x13, 6), (0x14, 2), (0x18, 13),
      (0x19, 14), (0x1A, 1), (0x1B, 0), (0x1C, 1), (0x1D, 1), (0x20, 0), (0x21, 0), (0x30, 0), (0x31, 0), (0x32, 0),
      (0x33, 2), (0x34, 0), (0x35, 16), (0x36, 5), (0x37, 5), (0x38, 0), (0x39, 1), (0x3A, 2), (0x3B, 6), (0x3C, 8),
      (0x3D, 25), (0x3E, 2), (0x3F, 4), (0x40, 5), (0x41, 4), (0x42, 1), (0x48, 2), (0x50, 1), (0x51, 1), (0x55, 1),
      (0x56, 0), (0x61, 2), (0x62, 2), (0x63, 1)]

/-- R61, R64, R131, R159, R165, R186: a command taken after a boundary finds every event that the boundary found taken, though
their rows have not come: it is judged, and does what it does, as if they had come first. (That an event found due waits for
its row or the next command, and the order of several, is the model's choice, log entry 4.) -/
def Sys2Proof.Claims.CommandsFollowTheBoundary : Prop :=
  ∀ (i : Instr) (l : Link) (code : Nat) (ps : List Byte) (s : State), i.frame = some (l, code, ps) → LinkFree l s →
    s.live = true → s.due.Nodup →
    Settled (settleFound s) ∧ exec i s = exec i (settleFound s) ∧
      ∀ d, s.due = [d] → d ≠ .fillAnswer → exec i s = exec i (take d s)

/-- The availability table, the parameter bytes of every command, the four checks made against them, and what a command
finds taken (R186, R187, R199). -/
def Obligations.ChecksOfEveryCommand : Prop :=
  Claims.AvailabilityTable ∧
    Claims.UnknownCommandsAreAnswered ∧
    Claims.FailedChecksAreAnswered ∧
    Claims.CommandsAreTaken ∧
    Claims.ParameterBytes ∧
    Claims.CommandsFollowTheBoundary

/-- R186: a refused command changes nothing: when the answer to a frame of any command is not OK, the state is as it was
but for the answer. (Nothing is left from the last boundary: `CommandsFollowTheBoundary` in O5 says what a command does
else.) -/
def Obligations.RefusedCommandsChangeNothing : Prop :=
  ∀ (i : Instr) (l : Link) (code : Nat) (ps : List Byte) (s t : State) (r : Response),
    i.frame = some (l, code, ps) → LinkFree l s → Settled s → exec i s = .next t → (t.link l).inFlight = some ⟨code, some r⟩ → r.status ≠ .ok →
    r.result = .none ∧ t = answered l code r.status .none s

/-- R183: a complete frame that fails its check is answered BAD_FRAME with command code 00h, on a link that is not
busy. -/
def Sys2Proof.Claims.BadFrameIsAnswered : Prop :=
  ∀ (l : Link) (body : List Byte) (check : Byte) (s : State), s.dev.supply = .running → (s.link l).inFlight = none →
    (s.link l).owed = [] → 1 ≤ body.length → body.length ≤ 250 →
    crc8 (BitVec.ofNat 8 body.length :: body) ≠ check →
    exec (.badFrame ⟨l, body, check⟩) s = .next (answered l 0 .badFrame .none s)

/-- R184: a frame completed while a link is busy joins the frames owed a short answer, with its command code when it
passes its check and the mark BAD_FRAME when it fails; when 8 already are, it is discarded and a receive fault
counted. It is handed to no block. -/
def Sys2Proof.Claims.FramesOfABusyLinkAreOwed : Prop :=
  ∀ (l : Link) (c : Byte) (ps : List Byte) (check : Byte) (s : State), s.dev.supply = .running →
    ((s.link l).inFlight.isSome = true ∨ (s.link l).owed ≠ []) → ps.length ≤ 249 →
    let passes := crc8 (BitVec.ofNat 8 (ps.length + 1) :: c :: ps) = check
    exec (.frameWhileBusy l ⟨c :: ps, check⟩) s = .next (s.modLink l fun p =>
      if p.owed.length < 8 then
        { p with
          receiver := .hunting
          owed := p.owed ++ [if passes then .command c.toNat else .badFrame] }
      else { p with receiver := .hunting, faults := min 65535 (p.faults + 1) }) ∧
    (¬passes → exec (.badFrame ⟨l, c :: ps, check⟩) s = exec (.frameWhileBusy l ⟨c :: ps, check⟩) s) ∧
    ∀ i, passes → i.frame = some (l, c.toNat, ps) → exec i s = exec (.frameWhileBusy l ⟨c :: ps, check⟩) s

/-- R184: when the response to the command in flight has been sent, the command is no longer in flight; then the
frames owed an answer leave the list as their answers are sent, head first. (SOFT RESET's response is another
statement's.) (With nothing owed the row changes nothing, log entry 5.) -/
def Sys2Proof.Claims.SentResponsesFreeTheLink : Prop :=
  ∀ (l : Link) (s : State), s.dev.supply = .running →
    (∀ f : InFlight, (s.link l).inFlight = some f → f.answer.isSome = true →
      (l = .C → f.answer ≠ some ⟨0x32, .ok, .none⟩) →
      exec (.responseSent l) s = .next (s.modLink l fun p => { p with inFlight := none })) ∧
    ((s.link l).inFlight = none →
      exec (.responseSent l) s = .next (s.modLink l fun p => { p with owed := p.owed.tail }))

/-- R183, R196: the bytes of a frame: A5h, the length of its body, the body and the CRC-8 over the two. A whole
frame that passes its check reads as the command of its code with the rest of its body as parameters, one that fails
as a bad frame, and on a busy link either as a frame completed while it is busy. -/
def Sys2Proof.Claims.FramesAreRead : Prop :=
  (∀ body : List Byte, frameOf body =
    0xA5 :: BitVec.ofNat 8 body.length :: body ++ [crc8 (BitVec.ofNat 8 body.length :: body)]) ∧
  frameOf [0x01] = [0xA5, 0x01, 0x01, 0x12] ∧
  (∀ (i : Instr) (l : Link) (code : Nat) (ps : List Byte), i.frame = some (l, code, ps) → ps.length ≤ 249 →
    readFrame false l (frameOf (BitVec.ofNat 8 code :: ps)) = some i) ∧
  ∀ (l : Link) (c : Byte) (ps : List Byte) (check : Byte), ps.length ≤ 249 →
    let bytes : List Byte := 0xA5 :: BitVec.ofNat 8 (ps.length + 1) :: c :: ps ++ [check]
    readFrame true l bytes = some (.frameWhileBusy l ⟨c :: ps, check⟩) ∧
    (crc8 (BitVec.ofNat 8 (ps.length + 1) :: c :: ps) ≠ check →
      readFrame false l bytes = some (.badFrame ⟨l, c :: ps, check⟩))

/-- R185, R196: a response is a frame whose body holds its command code, its status code and the result data, at most
250 bytes in all. (The bytes of a result that has no layout in the spec are open within that bound, log entry 8.) -/
def Sys2Proof.Claims.ResponsesFit : Prop :=
  (∀ r : Response, ∃ data : List Byte, r.frame = frameOf (BitVec.ofNat 8 r.code :: r.status.code :: data) ∧
    data.length + 2 ≤ 250 ∧ (r.result = .none → data = []) ∧
    ∀ bs, r.result = .bytes bs → bs.length ≤ 248 → data = bs) ∧
  (Owed.command 0x01).response.frame = [0xA5, 0x02, 0x01, 0x0A, 0xF5]

/-- How frames are read, and one command at a time on a link (R183 to R185, R196). -/
def Obligations.OneCommandAtATime : Prop :=
  Claims.BadFrameIsAnswered ∧
    Claims.FramesOfABusyLinkAreOwed ∧
    Claims.SentResponsesFreeTheLink ∧
    Claims.FramesAreRead ∧
    Claims.ResponsesFit

/-- R182: the receiver. From HUNTING, A5h, a length byte of 1..250 and that many bytes bring it to the check byte,
which ends the frame. After any bytes received: a gap or a bad stop bit in LENGTH or BODY, and in LENGTH a length byte
of 0 or above 250, abandon the frame: the receive fault count rises by one, staying at 65,535, and the receiver hunts;
the byte that ends a gap is taken in HUNTING. In HUNTING nothing is abandoned. (That the row brings the bytes
received, and that in HUNTING it changes no count, is the model's choice, log entries 34 and 5.) -/
def Obligations.AbandonedFramesAreCounted : Prop :=
  (∀ (n : Nat) (body : List Byte) (check : Byte), 1 ≤ n → n ≤ 250 → body.length = n →
    Receiver.hunting.bytes ([0xA5, BitVec.ofNat 8 n] ++ body) = some (.body n n) ∧
      (Receiver.body n n).byte check = some .hunting) ∧
  ∀ (l : Link) (bs : List Byte) (r : Receiver) (b : Byte) (s : State), s.dev.supply = .running →
    (s.link l).receiver.bytes bs = some r →
    (r ≠ .hunting →
      exec (.frameAbandoned l bs (.gap b)) s = .next (s.modLink l fun p =>
        { p with receiver := if b = 0xA5 then .length else .hunting, faults := min 65535 (p.faults + 1) }) ∧
      exec (.frameAbandoned l bs .badStop) s = .next (s.modLink l fun p =>
        { p with receiver := .hunting, faults := min 65535 (p.faults + 1) })) ∧
    (r = .length → b.toNat = 0 ∨ 250 < b.toNat →
      exec (.frameAbandoned l bs (.badLength b)) s = .next (s.modLink l fun p =>
        { p with receiver := .hunting, faults := min 65535 (p.faults + 1) })) ∧
    (r = .hunting →
      exec (.frameAbandoned l bs .badStop) s = .next (s.modLink l fun p => { p with receiver := .hunting }) ∧
      exec (.frameAbandoned l bs (.gap b)) s = .next (s.modLink l fun p =>
        { p with receiver := if b = 0xA5 then .length else .hunting }))

-- the air mix, the input port and the clock

/-- R8: the gains of a running fade. The first boundary gain is the start gain and the last the end gain; the last
frame of block `k` reaches the next boundary gain; every frame's gain lies between the two ends. A request with fade
length 0 makes no fade: the new gain applies flat. -/
def Obligations.FadeGainsStayBetweenTheirEnds : Prop :=
  (∀ (g0 g1 n k j : Nat) (purpose : Purpose), 1 ≤ n → n ≤ 500 → g0 ≤ 65535 → g1 ≤ 65535 → k < n → j < 480 →
    fadeGain g0 g1 n 0 = g0 ∧ fadeGain g0 g1 n n = g1 ∧
    fadeGain g0 g1 n k = g0 + (((g1 : Int) - g0) * k).tdiv n ∧
    frameGain ⟨g0, g1, n, k, purpose⟩ j = fadeGain g0 g1 n k +
      ((fadeGain g0 g1 n (k + 1) - fadeGain g0 g1 n k) * (j + 1)).tdiv 480 ∧
    frameGain ⟨g0, g1, n, k, purpose⟩ 479 = fadeGain g0 g1 n (k + 1) ∧
    (min g0 g1 : Int) ≤ frameGain ⟨g0, g1, n, k, purpose⟩ j ∧
    frameGain ⟨g0, g1, n, k, purpose⟩ j ≤ (max g0 g1 : Int)) ∧
  ∀ (c : Contributor) (b : Source) (g start j : Nat) (s : State),
    let flat (x : Contrib) : Prop := x.gain = g ∧ x.fade = none ∧ x.waiting = none ∧ x.startFade.gainAt j = g
    flat ((activate c (.source b) g 0 start s).contrib c) ∧
    ((s.contrib c).active = true → (s.contrib c).fadingOut = false → flat ((level c g 0 s).contrib c)) ∧
    ((fadeOut c 0 s).contrib c).binding = none

/-- R11, R12, R13: in every frame each channel of a sum is the sum over the contributors it takes of
⌊sample · gain / 32,768⌋ for the active ones, saturated to the sample range; the gain of a caller bound to a line is
min(65,535, ⌊slot gain · trim / 4,096⌋). ALERT is inactive (the duck is another statement's). -/
def Sys2Proof.Claims.TheSumsOfTheMix : Prop :=
  ∀ (s : State) (blocks : Contributor → Block) (without : Option Contributor) (j : Fin 480),
    s.mix.alert.binding = none →
    let gain (c : Contributor) : Nat := match s.trimOf c with
      | some t => min 65535 ((s.contrib c).gainAt j * t / 4096)
      | none => (s.contrib c).gainAt j
    let part (x : Block → Sample) (c : Contributor) : Int :=
      if (s.contrib c).binding.isSome ∧ without ≠ some c then ((x (blocks c)).toInt * gain c).fdiv 32768 else 0
    let sum (x : Block → Sample) : Int := part x .studio + part x .voiceA + part x .voiceB + part x .caller1 +
      part x .caller2
    (mixFrame s blocks without j).left.toInt = max (-8388608) (min 8388607 (sum fun b => b[j].left)) ∧
    (mixFrame s blocks without j).right.toInt = max (-8388608) (min 8388607 (sum fun b => b[j].right))

/-- R11, R12, R13, R7, R9: the three blocks that an input block boundary forms with ALERT inactive. Each source
bound brings the block just completed, each clip reader the segment at its place, silence where that fails its
check; a waiting fade has become the running one; a frame of a block is the saturated sum of the contributors it
takes, each at its gain in that frame. -/
def Sys2Proof.Claims.BlocksAreMixed : Prop :=
  ∀ (env : InputBoundary) (s : State), s.live = true → s.due = [] → env.upsets = [] → s.mix.alert.binding = none →
    ∃ (t : State) (f : Formed) (blocks : Contributor → Block), exec (.inputBlockBoundary env) s = .next t ∧
      t.formed = some f ∧
      (∀ c n, (s.contrib c).binding = some (.source n) → blocks c = t.inputs[n]) ∧
      (∀ v x g, (s.contrib (voiceContributor v)).binding = some (.clip x.clip) →
        s.clips.reader (voiceReader v) = some x → x.ended = false → x.detached = false →
        (s.segments x.clip)[x.ordinal]? = some g → blocks (voiceContributor v) =
          if segmentCheck (s.mem.read g).frames = (s.mem.read g).check then (s.mem.read g).frames else Block.silent) ∧
      f.peak = blockPeak f.pgm ∧
      let fade (c : Contributor) : Option Fade := match (s.contrib c).waiting with
        | some p => some ⟨(s.contrib c).gain, p.endGain, p.length, 0, p.purpose⟩
        | none => (s.contrib c).fade
      let gain (c : Contributor) (j : Nat) : Nat :=
        let g := match fade c with
          | some x => (frameGain x j).toNat
          | none => (s.contrib c).gain
        match s.trimOf c with
          | some trim => min 65535 (g * trim / 4096)
          | none => g
      ∀ j : Fin 480,
        let part (x : Block → Sample) (c : Contributor) : Int :=
          if (s.contrib c).binding.isSome then ((x (blocks c)).toInt * gain c j).fdiv 32768 else 0
        let clamp (x : Int) : Int := max (-8388608) (min 8388607 x)
        let left (b : Block) : Sample := b[j].left
        let right (b : Block) : Sample := b[j].right
        let rest (x : Block → Sample) : Int := part x .studio + part x .voiceA + part x .voiceB
        (f.pgm[j].left.toInt = clamp (rest left + part left .caller1 + part left .caller2) ∧
          f.pgm[j].right.toInt = clamp (rest right + part right .caller1 + part right .caller2)) ∧
        (f.minus1[j].left.toInt = clamp (rest left + part left .caller2) ∧
          f.minus1[j].right.toInt = clamp (rest right + part right .caller2)) ∧
        f.minus2[j].left.toInt = clamp (rest left + part left .caller1) ∧
          f.minus2[j].right.toInt = clamp (rest right + part right .caller1)

/-- R7, R9: how a boundary steps the fades: a waiting fade becomes the running one, from the gain the contributor
has, and every active contributor takes the gain of its block's last frame, its running fade one block further. (No
clip reader, tone, capture for an alert or panel function acts at the boundary, and the timed events it finds are
left to their rows.) -/
def Sys2Proof.Claims.FadesStep : Prop :=
  ∀ (env : InputBoundary) (s : State), s.live = true → s.due = [] → env.first = [] → env.leave = true →
    s.clips.readerA = none → s.clips.readerB = none → s.clips.readerAlert = none → s.clips.alertCapture = none →
    s.alerts.tone = none →
    (∀ n : PanelLineNo, (s.panel.settings.lines[n]).direction = .output ∨ (s.panel.settings.lines[n]).function = .none) →
    ∃ t, exec (.inputBlockBoundary env) s = .next t ∧ ∀ c,
      let x := s.contrib c
      let fade : Option Fade := match x.waiting with
        | some p => some ⟨x.gain, p.endGain, p.length, 0, p.purpose⟩
        | none => x.fade
      t.contrib c = if x.binding = none then { x with fade := fade, waiting := none } else { x with
        waiting := none
        gain := match fade with
          | some f => (frameGain f 479).toNat
          | none => x.gain
        fade := fade.map fun f => { f with done := f.done + 1 } }

/-- The sums of the mix: as operations, and at the step, with the gains of the block formed (R5, R7, R9, R11 to R13). -/
def Obligations.TheSumsOfTheMix : Prop :=
  Claims.TheSumsOfTheMix ∧
    Claims.BlocksAreMixed ∧
    Claims.FadesStep

/-- R1, R3: what an input block boundary completes. Each source's block is the frames that arrived, the mono sources S3
to S7 with their left sample in both channels; a frame that did not arrive is silence, and while the clock source is
INTERNAL every frame from the one at which the clock was lost. -/
def Sys2Proof.Claims.InputBlocksComplete : Prop :=
  ∀ (env : InputBoundary) (s : State), s.live = true → s.due = [] → ∃ t, exec (.inputBlockBoundary env) s = .next t ∧
    ∀ (n : Fin 8) (j : Fin 480), (t.inputs[n])[j] =
      if s.dev.clock = .internal ∧ s.dev.arrived ≤ j.val then Frame.silent
      else match env.bus[j] with
        | some p => if 3 ≤ n.val then ⟨(p[n]).left, (p[n]).left⟩ else p[n]
        | none => Frame.silent

/-- R3, R4: CLOCK LOST changes the clock source to INTERNAL with the return count at 0 and CLOCK_LOST raised; while
INTERNAL each boundary counts towards the return, a long absence sets the count back, and at 100 the clock source is
WORD_CLOCK again with CLOCK_RESTORED raised. (That an event found due waits to be taken is the model's choice, log
entry 4.) -/
def Sys2Proof.Claims.ClocksAreLostAndRestored : Prop :=
  (∀ (arrived : Nat) (s : State), s.live = true → arrived < 480 →
    (s.dev.clock = .wordClock → .clockRestored ∉ s.due → exec (.clockLost arrived) s = .next (raise .C .clockLost
      { s with dev := { s.dev with clock := .internal, returnCount := 0, arrived := arrived } })) ∧
    (s.due = [.clockRestored] → s.dev.clock = .internal → 100 ≤ s.dev.returnCount →
      exec (.clockLost arrived) s = .next (raise .C .clockLost (raise .C .clockRestored { s with
        due := []
        dev := { s.dev with clock := .internal, returnCount := 0, arrived := arrived } })))) ∧
  (∀ s : State, Found .clockRestored s → s.dev.clock = .internal → 100 ≤ s.dev.returnCount →
    exec .clockRestored s = .next (raise .C .clockRestored { s with
      due := s.due.erase .clockRestored
      dev := { s.dev with clock := .wordClock, returnCount := 0 } })) ∧
  ∀ (env : InputBoundary) (s : State), s.live = true → s.due = [] → env.first = [] → env.leave = false →
    s.dev.returnCount < 100 → ∃ t, exec (.inputBlockBoundary env) s = .next t ∧
      (s.dev.clock = .wordClock → t.dev = { s.dev with arrived := 0 }) ∧
      (s.dev.clock = .internal → env.clock = .throughout → s.dev.returnCount < 99 →
        t.dev = { s.dev with arrived := 0, returnCount := s.dev.returnCount + 1 }) ∧
      (s.dev.clock = .internal → env.clock = .brief → t.dev = { s.dev with arrived := 0 }) ∧
      (s.dev.clock = .internal → env.clock = .long → t.dev = { s.dev with arrived := 0, returnCount := 0 }) ∧
      (s.dev.clock = .internal → env.clock = .throughout → s.dev.returnCount = 99 →
        t.dev = { s.dev with arrived := 0, returnCount := 0, clock := .wordClock } ∧
        ∃ p ∈ (t.link .C).events, p.event = .clockRestored)

/-- The input port and the clock source (R1, R3, R4). -/
def Obligations.InputBlocksFollowTheClock : Prop :=
  Claims.InputBlocksComplete ∧
    Claims.ClocksAreLostAndRestored

/-- Law 9 (R12): MIXMINUS 1 never contains the audio of the line in caller slot 1, and MIXMINUS 2 never that of the line
in slot 2: of two boundaries that differ only in what the source bound to CALLER `k` brings, both form the same
MIXMINUS `k`, when no other contributor is bound to that source. -/
def Obligations.MixMinusNeverContainsItsCaller : Prop :=
  ∀ (env env' : InputBoundary) (s : State) (k : CallerSlot) (n : Source), s.live = true → s.due = [] →
    (s.contrib (slotContributor k)).binding = some (.source n) →
    (∀ c, c ≠ slotContributor k → (s.contrib c).binding ≠ some (.source n)) →
    { env' with bus := env.bus } = env →
    (∀ j : Fin 480, (env.bus[j]).isSome = (env'.bus[j]).isSome ∧
      ∀ p p', env.bus[j] = some p → env'.bus[j] = some p' → ∀ m : Fin 8, m ≠ n → p[m] = p'[m]) →
    ∃ t t' f f', exec (.inputBlockBoundary env) s = .next t ∧ exec (.inputBlockBoundary env') s = .next t' ∧
      t.formed = some f ∧ t'.formed = some f' ∧
      if k = 0 then f.minus1 = f'.minus1 else f.minus2 = f'.minus2

/-- Law 7 (R14): while ALERT sounds S7 live, at the gain it always has, PGM_LIVE and both mix-minus feeds are the alert
decoder's block alone, whatever the other five contributors hold. -/
def Sys2Proof.Claims.AlertSoundsAlone : Prop :=
  ∀ (env : InputBoundary) (s : State), s.live = true → s.due = [] →
    s.mix.alert = ⟨some (.source 7), 32768, 32768, none, none⟩ →
    ∃ t f, exec (.inputBlockBoundary env) s = .next t ∧ t.formed = some f ∧ f.pgm = t.inputs[7] ∧
      f.minus1 = t.inputs[7] ∧ f.minus2 = t.inputs[7] ∧ f.peak = blockPeak t.inputs[7]

/-- R14, R133, R134: while ALERT sounds a clip, the attention tone or an alert clip, PGM_LIVE and both mix-minus
feeds are the segment that its reader hands over, alone; silence where that fails its check, and where no block is
read. -/
def Sys2Proof.Claims.AlertClipsSoundAlone : Prop :=
  ∀ (env : InputBoundary) (c : ClipRef) (s : State), s.live = true → s.due = [] → env.upsets = [] →
    s.mix.alert = ⟨some (.clip c), 32768, 32768, none, none⟩ →
    ∃ t f, exec (.inputBlockBoundary env) s = .next t ∧ t.formed = some f ∧ f.minus1 = f.pgm ∧ f.minus2 = f.pgm ∧
      f.peak = blockPeak f.pgm ∧
      (∀ x g, s.clips.readerAlert = some x → x.ended = false → x.detached = false →
        (s.segments x.clip)[x.ordinal]? = some g → f.pgm =
          if segmentCheck (s.mem.read g).frames = (s.mem.read g).check then (s.mem.read g).frames else Block.silent) ∧
      (s.clips.readerAlert = none → f.pgm = Block.silent) ∧
      ∀ x, s.clips.readerAlert = some x → x.ended = true ∨ x.detached = true → f.pgm = Block.silent

/-- Law 7 (R14): while ALERT is active the three feeds carry its block alone, be it the alert decoder, the attention
tone or an alert clip. -/
def Obligations.AlertSoundsAlone : Prop :=
  Claims.AlertSoundsAlone ∧
    Claims.AlertClipsSoundAlone

/-- R7, step 3: a fade whose blocks done have reached its length is removed: a LEVEL fade leaves its contributor as it
is; STUDIO's OUT fade makes STUDIO inactive, its target kept; nothing else changes. The OUT fade of a voice that is
RELEASING frees the voice; that of a caller's slot ends the release (`CallersLeaveTheAir` says how). (That an event
found due waits to be taken is the model's choice, log entry 4.) -/
def Sys2Proof.Claims.CompletedFades : Prop :=
  ∀ (c : Contributor) (f : Fade) (s : State), Found (.fadeComplete c) s → (s.contrib c).fade = some f →
    f.length ≤ f.done →
    (f.purpose = .level → exec (.fadeComplete c) s =
      .next ({ s with due := s.due.erase (.fadeComplete c) }.setContrib c { s.contrib c with fade := none })) ∧
    (f.purpose = .out → c = .studio → exec (.fadeComplete c) s =
      .next { s with
        due := s.due.erase (.fadeComplete c)
        mix := { s.mix with studio := ⟨none, s.mix.studio.target, 0, none, none⟩ } }) ∧
    (∀ o, f.purpose = .out → c = .voiceA → s.cue.voiceA = .releasing o → s.clips.readerA = none →
      exec (.fadeComplete c) s = .next { s with
        due := s.due.erase (.fadeComplete c)
        mix := { s.mix with voiceA := ⟨none, s.mix.voiceA.target, 0, none, none⟩ }
        cue := { s.cue with voiceA := .free } })

/-- R7, R66, R80, R89: the OUT fade of a voice is complete (FADE COMPLETE): its contributor is inactive, its reader,
where it has one open, closes and its clip loses the use. A RELEASING voice is FREE. Where the voice carries an
entry with its ending mark, a STREAM or a GAP without its segue flag and with nothing to follow, the item ends: the
entry leaves the list with ITEM_ENDED and the voice is FREE, no queued alert taking the boundary or the air. (That
an event found due waits to be taken is the model's choice, log entry 4.) -/
def Sys2Proof.Claims.VoicesFadeOut : Prop :=
  ∀ (v : Voice) (f : Fade) (s : State), Found (.fadeComplete (voiceContributor v)) s →
    (s.contrib (voiceContributor v)).fade = some f → f.purpose = .out → f.length ≤ f.done →
    let quiet (t : State) : State := { t with due := s.due.erase (.fadeComplete (voiceContributor v)) }.setContrib
      (voiceContributor v) ⟨none, (s.contrib (voiceContributor v)).target, 0, none, none⟩
    (∀ o, s.voice v = .releasing o → s.clips.reader (voiceReader v) = none →
      exec (.fadeComplete (voiceContributor v)) s = .next ((quiet s).setVoice v .free)) ∧
    (∀ o x n, s.voice v = .releasing o → s.clips.reader (voiceReader v) = some x → x.clip = .playout n →
      exec (.fadeComplete (voiceContributor v)) s = .next ((quiet ({ s with clips := { s.clips with
        playout := s.clips.playout.set n { s.clips.playout[n] with uses := (s.clips.playout[n]).uses - 1 } } }.setReader
          (voiceReader v) none)).setVoice v .free)) ∧
    ∀ o i e, s.voice v = .carrying o → s.carried v = some i → s.cue.entries[i]? = some e → e.ending = true →
      e.kind = .stream .s1 ∨ e.kind = .stream .s2 ∨ e.kind = .gap → e.segue = false → s.cue.state = .playing →
      s.cue.goPending = false → NoneTakes .itemOffer s.cue.state s → NoneTakes .ordinary .armed s →
      NoneTakes .ordinary .idle s → s.cue.window = none → s.clips.reader (voiceReader v) = none →
      ∃ t, exec (.fadeComplete (voiceContributor v)) s = .next t ∧ t.cue.entries = s.cue.entries.eraseIdx i ∧
        t.voice v = .free ∧ t.mix = (quiet s).mix ∧ t.due = (quiet s).due ∧
        (∃ p ∈ (t.link .P).events, p.event = .itemEnded e.tag) ∧
        t.mem = s.mem ∧ t.clips = s.clips ∧ t.delay = s.delay ∧ t.callers = s.callers ∧ t.sup = s.sup

/-- FADE COMPLETE (R7, step 3), for a level fade, for STUDIO, and for the voices (R80, R89). -/
def Obligations.CompletedFades : Prop :=
  Claims.CompletedFades ∧
    Claims.VoicesFadeOut

/-- R16: STUDIO SET's table, with its fade length clamped to 500 and kept as the studio fade time, and MIC_LIVE
reported; a switch value other than OFF 00h or ON 01h is refused. (Turning STUDIO on in FALLBACK ends it: another
statement's.) -/
def Sys2Proof.Claims.StudioSetTable : Prop :=
  ∀ (sw g1 g0 f1 f0 : Byte) (s : State), Takes .C s → s.sup.mode ≠ some .fallback →
    ¬(s.sup.mode = some .alert ∧ s.sup.remembered = some .fallback) →
    let x := s.mix.studio
    let g := g1.toNat * 256 + g0.toNat
    let n := min 500 (f1.toNat * 256 + f0.toNat)
    let fadingOut := (∃ f, x.fade = some f ∧ f.purpose = .out) ∨ ∃ f, x.waiting = some f ∧ f.purpose = .out
    let after (y : Contrib) (on : Bool) : State := answered .C 0x36 .ok .none { s with
      mix := { s.mix with studio := y, studioFade := n }
      panel := { s.panel with reports := { s.panel.reports with micLive := on } } }
    (sw = 1 → x.binding = none → exec (.studioSet .C [sw, g1, g0, f1, f0]) s =
      .next (after ⟨some (.source 0), g, if n = 0 then g else 0, none,
        if n = 0 then none else some ⟨g, n, .level⟩⟩ true)) ∧
    (sw = 1 → x.binding.isSome → n = 0 → exec (.studioSet .C [sw, g1, g0, f1, f0]) s =
      .next (after { x with target := g, gain := g, fade := none, waiting := none } true)) ∧
    (sw = 1 → x.binding.isSome → n ≠ 0 → ¬fadingOut → exec (.studioSet .C [sw, g1, g0, f1, f0]) s =
      .next (after { x with target := g, waiting := some ⟨g, n, .level⟩ } true)) ∧
    (sw = 1 → x.binding.isSome → n ≠ 0 → fadingOut → exec (.studioSet .C [sw, g1, g0, f1, f0]) s =
      .next (after { x with target := g, fade := none, waiting := some ⟨g, n, .level⟩ } true)) ∧
    (sw = 0 → x.binding = none → exec (.studioSet .C [sw, g1, g0, f1, f0]) s =
      .next (after { x with target := g } false)) ∧
    (sw = 0 → x.binding.isSome → n = 0 → exec (.studioSet .C [sw, g1, g0, f1, f0]) s =
      .next (after ⟨none, g, 0, none, none⟩ false)) ∧
    (sw = 0 → x.binding.isSome → n ≠ 0 → exec (.studioSet .C [sw, g1, g0, f1, f0]) s =
      .next (after { x with target := g, waiting := some ⟨0, n, .out⟩ } false)) ∧
    (sw ≠ 0 → sw ≠ 1 → exec (.studioSet .C [sw, g1, g0, f1, f0]) s = .next (answered .C 0x36 .badParam .none s))

/-- R18: SLOT GAIN SET: a LEVEL on the slot's contributor, the clamped length kept as the slot's fade time; a slot other
than 1 or 2 is refused. A release fade runs on unchanged. -/
def Sys2Proof.Claims.SlotGainSetLevels : Prop :=
  ∀ (slot g1 g0 f1 f0 : Byte) (s : State), Takes .C s →
    let g := g1.toNat * 256 + g0.toNat
    let n := min 500 (f1.toNat * 256 + f0.toNat)
    (slot ≠ 1 → slot ≠ 2 → exec (.slotGainSet .C [slot, g1, g0, f1, f0]) s = .next (answered .C 0x37 .badParam .none s)) ∧
    ∀ k : CallerSlot, slot.toNat = k.val + 1 →
      let x := s.contrib (slotContributor k)
      let after (y : Contrib) : State := answered .C 0x37 .ok .none
        ({ s with mix := { s.mix with slotFade := s.mix.slotFade.set k n } }.setContrib (slotContributor k) y)
      let out := (∃ f, x.fade = some f ∧ f.purpose = .out) ∨ ∃ f, x.waiting = some f ∧ f.purpose = .out
      (x.binding = none ∨ out → exec (.slotGainSet .C [slot, g1, g0, f1, f0]) s =
        .next (after { x with target := g })) ∧
      (x.binding.isSome → ¬out → n = 0 → exec (.slotGainSet .C [slot, g1, g0, f1, f0]) s =
        .next (after { x with target := g, gain := g, fade := none, waiting := none })) ∧
      (x.binding.isSome → ¬out → n ≠ 0 → exec (.slotGainSet .C [slot, g1, g0, f1, f0]) s =
        .next (after { x with target := g, waiting := some ⟨g, n, .level⟩ }))

/-- STUDIO SET and SLOT GAIN SET (R16, R18). -/
def Obligations.ConsoleLevels : Prop :=
  Claims.StudioSetTable ∧
    Claims.SlotGainSetLevels

-- the programme delay and the air

/-- R39, R40, R41: DELAY TARGET SET clamps the target to R − 3, works out the delay state from E and the new E_t by
R40's table, raises DELAY_SAFE_CHANGED on link C and reports to the panel exactly when DELAY SAFE changes, and
answers the target as taken. -/
def Sys2Proof.Claims.DelayTargetSetTakesTheTarget : Prop :=
  ∀ (hi lo : Byte) (s : State), Takes .C s →
    let target := min (hi.toNat * 256 + lo.toNat) (s.mem.ring - 3)
    let state : DelayState :=
      if s.dev.state ≠ .onAir then .off
      else if s.delay.excess < 480 * target then .building
      else if s.delay.excess = 480 * target then .safe
      else .shrinking
    let safeBefore := decide (s.delay.state = .safe) || decide (s.delay.state = .shrinking)
    let safeNow := decide (state = .safe) || decide (state = .shrinking)
    let t := { s with delay := { s.delay with target := target, state := state } }
    exec (.delayTargetSet .C [hi, lo]) s = .next (answered .C 0x33 .ok (.target target) <|
      if safeNow = safeBefore then t
      else raise .C (.delaySafeChanged safeNow)
        { t with panel := { t.panel with reports := { t.panel.reports with delaySafe := safeNow } } })

/-- R54: DELAY SETTINGS SET: sixteen bytes give the settings; boundaries outside 1..4,000 or not rising, a quiet
threshold above 8,388,608 and a dump step outside 1..4,000 are refused; stretch values and q_set above 48 are
clamped to 48; the settings as taken are answered, and nothing else changes. -/
def Sys2Proof.Claims.DelaySettingsSetTakesThemAll : Prop :=
  ∀ (a1 a0 b1 b0 c1 c0 s1 s2 s3 s4 q t2 t1 t0 d1 d0 : Byte) (s : State), Takes .C s →
    let bA := a1.toNat * 256 + a0.toNat
    let bB := b1.toNat * 256 + b0.toNat
    let bC := c1.toNat * 256 + c0.toNat
    let quiet := t2.toNat * 65536 + t1.toNat * 256 + t0.toNat
    let dumpStep := d1.toNat * 256 + d0.toNat
    let ps := [a1, a0, b1, b0, c1, c0, s1, s2, s3, s4, q, t2, t1, t0, d1, d0]
    let taken : DelaySettings :=
      ⟨bA, bB, bC, min s1.toNat 48, min s2.toNat 48, min s3.toNat 48, min s4.toNat 48, min q.toNat 48, quiet, dumpStep⟩
    let good := 1 ≤ bA ∧ bA < bB ∧ bB < bC ∧ bC ≤ 4000 ∧ quiet ≤ 8388608 ∧ 1 ≤ dumpStep ∧ dumpStep ≤ 4000
    (good → exec (.delaySettingsSet .C ps) s = .next (answered .C 0x35 .ok (.delaySettings taken)
      { s with delay := { s.delay with settings := taken } })) ∧
    (¬good → exec (.delaySettingsSet .C ps) s = .next (answered .C 0x35 .badParam .none s))

/-- R51: DUMP: refused NOT_NOW while the delay is OFF or alert segments are held; otherwise a dump is pending with
the dump step of the settings, or the larger of that and the step already pending; nothing moves yet. -/
def Sys2Proof.Claims.DumpBecomesPending : Prop :=
  ∀ s : State, Takes .C s → s.dev.state = .onAir →
    (s.delay.state = .off ∨ 0 < s.delay.alertSegs → exec (.dump .C []) s = .next (answered .C 0x34 .notNow .none s)) ∧
    (s.delay.state ≠ .off → s.delay.alertSegs = 0 → exec (.dump .C []) s = .next (answered .C 0x34 .ok .none
      { s with delay := { s.delay with dump := match s.delay.dump with
        | none => some (.blocks s.delay.settings.dumpStep)
        | some (.blocks n) => some (.blocks (max n s.delay.settings.dumpStep))
        | some .unlimited => some .unlimited } }))

/-- DELAY TARGET SET, DELAY SETTINGS SET and DUMP (R39, R51, R54). -/
def Obligations.DelayCommands : Prop :=
  Claims.DelayTargetSetTakesTheTarget ∧
    Claims.DelaySettingsSetTakesThemAll ∧
    Claims.DumpBecomesPending

/-- R53, law 6: a pending dump is carried out at the output block boundary: the read position moves by the least of 480
times the step, E and L, E falls by as much, and DELAY_DUMPED records an amount above zero. The dump never passes the
first alert-tagged segment that is still to be read, and the alert-segment count and the stored programme stay. (That
a read position inside an alert segment lets no dump move it is the model's reading, log entry 24.) -/
def Sys2Proof.Claims.DumpsStopAtAnAlert : Prop :=
  ∀ (step : DumpStep) (seg off : Nat) (s : State), s.delay.dump = some step → s.delay.readPos = some (seg, off) →
    off < 480 → ∃ n : Nat,
      n ≤ s.delay.excess ∧ (∀ k, step = .blocks k → n ≤ 480 * k) ∧
      (∀ i, i < (s.delay.writeHead + s.mem.ring - seg) % s.mem.ring →
        (s.mem.read ((seg + i) % s.mem.ring)).alertId.isSome = true → n ≤ 480 * i - off) ∧
      (n = s.delay.excess ∨ (∃ k, step = .blocks k ∧ n = 480 * k) ∨
        ∃ i, i < (s.delay.writeHead + s.mem.ring - seg) % s.mem.ring ∧
          (s.mem.read ((seg + i) % s.mem.ring)).alertId.isSome = true ∧ n = 480 * i - off) ∧
      carryOutDump s =
        (if n = 0 then id else raise .C (.delayDumped n)) { s with delay := { s.delay with
          dump := none
          excess := s.delay.excess - n
          readPos := some ((seg + (off + n) / 480) % s.mem.ring, (off + n) % 480) } }

/-- R53, R50: an output block boundary carries a pending dump out before its read: it acts as it does on the state
that the dump leaves. -/
def Sys2Proof.Claims.DumpsAreCarriedOut : Prop :=
  ∀ (env : OutputBoundary) (step : DumpStep) (pos : Nat × Nat) (s : State), s.live = true → s.due = [] →
    env.upsets = [] → s.delay.state ≠ .off → s.delay.dump = some step → s.delay.readPos = some pos →
    exec (.outputBlockBoundary env) s = exec (.outputBlockBoundary env) (carryOutDump s)

/-- Law 6 (R53): a dump never passes the first alert segment still to be read, and is carried out at the next output
block boundary, before its read. (That a dump finds L = 0 inside an alert segment is the model's reading, log entry
24.) -/
def Obligations.DumpsStopAtAnAlert : Prop :=
  Claims.DumpsStopAtAnAlert ∧
    Claims.DumpsAreCarriedOut

/-- R46: the shape of a read by its table: plain under alert suspension; a stretch towards the target, doubled up to
48 on a quiet segment and never past it; a compress never past it; plain at the target. So E never passes E_t. -/
def Obligations.ReadShapesApproachTheTarget : Prop :=
  ∀ (c : DelaySettings) (e et peak : Nat), c.bA < c.bB → c.bB < c.bC → c.s1 ≤ 48 → c.s2 ≤ 48 → c.s3 ≤ 48 → c.s4 ≤ 48 →
    let value (d : Nat) : Nat :=
      if 480 * c.bC ≤ d then c.s1
      else if 480 * c.bB ≤ d ∧ d < 480 * c.bC then c.s2
      else if 480 * c.bA ≤ d ∧ d < 480 * c.bB then c.s3
      else c.s4
    let doubled (d : Nat) : Nat := if peak < c.quiet then min (2 * value d) 48 else value d
    chooseShape c e et true peak = .plain ∧
    (e < et → value (et - e) = 0 → chooseShape c e et false peak = .plain) ∧
    (e < et → value (et - e) ≠ 0 → chooseShape c e et false peak = .stretch (min (doubled (et - e)) (et - e)) ∧
      1 ≤ min (doubled (et - e)) (et - e) ∧ min (doubled (et - e)) (et - e) ≤ 48) ∧
    (et < e → c.q = 0 → chooseShape c e et false peak = .plain) ∧
    (et < e → c.q ≠ 0 → chooseShape c e et false peak = .compress (min c.q (e - et))) ∧
    (e = et → chooseShape c e et false peak = .plain)

/-- R46, R50: the read of an output block boundary with no dump pending: the read position moves on by 480 − s, 480
+ q or 480 stored samples around the ring, E rises by s, falls by q or stays, and the count of alert segments falls
by those read to their end. -/
def Sys2Proof.Claims.EachReadMovesTheReadPosition : Prop :=
  ∀ (env : OutputBoundary) (seg off : Nat) (s : State), s.live = true → s.due = [] → env.upsets = [] →
    s.delay.state ≠ .off → s.delay.dump = none → s.delay.fed = true → s.delay.readPos = some (seg, off) →
    ∃ t, exec (.outputBlockBoundary env) s = .next t ∧
      let moved (n : Nat) : Option (Nat × Nat) := some ((seg + (off + n) / 480) % s.mem.ring, (off + n) % 480)
      (∀ n, s.readShape (seg, off) = .stretch n →
        t.delay.excess = s.delay.excess + n ∧ t.delay.readPos = moved (480 - n)) ∧
      (∀ n, s.readShape (seg, off) = .compress n →
        t.delay.excess = s.delay.excess - n ∧ t.delay.readPos = moved (480 + n)) ∧
      (s.readShape (seg, off) = .plain → t.delay.excess = s.delay.excess ∧ t.delay.readPos = moved 480) ∧
      t.delay.alertSegs = s.delay.alertSegs -
        (List.range ((off + (s.readShape (seg, off)).consumed) / 480)).countP
          fun i => (s.mem.read ((seg + i) % s.mem.ring)).alertId.isSome

/-- R46, R48: the read of an output block boundary takes its shape by the table from the delay settings in use, E, the
target E_t of 480·T samples, alert suspension by the segments of a[0] and a[480], and the peak of the segment of a[0], 0
when that segment fails its check; and E and the read position move by it. -/
def Sys2Proof.Claims.ReadsTakeTheirShape : Prop :=
  ∀ (env : OutputBoundary) (seg off : Nat) (s : State), s.live = true → s.due = [] → env.upsets = [] → off < 480 →
    s.delay.state ≠ .off → s.delay.dump = none → s.delay.fed = true → s.delay.readPos = some (seg, off) →
    let at0 := s.mem.read (seg % s.mem.ring)
    let at480 := s.mem.read ((seg + (off + 480) / 480) % s.mem.ring)
    let peak := if segmentCheck at0.frames = at0.check then at0.peak else 0
    let shape := chooseShape s.delay.settings s.delay.excess (480 * s.delay.target)
      (at0.alertId.isSome || at480.alertId.isSome) peak
    let size := match shape with | .stretch n => 480 - n | .compress n => 480 + n | .plain => 480
    s.readShape (seg, off) = shape ∧ ∃ t, exec (.outputBlockBoundary env) s = .next t ∧
      t.delay.excess = (match shape with
        | .stretch n => s.delay.excess + n
        | .compress n => s.delay.excess - n
        | .plain => s.delay.excess) ∧
      t.delay.readPos = some ((seg + (off + size) / 480) % s.mem.ring, (off + size) % 480)

/-- R49: a plain read passes the programme on exactly: AIR frame `k` is the `k`-th stored frame after the read position,
silence in place of a segment that fails its check (R26, R48), with the labels of the segment at the read position. -/
def Sys2Proof.Claims.PlainReadsPassTheProgramme : Prop :=
  ∀ (env : OutputBoundary) (seg off : Nat) (s : State), s.live = true → s.due = [] → env.upsets = [] → off < 480 →
    s.delay.state ≠ .off → s.delay.dump = none → s.delay.fed = true → s.delay.readPos = some (seg, off) →
    s.readShape (seg, off) = .plain →
    ∃ t, exec (.outputBlockBoundary env) s = .next t ∧
      (∀ k : Fin 480,
        let g := s.mem.read ((seg + (off + k.val) / 480) % s.mem.ring)
        (t.air.frames)[k] = if segmentCheck g.frames = g.check
          then (g.frames)[(off + k.val) % 480]'(Nat.mod_lt _ (by decide)) else Frame.silent) ∧
      t.air.tag = (s.mem.read (seg % s.mem.ring)).tag ∧ t.air.alertId = (s.mem.read (seg % s.mem.ring)).alertId ∧
      t.air.lines = (s.mem.read (seg % s.mem.ring)).lines ∧ t.air.peak = blockPeak t.air.frames

/-- R46, case 1, R47: while the segment that holds a[0] or that of a[480] carries an alert id, the read is plain: E
stays and the read position moves on by 480 samples, whatever the target. -/
def Sys2Proof.Claims.AlertsArePlayedPlain : Prop :=
  ∀ (env : OutputBoundary) (seg off : Nat) (s : State), s.live = true → s.due = [] → env.upsets = [] → off < 480 →
    s.delay.state ≠ .off → s.delay.dump = none → s.delay.fed = true → s.delay.readPos = some (seg, off) →
    (s.mem.read (seg % s.mem.ring)).alertId.isSome = true ∨
      (s.mem.read ((seg + (off + 480) / 480) % s.mem.ring)).alertId.isSome = true →
    s.readShape (seg, off) = .plain ∧ ∃ t, exec (.outputBlockBoundary env) s = .next t ∧
      t.delay.excess = s.delay.excess ∧ t.delay.readPos = some ((seg + (off + 480) / 480) % s.mem.ring, off) ∧
      t.air.alertId = (s.mem.read (seg % s.mem.ring)).alertId

/-- R49 with R48, law 2: the frames of an AIR block are interpolated over the samples a[0] to a[N_in] after the read
position, zeros in place of a segment that fails its check; every AIR sample lies between the two samples it is
drawn from. -/
def Sys2Proof.Claims.ReadsAreInterpolated : Prop :=
  ∀ (env : OutputBoundary) (seg off : Nat) (s : State), s.live = true → s.due = [] → env.upsets = [] → off < 480 →
    s.delay.state ≠ .off → s.delay.dump = none → s.delay.fed = true → s.delay.readPos = some (seg, off) →
    (∀ n, s.readShape (seg, off) = .stretch n → n ≤ 48) → (∀ n, s.readShape (seg, off) = .compress n → n ≤ 48) →
    ∃ t, exec (.outputBlockBoundary env) s = .next t ∧
      let size := match s.readShape (seg, off) with | .stretch n => 480 - n | .compress n => 480 + n | .plain => 480
      let stored (j : Nat) : Frame :=
        let g := s.mem.read ((seg + (off + j) / 480) % s.mem.ring)
        if segmentCheck g.frames = g.check then (g.frames)[(off + j) % 480]'(Nat.mod_lt _ (by decide)) else Frame.silent
      ∀ k : Fin 480,
        let i := k.val * size / 480
        let f := 256 * (k.val * size - 480 * i) / 480
        let drawn (a b y : Int) : Prop := y = a + ((b - a) * f).fdiv 256 ∧ min a b ≤ y ∧ y ≤ max a b
        i + 1 ≤ size ∧
        drawn (stored i).left.toInt (stored (i + 1)).left.toInt (t.air.frames)[k].left.toInt ∧
        drawn (stored i).right.toInt (stored (i + 1)).right.toInt (t.air.frames)[k].right.toInt

/-- R26, R27, R48, R135: what the failing segments of a read do: each is counted in the memory error counter;
DELAY_MEMORY_ERROR is raised on link C with the number of the one fetched last (the order of the fetches is the
model's choice, log entry 37, and so is that a read within one segment fetches that one alone, log entry 36); each
active record whose alert id a failing segment carries becomes DAMAGED, and no other does. (The timed events that
the boundary finds are left to their rows.) -/
def Sys2Proof.Claims.FailingSegmentsAreReported : Prop :=
  ∀ (env : OutputBoundary) (seg off : Nat) (s : State), s.live = true → s.due = [] → env.upsets = [] → off < 480 →
    env.first = [] → env.leave = true → s.mem.errors ≤ 65535 →
    s.delay.state ≠ .off → s.delay.dump = none → s.delay.fed = true → s.delay.readPos = some (seg, off) →
    ∃ t, exec (.outputBlockBoundary env) s = .next t ∧
      let number (i : Nat) : Nat := (seg + i) % s.mem.ring
      let fails (i : Nat) : Bool := decide (segmentCheck (s.mem.read (number i)).frames ≠ (s.mem.read (number i)).check)
      let fetched := List.range ((off + (s.readShape (seg, off)).consumed) / 480 + 1)
      t.mem = { s.mem with errors := min 65535 (s.mem.errors + fetched.countP fails) } ∧
      (∀ i, (fetched.filter fails).getLast? = some i →
        ∃ p ∈ (t.link .C).events, p.event = .delayMemoryError (number i)) ∧
      ∀ k : AlertSlot, (t.record k).map AlertRecord.damaged = (s.record k).map fun r =>
        r.damaged || fetched.any fun i => fails i && decide ((s.mem.read (number i)).alertId = some r.id)

/-- The read of an output block boundary (R46 to R50). -/
def Obligations.ReadsOfTheDelay : Prop :=
  Claims.EachReadMovesTheReadPosition ∧
    Claims.ReadsTakeTheirShape ∧
    Claims.PlainReadsPassTheProgramme ∧
    Claims.AlertsArePlayedPlain ∧
    Claims.ReadsAreInterpolated ∧
    Claims.FailingSegmentsAreReported

/-- R44: while the delay is not OFF, each PGM_LIVE block formed is written at the write head with its check word,
peak and labels, no item tag where an alert id is named, and the write head moves on; while it is OFF nothing is
written. -/
def Sys2Proof.Claims.EveryProgrammeBlockIsWritten : Prop :=
  ∀ (f : Formed) (s : State), MemoryCanonical s →
    (s.delay.state = .off → writeDelay f s = s) ∧
    (s.delay.state ≠ .off →
      (writeDelay f s).mem.read s.delay.writeHead =
        ⟨f.pgm, segmentCheck f.pgm, f.peak, if f.alertId = none then f.tag else none, f.alertId, f.lines, none⟩ ∧
      (∀ n, n ≠ s.delay.writeHead → (writeDelay f s).mem.read n = s.mem.read n) ∧
      (writeDelay f s).delay = { s.delay with
        writeHead := (s.delay.writeHead + 1) % s.mem.ring
        alertSegs := if f.alertId = none then s.delay.alertSegs else s.delay.alertSegs + 1
        fed := true } ∧
      { writeDelay f s with mem := s.mem, delay := s.delay } = s ∧
      { (writeDelay f s).mem with cells := s.mem.cells } = s.mem)

/-- R44: at an input block boundary, while the delay is not OFF, the PGM_LIVE block formed is the one written at the
write head with its check word, peak and labels; while it is OFF, which it is exactly out of ON_AIR (R40), the delay
region and the Delay Unit stay as they are. -/
def Sys2Proof.Claims.FormedBlocksAreWritten : Prop :=
  ∀ (env : InputBoundary) (s : State), s.live = true → s.due = [] → env.upsets = [] → MemoryCanonical s →
    PoolMapped s → s.delay.writeHead < s.mem.ring → (s.delay.state = .off ↔ s.dev.state ≠ .onAir) →
    ∃ t f, exec (.inputBlockBoundary env) s = .next t ∧ t.formed = some f ∧
      (∀ n, n < s.mem.ring → t.mem.read n =
        if s.delay.state ≠ .off ∧ n = s.delay.writeHead then
          ⟨f.pgm, segmentCheck f.pgm, f.peak, if f.alertId = none then f.tag else none, f.alertId, f.lines, none⟩
        else s.mem.read n) ∧
      (s.delay.state = .off → t.delay = s.delay) ∧
      (s.delay.state ≠ .off → t.delay = { s.delay with
        writeHead := (s.delay.writeHead + 1) % s.mem.ring
        alertSegs := if f.alertId = none then s.delay.alertSegs else s.delay.alertSegs + 1
        fed := true
        dump := t.delay.dump })

/-- R44, R83: the labels of the block formed at an input block boundary: the id of the AIRING record while ALERT is
active; the item tag, of the PLAYING entry that stands last in PLAYING, of the clip that fills in FILLING while it
sounds, else none; and each telephone line that a caller contributor is bound to. -/
def Sys2Proof.Claims.FormedBlocksAreLabelled : Prop :=
  ∀ (env : InputBoundary) (s : State), s.live = true → s.due = [] →
    ∃ t f, exec (.inputBlockBoundary env) s = .next t ∧ t.formed = some f ∧
      (s.mix.alert.binding = none → f.alertId = none) ∧
      (∀ k r, s.mix.alert.binding.isSome = true → s.record k = some r → r.phase = .airing →
        (∀ j x, s.record j = some x → x.phase = .airing → j = k) → f.alertId = some r.id) ∧
      (∀ before e after, s.cue.state = .playing → s.cue.entries = before ++ e :: after → e.state = .playing →
        (∀ x ∈ after, x.state ≠ .playing) → f.tag = e.tag) ∧
      (∀ x, s.cue.state = .filling → s.cue.voiceA = .filling → s.mix.voiceA.binding.isSome = true →
        s.clips.readerA = some x → f.tag = (s.clip x.clip).tag) ∧
      (s.cue.state = .filling → s.cue.voiceA ≠ .filling → f.tag = none) ∧
      (s.cue.state = .idle ∨ s.cue.state = .armed ∨ s.cue.state = .held → f.tag = none) ∧
      ∀ i : PhoneLine, (f.lines[i] = true ↔ s.mix.caller1.binding = some (.source (lineSource i)) ∨
        s.mix.caller2.binding = some (.source (lineSource i)))

/-- R44, R83: the PGM_LIVE block formed at an input block boundary is written whole into the delay, with its labels,
at the step and as a law of the write itself. -/
def Obligations.EveryProgrammeBlockIsWritten : Prop :=
  Claims.EveryProgrammeBlockIsWritten ∧
    Claims.FormedBlocksAreWritten ∧
    Claims.FormedBlocksAreLabelled

/-- R42, R201: AIR START, taken in STANDBY: ON_AIR at once; the priming segment before the write head is silent, the
read position its last frame, E = 0; air mode NORMAL with its counter at 0; the panel is told. With a target of 0
the delay is SAFE and DELAY_SAFE_CHANGED raised. -/
def Obligations.AirStartPrimesTheRing : Prop :=
  ∀ s : State, Takes .C s → s.dev.state = .standby → s.delay.state = .off → MemoryCanonical s →
    let primed := (s.delay.writeHead + s.mem.ring - 1) % s.mem.ring
    let safe := decide (s.delay.target = 0)
    ∃ m : SampleMemory, { m with cells := s.mem.cells } = s.mem ∧
      (∀ n, m.read n = if n = primed then Segment.silent else s.mem.read n) ∧
      exec (.airStart .C []) s = .next (answered .C 0x30 .ok .none <|
        (if safe then raise .C (.delaySafeChanged true) else id) { s with
          dev := { s.dev with state := .onAir }
          mem := m
          delay := { s.delay with
            readPos := some (primed, 479)
            excess := 0
            alertSegs := 0
            dump := none
            fed := false
            state := if safe then .safe else .building }
          sup := { s.sup with mode := some .normal, remembered := none, counter := 0 }
          panel := { s.panel with reports := { s.panel.reports with
            onAir := true
            delaySafe := if safe then true else s.panel.reports.delaySafe } } })

/-- R202: AIR STOP is refused NOT_NOW, changing nothing, while a record is AIRING, alert segments are held, or a
WARNING or IMMEDIATE record is PENDING or RECEIVING. Otherwise the device becomes STANDBY; PLAYING entries are set
back to their start (R96); both caller slots are emptied (R118); TEST and ADVISORY records RECEIVING or PENDING leave
their slots and no other record does (R143); the air mode ends (R164); the delay is OFF with E = 0 (R43); the ON_AIR
lamp goes off. (That there is no read position in STANDBY is the model's choice, log entry 28.) -/
def Sys2Proof.Claims.AirStopEndsTheAir : Prop :=
  ∀ s : State, Takes .C s → s.dev.state = .onAir →
    let forbids (r : AlertRecord) : Bool := decide (r.phase = .airing) ||
      (decide (r.cls = .warning ∨ r.cls = .immediate) && decide (r.phase = .pending ∨ r.phase = .receiving))
    let ends (r : AlertRecord) : Bool :=
      decide (r.cls = .test ∨ r.cls = .advisory) && decide (r.phase = .pending ∨ r.phase = .receiving)
    ((0 < s.delay.alertSegs ∨ ∃ k r, s.record k = some r ∧ forbids r = true) →
      exec (.airStop .C []) s = .next (answered .C 0x31 .notNow .none s)) ∧
    (s.delay.alertSegs = 0 → (∀ k r, s.record k = some r → forbids r = false) →
      ∃ t, exec (.airStop .C []) s = .next t ∧ (t.link .C).inFlight = some ⟨0x31, some ⟨0x31, .ok, .none⟩⟩ ∧
        t.dev = { s.dev with state := .standby } ∧
        t.delay = { s.delay with readPos := none, excess := 0, dump := none, fed := false, state := .off } ∧
        t.sup = { s.sup with mode := none, remembered := none, counter := 0 } ∧
        (t.slot 0).occupant = none ∧ (t.slot 1).occupant = none ∧
        (∀ k, t.record k = (s.record k).filter fun r => !ends r) ∧
        (s.cue.state = .playing → t.cue.entries = s.cue.entries.map fun e => if e.state = .playing then
          { e with
            state := .waiting, ending := false, successorStarted := false, played := 0, resume := none, voice := none
            released := false } else e) ∧
        t.panel.reports.onAir = false ∧ t.mem.cells = s.mem.cells ∧ t.tx = s.tx ∧ t.prof = s.prof ∧
        t.inputs = s.inputs ∧ t.formed = s.formed)

/-- R117, R118: where a takeover or AIR STOP puts the callers. A line without a release in progress is HELD with its
priority and tag text, numbered 1, or 2 where slot 1's has the 1; the lines queued before follow in the order of
their numbers. A release in progress ends with its disposition: DROP makes the line FREE, HOLD gives it the number
that follows. The queue stands in order. LINE_OFF_AIR tells of the line that left last, with the notice's cause; for
a release in progress at a takeover the cause is RELEASED (R115; that, and that slot 1's release ends first, is the
model's reading, log entry 17). -/
def Sys2Proof.Claims.linesReturned (cause : OffAirCause) (s t : State) : Prop :=
  let back (k : CallerSlot) : Bool := (s.slot k).occupant.isSome && (s.slot k).release.isNone
  let n := [(0 : CallerSlot), 1].countP back
  let next := if n = 0 then s.callers.nextNumber else n + s.callers.queue.length + 1
  let letGo := if cause = .airStop then OffAirCause.airStop else .released
  let told (i : PhoneLine) (k : CallerSlot) (c : OffAirCause) : Prop :=
    ∃ p ∈ (t.link .S).events, p.event = .lineOffAir i k c
  (∀ k, t.slot k = ⟨none, none⟩) ∧
  (∀ k i, s.slot k = ⟨some i, none⟩ → t.line i = { s.line i with
    state := .held, slot := none, number := some (if k = 1 ∧ back 0 then 2 else 1) }) ∧
  (∀ k i d, s.slot k = ⟨some i, some d⟩ → (∀ j, j ≠ k → (s.slot j).release = none) → t.line i = match d with
    | .drop => ⟨.free, (s.line i).trim, none, none, none, none, (s.line i).result⟩
    | .hold => { s.line i with state := .held, slot := none, number := some next }) ∧
  (∀ i ∈ s.callers.queue,
    let smaller := s.callers.queue.countP fun j => decide ((s.line j).number.getD 0 < (s.line i).number.getD 0)
    t.line i = { s.line i with number := if n = 0 then (s.line i).number else some (n + 1 + smaller) }) ∧
  t.callers.queue.Nodup ∧ QueueInOrder t.callers.lines t.callers.queue ∧
  (∀ i, i ∈ t.callers.queue ↔ i ∈ s.callers.queue ∨ ∃ k, s.slot k = ⟨some i, none⟩ ∨ s.slot k = ⟨some i, some .hold⟩) ∧
  (t.callers.queue ≠ s.callers.queue → ∃ p ∈ (t.link .S).events, p.event = .queueChanged t.callers.queue.length) ∧
  (∀ i, (s.slot 1).occupant = some i → (s.slot 1).release.isSome = true → told i 1 letGo) ∧
  (∀ i, (s.slot 1).release = none → (s.slot 0).occupant = some i → (s.slot 0).release.isSome = true →
    told i 0 letGo) ∧
  (∀ i, (∀ k, (s.slot k).release = none) → (s.slot 1).occupant = some i → told i 1 cause) ∧
  (∀ i, (∀ k, (s.slot k).release = none) → (s.slot 1).occupant = none → (s.slot 0).occupant = some i → told i 0 cause)

/-- R117, R118: AIR STOP returns the callers in the slots to the hold queue. (What it makes of releases in progress
is the model's reading, log entry 17.) -/
def Sys2Proof.Claims.AirStopReturnsTheLines : Prop :=
  ∀ s : State, Takes .C s → s.dev.state = .onAir → s.delay.alertSegs = 0 →
    (∀ k r, s.record k = some r → r.phase ≠ .airing ∧
      (r.cls = .warning ∨ r.cls = .immediate → r.phase ≠ .pending ∧ r.phase ≠ .receiving)) →
    LinesKept s → QueueNumbered s → (∀ k, (s.slot k).occupant = none → (s.slot k).release = none) →
    ∃ t, exec (.airStop .C []) s = .next t ∧ Claims.linesReturned .airStop s t

/-- AIR STOP (R202), with each block's part (R43, R96, R118, R143, R164) and where it puts the callers (R117, R118). -/
def Obligations.AirStopEndsTheAir : Prop :=
  Claims.AirStopEndsTheAir ∧
    Claims.AirStopReturnsTheLines

-- sample memory and clips

/-- R31, law 4: an allocation. A playout clip's request succeeds while the general count is below P − A_res and a
segment is free, an alert clip's while a segment is free; it takes the head of the free list, counts it, and links
it behind the clip's former last segment; the segment's holder is the clip. A request that fails changes nothing,
and a number outside the pool named as the last segment is left as it is (R23). -/
def Obligations.AllocationsKeepTheReserve : Prop :=
  ∀ (c : ClipRef) (last : Option Nat) (m : SampleMemory), m.wf = true →
    let room := m.free ≠ [] ∧ ∀ n, c = .playout n → m.general < 16384 - m.ring - m.reserve
    (¬room → m.allocate c last = none) ∧
    ∀ n rest, m.free = n :: rest → room → ∃ m', m.allocate c last = some (n, m') ∧
      m'.free = rest ∧ m'.ring = m.ring ∧ m'.reserve = m.reserve ∧ m'.errors = m.errors ∧ m'.wf = true ∧
      (∀ k, c = .playout k → m'.general = m.general + 1 ∧ m'.alertCount = m.alertCount ∧
        m'.general ≤ 16384 - m'.ring - m'.reserve) ∧
      (∀ k, c = .alert k → m'.general = m.general ∧ m'.alertCount = m.alertCount + 1) ∧
      (∀ k, m'.read k =
        if last = some k ∧ m.ring ≤ k ∧ k < 16384 then { m.read k with link := some n } else m.read k) ∧
      ((∀ h ∈ m.held, h.1 ≠ n) → m.ring ≤ n → m'.holder n = .clip c ∧ ∀ k, k ≠ n → m'.holder k = m.holder k)

/-- R59: CLIP CAPTURE START: its parameters, then IN_USE when the clip is not EMPTY, then BUSY when neither channel
is free; otherwise the lower-numbered free channel takes the capture and the clip is CAPTURING with nothing
recorded. -/
def Sys2Proof.Claims.CapturesStart : Prop :=
  ∀ (id src l1 l0 prot flags t1 t0 : Byte) (s : State), Takes .P s →
    let ps := [id, src, l1, l0, prot, flags, t1, t0]
    let length := l1.toNat * 256 + l0.toNat
    let tag := t1.toNat * 256 + t0.toNat
    let tagged := flags.getLsbD 1 = true
    let good := 1 ≤ id.toNat ∧ id.toNat ≤ 63 ∧ src.toNat ≤ 8 ∧ 1 ≤ length ∧ length ≤ 12000 ∧ prot.toNat ≤ 1 ∧
      (tagged → tag ≠ 0)
    (¬good → exec (.clipCaptureStart .P ps) s = .next (answered .P 0x10 .badParam .none s)) ∧
    ∀ n : ClipId, id.toNat = n.val + 1 → good →
      ((s.clips.playout[n]).state ≠ .empty →
        exec (.clipCaptureStart .P ps) s = .next (answered .P 0x10 .inUse .none s)) ∧
      ((s.clips.playout[n]).state = .empty → s.clips.channels[0].isSome → s.clips.channels[1].isSome →
        exec (.clipCaptureStart .P ps) s = .next (answered .P 0x10 .busy .none s)) ∧
      ∀ ch : Channel, (s.clips.playout[n]).state = .empty → s.clips.channels[ch] = none →
        (ch = 1 → s.clips.channels[0].isSome) → ∀ source : CaptureSource,
        (match source with | .source m => src.toNat = m.val | .pgmLive => src.toNat = 8) →
        exec (.clipCaptureStart .P ps) s = .next (answered .P 0x10 .ok .none { s with clips := { s.clips with
          channels := s.clips.channels.set ch (some ⟨n, source, length⟩)
          playout := s.clips.playout.set n
            { state := .capturing, isProtected := decide (prot = 1), loop := flags.getLsbD 0,
              tag := if tagged then some tag else none, first := none, count := 0, truncated := false,
              damaged := false, uses := 0 } } })

/-- R61, R62, R63: the end of a playout capture, by CLIP CAPTURE STOP and at its greatest length: the channel is
free, the clip READY with TRUNCATED clear, or EMPTY when it holds no segment, and CAPTURE_DONE records the clip, its
segment count, the cause, and TRUNCATED set for an empty clip. (That an event found due waits to be taken is the
model's choice, log entry 4.) -/
def Sys2Proof.Claims.CapturesEnd : Prop :=
  ∀ (ch : Channel) (c : Capture) (s : State), s.clips.channels[ch] = some c →
    (∀ j : Channel, j ≠ ch → ∀ d, s.clips.channels[j] = some d → d.clip ≠ c.clip) →
    let clip := s.clips.playout[c.clip]
    let settled : Clip := if clip.count = 0 then ⟨.empty, false, false, none, none, 0, false, false, 0⟩
      else { clip with state := .ready, truncated := false }
    let ended (cause : CaptureCause) (t : State) : State :=
      raise .P (.captureDone c.clip clip.count cause (decide (clip.count = 0))) { t with clips := { t.clips with
        channels := t.clips.channels.set ch none
        playout := t.clips.playout.set c.clip settled } }
    (∀ id : Byte, Takes .P s → id.toNat = c.clip.val + 1 → clip.state = .capturing →
      exec (.clipCaptureStop .P [id]) s = .next (answered .P 0x11 .ok .none (ended .stopped s))) ∧
    (Found (.captureMaxLength ch) s → c.greatest ≤ clip.count →
      exec (.captureMaxLength ch) s = .next (ended .maxLength { s with due := s.due.erase (.captureMaxLength ch) }))

/-- R61, R62: a CLIP CAPTURE STOP taken after the input block boundary that wrote the capture's last segment, though its row has
not come, is refused NOT_FOUND: the capture has ended there with the cause MAX_LENGTH. (That an event found due waits to be
taken is the model's choice, log entry 4.) -/
def Sys2Proof.Claims.StopsFollowTheBoundary : Prop :=
  ∀ (ch : Channel) (c : Capture) (id : Byte) (s : State), Reaches .P s → s.due = [.captureMaxLength ch] →
    s.clips.channels[ch] = some c → c.greatest ≤ (s.clips.playout[c.clip]).count → id.toNat = c.clip.val + 1 →
    let clip := s.clips.playout[c.clip]
    let settled : Clip := if clip.count = 0 then ⟨.empty, false, false, none, none, 0, false, false, 0⟩
      else { clip with state := .ready, truncated := false }
    exec (.clipCaptureStop .P [id]) s = .next (answered .P 0x11 .notFound .none
      (raise .P (.captureDone c.clip clip.count .maxLength (decide (clip.count = 0))) { s with
        due := []
        clips := { s.clips with
          channels := s.clips.channels.set ch none
          playout := s.clips.playout.set c.clip settled } }))

/-- R62: CLIP CAPTURE STOP of an id outside 1..63 is refused BAD_PARAM, and of a clip that is not CAPTURING, EMPTY
or READY, NOT_FOUND. -/
def Sys2Proof.Claims.StopsAreRefused : Prop :=
  ∀ (id : Byte) (s : State), Takes .P s →
    (id.toNat = 0 ∨ 63 < id.toNat → exec (.clipCaptureStop .P [id]) s = .next (answered .P 0x11 .badParam .none s)) ∧
    ∀ n : ClipId, id.toNat = n.val + 1 → (s.clips.playout[n]).state ≠ .capturing →
      exec (.clipCaptureStop .P [id]) s = .next (answered .P 0x11 .notFound .none s)

/-- R31, R60, R61, R64: a capture at an input block boundary, the only one recording. With room in the pool the
block of its source completed there, S7's for an alert clip and the one formed there for PGM_LIVE, stands in the
head of the free list with its check word and peak and no link; the clip's former last segment links to it, and the
clip has one segment more. A playout capture refused a segment ends: its channel is free, its clip READY with
TRUNCATED set, or EMPTY with none recorded, and CAPTURE_DONE records the cause. A RECEIVING record shows the segments
captured so far (the model's choice, log entry 45), while every slot in the alert queue holds a PENDING record, as R123
has it. (No reader is open; the timed events found are left to their rows.) -/
def Sys2Proof.Claims.CapturesRecordBlocks : Prop :=
  ∀ (env : InputBoundary) (c : ClipRef) (s : State), s.live = true → s.due = [] → env.upsets = [] → env.first = [] →
    env.leave = true → MemoryCanonical s → PoolMapped s → s.delay.writeHead < s.mem.ring →
    s.clips.readerA = none → s.clips.readerB = none → s.clips.readerAlert = none → s.alerts.tone = none →
    (∀ k ∈ s.segments c, s.mem.holder k = .clip c) →
    let clip := s.clip c
    let last := (s.segments c).getLast?
    let recorded (b : Block) (t : State) : Prop := ∀ n rest, s.mem.free = n :: rest →
      t.mem.free = rest ∧ t.mem.holder n = .clip c ∧
      t.mem.read n = ⟨b, segmentCheck b, blockPeak b, none, none, LineSet.empty, none⟩ ∧
      (∀ k, last = some k → t.mem.read k = { s.mem.read k with link := some n }) ∧
      (t.clip c).first = some (clip.first.getD n) ∧ (t.clip c).count = clip.count + 1 ∧ (t.clip c).state = clip.state
    ∃ t, exec (.inputBlockBoundary env) s = .next t ∧
      (∀ k, c = .alert k → s.clips.channels = Vector.replicate 2 none → s.clips.alertCapture = some k →
        recorded t.inputs[7] t ∧ (s.mem.free ≠ [] → t.mem.alertCount = s.mem.alertCount + 1 ∧
          ∀ r, s.record k = some r → r.phase = .receiving →
            (∀ j ∈ s.alerts.queue, ∃ y, s.record j = some y ∧ y.phase = .pending) →
            ∃ x, t.record k = some x ∧ x.phase = .receiving ∧ x.clip = some (k, clip.count + 1))) ∧
      ∀ (n : ClipId) (ch : Channel) (x : Capture), c = .playout n → s.clips.alertCapture = none →
        s.clips.channels[ch] = some x → x.clip = n → (∀ j : Channel, j ≠ ch → s.clips.channels[j] = none) →
        (s.mem.general < 16384 - s.mem.ring - s.mem.reserve →
          (∀ m, x.source = .source m → recorded t.inputs[m] t) ∧
          (∀ f, x.source = .pgmLive → t.formed = some f → recorded f.pgm t) ∧
          (s.mem.free ≠ [] → t.mem.general = s.mem.general + 1 ∧ t.clips.channels = s.clips.channels)) ∧
        (s.mem.free = [] ∨ 16384 - s.mem.ring - s.mem.reserve ≤ s.mem.general →
          t.clips.channels[ch] = none ∧
          (clip.count = 0 → (t.clips.playout[n]).state = .empty ∧ (t.clips.playout[n]).count = 0) ∧
          (0 < clip.count → (t.clips.playout[n]).state = .ready ∧ (t.clips.playout[n]).truncated = true ∧
            (t.clips.playout[n]).count = clip.count ∧ (t.clips.playout[n]).first = clip.first) ∧
          (∃ p ∈ (t.link .P).events, p.event = .captureDone n clip.count .noSegment true) ∧
          t.mem.free = s.mem.free ∧ t.mem.general = s.mem.general)

/-- Captures: a playout capture starts, records a block at each boundary, as an alert capture does, and ends (R59 to
R64). -/
def Obligations.CapturesStartAndEnd : Prop :=
  Claims.CapturesStart ∧
    Claims.CapturesEnd ∧
    Claims.StopsFollowTheBoundary ∧
    Claims.StopsAreRefused ∧
    Claims.CapturesRecordBlocks

/-- R70, R33, law 10: CLIP DELETE: refused for an id outside 1..63, for a PROTECTED clip while ON_AIR, an EMPTY
clip, a clip CAPTURING or in use; otherwise the clip's segments join the tail of the free list in chain order, the
general count falls by their number, and the record is EMPTY. (The clip holds the segments of its chain, each once:
R58.) -/
def Sys2Proof.Claims.ClipsAreDeleted : Prop :=
  ∀ (id : Byte) (s : State), Takes .P s →
    (id.toNat = 0 ∨ 63 < id.toNat → exec (.clipDelete .P [id]) s = .next (answered .P 0x12 .badParam .none s)) ∧
    ∀ n : ClipId, id.toNat = n.val + 1 →
      let c := s.clips.playout[n]
      let emptied : Clip := ⟨.empty, false, false, none, none, 0, false, false, 0⟩
      let guarded := c.isProtected = true ∧ s.dev.state = .onAir
      (guarded → exec (.clipDelete .P [id]) s = .next (answered .P 0x12 .notNow .none s)) ∧
      (¬guarded → c.state = .empty → exec (.clipDelete .P [id]) s = .next (answered .P 0x12 .notFound .none s)) ∧
      (¬guarded → c.state = .capturing ∨ c.state = .ready ∧ 0 < c.uses →
        exec (.clipDelete .P [id]) s = .next (answered .P 0x12 .inUse .none s)) ∧
      (¬guarded → c.state = .ready → c.uses = 0 → (s.segments (.playout n)).Nodup →
        (∀ k ∈ s.segments (.playout n), s.mem.holder k = .clip (.playout n)) →
        ∃ m : SampleMemory, exec (.clipDelete .P [id]) s = .next (answered .P 0x12 .ok .none
            { s with mem := m, clips := { s.clips with playout := s.clips.playout.set n emptied } }) ∧
          m.free = s.mem.free ++ s.segments (.playout n) ∧
          m.general = s.mem.general - (s.segments (.playout n)).length ∧
          (∀ k, m.holder k = if k ∈ s.segments (.playout n) then .free else s.mem.holder k) ∧
          { m with free := s.mem.free, general := s.mem.general, held := s.mem.held } = s.mem)

/-- R71, R69: CLIP ROLE SET: a READY, PROTECTED clip becomes the clip of the role, or 00h clears it; the clip before
loses a use and the clip named gains one; any other clip, role or id is refused. -/
def Sys2Proof.Claims.RolesAreSet : Prop :=
  ∀ (role id : Byte) (s : State), Takes .P s →
    let fits (n : Option ClipId) : Prop := match n with
      | some i => id.toNat = i.val + 1 ∧ (s.clips.playout[i]).state = .ready ∧ (s.clips.playout[i]).isProtected = true
      | none => id = 0
    let counted (before n : Option ClipId) : Vector Clip 63 := Vector.ofFn fun i : Fin 63 => { s.clips.playout[i] with
      uses := (s.clips.playout[i]).uses - (if before = some i then 1 else 0) + (if n = some i then 1 else 0) }
    (∀ n, fits n → role = 0 → exec (.clipRoleSet .P [role, id]) s = .next (answered .P 0x14 .ok .none
      { s with clips := { s.clips with playout := counted s.clips.fallback n, fallback := n } })) ∧
    (∀ n, fits n → role = 1 → exec (.clipRoleSet .P [role, id]) s = .next (answered .P 0x14 .ok .none
      { s with clips := { s.clips with playout := counted s.clips.tone n, tone := n } })) ∧
    (1 < role.toNat ∨ (∀ n, ¬fits n) →
      exec (.clipRoleSet .P [role, id]) s = .next (answered .P 0x14 .badParam .none s))

/-- CLIP DELETE and CLIP ROLE SET (R70, R71). -/
def Obligations.ClipsAreDeletedAndDesignated : Prop :=
  Claims.ClipsAreDeleted ∧
    Claims.RolesAreSet

/-- R72, R198: CLIP READ with a frame count of 0 returns the clip part; with a count of 1..36 the clip part, the
segment part and the frames, when the segment passes its check; nothing changes. A place beyond the chain is
NOT_FOUND, a first frame or a count out of range BAD_PARAM. -/
def Sys2Proof.Claims.ClipReadReturnsTheClip : Prop :=
  ∀ (id o1 o0 f1 f0 count : Byte) (n : ClipId) (s : State), Takes .P s → id.toNat = n.val + 1 →
    let ps := [id, o1, o0, f1, f0, count]
    let c := s.clips.playout[n]
    let bit (b : Bool) (k : Nat) : Nat := if b then k else 0
    let b8 (x : Nat) : Byte := BitVec.ofNat 8 x
    let two (x : Nat) : List Byte := [b8 (x / 256), b8 x]
    let three (x : Nat) : List Byte := [b8 (x / 65536), b8 (x / 256), b8 x]
    let clipPart : List Byte := [id, b8 (match c.state with | .empty => 0 | .capturing => 1 | .ready => 2),
      b8 (bit c.isProtected 1 + bit c.loop 2 + bit c.truncated 4 + bit c.damaged 8)] ++ two (c.tag.getD 0) ++
      three (480 * c.count) ++ two c.count ++
      [b8 c.uses, b8 (bit (decide (s.clips.fallback = some n)) 1 + bit (decide (s.clips.tone = some n)) 2)] ++
      two (c.first.getD 0xFFFF)
    let ordinal := o1.toNat * 256 + o0.toNat
    let first := f1.toNat * 256 + f0.toNat
    (first < 480 → count = 0 →
      exec (.clipRead .P ps) s = .next (answered .P 0x13 .ok (.bytes clipPart) s)) ∧
    (480 ≤ first ∨ 36 < count.toNat ∨ 480 < first + count.toNat →
      exec (.clipRead .P ps) s = .next (answered .P 0x13 .badParam .none s)) ∧
    (first + count.toNat ≤ 480 → 1 ≤ count.toNat → count.toNat ≤ 36 → (s.segments (.playout n)).length ≤ ordinal →
      exec (.clipRead .P ps) s = .next (answered .P 0x13 .notFound .none s)) ∧
    ∀ k, first + count.toNat ≤ 480 → 1 ≤ count.toNat → count.toNat ≤ 36 →
      (s.segments (.playout n))[ordinal]? = some k → segmentCheck (s.mem.read k).frames = (s.mem.read k).check →
      let g := s.mem.read k
      exec (.clipRead .P ps) s = .next (answered .P 0x13 .ok (.bytes (clipPart ++
        two ordinal ++ two k ++ three g.peak ++ [b8 (bit (decide (ordinal + 1 = c.count)) 1 + 2)] ++
        two (g.link.getD 0xFFFF) ++ two first ++ [count] ++
        ((g.frames.toList.drop first).take count.toNat).flatMap fun f =>
          three f.left.toNat ++ three f.right.toNat)) s)

/-- R72, R68: CLIP READ of an id outside 1..63 is refused BAD_PARAM. Of a segment that fails its check it returns
zeros with peak 0 and the mark of the failure, and the failure acts as R68 gives: it is counted, the clip becomes
DAMAGED, and CLIP_MEMORY_ERROR is raised. (That the clip part returned shows that mark is the model's choice, log
entry 38.) -/
def Sys2Proof.Claims.ClipReadFailures : Prop :=
  ∀ (id o1 o0 f1 f0 count : Byte) (s : State), Takes .P s →
    let ps := [id, o1, o0, f1, f0, count]
    (id.toNat = 0 ∨ 63 < id.toNat → exec (.clipRead .P ps) s = .next (answered .P 0x13 .badParam .none s)) ∧
    ∀ (n : ClipId) (k : Nat), id.toNat = n.val + 1 →
      let c := s.clips.playout[n]
      let bit (b : Bool) (k : Nat) : Nat := if b then k else 0
      let b8 (x : Nat) : Byte := BitVec.ofNat 8 x
      let two (x : Nat) : List Byte := [b8 (x / 256), b8 x]
      let three (x : Nat) : List Byte := [b8 (x / 65536), b8 (x / 256), b8 x]
      let clipPart : List Byte := [id, b8 (match c.state with | .empty => 0 | .capturing => 1 | .ready => 2),
        b8 (bit c.isProtected 1 + bit c.loop 2 + bit c.truncated 4 + 8)] ++ two (c.tag.getD 0) ++
        three (480 * c.count) ++ two c.count ++
        [b8 c.uses, b8 (bit (decide (s.clips.fallback = some n)) 1 + bit (decide (s.clips.tone = some n)) 2)] ++
        two (c.first.getD 0xFFFF)
      let ordinal := o1.toNat * 256 + o0.toNat
      let first := f1.toNat * 256 + f0.toNat
      first + count.toNat ≤ 480 → 1 ≤ count.toNat → count.toNat ≤ 36 →
        (s.segments (.playout n))[ordinal]? = some k → s.mem.holder k = .clip (.playout n) →
        segmentCheck (s.mem.read k).frames ≠ (s.mem.read k).check →
        exec (.clipRead .P ps) s = .next (answered .P 0x13 .ok (.bytes (clipPart ++
          two ordinal ++ two k ++ three 0 ++ [b8 (bit (decide (ordinal + 1 = c.count)) 1)] ++
          two ((s.mem.read k).link.getD 0xFFFF) ++ two first ++ [count] ++ List.replicate (6 * count.toNat) 0))
          (raise .P (.clipMemoryError (.playout n) k) { s with
            mem := { s.mem with errors := min 65535 (s.mem.errors + 1) }
            clips := { s.clips with playout := s.clips.playout.set n { c with damaged := true } } }))

/-- CLIP READ: what it returns of a clip and of a segment that passes or fails its check, and what it refuses (R68,
R72, R198). -/
def Obligations.ClipReadReturnsTheClip : Prop :=
  Claims.ClipReadReturnsTheClip ∧
    Claims.ClipReadFailures

/-- R66, R67, R68: an open reader hands over the frames of the segment at its position, zeros when it fails its
check, and moves on: to the next segment, from the last back to the first on a looping clip; at the end of any other
clip it is ended and reports end-of-audio once. A check failure is counted and marks the clip DAMAGED, with
CLIP_MEMORY_ERROR. (Where the report of end-of-audio waits to be taken is the model's choice, log entry 4.) -/
def Sys2Proof.Claims.ReadersFollowTheChain : Prop :=
  ∀ (r : ReaderOf) (n : ClipId) (o k : Nat) (s : State), s.clips.reader r = some ⟨.playout n, o, false, false⟩ →
    (s.segments (.playout n))[o]? = some k → s.mem.holder k = .clip (.playout n) →
    let c := s.clips.playout[n]
    let last := decide (c.count ≤ o + 1)
    let passes := decide (segmentCheck (s.mem.read k).frames = (s.mem.read k).check)
    let moved : Reader := ⟨.playout n, if !last then o + 1 else if c.loop then 0 else min (o + 1) c.count, last && !c.loop,
      false⟩
    let told (t : State) : State := if last && !c.loop then { t with due := t.due ++ [.endOfAudio r] } else t
    (passes = true → readBlock r s = ((s.mem.read k).frames, told (s.setReader r (some moved)))) ∧
    (passes = false → readBlock r s = (Block.silent, told ((raise .P (.clipMemoryError (.playout n) k) { s with
      mem := { s.mem with errors := min 65535 (s.mem.errors + 1) }
      clips := { s.clips with playout := s.clips.playout.set n { c with damaged := true } } }).setReader r (some moved))))

/-- R66, R67, R68, R135: ALERT's reader hands over an alert clip in the same way; a segment that fails its check
also marks the alert record of the clip's slot DAMAGED. (Where the report of end-of-audio waits is the model's
choice, log entry 4.) -/
def Sys2Proof.Claims.AlertReadersFollowTheChain : Prop :=
  ∀ (n : AlertSlot) (o k : Nat) (s : State), s.clips.readerAlert = some ⟨.alert n, o, false, false⟩ →
    (s.segments (.alert n))[o]? = some k → s.mem.holder k = .clip (.alert n) →
    let c := s.clips.alert[n]
    let last := decide (c.count ≤ o + 1)
    let passes := decide (segmentCheck (s.mem.read k).frames = (s.mem.read k).check)
    let moved : Reader := ⟨.alert n, if !last then o + 1 else if c.loop then 0 else min (o + 1) c.count, last && !c.loop,
      false⟩
    let told (t : State) : State := if last && !c.loop then { t with due := t.due ++ [.endOfAudio .alert] } else t
    let records := s.alerts.records.set n ((s.alerts.records[n]).map fun r => { r with damaged := true })
    (passes = true →
      readBlock .alert s = ((s.mem.read k).frames, told (s.setReader .alert (some moved)))) ∧
    (passes = false → readBlock .alert s = (Block.silent, told ((raise .P (.clipMemoryError (.alert n) k) { s with
      mem := { s.mem with errors := min 65535 (s.mem.errors + 1) }
      clips := { s.clips with alert := s.clips.alert.set n { c with damaged := true } }
      alerts := { s.alerts with records := records } }).setReader .alert (some moved))))

/-- How an open reader hands over its clip, a playout clip or an alert clip, segment by segment (R66 to R68, R135). -/
def Obligations.ReadersFollowTheChain : Prop :=
  Claims.ReadersFollowTheChain ∧
    Claims.AlertReadersFollowTheChain

-- the cue list

/-- R74, R76, R199: the 13 bytes of an entry. They spell an entry exactly when the kind takes and has the fields
given, each in range; the entry is WAITING at its start, its fades clamped to 500, its level 32,768 when not given. -/
def Obligations.EntriesAreSpelled : Prop :=
  ∀ (kind flags id l1 l0 t1 t0 i1 i0 o1 o0 g1 g0 : Byte),
    let bs := [kind, flags, id, l1, l0, t1, t0, i1, i0, o1, o0, g1, g0]
    let limit := l1.toNat * 256 + l0.toNat
    let tag := t1.toNat * 256 + t0.toNat
    let named := flags.getLsbD 0
    let limited := flags.getLsbD 1
    let spelled (k : EntryKind) : Prop := entryOf bs = some
      { kind := k, limit := if limited then some limit else none, tag := if flags.getLsbD 2 then some tag else none,
        fadeIn := min (i1.toNat * 256 + i0.toNat) 500, fadeOut := min (o1.toNat * 256 + o0.toNat) 500,
        segue := flags.getLsbD 4, level := if flags.getLsbD 3 then g1.toNat * 256 + g0.toNat else 32768,
        state := .waiting, ending := false, successorStarted := false, played := 0, resume := none, voice := none,
        released := false }
    let inRange := (limited = true → 1 ≤ limit ∧ limit ≤ 36000) ∧ (flags.getLsbD 2 = true → tag ≠ 0)
    (∀ n : ClipId, kind = 0 → named = true → id.toNat = n.val + 1 → inRange → spelled (.clip n)) ∧
    (kind = 1 → named = true → id = 1 → inRange → spelled (.stream .s1)) ∧
    (kind = 1 → named = true → id = 2 → inRange → spelled (.stream .s2)) ∧
    (kind = 2 → named = false → limited = true → inRange → spelled .gap) ∧
    (kind = 3 → named = false → limited = false → inRange → spelled .mark) ∧
    (¬inRange ∨ 3 < kind.toNat ∨ kind.toNat ≤ 1 ∧ named = false ∨ 2 ≤ kind.toNat ∧ named = true ∨
      kind = 0 ∧ (id.toNat = 0 ∨ 63 < id.toNat) ∨ kind = 1 ∧ id ≠ 1 ∧ id ≠ 2 ∨ kind = 2 ∧ limited = false ∨
      kind = 3 ∧ limited = true → entryOf bs = none)

/-- R76, R77, R69: an entry joins the list, by CUE APPEND at the tail and by CUE INSERT behind its first `p − 1`
entries: claimed, with its clip's tag when it has none (for CUE INSERT log entry 16), WAITING; in IDLE the engine
becomes ARMED, a notice at which no queued alert takes the air; CUE APPEND answers the position. (That CUE INSERT takes positions
up to the number of entries plus one has the tail of R77 as the last entry's position: the model's reading, log entry
59.) -/
def Sys2Proof.Claims.EntriesJoinTheList : Prop :=
  ∀ (bs : List Byte) (e : Entry) (s : State), Takes .P s → EngineFollows s →
    (s.cue.state = .idle → NoneTakes .ordinary .armed s) → bs.length = 13 → entryOf bs = some e → s.cue.entries.length < 32 →
    (∀ n, e.kind = .clip n → (s.clips.playout[n]).state = .ready ∧ ((s.clips.playout[n]).loop = true → e.limit ≠ none)) →
    let tag : Option Nat := match e.kind, e.tag with
      | .clip n, none => (s.clips.playout[n]).tag
      | _, t => t
    let claimed : Vector Clip 63 := match e.kind with
      | .clip n => s.clips.playout.set n { s.clips.playout[n] with uses := (s.clips.playout[n]).uses + 1 }
      | _ => s.clips.playout
    let joined (i : Nat) : State := { s with
      clips := { s.clips with playout := claimed }
      cue := { s.cue with
        entries := s.cue.entries.take i ++ { e with tag := tag } :: s.cue.entries.drop i
        state := if s.cue.state = .idle then .armed else s.cue.state }
      alerts := { s.alerts with view := if s.cue.state = .idle then .armed else s.alerts.view } }
    exec (.cueAppend .P bs) s = .next (answered .P 0x18 .ok (.position (s.cue.entries.length + 1))
      (joined s.cue.entries.length)) ∧
    ∀ p : Byte, 1 ≤ p.toNat → p.toNat ≤ 32 → s.cue.entries.countP (fun e => decide (e.state ≠ .waiting)) < p.toNat →
      p.toNat ≤ s.cue.entries.length + 1 →
      exec (.cueInsert .P (p :: bs)) s = .next (answered .P 0x19 .ok .none (joined (p.toNat - 1)))

/-- R76, R77, R78: what the list commands refuse, in the spec's order, changing nothing. (That the tail is the last
entry's position in R77 and R78 is the model's reading, log entry 59.) -/
def Sys2Proof.Claims.ListCommandsRefused : Prop :=
  ∀ (bs : List Byte) (p : Byte) (s : State), Takes .P s → bs.length = 13 →
    let front := s.cue.entries.countP fun e => decide (e.state ≠ .waiting)
    let append (c : Status) : Prop := exec (.cueAppend .P bs) s = .next (answered .P 0x18 c .none s)
    let insert (c : Status) : Prop := exec (.cueInsert .P (p :: bs)) s = .next (answered .P 0x19 c .none s)
    let remove (c : Status) : Prop := exec (.cueRemove .P [p]) s = .next (answered .P 0x1A c .none s)
    let read (c : Status) : Prop := exec (.cueListRead .P [p]) s = .next (answered .P 0x1C c .none s)
    (entryOf bs = none → append .badParam ∧ insert .badParam) ∧
    (p.toNat = 0 ∨ 32 < p.toNat → insert .badParam ∧ remove .badParam ∧ read .badParam) ∧
    (1 ≤ p.toNat → p.toNat ≤ 32 → s.cue.entries.length < p.toNat → remove .notFound) ∧
    (∀ e, 1 ≤ p.toNat → p.toNat ≤ 32 → s.cue.entries[p.toNat - 1]? = some e → e.state ≠ .waiting → remove .inUse) ∧
    ∀ e, entryOf bs = some e →
      let endless := ∃ n, e.kind = .clip n ∧ e.limit = none ∧ (s.clips.playout[n]).state = .ready ∧
        (s.clips.playout[n]).loop = true
      let unready := ∃ n, e.kind = .clip n ∧ (s.clips.playout[n]).state ≠ .ready
      (endless → append .badParam ∧ insert .badParam) ∧
      (¬endless → 32 ≤ s.cue.entries.length → append .full) ∧
      (s.cue.entries.length < 32 → unready → append .notFound) ∧
      (¬endless → 1 ≤ p.toNat → p.toNat ≤ 32 → p.toNat ≤ front → insert .inUse) ∧
      (¬endless → 1 ≤ p.toNat → p.toNat ≤ 32 → front < p.toNat → s.cue.entries.length + 1 < p.toNat →
        insert .notFound) ∧
      (¬endless → 1 ≤ p.toNat → p.toNat ≤ 32 → front < p.toNat → 32 ≤ s.cue.entries.length → insert .full)

/-- CUE APPEND and CUE INSERT, and what the list commands refuse (R76 to R78). (Where these rest on the model's
readings: log entries 16 and 59.) -/
def Obligations.EntriesJoinTheListOrAreRefused : Prop :=
  Claims.EntriesJoinTheList ∧
    Claims.ListCommandsRefused

/-- R78, R69, R75: entries leave the list, a WAITING one by CUE REMOVE and every WAITING one by CUE CLEAR, which
answers their number: their claims are released; LIST_EMPTY is raised when the list becomes empty; a go-pending mark
does not outlive the last WAITING entry (R85); an engine left with no PLAYING entry and an empty list is IDLE, a
notice at which no queued alert takes the air. -/
def Sys2Proof.Claims.EntriesLeaveTheList : Prop :=
  ∀ (p : Byte) (s : State), Takes .P s → EngineFollows s → (s.cue.state = .armed → NoneTakes .ordinary .idle s) →
    let left (es : List Entry) (clips : ClipStore) : State :=
      let state : EngineState :=
        if s.cue.state = .armed ∧ es = [] then .idle else s.cue.state
      (if es = [] ∧ s.cue.entries ≠ [] then raise .P .listEmpty else id) { s with
        clips := clips
        cue := { s.cue with
          entries := es
          state := state
          goPending := s.cue.goPending &&
            (es.any (fun e => decide (e.state = .waiting)) || decide (s.cue.state = .held ∨ s.cue.state = .filling)) }
        alerts := { s.alerts with view := if state = s.cue.state then s.alerts.view else state } }
    let uses (gone : List Entry) : ClipStore := { s.clips with playout := Vector.ofFn fun i : Fin 63 =>
      { s.clips.playout[i] with
        uses := (s.clips.playout[i]).uses - gone.countP fun e => decide (e.kind = .clip i) } }
    (∀ e, 1 ≤ p.toNat → p.toNat ≤ 32 → s.cue.entries[p.toNat - 1]? = some e → e.state = .waiting →
      exec (.cueRemove .P [p]) s =
        .next (answered .P 0x1A .ok .none (left (s.cue.entries.eraseIdx (p.toNat - 1)) (uses [e])))) ∧
    let gone := s.cue.entries.filter fun e => decide (e.state = .waiting)
    exec (.cueClear .P []) s = .next (answered .P 0x1B .ok (.removed gone.length)
      (left (s.cue.entries.filter fun e => decide (e.state ≠ .waiting)) (uses gone)))

/-- R79, R130, R133: a state notice of the Cue Engine is a window check: CUE CLEAR that leaves an ARMED engine IDLE,
and CUE STOP that leaves a PLAYING one ARMED, give the air to the first queued record that the table marks: it is
AIRING and no longer queued, ALERT_ON_AIR is raised and the engine is HELD. -/
def Sys2Proof.Claims.NoticesAreWindowChecks : Prop :=
  ∀ (k : AlertSlot) (r : AlertRecord) (s : State), Takes .P s → s.cue.entries ≠ [] → s.record k = some r →
    let aired (t : State) : Prop := t.record k = some { r with phase := .airing } ∧
      t.alerts.queue = s.alerts.queue.filter (fun j => decide (j ≠ k)) ∧ t.cue.state = .held ∧
      (∃ p ∈ (t.link .C).events, p.event = .alertOnAir r.id r.cls) ∧ t.sup.mode = some .alert
    (s.cue.state = .armed → (∀ e ∈ s.cue.entries, e.state = .waiting) → TakesAir .ordinary .idle k s →
      ∃ t, exec (.cueClear .P []) s = .next t ∧ aired t ∧ t.cue.entries = []) ∧
    (s.cue.state = .playing → TakesAir .ordinary .armed k s →
      ∃ t, exec (.cueStop .P []) s = .next t ∧ aired t ∧ ∀ e ∈ t.cue.entries, e.state ≠ .playing)

/-- CUE REMOVE and CUE CLEAR (R69, R75, R78), and the window check that a state notice of the engine is (R130). -/
def Obligations.EntriesLeaveTheList : Prop :=
  Claims.EntriesLeaveTheList ∧
    Claims.NoticesAreWindowChecks

/-- R84, R82: CUE GO, from link P or C. In ARMED the head is started in VOICE A, both voices being free: PLAYING,
its contributor sounding what it names from the start at its level, with its fade-in; a CLIP's reader opens on it.
Refused NOT_NOW in HELD, NOT_FOUND in IDLE and, with no WAITING entry, in PLAYING and FILLING. No queued alert takes
the air at the state notice. -/
def Sys2Proof.Claims.GoStartsTheHead : Prop :=
  ∀ (l : Link) (s : State), l = .P ∨ l = .C → Takes l s →
    (s.cue.state = .held → exec (.cueGo l []) s = .next (answered l 0x20 .notNow .none s)) ∧
    (s.cue.state = .idle ∨ s.cue.state = .playing ∨ s.cue.state = .filling →
      (∀ e ∈ s.cue.entries, e.state ≠ .waiting) → exec (.cueGo l []) s = .next (answered l 0x20 .notFound .none s)) ∧
    ∀ (e : Entry) (rest : List Entry), s.cue.state = .armed → s.cue.entries = e :: rest → e.state = .waiting →
      e.kind ≠ .mark → e.resume = none → s.cue.voiceA = .free → NoneTakes .ordinary .playing s → s.clips.readerA = none →
      (∀ n, e.kind = .clip n → (s.clips.playout[n]).state = .ready) →
      let sound (b : Binding) : Contrib := ⟨some b, e.level, if e.fadeIn = 0 then e.level else 0, none,
        if e.fadeIn = 0 then none else some ⟨e.level, min e.fadeIn 500, .level⟩⟩
      let started : Entry := { e with
        state := .playing, ending := false, successorStarted := false, played := 0, voice := some .A, released := false }
      let began (clips : ClipStore) (voice : Contrib) : State := { s with
        clips := clips
        mix := { s.mix with voiceA := voice }
        cue := { s.cue with
          entries := started :: rest
          voiceA := .carrying s.cue.clock
          state := .playing
          goPending := false
          window := none
          clock := s.cue.clock + 1 }
        alerts := { s.alerts with view := .playing } }
      (∀ n, e.kind = .clip n → exec (.cueGo l []) s = .next (answered l 0x20 .ok .none (began
        { s.clips with
          readerA := some ⟨.playout n, 0, false, false⟩
          playout := s.clips.playout.set n { s.clips.playout[n] with uses := (s.clips.playout[n]).uses + 1 } }
        (sound (.clip (.playout n)))))) ∧
      (e.kind = .stream .s1 →
        exec (.cueGo l []) s = .next (answered l 0x20 .ok .none (began s.clips (sound (.source 1))))) ∧
      (e.kind = .stream .s2 →
        exec (.cueGo l []) s = .next (answered l 0x20 .ok .none (began s.clips (sound (.source 2))))) ∧
      (e.kind = .gap → s.mix.voiceA.binding = none →
        exec (.cueGo l []) s = .next (answered l 0x20 .ok .none (began s.clips s.mix.voiceA)))

/-- R86: CUE STOP, from link P or C, is always answered OK. In PLAYING every PLAYING entry goes back to its start,
WAITING where it stands, the engine becomes ARMED, and the voice of each item fades out over the item's fade-out. In
IDLE, ARMED and FILLING nothing changes. No queued alert takes the air at the state notice. -/
def Sys2Proof.Claims.StopSetsEntriesBack : Prop :=
  ∀ (l : Link) (s : State), l = .P ∨ l = .C → Takes l s →
    (s.cue.state = .idle ∨ s.cue.state = .armed ∨ s.cue.state = .filling →
      exec (.cueStop l []) s = .next (answered l 0x21 .ok .none s)) ∧
    (s.cue.state = .playing → NoneTakes .ordinary .armed s → s.cue.entries ≠ [] → ∃ t, exec (.cueStop l []) s = .next t ∧
      (t.link l).inFlight = some ⟨0x21, some ⟨0x21, .ok, .none⟩⟩ ∧ t.cue.state = .armed ∧ t.cue.window = none ∧
      t.cue.goPending = false ∧
      t.cue.entries = s.cue.entries.map (fun e => if e.state = .playing then { e with
        state := .waiting, ending := false, successorStarted := false, played := 0, resume := none, voice := none
        released := false } else e) ∧
      (∀ v i o, s.carried v = some i → s.voice v = .carrying o → ∀ e, s.cue.entries[i]? = some e → e.kind ≠ .gap →
        0 < e.fadeOut → (s.contrib (voiceContributor v)).binding.isSome → (∃ o', t.voice v = .releasing o') ∧
        t.contrib (voiceContributor v) =
          { s.contrib (voiceContributor v) with waiting := some ⟨0, min e.fadeOut 500, .out⟩ }) ∧
      t.mem = s.mem ∧ t.delay = s.delay ∧ t.callers = s.callers ∧ t.sup = s.sup ∧ t.tx = s.tx ∧ t.prof = s.prof ∧
      t.panel = s.panel)

/-- R97: an open cancel window whose count has reached the setting closes (CANCEL WINDOW CLOSE). While it is open, a
GO_EDGE line's change to active is a cancel: the entry it names goes back to its start, WAITING where it stands, its
voice is cut and free, the window closes and, no other entry PLAYING, the engine is ARMED. (The entry sounds no
clip; no queued alert takes the air at the state notice.) (That a go-pending mark outlives the cancel is the model's
choice, log entry 41, and that an event found due waits to be taken, log entry 4.) -/
def Sys2Proof.Claims.CancelWindowsClose : Prop :=
  (∀ (w : CancelWindow) (s : State), Found .cancelWindowClose s → s.cue.window = some w →
    s.panel.settings.cancelWindow ≤ w.count → exec .cancelWindowClose s = .next { s with
      due := s.due.erase .cancelWindowClose
      cue := { s.cue with window := none } }) ∧
  ∀ (n : PanelLineNo) (v : Voice) (count : Nat) (before after : List Entry) (e : Entry) (s : State),
    (s.panel.settings.lines[n]).function = .goEdge → s.cue.window = some ⟨v, count⟩ → s.cue.state = .playing →
    s.cue.entries = before ++ e :: after → e.state = .playing → e.voice = some v →
    (∀ x ∈ before ++ after, x.state ≠ .playing) → NoneTakes .ordinary .armed s →
    (s.contrib (voiceContributor v)).binding.isSome → s.clips.reader (voiceReader v) = none →
    panelAction n true s = ({ s with
      cue := { s.cue with
        entries := before ++ { e with
          state := .waiting, ending := false, successorStarted := false, played := 0, resume := none, voice := none
          released := false } :: after
        state := .armed
        window := none }
      alerts := { s.alerts with view := .armed } }.setVoice v .free).setContrib (voiceContributor v)
        ⟨none, (s.contrib (voiceContributor v)).target, 0, none, none⟩

/-- An entry as it stands once it is started in a voice (R82). -/
def Sys2Proof.Claims.startedIn (v : Voice) (e : Entry) : Entry :=
  { e with
    state := .playing, ending := false, successorStarted := false, played := 0, resume := none, voice := some v
    released := false }

/-- A voice's contributor as an entry started in it makes it sound a source (R6, R82). -/
def Sys2Proof.Claims.soundingOf (n : Source) (e : Entry) : Contrib :=
  ⟨some (.source n), e.level, if e.fadeIn = 0 then e.level else 0, none,
    if e.fadeIn = 0 then none else some ⟨e.level, min e.fadeIn 500, .level⟩⟩

/-- The source of a STREAM entry (R82). -/
def Sys2Proof.Claims.streamSource : StreamSource → Source
  | .s1 => 1
  | .s2 => 2

/-- R85: CUE GO in PLAYING, a STREAM sounding in VOICE A and the head a STREAM. The item's ending and
successor-started marks are set and its voice fades out over its fade-out, and the head is started in VOICE B; with
the boundary wait set the head is go-pending instead, and a head that is go-pending already stays so, nothing
changing. With a fade-out of 0 the item ends at once, with ITEM_ENDED, and the head is started in VOICE A, no queued
alert taking the boundary. -/
def Sys2Proof.Claims.ManualSegues : Prop :=
  ∀ (l : Link) (o : Nat) (e h : Entry) (a b : StreamSource) (rest : List Entry) (s : State), l = .P ∨ l = .C → Takes l s →
    s.cue.state = .playing → s.cue.entries = e :: h :: rest → e.state = .playing → e.ending = false →
    e.voice = some .A → e.kind = .stream a → h.state = .waiting → h.kind = .stream b → s.cue.voiceA = .carrying o →
    s.cue.voiceB = .free → s.mix.voiceA.binding.isSome = true → s.clips.readerA = none → s.clips.readerB = none →
    h.resume = none →
    let went (t : State) : Prop := exec (.cueGo l []) s = .next (answered l 0x20 .ok .none t)
    let ended : Entry := { e with ending := true, successorStarted := true }
    let fading : Contrib := { s.mix.voiceA with waiting := some ⟨0, min e.fadeOut 500, .out⟩ }
    (s.cue.goPending = true → went s) ∧
    (s.cue.goPending = false → s.cue.boundaryWait = true → 0 < e.fadeOut → went { s with
      mix := { s.mix with voiceA := fading }
      cue := { s.cue with entries := ended :: h :: rest, goPending := true } }) ∧
    (s.cue.goPending = false → s.cue.boundaryWait = false → 0 < e.fadeOut → went { s with
      mix := { s.mix with voiceA := fading, voiceB := Claims.soundingOf (Claims.streamSource b) h }
      cue := { s.cue with
        entries := ended :: Claims.startedIn .B h :: rest
        voiceB := .carrying s.cue.clock, clock := s.cue.clock + 1, window := none } }) ∧
    (s.cue.goPending = false → s.cue.boundaryWait = false → e.fadeOut = 0 → NoneTakes .itemOffer .playing s →
      went (raise .P (.itemEnded e.tag) { s with
        mix := { s.mix with voiceA := Claims.soundingOf (Claims.streamSource b) h }
        cue := { s.cue with
          entries := Claims.startedIn .A h :: rest
          voiceA := .carrying s.cue.clock, clock := s.cue.clock + 1, window := none } }))

/-- R84, R167: CUE GO from FILLING, in FALLBACK, the fill sounding in VOICE A: the fill fades out over the fallback
fade time, its voice RELEASING; the head, a STREAM, is started in VOICE B; the engine is PLAYING; the air mode is
NORMAL with its counter at 0, and FALLBACK_LEFT records GO. No queued alert takes the air at the state notice. -/
def Sys2Proof.Claims.FillsGiveWayToGo : Prop :=
  ∀ (l : Link) (h : Entry) (b : StreamSource) (rest : List Entry) (s : State), l = .P ∨ l = .C → Takes l s →
    s.dev.state = .onAir → s.sup.mode = some .fallback → s.cue.state = .filling → s.cue.voiceA = .filling →
    s.cue.voiceB = .free → s.mix.voiceA.binding.isSome = true → 0 < s.sup.settings.fade → s.clips.readerB = none →
    s.cue.entries = h :: rest → h.state = .waiting → h.kind = .stream b → h.resume = none →
    NoneTakes .ordinary .playing s →
    ∃ t, exec (.cueGo l []) s = .next t ∧ (t.link l).inFlight = some ⟨0x20, some ⟨0x20, .ok, .none⟩⟩ ∧
      t.cue.state = .playing ∧ t.cue.entries = Claims.startedIn .B h :: rest ∧ (∃ o, t.cue.voiceA = .releasing o) ∧
      (∃ o, t.cue.voiceB = .carrying o) ∧
      t.mix = { s.mix with
        voiceA := { s.mix.voiceA with waiting := some ⟨0, min s.sup.settings.fade 500, .out⟩ }
        voiceB := Claims.soundingOf (Claims.streamSource b) h } ∧
      t.sup = { s.sup with mode := some .normal, counter := 0 } ∧ t.panel.reports.fallback = false ∧
      (∃ p ∈ (t.link .C).events, p.event = .fallbackLeft .go) ∧ t.clips = s.clips ∧ t.delay = s.delay

/-- R91, R92: a MARK that CUE GO starts in ARMED leaves the list with ITEM_ENDED and makes its offer. Declined, it
starts the head, here a STREAM, when it has its segue flag, and else leaves the engine ARMED, or IDLE with
LIST_EMPTY. Taken, the queued record is AIRING and the engine HELD, and with the segue flag the head is RESERVED. -/
def Sys2Proof.Claims.MarksMakeOffers : Prop :=
  ∀ (m : Entry) (rest : List Entry) (s : State), Takes .P s → s.cue.state = .armed → s.cue.entries = m :: rest →
    m.kind = .mark → m.state = .waiting → (∀ e ∈ rest, e.state = .waiting) →
    let left (t : State) : Prop := ∃ p ∈ (t.link .P).events, p.event = .itemEnded m.tag
    (NoneTakes .markOffer .armed s → m.segue = false → NoneTakes .ordinary .idle s →
      ∃ t, exec (.cueGo .P []) s = .next t ∧ left t ∧ t.cue.entries = rest ∧
        t.cue.state = (if rest = [] then .idle else .armed) ∧ t.mix = s.mix ∧
        (rest = [] → ∃ p ∈ (t.link .P).events, p.event = .listEmpty)) ∧
    (∀ h after b, NoneTakes .markOffer .armed s → m.segue = true → m.successorStarted = false → rest = h :: after →
      h.kind = .stream b → h.resume = none → s.cue.voiceA = .free → s.clips.readerA = none →
      NoneTakes .ordinary .playing s →
      ∃ t, exec (.cueGo .P []) s = .next t ∧ left t ∧ t.cue.entries = Claims.startedIn .A h :: after ∧
        t.cue.state = .playing ∧
        t.mix = { s.mix with voiceA := Claims.soundingOf (Claims.streamSource b) h }) ∧
    ∀ k r, TakesAir .markOffer .armed k s → s.record k = some r → m.successorStarted = false →
      ∃ t, exec (.cueGo .P []) s = .next t ∧ left t ∧ t.record k = some { r with phase := .airing } ∧
        t.cue.state = .held ∧ t.cue.entries = match m.segue, rest with
          | true, h :: after => { h with state := .reserved } :: after
          | _, _ => rest

/-- R91, R92, R132: a MARK reached by a segue while an older item still fades: its offer is TAKEN, which ends that item, and
then the MARK ends, so that ITEM_ENDED records the MARK's tag. (The MARK follows a STREAM in VOICE B at its duration limit,
whose own boundary no queued record takes. That an event found due waits to be taken is the model's choice, log entry 4.) -/
def Sys2Proof.Claims.MarksEndAfterTheirOffer : Prop :=
  ∀ (o p n : Nat) (k : AlertSlot) (r : AlertRecord) (x e m : Entry) (a : StreamSource) (rest : List Entry) (s : State),
    Found (.durationLimit .B) s → s.cue.state = .playing → s.cue.entries = x :: e :: m :: rest → x.state = .playing →
    x.voice = some .A → x.ending = true → s.cue.voiceA = .carrying o → e.state = .playing → e.voice = some .B →
    e.kind = .stream a → e.limit = some n → n ≤ e.played → e.released = false → e.segue = true →
    e.successorStarted = false → s.cue.voiceB = .carrying p → s.cue.goPending = false → m.kind = .mark →
    m.state = .waiting → (∀ y ∈ rest, y.state = .waiting) → NoneTakes .itemOffer .playing s →
    TakesAir .markOffer .playing k s → s.record k = some r →
    let reserves := m.segue = true ∧ m.successorStarted = false ∨ x.segue = true ∧ x.successorStarted = false
    ∃ t, exec (.durationLimit .B) s = .next t ∧ (∃ q ∈ (t.link .P).events, q.event = .itemEnded m.tag) ∧
      t.record k = some { r with phase := .airing } ∧ t.cue.state = .held ∧ t.cue.held = some ⟨.playing, none⟩ ∧
      (rest = [] → t.cue.entries = [] ∧ ∃ q ∈ (t.link .P).events, q.event = .listEmpty) ∧
      ∀ h after, rest = h :: after →
        (reserves → t.cue.entries = { h with state := .reserved } :: after) ∧ (¬reserves → t.cue.entries = rest)

/-- R93: CUE STOP in HELD is answered OK: every held entry and the RESERVED entry is WAITING at its start, and the
state left becomes ARMED, or IDLE with an empty list, unless it is FILLING. Nothing else changes. -/
def Sys2Proof.Claims.StopInHeld : Prop :=
  ∀ (l : Link) (h : HeldRecord) (s : State), l = .P ∨ l = .C → Takes l s → s.cue.state = .held → s.cue.held = some h →
    exec (.cueStop l []) s = .next (answered l 0x21 .ok .none { s with cue := { s.cue with
      entries := s.cue.entries.map fun e => if e.state = .waiting then e else { e with
        state := .waiting, ending := false, successorStarted := false, played := 0, resume := none, voice := none
        released := false }
      held := some { h with stateLeft := if h.stateLeft = .filling then .filling
        else if s.cue.entries = [] then .idle else .armed } } })

/-- R97, R174, R175: a GO_EDGE line's change to active, with no window open, acts as CUE GO; the item it starts from
ARMED, here a STREAM, is named by a cancel window with a count of 0, or by none with a setting of 0; a refusal
raises PANEL_REFUSED. An open window counts each input block boundary. (At the boundary no reader is open, no panel
line has a function, and the timed events are left to their rows.) -/
def Sys2Proof.Claims.WindowsOpen : Prop :=
  (∀ (n : PanelLineNo) (h : Entry) (b : StreamSource) (rest : List Entry) (s : State),
    (s.panel.settings.lines[n]).function = .goEdge → s.cue.window = none →
    (s.cue.state = .idle → panelAction n true s = raise .C (.panelRefused n .notFound) s) ∧
    (s.cue.state = .held → panelAction n true s = raise .C (.panelRefused n .notNow) s) ∧
    (s.cue.state = .armed → s.cue.entries = h :: rest → h.state = .waiting → h.kind = .stream b → h.resume = none →
      s.cue.voiceA = .free → s.clips.readerA = none → NoneTakes .ordinary .playing s →
      panelAction n true s = { s with
        mix := { s.mix with voiceA := Claims.soundingOf (Claims.streamSource b) h }
        cue := { s.cue with
          entries := Claims.startedIn .A h :: rest
          voiceA := .carrying s.cue.clock
          state := .playing
          goPending := false
          window := if s.panel.settings.cancelWindow = 0 then none else some ⟨.A, 0⟩
          clock := s.cue.clock + 1 }
        alerts := { s.alerts with view := .playing } })) ∧
  ∀ (env : InputBoundary) (s : State), s.live = true → s.due = [] → env.first = [] → env.leave = true →
    s.clips.readerA = none → s.clips.readerB = none → s.clips.readerAlert = none → s.clips.alertCapture = none →
    s.alerts.tone = none →
    (∀ n : PanelLineNo, (s.panel.settings.lines[n]).direction = .output ∨ (s.panel.settings.lines[n]).function = .none) →
    ∃ t, exec (.inputBlockBoundary env) s = .next t ∧
      t.cue.window = s.cue.window.map fun w => { w with count := w.count + 1 }

/-- CUE GO from each state, with segues, fills and MARKs; CUE STOP, also in HELD; the cancel window (R84 to R86,
R91, R93, R97). (That an event found due waits to be taken, and that a go-pending mark outlives a cancel, is the
model's choice, log entries 4 and 41.) -/
def Obligations.GoAndStop : Prop :=
  Claims.GoStartsTheHead ∧
    Claims.StopSetsEntriesBack ∧
    Claims.CancelWindowsClose ∧
    Claims.ManualSegues ∧
    Claims.FillsGiveWayToGo ∧
    Claims.MarksMakeOffers ∧
    Claims.MarksEndAfterTheirOffer ∧
    Claims.StopInHeld ∧
    Claims.WindowsOpen

/-- R90, R93: STREAM RELEASE: NOT_FOUND when no PLAYING STREAM entry on the source lacks its ending mark; in HELD
the entry leaves the list with ITEM_ENDED; otherwise its ending mark is set and its voice fades out over its
fade-out (here with no successor to start). -/
def Sys2Proof.Claims.StreamsAreReleased : Prop :=
  ∀ (b : Byte) (src : StreamSource) (s : State), Takes .P s → b.toNat = (match src with | .s1 => 1 | .s2 => 2) →
    let found (e : Entry) : Bool := decide (e.state = .playing ∧ e.ending = false ∧ e.kind = .stream src)
    ((∀ e ∈ s.cue.entries, found e = false) →
      exec (.streamRelease .P [b]) s = .next (answered .P 0x1D .notFound .none s)) ∧
    ∀ (before after : List Entry) (e : Entry), s.cue.entries = before ++ e :: after →
      (∀ x ∈ before, found x = false) → found e = true → e.segue = false →
      (s.cue.state = .held → exec (.streamRelease .P [b]) s = .next (answered .P 0x1D .ok .none
        ((if before ++ after = [] then raise .P .listEmpty else id) (raise .P (.itemEnded e.tag)
          { s with cue := { s.cue with entries := before ++ after } })))) ∧
      ∀ v, s.cue.state = .playing → e.voice = some v → 0 < e.fadeOut → s.cue.goPending = false →
        (s.contrib (voiceContributor v)).binding.isSome →
        exec (.streamRelease .P [b]) s = .next (answered .P 0x1D .ok .none ({ s with cue := { s.cue with
            entries := before ++ { e with ending := true, released := true } :: after } }.setContrib
          (voiceContributor v)
          { s.contrib (voiceContributor v) with waiting := some ⟨0, min e.fadeOut 500, .out⟩ }))

/-- R87, R88, R89: the timed events of an item in a voice. When its remaining length is at most its fade-out, its
ending mark is set and an OUT fade of what remains begins (END FADE START, here with no successor to start); when
its blocks played reach its duration limit it leaves the list with ITEM_ENDED, its voice is cut and free and its
claim released (DURATION LIMIT, here with nothing to follow), and no queued alert takes the boundary offered or the
air at the state notice. (The items are STREAMs, and the end fade's one whose blocks the last boundary counted. That
an event found due waits to be taken is the model's choice, log entry 4.) -/
def Sys2Proof.Claims.TimedItemsEnd : Prop :=
  ∀ (v : Voice) (i o n : Nat) (e : Entry) (s : State), s.carried v = some i → s.voice v = .carrying o →
    s.cue.entries[i]? = some e → e.limit = some n → e.segue = false → e.ending = false → s.cue.state = .playing →
    s.cue.goPending = false → (s.contrib (voiceContributor v)).binding.isSome →
    e.kind = .stream .s1 ∨ e.kind = .stream .s2 →
    (Found (.endFadeStart v) s → o < s.cue.counted → 0 < e.fadeOut → n - e.played ≤ e.fadeOut → 0 < n - e.played → n - e.played ≤ 500 →
      exec (.endFadeStart v) s = .next ({ s with
        due := s.due.erase (.endFadeStart v)
        cue := { s.cue with entries := s.cue.entries.set i { e with ending := true } } }.setContrib (voiceContributor v)
          { s.contrib (voiceContributor v) with waiting := some ⟨0, n - e.played, .out⟩ })) ∧
    (Found (.durationLimit v) s → NoneTakes .itemOffer s.cue.state s → NoneTakes .ordinary .armed s →
      NoneTakes .ordinary .idle s → n ≤ e.played → e.released = false → s.cue.window = none →
      s.clips.reader (voiceReader v) = none → ∃ t, exec (.durationLimit v) s = .next t ∧
      t.cue.entries = s.cue.entries.eraseIdx i ∧ t.voice v = .free ∧
      t.contrib (voiceContributor v) = ⟨none, (s.contrib (voiceContributor v)).target, 0, none, none⟩ ∧
      (∃ p ∈ (t.link .P).events, p.event = .itemEnded e.tag) ∧ t.due = s.due.erase (.durationLimit v) ∧
      t.mem = s.mem ∧ t.clips = s.clips ∧ t.delay = s.delay ∧ t.callers = s.callers ∧ t.sup = s.sup)

/-- R87, R88: at END FADE START of a STREAM in VOICE A with its segue flag, its successor, here a STREAM at the
head, is started in VOICE B while it fades; with the boundary wait set, or its successor-started mark already set,
none is started. (The item is one whose blocks the last boundary counted. That an event found due waits to be taken
is the model's choice, log entry 4.) -/
def Sys2Proof.Claims.SeguesStartSuccessors : Prop :=
  ∀ (o n : Nat) (e h : Entry) (a b : StreamSource) (rest : List Entry) (s : State), Found (.endFadeStart .A) s →
    s.cue.state = .playing → s.cue.entries = e :: h :: rest → e.state = .playing → e.ending = false →
    e.voice = some .A → e.kind = .stream a → e.limit = some n → e.segue = true → h.state = .waiting →
    h.kind = .stream b → h.resume = none → s.cue.voiceA = .carrying o → o < s.cue.counted → s.cue.voiceB = .free →
    s.mix.voiceA.binding.isSome = true → s.clips.readerB = none → s.cue.goPending = false → 0 < e.fadeOut →
    0 < n - e.played → n - e.played ≤ e.fadeOut → n - e.played ≤ 500 →
    let fading : Contrib := { s.mix.voiceA with waiting := some ⟨0, n - e.played, .out⟩ }
    (s.cue.boundaryWait = false → e.successorStarted = false → exec (.endFadeStart .A) s = .next { s with
      due := s.due.erase (.endFadeStart .A)
      mix := { s.mix with voiceA := fading, voiceB := Claims.soundingOf (Claims.streamSource b) h }
      cue := { s.cue with
        entries := { e with ending := true, successorStarted := true } :: Claims.startedIn .B h :: rest
        voiceB := .carrying s.cue.clock, clock := s.cue.clock + 1, window := none } }) ∧
    (s.cue.boundaryWait = true ∨ e.successorStarted = true → exec (.endFadeStart .A) s = .next { s with
      due := s.due.erase (.endFadeStart .A)
      mix := { s.mix with voiceA := fading }
      cue := { s.cue with entries := { e with ending := true } :: h :: rest } })

/-- R66, R67, R69, R89: the item ends of a CLIP, at the end of its audio within the input block boundary that read
its last segment, and of a GAP, at its limit: the entry leaves the list with ITEM_ENDED, LIST_EMPTY with it when it
was the last, its voice is cut and FREE, its reader closed, and the clip loses the reader's use and the entry's
claim. (Nothing follows the item, and no queued alert takes the boundary or the air. At the boundary no other reader
is open, nothing is captured, no panel line has a function, and the timed events are left to their rows. That an
event found due waits to be taken is the model's choice, log entry 4.) -/
def Sys2Proof.Claims.ClipsAndGapsEnd : Prop :=
  ∀ (o : Nat) (e : Entry) (rest : List Entry) (s : State), s.live = true → s.cue.state = .playing →
    s.cue.entries = e :: rest → e.state = .playing → e.voice = some .A → e.segue = false →
    (∀ x ∈ rest, x.state = .waiting) → s.cue.voiceA = .carrying o → s.cue.goPending = false →
    NoneTakes .itemOffer .playing s → NoneTakes .ordinary .armed s → NoneTakes .ordinary .idle s →
    let ended (t : State) : Prop := t.cue.entries = rest ∧ t.cue.voiceA = .free ∧
      t.cue.state = (if rest = [] then .idle else .armed) ∧ (∃ p ∈ (t.link .P).events, p.event = .itemEnded e.tag) ∧
      (rest = [] → ∃ p ∈ (t.link .P).events, p.event = .listEmpty)
    (∀ n, e.kind = .gap → Found (.durationLimit .A) s → e.limit = some n → n ≤ e.played → e.released = false →
      s.mix.voiceA.binding = none → ∃ t, exec (.durationLimit .A) s = .next t ∧ ended t ∧ t.mix = s.mix ∧
        t.clips = s.clips ∧ t.mem = s.mem) ∧
    ∀ (env : InputBoundary) (n : ClipId) (i : Nat), e.kind = .clip n → s.due = [] → env.first = [] → env.leave = true →
      s.clips.readerA = some ⟨.playout n, i, false, false⟩ → s.mix.voiceA.binding = some (.clip (.playout n)) →
      (s.clips.playout[n]).loop = false → (s.clips.playout[n]).count ≤ i + 1 →
      s.clips.readerB = none → s.clips.readerAlert = none → s.alerts.tone = none →
      s.clips.channels = Vector.replicate 2 none → s.clips.alertCapture = none →
      (∀ j : PanelLineNo, (s.panel.settings.lines[j]).direction = .output ∨ (s.panel.settings.lines[j]).function = .none) →
      ∃ t, exec (.inputBlockBoundary env) s = .next t ∧ ended t ∧ t.clips.readerA = none ∧
        (t.clips.playout[n]).uses = (s.clips.playout[n]).uses - 2 ∧ t.mix.voiceA.binding = none

/-- R91, R92, R132, R133: at an item's end the boundary is offered, and a queued record that the table marks for it
takes the air: the entry has left the list with ITEM_ENDED, the record is AIRING, the engine HELD with the state it
would have entered, and with the ended item's segue flag the head is RESERVED. (A STREAM in VOICE A at its duration limit. That an event found due waits to
be taken is the model's choice, log entry 4.) -/
def Sys2Proof.Claims.OffersAreTaken : Prop :=
  ∀ (o n : Nat) (k : AlertSlot) (r : AlertRecord) (e : Entry) (a : StreamSource) (rest : List Entry) (s : State),
    Found (.durationLimit .A) s → s.cue.state = .playing → s.cue.entries = e :: rest → e.state = .playing →
    e.voice = some .A → e.kind = .stream a → e.limit = some n → n ≤ e.played → e.released = false →
    e.successorStarted = false → s.cue.voiceA = .carrying o → s.cue.goPending = false →
    (∀ x ∈ rest, x.state = .waiting) → TakesAir .itemOffer .playing k s → s.record k = some r →
    ∃ t, exec (.durationLimit .A) s = .next t ∧ (∃ p ∈ (t.link .P).events, p.event = .itemEnded e.tag) ∧
      t.record k = some { r with phase := .airing } ∧ k ∉ t.alerts.queue ∧ t.cue.state = .held ∧
      t.cue.voiceA = .free ∧ (∃ p ∈ (t.link .C).events, p.event = .alertOnAir r.id r.cls) ∧
      t.cue.held = some ⟨if rest = [] then .idle else if e.segue = true then .playing else .armed, none⟩ ∧
      t.cue.entries = match e.segue, rest with
        | true, h :: after => { h with state := .reserved } :: after
        | _, _ => rest

/-- R79, R89, R92, R132: an offer TAKEN while another item is PLAYING with its ending mark: that item ends too, and the state
left is PLAYING, which the engine would have entered. The head is RESERVED when the item that ended, or the other, would
have started it. (A STREAM in VOICE A at its duration limit, the other in VOICE B. That an event found due waits to be taken
is the model's choice, log entry 4.) -/
def Sys2Proof.Claims.OffersAreTakenDuringAnEnding : Prop :=
  ∀ (o p n : Nat) (k : AlertSlot) (r : AlertRecord) (e x : Entry) (a : StreamSource) (rest : List Entry) (s : State),
    Found (.durationLimit .A) s → s.cue.state = .playing → s.cue.entries = e :: x :: rest → e.state = .playing →
    e.voice = some .A → e.kind = .stream a → e.limit = some n → n ≤ e.played → e.released = false →
    s.cue.voiceA = .carrying o → x.state = .playing → x.voice = some .B → x.ending = true → s.cue.voiceB = .carrying p →
    (∀ y ∈ rest, y.state = .waiting) → TakesAir .itemOffer .playing k s → s.record k = some r →
    let reserves := s.cue.goPending = true ∨ e.segue = true ∧ e.successorStarted = false ∨
      x.segue = true ∧ x.successorStarted = false
    ∃ t, exec (.durationLimit .A) s = .next t ∧ (∃ q ∈ (t.link .P).events, q.event = .itemEnded x.tag) ∧
      t.record k = some { r with phase := .airing } ∧ t.cue.state = .held ∧ t.cue.voiceA = .free ∧ t.cue.voiceB = .free ∧
      t.cue.held = some ⟨.playing, none⟩ ∧ (rest = [] → t.cue.entries = []) ∧
      ∀ h after, rest = h :: after →
        (reserves → t.cue.entries = { h with state := .reserved } :: after) ∧ (¬reserves → t.cue.entries = rest)

/-- How items end: STREAM RELEASE, END FADE START, DURATION LIMIT, the end of a clip's audio, the successor and the
offer (R87 to R91, R132). (That an event found due waits to be taken is the model's choice, log entry 4.) -/
def Obligations.ItemsEnd : Prop :=
  Claims.StreamsAreReleased ∧
    Claims.TimedItemsEnd ∧
    Claims.SeguesStartSuccessors ∧
    Claims.ClipsAndGapsEnd ∧
    Claims.OffersAreTaken ∧
    Claims.OffersAreTakenDuringAnEnding

-- callers

/-- R101: LINE CONNECT: a line number outside 1..4 is refused BAD_PARAM, a line that is not FREE IN_USE; otherwise
the line is SCREENING with trim 4,096 and result NONE, without priority, tag text, number or slot. -/
def Sys2Proof.Claims.LinesConnect : Prop :=
  ∀ (b : Byte) (s : State), Takes .S s →
    (b.toNat = 0 ∨ 4 < b.toNat → exec (.lineConnect .S [b]) s = .next (answered .S 0x50 .badParam .none s)) ∧
    ∀ i : PhoneLine, b.toNat = i.val + 1 →
      let connected : LineRecord := {
        state := .screening, trim := 4096, priority := none, tag := none, number := none, slot := none
        result := .none }
      ((s.line i).state ≠ .free → exec (.lineConnect .S [b]) s = .next (answered .S 0x50 .inUse .none s)) ∧
      ((s.line i).state = .free → exec (.lineConnect .S [b]) s = .next (answered .S 0x50 .ok .none
        { s with callers := { s.callers with lines := s.callers.lines.set i connected } }))

/-- R102, R105: LINE DOWN: answered OK in every line state; the line becomes FREE, keeping its trim and last result: a
measurement in flight on it ends ABORTED; a HELD line leaves the queue with QUEUE_CHANGED; a line on air is cut, its
slot emptied at once, with LINE_OFF_AIR. -/
def Sys2Proof.Claims.LinesGoDown : Prop :=
  ∀ (b : Byte) (i : PhoneLine) (s : State), Takes .S s → b.toNat = i.val + 1 →
    let x := s.line i
    let free (r : MeasureResult) : LineRecord := ⟨.free, x.trim, none, none, none, none, r⟩
    let down (t : State) : Prop := exec (.lineDown .S [b]) s = .next (answered .S 0x51 .ok .none t)
    (x.state = .free → down s) ∧
    (x.state = .screening → (∀ m, s.callers.measure = some m → m.line ≠ i) →
      down { s with callers := { s.callers with lines := s.callers.lines.set i (free x.result) } }) ∧
    (∀ m, x.state = .screening → s.callers.measure = some m → m.line = i →
      down (raise .S (.measureDone i .aborted x.trim)
        { s with callers := { s.callers with lines := s.callers.lines.set i (free .aborted), measure := none } })) ∧
    (x.state = .held →
      let queue := s.callers.queue.filter fun j => decide (j ≠ i)
      down (raise .S (.queueChanged queue.length)
        { s with callers := { s.callers with lines := s.callers.lines.set i (free x.result), queue := queue } })) ∧
    ∀ k : CallerSlot, x.state = .onAir → x.slot = some k →
      (s.contrib (slotContributor k)).binding.isSome →
      let slots := s.callers.slots.set k ⟨none, none⟩
      down (raise .S (.lineOffAir i k .lineDown) ({ s with
        callers := { s.callers with lines := s.callers.lines.set i (free x.result), slots := slots }
        panel := { s.panel with reports := { s.panel.reports with
          callerOn := slots[0].occupant.isSome || slots[1].occupant.isSome } } }.setContrib (slotContributor k)
        ⟨none, (s.contrib (slotContributor k)).target, 0, none, none⟩))

/-- LINE CONNECT and LINE DOWN (R101, R102). -/
def Obligations.LinesConnectAndGoDown : Prop :=
  Claims.LinesConnect ∧
    Claims.LinesGoDown

/-- R103, R104: LINE MEASURE puts a measurement in flight, its target clamped to 1..8,388,607 and 4,194,304 when absent;
refused BAD_PARAM, BUSY, NOT_FOUND in that order. At its 200th block it is judged on its peak, and MEASURE_DONE records
the line, the result and the trim. (That an event found due waits to be taken is the model's choice, log entry 4.) -/
def Obligations.LinesAreMeasured : Prop :=
  (∀ (b t2 t1 t0 : Byte) (s : State), Takes .S s →
    let given := t2.toNat * 65536 + t1.toNat * 256 + t0.toNat
    let measure (ps : List Byte) (t : State) (c : Status) : Prop :=
      exec (.lineMeasure .S ps) s = .next (answered .S 0x52 c .none t)
    (b.toNat = 0 ∨ 4 < b.toNat → measure [b] s .badParam ∧ measure [b, t2, t1, t0] s .badParam) ∧
    ∀ i : PhoneLine, b.toNat = i.val + 1 →
      (s.callers.measure ≠ none → measure [b] s .busy ∧ measure [b, t2, t1, t0] s .busy) ∧
      (s.callers.measure = none → (s.line i).state ≠ .screening →
        measure [b] s .notFound ∧ measure [b, t2, t1, t0] s .notFound) ∧
      (s.callers.measure = none → (s.line i).state = .screening →
        measure [b] { s with callers := { s.callers with measure := some ⟨i, 4194304, 0, 0⟩ } } .ok ∧
        measure [b, t2, t1, t0]
          { s with callers := { s.callers with measure := some ⟨i, max 1 (min given 8388607), 0, 0⟩ } } .ok)) ∧
  ∀ (m : Measure) (s : State), Found .measureDone s → s.callers.measure = some m → 200 ≤ m.count →
    let x := s.line m.line
    let judged (r : MeasureResult) (trim : Nat) : State :=
      raise .S (.measureDone m.line r trim) { s with
        due := s.due.erase .measureDone
        callers := { s.callers with
          lines := s.callers.lines.set m.line { x with result := r, trim := trim }
          measure := none } }
    (m.peak < 4096 → exec .measureDone s = .next (judged .noSignal x.trim)) ∧
    (8300000 ≤ m.peak → exec .measureDone s = .next (judged .clipped x.trim)) ∧
    (4096 ≤ m.peak → m.peak < 8300000 →
      exec .measureDone s = .next (judged .pass (max 256 (min 32767 (m.target * 4096 / m.peak)))))

/-- R106, R107, R108, R109: CALLER ADMIT, UPDATE and WITHDRAW. An admitted line is HELD with the next admission
number and joins the hold queue, a measurement on it ending ABORTED first; an update keeps its number and places it
again; a line withdrawn goes back to SCREENING. A queue in order stays in order: by priority, then by number.
QUEUE_CHANGED follows each change of the queue. -/
def Sys2Proof.Claims.CallersQueueInOrder : Prop :=
  ∀ (b p : Byte) (text : List Byte) (i : PhoneLine) (s : State), Takes .S s → b.toNat = i.val + 1 → p.toNat ≤ 3 →
    text.length ≤ 24 → (∀ c ∈ text, 0x20 ≤ c.toNat ∧ c.toNat ≤ 0x7E) →
    (∀ j ∈ s.callers.queue, ∃ n, (s.line j).number = some n ∧ n < s.callers.nextNumber) →
    s.callers.nextNumber < 65535 → s.callers.queue.Nodup → QueueInOrder s.callers.lines s.callers.queue →
    s.callers.queue.Pairwise (fun a b => (s.line a).number ≠ (s.line b).number) →
    let tag := if text = [] then none else some text
    ((s.line i).state = .screening → i ∉ s.callers.queue → ∃ q, q.Perm (i :: s.callers.queue) ∧
      let measured := ∃ m, s.callers.measure = some m ∧ m.line = i
      let line (r : MeasureResult) : LineRecord := { s.line i with
        state := .held, priority := some p.toNat, tag := tag, number := some s.callers.nextNumber, result := r }
      let lines (r : MeasureResult) : Vector LineRecord 4 := s.callers.lines.set i (line r)
      let admitted (r : MeasureResult) (m : Option Measure) (t : State) : State :=
        let callers : Callers :=
          { t.callers with lines := lines r, queue := q, nextNumber := s.callers.nextNumber + 1, measure := m }
        answered .S 0x53 .ok .none (raise .S (.queueChanged q.length) { t with callers := callers })
      (∀ r, QueueInOrder (lines r) q) ∧
      (¬measured → exec (.callerAdmit .S (b :: p :: text)) s =
        .next (admitted (s.line i).result s.callers.measure s)) ∧
      (measured → exec (.callerAdmit .S (b :: p :: text)) s =
        .next (admitted .aborted none (raise .S (.measureDone i .aborted (s.line i).trim) s)))) ∧
    ((s.line i).state = .held → i ∈ s.callers.queue → ∃ q, q.Perm s.callers.queue ∧
      let lines := s.callers.lines.set i { s.line i with priority := some p.toNat, tag := tag }
      QueueInOrder lines q ∧
      exec (.callerUpdate .S (b :: p :: text)) s = .next (answered .S 0x54 .ok .none
        ((if q = s.callers.queue then id else raise .S (.queueChanged q.length))
          { s with callers := { s.callers with lines := lines, queue := q } }))) ∧
    ((s.line i).state = .held →
      let q := s.callers.queue.filter fun j => decide (j ≠ i)
      let withdrawn : LineRecord := { s.line i with state := .screening, number := none, priority := none }
      exec (.callerWithdraw .S [b]) s = .next (answered .S 0x55 .ok .none (raise .S (.queueChanged q.length)
        { s with callers := { s.callers with lines := s.callers.lines.set i withdrawn, queue := q } }))) ∧
    ((s.line i).state = .free → exec (.callerAdmit .S (b :: p :: text)) s =
      .next (answered .S 0x53 .notFound .none s)) ∧
    ((s.line i).state = .held ∨ (s.line i).state = .onAir → exec (.callerAdmit .S (b :: p :: text)) s =
      .next (answered .S 0x53 .inUse .none s)) ∧
    ((s.line i).state ≠ .held → exec (.callerUpdate .S (b :: p :: text)) s =
        .next (answered .S 0x54 .notFound .none s) ∧
      exec (.callerWithdraw .S [b]) s = .next (answered .S 0x55 .notFound .none s))

/-- R106: a line admitted when the next number is 65,535: the lines in the queue are numbered 1, 2, … in the order
of their numbers, the line admitted takes the number that follows, and every line keeps its place. -/
def Sys2Proof.Claims.QueuesAreRenumbered : Prop :=
  ∀ (b p : Byte) (text : List Byte) (i : PhoneLine) (s : State), Takes .S s → b.toNat = i.val + 1 → p.toNat ≤ 3 →
    text.length ≤ 24 → (∀ c ∈ text, 0x20 ≤ c.toNat ∧ c.toNat ≤ 0x7E) → (s.line i).state = .screening →
    i ∉ s.callers.queue → s.callers.queue.Nodup → s.callers.nextNumber = 65535 →
    (∀ j ∈ s.callers.queue, (s.line j).number.isSome = true) →
    s.callers.queue.Pairwise (fun a b => (s.line a).number ≠ (s.line b).number) →
    QueueInOrder s.callers.lines s.callers.queue →
    let k := s.callers.queue.length
    ∃ t, exec (.callerAdmit .S (b :: p :: text)) s = .next t ∧ (t.line i).state = .held ∧
      (t.line i).number = some (k + 1) ∧ t.callers.nextNumber = k + 2 ∧
      (∀ j ∈ s.callers.queue,
        let smaller := s.callers.queue.countP fun m => decide ((s.line m).number.getD 0 < (s.line j).number.getD 0)
        t.line j = { s.line j with number := some (1 + smaller) }) ∧
      t.callers.queue.filter (fun j => decide (j ≠ i)) = s.callers.queue ∧ i ∈ t.callers.queue ∧
      t.callers.queue.Nodup ∧ QueueInOrder t.callers.lines t.callers.queue

/-- CALLER ADMIT, UPDATE and WITHDRAW, and the renumbering at 65,535 (R106 to R109). -/
def Obligations.CallersQueueInOrder : Prop :=
  Claims.CallersQueueInOrder ∧
    Claims.QueuesAreRenumbered

/-- R112, R113: CALLER TAKE NEXT takes the head of the queue and CALLER TAKE LINE the HELD line it names, in air
mode NORMAL: into slot 1 when it is free, else slot 2, fading in from zero to the slot's gain; LINE_ON_AIR and
QUEUE_CHANGED. Refused in order: NO_SLOT, NOT_SAFE while the safe-take policy is on and E < E_t, NOT_FOUND. -/
def Sys2Proof.Claims.CallersTakeTheAir : Prop :=
  ∀ (b : Byte) (i : PhoneLine) (s : State), Takes .C s → s.dev.state = .onAir →
    s.sup.mode = some .normal → b.toNat = i.val + 1 →
    let unsafeNow := s.sup.settings.safeTake = true ∧ s.delay.excess < 480 * s.delay.target
    let full := (s.slot 0).occupant.isSome ∧ (s.slot 1).occupant.isSome
    let next (c : Status) (t : State) : Prop := exec (.callerTakeNext .C []) s = .next (answered .C 0x38 c .none t)
    let named (c : Status) (t : State) : Prop := exec (.callerTakeLine .C [b]) s = .next (answered .C 0x39 c .none t)
    (full → next .noSlot s ∧ named .noSlot s) ∧
    (¬full → unsafeNow → next .notSafe s ∧ named .notSafe s) ∧
    (¬full → ¬unsafeNow → s.callers.queue = [] → next .notFound s) ∧
    (¬full → ¬unsafeNow → (s.line i).state ≠ .held → named .notFound s) ∧
    ∀ k : CallerSlot, (s.slot k).occupant = none → (k = 1 → (s.slot 0).occupant.isSome) → ¬unsafeNow →
      let queue := s.callers.queue.filter fun j => decide (j ≠ i)
      let gain := (s.contrib (slotContributor k)).target
      let n := s.mix.slotFade[k]
      let taken : State := raise .S (.queueChanged queue.length) (raise .S (.lineOnAir i k) ({ s with
          callers := { s.callers with
            lines := s.callers.lines.set i { s.line i with state := .onAir, slot := some k, number := none }
            queue := queue
            slots := s.callers.slots.set k ⟨some i, none⟩ }
          panel := { s.panel with reports := { s.panel.reports with callerOn := true } } }.setContrib
        (slotContributor k) ⟨some (.source (lineSource i)), gain, if n = 0 then gain else 0, none,
          if n = 0 then none else some ⟨gain, min n 500, .level⟩⟩))
      (s.callers.queue.head? = some i → next .ok taken) ∧ ((s.line i).state = .held → named .ok taken)

/-- R113, R167, R96: a take in FALLBACK: the head of the queue enters a slot, the air mode is NORMAL with its
counter at 0, FALLBACK_LEFT records CALLER, and the fill ends: it fades out over the fallback fade time, and the
engine is ARMED, or IDLE with an empty list. No queued alert takes the air at the state notice. -/
def Sys2Proof.Claims.TakesLeaveFallback : Prop :=
  ∀ (i : PhoneLine) (k : CallerSlot) (s : State), Takes .C s → s.dev.state = .onAir → s.sup.mode = some .fallback →
    s.callers.queue.head? = some i → (s.slot k).occupant = none → (k = 1 → (s.slot 0).occupant.isSome = true) →
    (s.sup.settings.safeTake = true → 480 * s.delay.target ≤ s.delay.excess) → s.cue.state = .filling →
    (∀ e ∈ s.cue.entries, e.state ≠ .playing) → NoneTakes .ordinary .armed s → NoneTakes .ordinary .idle s →
    ∃ t, exec (.callerTakeNext .C []) s = .next t ∧ (t.link .C).inFlight = some ⟨0x38, some ⟨0x38, .ok, .none⟩⟩ ∧
      t.slot k = ⟨some i, none⟩ ∧ (t.line i).state = .onAir ∧ i ∉ t.callers.queue ∧
      t.sup = { s.sup with mode := some .normal, counter := 0 } ∧ t.panel.reports.fallback = false ∧
      (∃ p ∈ (t.link .C).events, p.event = .fallbackLeft .caller) ∧
      (∃ p ∈ (t.link .S).events, p.event = .lineOnAir i k) ∧ t.cue.entries = s.cue.entries ∧
      t.cue.state = (if s.cue.entries = [] then .idle else .armed) ∧
      (s.cue.voiceA = .filling → s.mix.voiceA.binding.isSome = true → 0 < s.sup.settings.fade →
        (∃ o, t.cue.voiceA = .releasing o) ∧
        t.mix.voiceA = { s.mix.voiceA with waiting := some ⟨0, min s.sup.settings.fade 500, .out⟩ })

/-- CALLER TAKE NEXT and CALLER TAKE LINE in NORMAL, and a take in FALLBACK, which ends it (R112, R113, R167). -/
def Obligations.CallersTakeTheAir : Prop :=
  Claims.CallersTakeTheAir ∧
    Claims.TakesLeaveFallback

/-- R114, R115: CALLER RELEASE: refused NOT_FOUND for an empty slot; a release in progress takes the new disposition
and its fade runs on; otherwise the slot's contributor fades out over the slot fade time. When that fade completes,
or at once with a time of 0, DROP makes the line FREE and HOLD makes it HELD with the next number (here into an
empty queue, with QUEUE_CHANGED), and LINE_OFF_AIR is raised. (That an event found due waits to be taken is the
model's choice, log entry 4.) -/
def Sys2Proof.Claims.CallersLeaveTheAir : Prop :=
  ∀ (k : CallerSlot) (s : State),
    let contributor := slotContributor k
    let x := s.contrib contributor
    let ended (i : PhoneLine) (d : Disposition) (t : State) : State :=
      let slots := s.callers.slots.set k ⟨none, none⟩
      let line : LineRecord := match d with
        | .drop => ⟨.free, (s.line i).trim, none, none, none, none, (s.line i).result⟩
        | .hold => { s.line i with state := .held, slot := none, number := some s.callers.nextNumber }
      let callers : Callers := { s.callers with
        lines := s.callers.lines.set i line
        slots := slots
        queue := if d = .drop then s.callers.queue else [i]
        nextNumber := if d = .drop then s.callers.nextNumber else s.callers.nextNumber + 1 }
      let reports : Reports :=
        { s.panel.reports with callerOn := slots[0].occupant.isSome || slots[1].occupant.isSome }
      (if d = .drop then id else raise .S (.queueChanged 1)) (raise .S (.lineOffAir i k .released)
        ({ t with callers := callers, panel := { s.panel with reports := reports } }.setContrib contributor
          ⟨none, x.target, 0, none, none⟩))
    (∀ (b d : Byte) (disposition : Disposition), Takes .C s → b.toNat = k.val + 1 →
      d.toNat = (match disposition with | .hold => 0 | .drop => 1) →
      let released (t : State) : Prop := exec (.callerRelease .C [b, d]) s = .next (answered .C 0x3A .ok .none t)
      ((s.slot k).occupant = none →
        exec (.callerRelease .C [b, d]) s = .next (answered .C 0x3A .notFound .none s)) ∧
      ∀ i, (s.slot k).occupant = some i → s.panel.reports.callerOn = true →
        let t := { s with callers := { s.callers with slots := s.callers.slots.set k ⟨some i, some disposition⟩ } }
        ((s.slot k).release.isSome → released t) ∧
        ((s.slot k).release = none → 0 < s.mix.slotFade[k] → x.binding.isSome →
          released (t.setContrib contributor { x with waiting := some ⟨0, min s.mix.slotFade[k] 500, .out⟩ })) ∧
        ((s.slot k).release = none → s.mix.slotFade[k] = 0 → x.binding.isSome →
          disposition = .drop ∨ s.callers.queue = [] ∧ s.callers.nextNumber < 65535 →
          released (ended i disposition s))) ∧
    ∀ (i : PhoneLine) (d : Disposition) (f : Fade), Found (.fadeComplete contributor) s →
      s.slot k = ⟨some i, some d⟩ → x.fade = some f → f.purpose = .out → f.length ≤ f.done →
      d = .drop ∨ s.callers.queue = [] ∧ s.callers.nextNumber < 65535 →
      exec (.fadeComplete contributor) s =
        .next (ended i d { s with due := s.due.erase (.fadeComplete contributor) })

/-- R115, R106: a HOLD release that ends while other lines are queued: the line is HELD with the next number and
takes its place by its priority, behind the lines already queued at it; LINE_OFF_AIR and QUEUE_CHANGED are raised.
(That an event found due waits to be taken is the model's choice, log entry 4.) -/
def Sys2Proof.Claims.ReleasedLinesJoinTheQueue : Prop :=
  ∀ (k : CallerSlot) (i : PhoneLine) (f : Fade) (s : State), Found (.fadeComplete (slotContributor k)) s →
    s.slot k = ⟨some i, some .hold⟩ → (s.contrib (slotContributor k)).fade = some f → f.purpose = .out →
    f.length ≤ f.done → LinesKept s → QueueNumbered s →
    ∃ t, exec (.fadeComplete (slotContributor k)) s = .next t ∧ t.slot k = ⟨none, none⟩ ∧
      t.line i = { s.line i with state := .held, slot := none, number := some s.callers.nextNumber } ∧
      t.callers.nextNumber = s.callers.nextNumber + 1 ∧ (∀ j, j ≠ i → t.line j = s.line j) ∧
      i ∈ t.callers.queue ∧ t.callers.queue.filter (fun j => decide (j ≠ i)) = s.callers.queue ∧
      t.callers.queue.Nodup ∧ QueueInOrder t.callers.lines t.callers.queue ∧
      (∃ p ∈ (t.link .S).events, p.event = .lineOffAir i k .released) ∧
      (∃ p ∈ (t.link .S).events, p.event = .queueChanged (s.callers.queue.length + 1)) ∧
      (t.contrib (slotContributor k)).binding = none

/-- CALLER RELEASE and the end of its fade (R114, R115), also into a queue that holds other lines. -/
def Obligations.CallersLeaveTheAir : Prop :=
  Claims.CallersLeaveTheAir ∧
    Claims.ReleasedLinesJoinTheQueue

/-- Law 8 (R112): while the safe-take policy is on, no line enters a caller slot while E < E_t: by no command or
event (an output block boundary, which changes E, with nothing left due from before). -/
def Obligations.NoTakeBeforeTheDelayIsSafe : Prop :=
  ∀ (c : Instr) (s t : State), s.sup.settings.safeTake = true → s.delay.excess < 480 * s.delay.target →
    (s.due = [] ∨ ∀ env, c ≠ .outputBlockBoundary env) → exec c s = .next t →
    ∀ (k : CallerSlot) (i : PhoneLine), (t.slot k).occupant = some i → (s.slot k).occupant = some i

-- emergency alerts

/-- R124, R126: an ALERT BEGIN that is captured: its record stands RECEIVING in the lowest-numbered free slot with the
fields given and nothing counted, ALERT_STATE is raised, the alert capture starts for the slot, and the answer names
it. (That the record's clip field shows 0 segments while nothing is captured is the model's choice, log entry 45.) -/
def Sys2Proof.Claims.AlertsAreCaptured : Prop :=
  ∀ (ps : List Byte) (a : Arrival) (k : AlertSlot) (s : State), Takes .A s → s.dev.state = .onAir →
    11 ≤ ps.length → (ps.length - 11) % 6 = 0 → arrivalOf ps = some a → AlertAccepted a k s →
    (a.cls ≠ .immediate ∨ ∃ j r, s.record j = some r ∧ r.phase = .airing) →
    s.clips.alert[k] = Clip.empty →
    let record : AlertRecord := {
      id := a.id, origin := a.origin, event := a.event, cls := a.cls, areas := a.areas, valid := a.valid
      phase := .receiving, cutThrough := false, truncated := false, damaged := false, clip := some (k, 0)
      firstSeq := none, lastSeq := none, age := 0, hold := 0, overdue := false, airBlocks := 0, framesSent := 0
      clean := false, confirm := 0 }
    let clips : ClipStore := { s.clips with
      alert := s.clips.alert.set k { s.clips.alert[k] with state := .capturing }
      alertCapture := some k }
    exec (.alertBegin .A ps) s = .next (answered .A 0x60 .ok (.alertTaken k false)
      (raise .A (.alertState a.id a.origin .receiving false false)
        { s with clips := clips, alerts := { s.alerts with records := s.alerts.records.set k (some record) } }))

/-- R126, R133, R168: an IMMEDIATE alert that finds no record AIRING takes the air at once by cut-through: AIRING,
ALERT bound to S7 at full gain, the Cue Engine HELD with its voices free, both caller slots empty, air mode ALERT
with the former mode remembered, a forced dump asked for unless alert segments are held, the panel told, and
ALERT_ON_AIR raised. -/
def Sys2Proof.Claims.ImmediateAlertsCutThrough : Prop :=
  ∀ (ps : List Byte) (a : Arrival) (k : AlertSlot) (m : AirMode) (s : State), Takes .A s → s.dev.state = .onAir →
    11 ≤ ps.length → (ps.length - 11) % 6 = 0 → arrivalOf ps = some a → AlertAccepted a k s → a.cls = .immediate →
    (∀ j r, s.record j = some r → r.phase ≠ .airing) → s.sup.mode = some m → m ≠ .alert → s.cue.state ≠ .held →
    ∃ t, exec (.alertBegin .A ps) s = .next t ∧
      (t.link .A).inFlight = some ⟨0x60, some ⟨0x60, .ok, .alertTaken k true⟩⟩ ∧
      (∃ r, t.record k = some r ∧ r.id = a.id ∧ r.origin = a.origin ∧ r.cls = .immediate ∧ r.phase = .airing ∧
        r.cutThrough = true ∧ r.airBlocks = 0) ∧
      (∀ j, j ≠ k → t.record j = s.record j) ∧
      t.mix.alert = ⟨some (.source 7), 32768, 32768, none, none⟩ ∧
      t.cue.state = .held ∧ t.cue.voiceA = .free ∧ t.cue.voiceB = .free ∧
      t.mix.voiceA.binding = none ∧ t.mix.voiceB.binding = none ∧
      (t.slot 0).occupant = none ∧ (t.slot 1).occupant = none ∧
      t.sup = { s.sup with mode := some .alert, remembered := some m } ∧
      t.delay = { s.delay with dump := if 0 < s.delay.alertSegs then s.delay.dump else some .unlimited } ∧
      t.panel.reports.alertActive = true ∧
      (∃ p ∈ (t.link .C).events, p.event = .alertOnAir a.id .immediate) ∧
      t.mem = s.mem ∧ t.tx = s.tx ∧ t.prof = s.prof ∧ t.dev = s.dev ∧ t.due = s.due

/-- R124: what ALERT BEGIN refuses, in order. -/
def Sys2Proof.Claims.AlertsAreRefused : Prop :=
  ∀ (ps : List Byte) (s : State), Takes .A s → s.dev.state = .onAir → 11 ≤ ps.length → (ps.length - 11) % 6 = 0 →
    let refused (c : Status) : Prop := exec (.alertBegin .A ps) s = .next (answered .A 0x60 c .none s)
    let active (p : AlertRecord → Prop) : Prop := ∃ k r, s.record k = some r ∧ p r
    let past (p : AlertRecord → Prop) : Prop := ∃ r ∈ s.alerts.history, p r
    (arrivalOf ps = none → refused .badParam) ∧
    ∀ a, arrivalOf ps = some a →
      let same (r : AlertRecord) : Prop := r.id = a.id ∧ r.origin = a.origin
      let other (r : AlertRecord) : Prop := r.id = a.id ∧ r.origin ≠ a.origin
      let taking (r : AlertRecord) : Prop := r.phase = .receiving ∨ r.cutThrough = true ∧ r.phase = .airing
      let duplicate := active same ∨ past same
      let inUse := active other ∨ past other ∧ 0 < s.delay.alertSegs
      (duplicate → refused .duplicate) ∧ (¬duplicate → inUse → refused .inUse) ∧
      (¬duplicate → ¬inUse → active taking → refused .busy) ∧
      (¬duplicate → ¬inUse → ¬active taking → (∀ k, (s.record k).isSome) →
        (∀ k r, s.alerts.queue.getLast? = some k → s.record k = some r → a.cls.rank ≤ r.cls.rank) → refused .full)

/-- R121, R124, R199: the bytes of ALERT BEGIN: the id, the origin and event codes, the class, the valid time and
the area codes of six bytes each. They spell an arrival exactly when each is in range. -/
def Sys2Proof.Claims.ArrivalsAreSpelled : Prop :=
  ∀ (i1 i0 o1 o2 o3 e1 e2 e3 c v1 v0 : Byte) (areas : List (List Byte)), (∀ x ∈ areas, x.length = 6) →
    let ps := [i1, i0, o1, o2, o3, e1, e2, e3, c, v1, v0] ++ areas.flatten
    let id := i1.toNat * 256 + i0.toNat
    let valid := v1.toNat * 256 + v0.toNat
    let digit (b : Byte) : Prop := 0x30 ≤ b.toNat ∧ b.toNat ≤ 0x39
    let code (b : Byte) : Prop := digit b ∨ 0x41 ≤ b.toNat ∧ b.toNat ≤ 0x5A
    let good := id ≠ 0 ∧ (∀ b ∈ [o1, o2, o3, e1, e2, e3], code b) ∧ c.toNat ≤ 3 ∧ 1 ≤ areas.length ∧
      areas.length ≤ 8 ∧ (∀ x ∈ areas, ∀ b ∈ x, digit b) ∧ 1 ≤ valid ∧ valid ≤ 1440
    (good → ∀ cls : AlertClass,
      c = (match cls with | .test => 0x00 | .advisory => 0x01 | .warning => 0x02 | .immediate => 0x03) →
      arrivalOf ps = some ⟨id, [o1, o2, o3], [e1, e2, e3], cls, areas, valid⟩) ∧
    (¬good → arrivalOf ps = none)

/-- R117: the takeover of a cut-through alert returns the callers in the slots to the hold queue. (What it makes of
releases in progress is the model's reading, log entry 17.) -/
def Sys2Proof.Claims.TakeoversReturnTheLines : Prop :=
  ∀ (ps : List Byte) (a : Arrival) (k : AlertSlot) (s : State), Takes .A s → s.dev.state = .onAir →
    11 ≤ ps.length → (ps.length - 11) % 6 = 0 → arrivalOf ps = some a → AlertAccepted a k s → a.cls = .immediate →
    (∀ j r, s.record j = some r → r.phase ≠ .airing) → LinesKept s → QueueNumbered s →
    (∀ k, (s.slot k).occupant = none → (s.slot k).release = none) →
    ∃ t, exec (.alertBegin .A ps) s = .next t ∧ Claims.linesReturned .alert s t

/-- R92: what the takeover of a cut-through alert makes of the Cue Engine. A PLAYING entry with its ending mark leaves
the list with ITEM_ENDED; of the others a CLIP keeps its reader's position, a STREAM its blocks played, and a GAP starts
over. The head becomes RESERVED when it was go-pending or when an entry that left would have started it. The state left
and the fill's position are held, both readers close, the cancel window closes, and ENGINE_HELD is raised. (That of several
entries that leave the last in the list gives ITEM_ENDED its tag is the model's choice, log entry 51.) -/
def Sys2Proof.Claims.TakeoversHoldTheEngine : Prop :=
  ∀ (ps : List Byte) (a : Arrival) (k : AlertSlot) (s : State), Takes .A s → s.dev.state = .onAir →
    11 ≤ ps.length → (ps.length - 11) % 6 = 0 → arrivalOf ps = some a → AlertAccepted a k s → a.cls = .immediate →
    (∀ j r, s.record j = some r → r.phase ≠ .airing) → s.cue.state ≠ .held →
    let position (v : Voice) : Option Nat :=
      (match v with | .A => s.clips.readerA | .B => s.clips.readerB).map fun x : Reader => 480 * x.ordinal
    let leaves (e : Entry) : Bool := decide (e.state = .playing) && e.ending
    let held (e : Entry) : Entry := match e.kind with
      | .clip _ => { e with resume := e.voice.bind position }
      | .stream _ => { e with resume := some e.played }
      | _ => { e with played := 0 }
    let kept := (s.cue.entries.filter fun e => !leaves e).map fun e => if e.state = .playing then held e else e
    let reserves := s.cue.goPending = true ∨
      ∃ e ∈ s.cue.entries, leaves e = true ∧ e.segue = true ∧ e.successorStarted = false
    ∃ t, exec (.alertBegin .A ps) s = .next t ∧
      (¬reserves ∨ (∀ e ∈ kept, e.state ≠ .waiting) → t.cue.entries = kept) ∧
      (∀ before h after, reserves → kept = before ++ h :: after → (∀ x ∈ before, x.state ≠ .waiting) →
        h.state = .waiting → t.cue.entries = before ++ { h with state := .reserved } :: after) ∧
      t.cue.state = .held ∧ t.cue.goPending = false ∧ t.cue.window = none ∧ t.alerts.view = .held ∧
      t.cue.held = some ⟨s.cue.state,
        if s.cue.state = .filling ∧ s.cue.voiceA = .filling then position .A else none⟩ ∧
      (∀ e, (s.cue.entries.filter leaves).getLast? = some e → ∃ p ∈ (t.link .P).events, p.event = .itemEnded e.tag) ∧
      (s.cue.entries ≠ [] → kept = [] → ∃ p ∈ (t.link .P).events, p.event = .listEmpty) ∧
      (∃ p ∈ (t.link .P).events, p.event = .engineHeld) ∧
      (∀ x, s.clips.readerA = some x → s.mix.voiceA.binding = some (.clip x.clip) → t.clips.readerA = none) ∧
      ∀ x, s.clips.readerB = some x → s.mix.voiceB.binding = some (.clip x.clip) → t.clips.readerB = none

/-- R125, R142: with four active records, an arrival whose class ranks above that of the queue's tail evicts it: the
tail record heads the history with the outcome DISCARDED, its alert clip's segments are freed, and the newcomer, here
captured, takes its slot. (That a record in the history names no clip is the model's reading, log entry 29.) -/
def Sys2Proof.Claims.AlertsEvict : Prop :=
  ∀ (ps : List Byte) (a : Arrival) (k : AlertSlot) (r : AlertRecord) (s : State), Takes .A s → s.dev.state = .onAir →
    11 ≤ ps.length → (ps.length - 11) % 6 = 0 → arrivalOf ps = some a →
    (∀ j, ∃ x, s.record j = some x ∧ x.id ≠ a.id ∧ x.phase ≠ .receiving ∧
      ¬(x.cutThrough = true ∧ x.phase = .airing)) →
    (∀ x ∈ s.alerts.history, x.id ≠ a.id ∨ x.origin ≠ a.origin ∧ s.delay.alertSegs = 0) →
    (a.cls ≠ .immediate ∨ ∃ j x, j ≠ k ∧ s.record j = some x ∧ x.phase = .airing) →
    s.alerts.queue.getLast? = some k → s.record k = some r → r.phase = .pending → r.cls.rank < a.cls.rank →
    s.clips.alertCapture = none → s.clips.readerAlert.map Reader.clip ≠ some (.alert k) →
    ∃ t, exec (.alertBegin .A ps) s = .next t ∧
      (t.link .A).inFlight = some ⟨0x60, some ⟨0x60, .ok, .alertTaken k false⟩⟩ ∧
      (∃ x, t.record k = some x ∧ x.id = a.id ∧ x.origin = a.origin ∧ x.cls = a.cls ∧ x.phase = .receiving) ∧
      (∀ j, j ≠ k → t.record j = s.record j) ∧
      t.alerts.history = ({ r with phase := .finished .discarded, clip := none } :: s.alerts.history).take 8 ∧
      t.alerts.queue = s.alerts.queue.filter (fun j => decide (j ≠ k)) ∧
      t.mem = s.mem.freeAll (.alert k) (s.segments (.alert k)) ∧ t.clips.alertCapture = some k ∧
      t.clips.alert[k] = { Clip.empty with state := .capturing }

/-- ALERT BEGIN: how an arrival is spelled, captured, takes the air by cut-through and holds the engine, evicts
another, or is refused (R92, R117, R124 to R126, R133). (What the clip field shows of a RECEIVING and of a finished
record: log entries 45 and 29.) -/
def Obligations.AlertsArrive : Prop :=
  Claims.AlertsAreCaptured ∧
    Claims.ImmediateAlertsCutThrough ∧
    Claims.TakeoversHoldTheEngine ∧
    Claims.AlertsAreRefused ∧
    Claims.ArrivalsAreSpelled ∧
    Claims.TakeoversReturnTheLines ∧
    Claims.AlertsEvict

/-- R127, R128, R123, R132: the capture of a record ends, at ALERT AUDIO END or at 12,000 segments with TRUNCATED
set, while it may not take the air: its alert clip is READY and the record PENDING with ALERT_STATE raised, in the
alert queue behind the records of its class and higher and ahead of the lower; the Cue Engine's boundary wait is
worked out. (That an event found due waits to be taken is the model's choice, log entry 4.) -/
def Sys2Proof.Claims.CapturedAlertsWait : Prop :=
  ∀ (k : AlertSlot) (r : AlertRecord) (before after : List AlertSlot) (s : State), s.record k = some r →
    r.phase = .receiving → s.clips.alertCapture = some k → 0 < s.clips.alert[k].count →
    s.alerts.queue = before ++ after → (∀ j ∈ before, ∃ x, s.record j = some x ∧ r.cls.rank ≤ x.cls.rank) →
    (∀ j ∈ after, ∃ x, s.record j = some x ∧ x.cls.rank < r.cls.rank) → k ∉ s.alerts.queue →
    NoneTakes .ordinary s.alerts.view s →
    (s.dev.state ≠ .onAir ∨ (∃ j x, s.record j = some x ∧ x.phase = .airing) ∨ r.cls = .advisory ∨
      r.cls = .warning ∧ (s.alerts.view = .playing ∨ s.alerts.view = .held) ∨ r.cls = .test ∧ s.alerts.view ≠ .idle) →
    let n := s.clips.alert[k].count
    let waits : Bool := [0, 1, 2, 3].any fun j : AlertSlot =>
      match if j = k then some { r with phase := .pending } else s.record j with
      | some x => decide (x.phase = .pending ∧ x.cls ≠ .immediate)
      | none => false
    let waiting (truncated : Bool) (t : State) : State :=
      let record : AlertRecord :=
        { r with phase := .pending, truncated := truncated, clip := some (k, n), hold := 0, overdue := false }
      let clip : Clip := { s.clips.alert[k] with state := .ready, truncated := truncated }
      raise .A (.alertState r.id r.origin .pending truncated r.damaged) { t with
        clips := { s.clips with alert := s.clips.alert.set k clip, alertCapture := none }
        alerts := { s.alerts with records := s.alerts.records.set k (some record), queue := before ++ k :: after }
        cue := { s.cue with boundaryWait := waits } }
    (∀ h l : Byte, Takes .A s → h.toNat * 256 + l.toNat = r.id → r.id ≠ 0 →
      (∀ j x, s.record j = some x → x.id = r.id → j = k) →
      exec (.alertAudioEnd .A [h, l]) s = .next (answered .A 0x61 .ok .none (waiting false s))) ∧
    (Found .alertCaptureFull s → 12000 ≤ n →
      exec .alertCaptureFull s = .next (waiting true { s with due := s.due.erase .alertCaptureFull }))

/-- R64, R127, R128: an ALERT AUDIO END taken after the input block boundary at which the capture came to 12,000 segments, though
its row has not come, is answered OK and changes nothing more: the capture has ended there with TRUNCATED set. (That an event
found due waits to be taken is the model's choice, log entry 4.) -/
def Sys2Proof.Claims.AudioEndsFollowTheBoundary : Prop :=
  ∀ (h l : Byte) (k : AlertSlot) (r : AlertRecord) (s : State), Reaches .A s → s.due = [.alertCaptureFull] →
    s.record k = some r → r.phase = .receiving → s.clips.alertCapture = some k → 12000 ≤ s.clips.alert[k].count →
    h.toNat * 256 + l.toNat = r.id → r.id ≠ 0 → (∀ j x, s.record j = some x → x.id = r.id → j = k) → r.cutThrough = false →
    ∃ u, exec .alertCaptureFull s = .next u ∧
      exec (.alertAudioEnd .A [h, l]) s = .next (answered .A 0x61 .ok .none u) ∧ (u.clips.alert[k]).state = .ready ∧
      (u.clips.alert[k]).truncated = true ∧ ∃ x, u.record k = some x ∧ x.truncated = true ∧
        (x.phase = .pending ∨ x.phase = .airing)

/-- R131: a PENDING record whose hold count reaches the limit of its class becomes overdue. While another record is
AIRING it stays PENDING; with the air free, ON_AIR, the head of the queue takes the air. (That an event found due
waits to be taken is the model's choice, log entry 4.) -/
def Sys2Proof.Claims.HeldAlertsBecomeOverdue : Prop :=
  ∀ (k : AlertSlot) (r : AlertRecord) (s : State), Found (.holdLimitReached k) s → s.record k = some r →
    r.phase = .pending → r.overdue = false →
    (r.cls = .warning ∧ s.alerts.settings.warningHold ≤ r.hold ∨
      r.cls = .advisory ∧ s.alerts.settings.advisoryHold ≤ r.hold) →
    ((∃ j x, s.record j = some x ∧ x.phase = .airing) → exec (.holdLimitReached k) s = .next { s with
      due := s.due.erase (.holdLimitReached k)
      alerts := { s.alerts with records := s.alerts.records.set k (some { r with overdue := true }) } }) ∧
    ((∀ j x, s.record j = some x → x.phase ≠ .airing) → s.dev.state = .onAir → s.alerts.queue.head? = some k →
      ∃ t x, exec (.holdLimitReached k) s = .next t ∧ t.record k = some x ∧ x.phase = .airing ∧ x.id = r.id ∧
        k ∉ t.alerts.queue ∧ (s.cue.state ≠ .held → t.cue.state = .held))

/-- R130: the table of the window checks: which records may take the air at which check. -/
def Sys2Proof.Claims.WindowTable : Prop :=
  ∀ (view : EngineState) (r : AlertRecord),
    (r.overdue = true → ∀ c, eligible c view r = true) ∧
    (r.overdue = false →
      (eligible .ordinary view r = true ↔ r.cls = .immediate ∨
        r.cls = .warning ∧ (view = .idle ∨ view = .armed ∨ view = .filling) ∨ r.cls = .test ∧ view = .idle) ∧
      (eligible .itemOffer view r = true ↔ r.cls ≠ .test) ∧ eligible .markOffer view r = true ∧
      (eligible .airingEnd view r = true ↔ r.cls ≠ .test))

/-- R127, R128, R130: a captured record that becomes PENDING with the air free and no other queued takes it at once
when the table marks it: IMMEDIATE always, WARNING but in PLAYING and HELD, TEST in IDLE. -/
def Sys2Proof.Claims.CapturedAlertsTakeTheAir : Prop :=
  ∀ (h l : Byte) (k : AlertSlot) (r : AlertRecord) (s : State), Takes .A s → s.dev.state = .onAir →
    h.toNat * 256 + l.toNat = r.id → r.id ≠ 0 → s.record k = some r → r.phase = .receiving →
    (∀ j x, s.record j = some x → x.id = r.id → j = k) → (∀ j x, s.record j = some x → x.phase ≠ .airing) →
    s.alerts.queue = [] → s.clips.alertCapture = some k → 0 < s.clips.alert[k].count →
    r.cls = .immediate ∨ r.cls = .warning ∧ s.alerts.view ≠ .playing ∧ s.alerts.view ≠ .held ∨
      r.cls = .test ∧ s.alerts.view = .idle →
    ∃ t, exec (.alertAudioEnd .A [h, l]) s = .next t ∧
      (t.link .A).inFlight = some ⟨0x61, some ⟨0x61, .ok, .none⟩⟩ ∧
      t.record k = some { r with
        phase := .airing, truncated := false, clip := some (k, s.clips.alert[k].count), hold := 0, overdue := false } ∧
      t.alerts.queue = [] ∧ t.cue.state = .held ∧ t.sup.mode = some .alert ∧
      (t.clips.alert[k]).state = .ready ∧ t.panel.reports.alertActive = true ∧
      (∃ p ∈ (t.link .C).events, p.event = .alertOnAir r.id r.cls)

/-- R127: a capture that ends without a segment leaves no audio: the record finishes UNCONFIRMED with TRUNCATED set
and its alert clip is EMPTY; at an input block boundary whose allocation is refused, a capture with segments ends
TRUNCATED and its record is PENDING, or AIRING. (At the boundary no other capture runs, no reader is open, no panel
line has a function, and the timed events are left to their rows.) -/
def Sys2Proof.Claims.CapturesWithoutRoom : Prop :=
  ∀ (k : AlertSlot) (r : AlertRecord) (s : State), s.record k = some r → r.phase = .receiving →
    (∀ j x, s.record j = some x → x.id = r.id → j = k) → s.clips.alertCapture = some k →
    let unconfirmed (t : State) : Prop := t.record k = none ∧ t.clips.alertCapture = none ∧
      t.clips.alert[k] = Clip.empty ∧ (∃ x, t.alerts.history.head? = some x ∧ x.id = r.id ∧
        x.phase = .finished .unconfirmed ∧ x.truncated = true) ∧
      ∃ p ∈ (t.link .A).events, p.event = .alertState r.id r.origin (.finished .unconfirmed) true r.damaged
    (∀ h l : Byte, Takes .A s → h.toNat * 256 + l.toNat = r.id → r.id ≠ 0 → s.clips.alert[k].count = 0 →
      ∃ t, exec (.alertAudioEnd .A [h, l]) s = .next t ∧ unconfirmed t) ∧
    ∀ env : InputBoundary, s.live = true → s.due = [] → env.first = [] → env.leave = true → s.mem.free = [] →
      s.clips.channels = Vector.replicate 2 none → s.clips.readerA = none → s.clips.readerB = none →
      s.clips.readerAlert = none → s.alerts.tone = none →
      (∀ n : PanelLineNo, (s.panel.settings.lines[n]).direction = .output ∨ (s.panel.settings.lines[n]).function = .none) →
      ∃ t, exec (.inputBlockBoundary env) s = .next t ∧ t.clips.alertCapture = none ∧
        (s.clips.alert[k].count = 0 → unconfirmed t) ∧
        (0 < s.clips.alert[k].count → (t.clips.alert[k]).state = .ready ∧ (t.clips.alert[k]).truncated = true ∧
          ∃ x, t.record k = some x ∧ x.id = r.id ∧ x.truncated = true ∧
            x.clip = some (k, s.clips.alert[k].count) ∧ (x.phase = .pending ∨ x.phase = .airing))

/-- Captured records: their end, the queue, the window table, the air taken at once, and the hold limit (R123, R127,
R128, R130, R131). -/
def Obligations.AlertsWaitForTheAir : Prop :=
  Claims.CapturedAlertsWait ∧
    Claims.AudioEndsFollowTheBoundary ∧
    Claims.HeldAlertsBecomeOverdue ∧
    Claims.WindowTable ∧
    Claims.CapturedAlertsTakeTheAir ∧
    Claims.CapturesWithoutRoom

/-- R129, R138, R141, R142: records that finish without airing further. The record leaves its slot and the queue and
heads the history with its outcome; ALERT_STATE is raised and the wait notice worked out again. A RECEIVING or
PENDING record, cancelled or expired, loses its alert clip, whose segments are freed; a CONFIRMING one is cancelled,
or UNCONFIRMED when its confirm window closes. Link C may not cancel a WARNING or IMMEDIATE record. (That a record
in the history names no clip is the model's reading, log entry 29; that an event found due waits to be taken is its
choice, log entry 4.) -/
def Obligations.AlertsFinish : Prop :=
  ∀ (k : AlertSlot) (r : AlertRecord) (s : State), s.record k = some r →
    let finished (o : AlertOutcome) (t : State) : State :=
      let past : AlertRecord := { r with phase := .finished o, clip := none }
      let waits : Bool := [0, 1, 2, 3].any fun j : AlertSlot => decide (j ≠ k) &&
        match s.record j with
        | some x => decide (x.phase = .pending ∧ x.cls ≠ .immediate)
        | none => false
      raise .A (.alertState r.id r.origin (.finished o) r.truncated r.damaged) { t with
        alerts := { s.alerts with
          records := s.alerts.records.set k none
          queue := s.alerts.queue.filter fun j => decide (j ≠ k)
          history := (past :: s.alerts.history).take 8 }
        cue := { s.cue with boundaryWait := waits } }
    let discarded (t : State) : State := { t with
      mem := s.mem.freeAll (.alert k) (s.segments (.alert k))
      clips := { s.clips with
        alert := s.clips.alert.set k Clip.empty
        alertCapture := if s.clips.alertCapture = some k then none else s.clips.alertCapture } }
    (∀ (l : Link) (h b : Byte), l = .A ∨ l = .C → Takes l s → h.toNat * 256 + b.toNat = r.id → r.id ≠ 0 →
      (∀ j x, s.record j = some x → x.id = r.id → j = k) →
      (l = .C → r.cls = .warning ∨ r.cls = .immediate →
        exec (.alertCancel l [h, b]) s = .next (answered l 0x48 .notPermitted .none s)) ∧
      (l = .A ∨ r.cls = .test ∨ r.cls = .advisory →
        (r.phase = .confirming →
          exec (.alertCancel l [h, b]) s = .next (answered l 0x48 .ok .none (finished .cancelled s))) ∧
        (r.phase = .receiving ∨ r.phase = .pending → s.clips.readerAlert = none →
          exec (.alertCancel l [h, b]) s =
            .next (answered l 0x48 .ok .none (finished .cancelled (discarded s)))))) ∧
    (Found (.alertExpiry k) s → r.phase = .receiving ∨ r.phase = .pending → 6000 * r.valid ≤ r.age →
      s.clips.readerAlert = none → exec (.alertExpiry k) s =
        .next (finished .expired (discarded { s with due := s.due.erase (.alertExpiry k) }))) ∧
    (Found (.confirmWindowExpiry k) s → r.phase = .confirming → r.framesSent = r.airBlocks → 500 ≤ r.confirm →
      exec (.confirmWindowExpiry k) s =
        .next (finished .unconfirmed { s with due := s.due.erase (.confirmWindowExpiry k) }))

/-- R128, R134, R136, R137: the airing of a cut-through record ends, at ALERT AUDIO END or after 12,000 blocks with
TRUNCATED set, and by ALERT CANCEL: ALERT is cut, the record is CONFIRMING, or in the history CANCELLED, ALERT_OFF_AIR
is raised, and, no record being queued, the air is released: the engine leaves HELD, the remembered air mode returns,
the panel is told. (That an event found due waits to be taken is the model's choice, log entry 4.) (That a record in
the history names no clip is the model's reading, log entry 29.) -/
def Sys2Proof.Claims.AiringsEnd : Prop :=
  ∀ (k : AlertSlot) (r : AlertRecord) (s : State), s.record k = some r → r.phase = .airing → r.cutThrough = true →
    (∀ j x, s.record j = some x → x.phase = .airing → j = k) → s.alerts.queue = [] → s.sup.mode = some .alert →
    s.cue.state = .held → s.cue.held.isSome → s.mix.alert.binding.isSome →
    let released (t : State) (cancelled : Bool) : Prop :=
      t.mix.alert.binding = none ∧ t.cue.state ≠ .held ∧ t.cue.held = none ∧
        t.sup = { s.sup with mode := s.sup.remembered, remembered := none } ∧ t.panel.reports.alertActive = false ∧
        (∃ p ∈ (t.link .C).events, p.event = .alertOffAir r.id cancelled) ∧ t.delay = s.delay ∧
        t.callers = s.callers ∧ t.mem = s.mem ∧ ∀ j, j ≠ k → t.record j = s.record j
    (∀ h l : Byte, Takes .A s → h.toNat * 256 + l.toNat = r.id → r.id ≠ 0 →
      (∀ j x, s.record j = some x → x.id = r.id → j = k) →
      (0 < r.airBlocks → ∃ t, exec (.alertAudioEnd .A [h, l]) s = .next t ∧ released t false ∧
        (t.link .A).inFlight = some ⟨0x61, some ⟨0x61, .ok, .none⟩⟩ ∧
        t.record k = some { r with phase := .confirming }) ∧
      ∃ t, exec (.alertCancel .A [h, l]) s = .next t ∧ released t true ∧
        (t.link .A).inFlight = some ⟨0x48, some ⟨0x48, .ok, .none⟩⟩ ∧ t.record k = none ∧
        t.alerts.history = ({ r with phase := .finished .cancelled, clip := none } :: s.alerts.history).take 8) ∧
    (Found .liveAlertLimit s → 12000 ≤ r.airBlocks → ∃ t, exec .liveAlertLimit s = .next t ∧ released t false ∧
      t.record k = some { r with phase := .confirming, truncated := true })

/-- R136, R137: the airing of a cut-through record with no air blocks that ends at ALERT AUDIO END: it finishes
UNCONFIRMED at once. And with a record queued that the table marks for the end of an airing, the first such takes the
air in its place: the engine stays HELD and the air mode ALERT. (That a record in the history names no clip is the
model's reading, log entry 29.) -/
def Sys2Proof.Claims.AiringsGiveWay : Prop :=
  ∀ (h l : Byte) (k : AlertSlot) (r : AlertRecord) (s : State), Takes .A s → s.dev.state = .onAir →
    h.toNat * 256 + l.toNat = r.id → r.id ≠ 0 → s.record k = some r → r.phase = .airing → r.cutThrough = true →
    (∀ j x, s.record j = some x → x.phase = .airing ∨ x.id = r.id → j = k) → s.sup.mode = some .alert →
    s.cue.state = .held → s.cue.held.isSome = true → s.mix.alert.binding.isSome = true →
    (s.alerts.queue = [] → r.airBlocks = 0 → ∃ t, exec (.alertAudioEnd .A [h, l]) s = .next t ∧
      t.record k = none ∧ t.alerts.history =
        ({ r with phase := .finished .unconfirmed, clip := none } :: s.alerts.history).take 8 ∧
      t.cue.state ≠ .held ∧ t.mix.alert.binding = none ∧
      (∃ p ∈ (t.link .C).events, p.event = .alertOffAir r.id false) ∧
      ∃ p ∈ (t.link .A).events, p.event = .alertState r.id r.origin (.finished .unconfirmed) r.truncated r.damaged) ∧
    ∀ j q x, s.alerts.queue = j :: q → j ≠ k → s.record j = some x → x.overdue = true ∨ x.cls ≠ .test →
      0 < r.airBlocks → ∃ t, exec (.alertAudioEnd .A [h, l]) s = .next t ∧
        t.record k = some { r with phase := .confirming } ∧ t.record j = some { x with phase := .airing } ∧
        j ∉ t.alerts.queue ∧ t.cue.state = .held ∧ t.sup = s.sup ∧ t.panel.reports.alertActive = true ∧
        (∃ p ∈ (t.link .C).events, p.event = .alertOffAir r.id false) ∧
        ∃ p ∈ (t.link .C).events, p.event = .alertOnAir x.id x.cls

/-- An entry as the release of the air starts it in a voice (R82, R94): a STREAM keeps its blocks played. (A CLIP's
blocks played start again from 0: the model's reading, log entry 14.) -/
def Sys2Proof.Claims.restartedIn (v : Voice) (e : Entry) : Entry :=
  { Claims.startedIn v e with played := match e.kind with | .stream _ => e.resume.getD 0 | _ => 0 }

/-- What a voice sounds for an entry that the release of the air starts in it (R82, R94): a CLIP from its resume
position, a STREAM its live source, with the entry's level and fade-in; a GAP nothing. -/
def Sys2Proof.Claims.soundsRestarted (v : Voice) (e : Entry) (s t : State) : Prop :=
  let heard (b : Binding) : Prop := t.contrib (voiceContributor v) =
    ⟨some b, e.level, if e.fadeIn = 0 then e.level else 0, none,
      if e.fadeIn = 0 then none else some ⟨e.level, min e.fadeIn 500, .level⟩⟩
  (∀ n i, e.kind = .clip n → (s.clips.playout[n]).state = .ready → e.resume.getD 0 = 480 * i →
    i ≤ (s.clips.playout[n]).count → (i < (s.clips.playout[n]).count ∨ (s.clips.playout[n]).loop = false) →
    heard (.clip (.playout n)) ∧
      (match v with | .A => t.clips.readerA | .B => t.clips.readerB) = some ⟨.playout n, i, false, false⟩) ∧
  (∀ a, e.kind = .stream a → heard (.source (Claims.streamSource a))) ∧
  (e.kind = .gap → (t.contrib (voiceContributor v)).binding = none)

/-- R94, R137: what the release of the air makes of the Cue Engine, at the end of a cut-through airing with no record
queued. From PLAYING each held entry is started again in the voice it had at its resume position, the ones started
first first, and then the RESERVED entry, by the arbiter. From FILLING the fill is bound again in VOICE A at its
position, to the clip designated now, or to none. From ARMED and IDLE the engine follows the list. The state notice
goes out and ENGINE_RESUMED is raised. (That the blocks played of a resumed CLIP count from 0 again is the model's
reading, log entry 14.) -/
def Sys2Proof.Claims.ReleasesRestartTheItems : Prop :=
  ∀ (h l : Byte) (k : AlertSlot) (r : AlertRecord) (x : HeldRecord) (s : State), Takes .A s →
    h.toNat * 256 + l.toNat = r.id → r.id ≠ 0 → s.record k = some r → r.phase = .airing → r.cutThrough = true →
    (∀ j y, s.record j = some y → y.phase = .airing ∨ y.id = r.id → j = k) → s.alerts.queue = [] →
    s.cue.state = .held → s.cue.held = some x → s.cue.goPending = false → s.cue.voiceA = .free → s.cue.voiceB = .free →
    s.clips.readerA = none → s.clips.readerB = none → s.mix.voiceA.binding = none → s.mix.voiceB.binding = none →
    ∃ t, exec (.alertAudioEnd .A [h, l]) s = .next t ∧ t.cue.held = none ∧ t.alerts.view = t.cue.state ∧
      (∃ p ∈ (t.link .P).events, p.event = .engineResumed) ∧
      (∀ (v w : Voice) (e : Entry) (rest : List Entry), x.stateLeft = .playing → v ≠ w → s.cue.entries = e :: rest →
        e.state = .playing → e.voice = some v →
        ((∀ y ∈ rest, y.state = .waiting) → t.cue.entries = Claims.restartedIn v e :: rest ∧
          t.cue.state = .playing ∧ t.voice v = .carrying s.cue.clock ∧ t.voice w = .free ∧
          (t.contrib (voiceContributor w)).binding = none ∧ Claims.soundsRestarted v e s t) ∧
        ∀ f after, rest = f :: after → (∀ y ∈ after, y.state = .waiting) → f.kind ≠ .mark →
          f.state = .playing ∧ f.voice = some w ∨ f.state = .reserved →
          t.cue.entries = Claims.restartedIn v e :: Claims.restartedIn w f :: after ∧
          t.cue.state = .playing ∧ t.voice v = .carrying s.cue.clock ∧ t.voice w = .carrying (s.cue.clock + 1) ∧
          Claims.soundsRestarted v e s t ∧ Claims.soundsRestarted w f s t) ∧
      (∀ f after, x.stateLeft = .playing → s.cue.entries = f :: after → f.state = .reserved → f.kind ≠ .mark →
        (∀ y ∈ after, y.state = .waiting) → t.cue.entries = Claims.restartedIn .A f :: after ∧
          t.cue.state = .playing ∧ t.cue.voiceA = .carrying s.cue.clock ∧ t.cue.voiceB = .free ∧
          Claims.soundsRestarted .A f s t) ∧
      (x.stateLeft = .filling → t.cue.entries = s.cue.entries ∧ t.cue.state = .filling ∧
        (s.clips.fallback = none → t.cue.voiceA = .free ∧ t.mix.voiceA.binding = none) ∧
        ∀ n i, s.clips.fallback = some n → (s.clips.playout[n]).state = .ready → x.fillPosition = some (480 * i) →
          i < (s.clips.playout[n]).count → t.cue.voiceA = .filling ∧ t.cue.voiceB = .free ∧
            t.mix.voiceA = ⟨some (.clip (.playout n)), 32768, 32768, none, none⟩ ∧
            t.clips.readerA = some ⟨.playout n, i, false, false⟩) ∧
      (x.stateLeft = .armed ∨ x.stateLeft = .idle → (∀ y ∈ s.cue.entries, y.state = .waiting) →
        t.cue.entries = s.cue.entries ∧ t.cue.state = (if s.cue.entries = [] then .idle else .armed) ∧
          t.cue.voiceA = .free ∧ t.cue.voiceB = .free ∧ t.mix.voiceA.binding = none ∧ t.mix.voiceB.binding = none)

/-- R134, R136, R137, R65: the airing of a captured record, at the input block boundary that read the last segment
of the attention tone or of its message. The tone gives way to the message from its start; the message's end makes
the record CONFIRMING, its last block counted, discards its alert clip, whose segments join the free list's tail,
and, with no record queued, releases the air. (No other reader is open, nothing is captured, no panel line has a
function, and the timed events are left to their rows. That an event found due waits to be taken is the model's
choice, log entry 4.) -/
def Sys2Proof.Claims.CapturedAiringsEnd : Prop :=
  ∀ (env : InputBoundary) (k : AlertSlot) (r : AlertRecord) (c : ClipRef) (i : Nat) (s : State), s.live = true →
    s.due = [] → env.first = [] → env.leave = true → MemoryCanonical s → s.delay.writeHead < s.mem.ring →
    s.record k = some r → r.phase = .airing → r.cutThrough = false →
    (∀ j x, s.record j = some x → x.phase = .airing → j = k) → s.sup.mode = some .alert → s.cue.state = .held →
    s.cue.held.isSome = true → s.clips.readerA = none → s.clips.readerB = none →
    s.clips.readerAlert = some ⟨c, i, false, false⟩ → s.mix.alert.binding = some (.clip c) →
    (s.clip c).loop = false → (s.clip c).count ≤ i + 1 → s.clips.channels = Vector.replicate 2 none →
    s.clips.alertCapture = none →
    (∀ n : PanelLineNo, (s.panel.settings.lines[n]).direction = .output ∨ (s.panel.settings.lines[n]).function = .none) →
    ∃ t, exec (.inputBlockBoundary env) s = .next t ∧
      (∀ tone count, c = .playout tone → s.alerts.tone = some (tone, count) → (s.clips.alert[k]).state = .ready →
        t.alerts.tone = none ∧ t.clips.readerAlert = some ⟨.alert k, 0, false, false⟩ ∧
        t.mix.alert = ⟨some (.clip (.alert k)), 32768, 32768, none, none⟩ ∧ t.cue.state = .held ∧
        (t.record k).map AlertRecord.phase = some .airing ∧
        (t.record k).map AlertRecord.airBlocks = some (r.airBlocks + 1)) ∧
      (c = .alert k → s.alerts.tone = none → s.alerts.queue = [] →
        (s.segments c).Nodup → (∀ n ∈ s.segments c, s.mem.holder n = .clip c) →
        (t.record k).map AlertRecord.phase = some .confirming ∧
        (t.record k).map AlertRecord.airBlocks = some (r.airBlocks + 1) ∧ t.clips.alert[k] = Clip.empty ∧
        t.mem.free = s.mem.free ++ s.segments c ∧
        t.mem.alertCount = s.mem.alertCount - (s.segments c).length ∧ t.clips.readerAlert = none ∧
        t.mix.alert.binding = none ∧ t.cue.state ≠ .held ∧
        t.sup = { s.sup with mode := s.sup.remembered, remembered := none } ∧
        ∃ p ∈ (t.link .C).events, p.event = .alertOffAir r.id false)

/-- How airings end: a cut-through record's, a captured record's with its tone and its message, one without air
blocks, what follows when another record is queued, and what the release restarts (R94, R128, R134, R136, R137). -/
def Obligations.AiringsEnd : Prop :=
  Claims.AiringsEnd ∧
    Claims.AiringsGiveWay ∧
    Claims.ReleasesRestartTheItems ∧
    Claims.CapturedAiringsEnd

/-- R144: ALERT READ with an id returns the active record with its bookkeeping, its slot and its queue position, else the
fields of the history record, else NOT_FOUND; with 0 the summary of the active records in its order and the alert settings. ALERT HISTORY READ
returns the history, or one record of it. Nothing changes. (That of two history records with one id ALERT READ
returns the newest is the model's choice, log entry 43.) -/
def Obligations.AlertsAreRead : Prop :=
  ∀ (h l : Byte) (s : State), Takes .A s →
    let id := h.toNat * 256 + l.toNat
    let read (c : Status) (r : Result) : Prop := exec (.alertRead .A [h, l]) s = .next (answered .A 0x62 c r s)
    let history (b : Byte) (c : Status) (r : Result) : Prop :=
      exec (.alertHistoryRead .A [b]) s = .next (answered .A 0x63 c r s)
    (∀ k r, id ≠ 0 → s.record k = some r → r.id = id → (∀ j x, s.record j = some x → x.id = id → j = k) →
      (k ∉ s.alerts.queue → read .ok (.alertRecord r (some k) none)) ∧
      ∀ before after, s.alerts.queue = before ++ k :: after → k ∉ before →
        read .ok (.alertRecord r (some k) (some (before.length + 1)))) ∧
    (∀ r before after, id ≠ 0 → (∀ k x, s.record k = some x → x.id ≠ id) → s.alerts.history = before ++ r :: after →
      r.id = id → (∀ x ∈ before, x.id ≠ id) → read .ok (.finishedAlert
        ⟨r.id, r.origin, r.event, r.cls, r.areas, r.valid, r.phase, r.cutThrough, r.truncated, r.damaged, r.clip,
          r.firstSeq, r.lastSeq⟩)) ∧
    (id ≠ 0 → (∀ k x, s.record k = some x → x.id ≠ id) → (∀ x ∈ s.alerts.history, x.id ≠ id) →
      read .notFound .none) ∧
    (id = 0 → ∃ ls, read .ok (.alertSummary ls s.alerts.settings) ∧
      ls.map AlertLine.slot =
        ([0, 1, 2, 3].filter (fun k : AlertSlot => s.inPhase .airing k) ++
          [0, 1, 2, 3].filter (fun k : AlertSlot => s.inPhase .receiving k) ++ s.alerts.queue ++
          [0, 1, 2, 3].filter fun k : AlertSlot => s.inPhase .confirming k).filter (fun k => (s.record k).isSome) ∧
      ∀ x ∈ ls, ∃ r, s.record x.slot = some r ∧ x = ⟨r.id, r.origin, x.slot, r.cls, r.phase⟩) ∧
    ∀ b : Byte,
      (8 < b.toNat → history b .badParam .none) ∧
      (b = 0 → history b .ok (.historySummary (s.alerts.history.map fun r => ⟨r.id, r.origin, r.cls, r.phase⟩))) ∧
      (1 ≤ b.toNat → b.toNat ≤ 8 → ∀ r, s.alerts.history[b.toNat - 1]? = some r →
        history b .ok (.alertRecord r none none)) ∧
      (1 ≤ b.toNat → b.toNat ≤ 8 → s.alerts.history.length < b.toNat → history b .notFound .none)

-- the transmitter link

/-- R148 to R154, R159, R165, R19: an output block boundary sends one link frame for the AIR block just read: its
number, the station code, the air flags, the labels and the audio; the number moves on; the frame joins the history
of 256; the status age counts; while ON_AIR the silence counter is worked out; AIR leaves on channel 0 and the feeds
formed last on channels 1 to 3; while the delay is OFF, AIR is silent. -/
def Sys2Proof.Claims.LinkFramesCarryTheAir : Prop :=
  ∀ (env : OutputBoundary) (s : State), s.live = true → s.due = [] → ∃ t f, exec (.outputBlockBoundary env) s = .next t ∧
    t.tx.frame = some f ∧ f.seq = s.tx.seq ∧ t.tx.seq = (s.tx.seq + 1) % 65536 ∧ f.station = s.tx.settings.station ∧
    f.flags = ⟨decide (s.dev.state = .onAir), t.air.alertId.isSome, decide (t.delay.excess = 0),
      decide (s.sup.mode = some .fallback)⟩ ∧
    f.tag = t.air.tag ∧ f.alertId = t.air.alertId ∧ f.blocks = t.delay.excess / 480 ∧ f.audio = t.air.frames ∧
    t.tx.history.getLast? = some ⟨s.tx.seq, t.air.peak, t.air.alertId.isSome, t.air.lines⟩ ∧
    (s.tx.history.length ≤ 256 → t.tx.history.length = min 256 (s.tx.history.length + 1)) ∧
    t.tx.age = min 65535 (s.tx.age + 1) ∧
    t.sup.counter = (if s.dev.state ≠ .onAir ∨ t.air.alertId.isSome = true then s.sup.counter
      else if t.air.peak < s.sup.settings.threshold then min 65535 (s.sup.counter + 1) else 0) ∧
    (t.port[0]) = t.air.frames ∧
    (∀ x, s.formed = some x → (t.port[1]) = x.pgm ∧ (t.port[2]) = x.minus1 ∧ (t.port[3]) = x.minus2) ∧
    (s.delay.state = .off → t.air = ⟨Block.silent, none, none, LineSet.empty, 0⟩)

/-- R149, R197, R24: the 2,896 bytes of a link frame: its marker, the number, the station code, the air flags, the
tag and the alert id, 0 when absent, the blocks of excess, the 480 frames of audio, and the CRC-16 over all bytes
before it. -/
def Sys2Proof.Claims.LinkFramesAreLaidOut : Prop :=
  ∀ f : LinkFrame,
    let two (x : Nat) : List Byte := [BitVec.ofNat 8 (x / 256), BitVec.ofNat 8 x]
    let three (x : Nat) : List Byte := [BitVec.ofNat 8 (x / 65536), BitVec.ofNat 8 (x / 256), BitVec.ofNat 8 x]
    let bit (b : Bool) (k : Nat) : Nat := if b then k else 0
    let flags : Byte := BitVec.ofNat 8
      (bit f.flags.onAir 1 + bit f.flags.alert 2 + bit f.flags.live 4 + bit f.flags.fallback 8)
    let body : List Byte := ([0xC3, 0x3C] : List Byte) ++ two f.seq ++ [f.station[0], f.station[1], f.station[2]] ++ [flags] ++
      two (f.tag.getD 0) ++ two (f.alertId.getD 0) ++ two f.blocks ++
      f.audio.toList.flatMap fun x => three x.left.toNat ++ three x.right.toNat
    f.bytes = body ++ two (crc16 body).toNat ∧ f.bytes.length = 2896

/-- R139, R141, R154: what an output block boundary makes of the alert records. A frame that carries the id of an
AIRING or CONFIRMING record is counted as sent, its number the record's last, and at the first also its first, when
the record is clean if the link is not DOWN; the confirm count is 0. Else the confirm count of a record whose last
frame has been sent counts, up to 500. Nothing else of a record changes but its DAMAGED mark. (The timed events are
left to their rows.) (That the frame and its report go before a change of the link state at that boundary is the
model's choice, log entry 46.) -/
def Sys2Proof.Claims.FramesAreReported : Prop :=
  ∀ (env : OutputBoundary) (s : State), s.live = true → s.due = [] → env.first = [] → env.leave = true →
    ∃ t, exec (.outputBlockBoundary env) s = .next t ∧ ∀ k : AlertSlot,
      (s.record k = none → t.record k = none) ∧
      ∀ r, s.record k = some r → ∃ d : Bool, t.record k = some { (
        if t.air.alertId = some r.id ∧ (r.phase = .airing ∨ r.phase = .confirming) then { r with
          firstSeq := some (r.firstSeq.getD s.tx.seq)
          lastSeq := some s.tx.seq
          framesSent := r.framesSent + 1
          clean := if r.firstSeq = none then decide (s.alerts.lastLink ≠ .down) else r.clean
          confirm := 0 }
        else if r.phase = .confirming ∧ r.framesSent = r.airBlocks then { r with confirm := min 500 (r.confirm + 1) }
        else r) with damaged := d }

/-- R129, R131, R134: what an input block boundary counts in the alert records: the age of each, the hold count of a
PENDING one, and the air blocks of the AIRING one while ALERT is active. (No reader is open, no alert is being
captured, no panel line has a function, and the timed events are left to their rows.) -/
def Sys2Proof.Claims.RecordsAreCounted : Prop :=
  ∀ (env : InputBoundary) (s : State), s.live = true → s.due = [] → env.first = [] → env.leave = true →
    s.clips.readerA = none → s.clips.readerB = none → s.clips.readerAlert = none → s.clips.alertCapture = none →
    s.alerts.tone = none →
    (∀ n : PanelLineNo, (s.panel.settings.lines[n]).direction = .output ∨ (s.panel.settings.lines[n]).function = .none) →
    ∃ t, exec (.inputBlockBoundary env) s = .next t ∧ ∀ k : AlertSlot, t.record k = (s.record k).map fun r => { r with
      age := min 8640000 (r.age + 1)
      hold := if r.phase = .pending then min 360000 (r.hold + 1) else r.hold
      airBlocks := if r.phase = .airing ∧ s.mix.alert.binding.isSome = true then r.airBlocks + 1 else r.airBlocks }

/-- The link frame of an output block boundary, its bytes, and what the alert records count at the boundaries (R129,
R131, R134, R139, R141, R148 to R154, R159, R165, R197). -/
def Obligations.LinkFramesCarryTheAir : Prop :=
  Claims.LinkFramesCarryTheAir ∧
    Claims.LinkFramesAreLaidOut ∧
    Claims.FramesAreReported ∧
    Claims.RecordsAreCounted

/-- The state once the link has changed to `l` and nothing of an alert was on the link (R155, R160). -/
def Sys2Proof.Claims.linkChanged (l : LinkHealth) (s : State) : State :=
  if s.tx.state = l then s
  else raise .A (.linkState l) (raise .C (.linkState l) { s with
    tx := { s.tx with state := l }
    alerts := { s.alerts with lastLink := l }
    panel := { s.panel with reports := { s.panel.reports with linkOk := decide (l = .up) } } })

/-- R156, R157, R158: a valid status frame is kept whole with its mark, clears the age, and sets the silence run over
the frames it covers and then the link state; the third fault status of a run raises LINK_AUDIO_FAULT, a change of
state LINK_STATE on links C and A. An invalid one is only counted. (No alert record is on the link.) (That any 0 to 7
bytes, also those inside the start marker and none at all, are an invalid status frame is the model's choice, log
entry 47; so is that either row is judged by the bytes it brings, a STATUS FRAME with a wrong CRC as an invalid one,
log entry 30.) -/
def Sys2Proof.Claims.StatusFramesSetTheLink : Prop :=
  ∀ (b : Vector Byte 8) (s : State), s.live = true →
    let bs := b.toList
    let good := crc16 (bs.take 6) = BitVec.ofNat 16 ((b[6]).toNat * 256 + (b[7]).toNat)
    let last := (b[2]).toNat * 256 + (b[3]).toNat
    let missing := (b[4]).toNat
    let carrier := (b[5]).getLsbD 0
    let silence := (b[5]).getLsbD 1
    let gone (a m : Nat) : Nat := (a + 65536 - m % 65536) % 65536
    let covered : List Sent := match s.tx.mark with
      | some m => s.tx.history.filter fun e =>
          decide (gone last m < 32768 ∧ 1 ≤ gone e.seq m ∧ gone e.seq m ≤ gone last m)
      | none => s.tx.history.filter fun e => decide (e.seq = last)
    let run := if silence = false then 0
      else if covered.any fun e => decide (s.sup.settings.threshold ≤ e.peak) then min 65535 (s.tx.run + 1)
      else if covered = [] then s.tx.run else 0
    let state : LinkHealth := if missing = 0 ∧ carrier = true ∧ run < 3 then .up else .degraded
    let counted : State := { s with tx := { s.tx with bad := min 65535 (s.tx.bad + 1) } }
    (good → LinkSettled s → (∀ k r, s.record k = some r → r.phase ≠ .airing ∧ r.phase ≠ .confirming) →
      exec (.statusFrame b) s = .next (Claims.linkChanged state
        ((if run = 3 ∧ s.tx.run ≠ 3 then raise .C (.linkAudioFault last) else id) { s with tx := { s.tx with
          status := some ⟨last, missing, carrier, silence⟩, mark := some last, run := run, age := 0 } }))) ∧
    (¬good → exec (.statusFrame b) s = .next counted ∧ exec (.invalidStatusFrame bs) s = .next counted) ∧
    ∀ broken : List Byte, broken.length < 8 → exec (.invalidStatusFrame broken) s = .next counted

/-- R140: a status that reaches a CONFIRMING record whose last frame has been sent gives its verdict: CONFIRMED when
the record is clean and undamaged and the status has its carrier on and no frame missing, else UNCONFIRMED. -/
def Sys2Proof.Claims.StatusFramesConfirm : Prop :=
  ∀ (b : Vector Byte 8) (st : TxStatus) (k : AlertSlot) (r : AlertRecord) (first last : Nat) (s : State),
    s.live = true → LinkSettled s → parseStatus b = some st → s.record k = some r → r.phase = .confirming →
    r.framesSent = r.airBlocks → r.firstSeq = some first → r.lastSeq = some last →
    (st.last + 65536 - last % 65536) % 65536 < 32768 → ∃ t, exec (.statusFrame b) s = .next t ∧ t.record k = none ∧
      ∃ h ∈ t.alerts.history, h.id = r.id ∧ h.phase = .finished
        (if r.clean = true ∧ r.damaged = false ∧ st.carrier = true ∧ st.missing = 0 then .confirmed
          else .unconfirmed)

/-- R140: a status with its carrier off or a frame missing takes the clean mark from each AIRING record of which a
frame has been sent, and from each CONFIRMING one that it does not reach; any other status leaves these records as
they are. -/
def Sys2Proof.Claims.StatusFramesMarkRecords : Prop :=
  ∀ (b : Vector Byte 8) (st : TxStatus) (k : AlertSlot) (r : AlertRecord) (s : State), s.live = true → LinkSettled s →
    parseStatus b = some st → s.record k = some r → r.firstSeq.isSome = true →
    (r.phase = .airing ∨ r.phase = .confirming ∧ (r.framesSent ≠ r.airBlocks ∨
      ∃ n, r.lastSeq = some n ∧ 32768 ≤ (st.last + 65536 - n % 65536) % 65536)) →
    ∃ t, exec (.statusFrame b) s = .next t ∧ t.record k = some { r with
      clean := r.clean && st.carrier && decide (st.missing = 0) }

/-- R141, R159: a status taken after the output block boundary that found the link timeout, or the end of a confirm
window, finds that done, though its row has not come: every CONFIRMING record, or the one whose window has closed, has
finished UNCONFIRMED, and the status then takes the link out of DOWN. (That an event found due waits to be taken is the
model's choice, log entry 4.) -/
def Sys2Proof.Claims.StatusesFollowTheBoundary : Prop :=
  ∀ (b : Vector Byte 8) (st : TxStatus) (s : State), s.live = true → parseStatus b = some st →
    let unconfirmed (k : AlertSlot) (r : AlertRecord) (t : State) : Prop := t.record k = none ∧
      ∃ h ∈ t.alerts.history, h.id = r.id ∧ h.phase = .finished .unconfirmed
    (Found .linkTimeout s → s.tx.state ≠ .down → s.tx.settings.timeout ≤ s.tx.age →
      (s.due = [.linkTimeout] → ∀ u, exec .linkTimeout s = .next u →
        exec (.statusFrame b) s = exec (.statusFrame b) u) ∧
      ∃ t, exec (.statusFrame b) s = .next t ∧ t.tx.state ≠ .down ∧ t.tx.age = 0 ∧
        ∀ k r, s.record k = some r → r.phase = .confirming → unconfirmed k r t) ∧
    ∀ k r, Found (.confirmWindowExpiry k) s → s.record k = some r → r.phase = .confirming →
      r.framesSent = r.airBlocks → 500 ≤ r.confirm → ∃ t, exec (.statusFrame b) s = .next t ∧ unconfirmed k r t

/-- Status frames, the link state and the verdict on an alert (R140, R141, R156 to R159). (What counts as an invalid
status frame: log entries 30 and 47.) -/
def Obligations.StatusFramesAreTaken : Prop :=
  Claims.StatusFramesSetTheLink ∧
    Claims.StatusFramesConfirm ∧
    Claims.StatusFramesMarkRecords ∧
    Claims.StatusesFollowTheBoundary

/-- R159, R141: with no status for 30 blocks the link falls from UP to DEGRADED, and at the link timeout to DOWN,
raising LINK_STATE; at DOWN every CONFIRMING record finishes UNCONFIRMED. (That an event found due waits to be taken
is the model's choice, log entry 4.) -/
def Sys2Proof.Claims.LinksFallWithoutStatus : Prop :=
  ∀ s : State,
    (Found .statusAgeLimit s → s.tx.state = .up → 30 ≤ s.tx.age → exec .statusAgeLimit s =
      .next (Claims.linkChanged .degraded { s with due := s.due.erase .statusAgeLimit })) ∧
    (Found .linkTimeout s → s.tx.state ≠ .down → s.tx.settings.timeout ≤ s.tx.age →
      ((∀ k r, s.record k = some r → r.phase ≠ .airing ∧ r.phase ≠ .confirming) →
        exec .linkTimeout s = .next (Claims.linkChanged .down { s with due := s.due.erase .linkTimeout })) ∧
      ∃ t, exec .linkTimeout s = .next t ∧ t.tx = { s.tx with state := .down } ∧
        ∀ k r, s.record k = some r → r.phase = .confirming → t.record k = none ∧
          ∃ h ∈ t.alerts.history, h.id = r.id ∧ h.phase = .finished .unconfirmed)

/-- R141: at DOWN each AIRING record of which a frame has been sent loses its clean mark, and the records RECEIVING
and PENDING stay as they are. (That an event found due waits to be taken is the model's choice, log entry 4.) -/
def Sys2Proof.Claims.DownMarksRecords : Prop :=
  ∀ (k : AlertSlot) (r : AlertRecord) (s : State), Found .linkTimeout s → s.tx.state ≠ .down →
    s.tx.settings.timeout ≤ s.tx.age → s.record k = some r → r.phase = .airing ∨ r.phase = .receiving ∨ r.phase = .pending →
    ∃ t, exec .linkTimeout s = .next t ∧ t.record k = some { r with
      clean := if r.phase = .airing ∧ r.firstSeq.isSome = true then false else r.clean }

/-- R159, R161: a new link timeout taken after the output block boundary that found the old one reached, though its row
has not come, finds the link DOWN and every CONFIRMING record finished UNCONFIRMED; a longer timeout does not bring the
link out. (That an event found due waits to be taken is the model's choice, log entry 4.) -/
def Sys2Proof.Claims.TimeoutsFollowTheBoundary : Prop :=
  ∀ (b0 b1 b2 b3 b4 : Byte) (c : LinkSettings) (s : State), Reaches .C s → linkSettingsOf [b0, b1, b2, b3, b4] = some c →
    s.due = [.linkTimeout] → s.tx.state ≠ .down → s.tx.settings.timeout ≤ s.tx.age →
    ∃ t, exec (.linkSettingsSet .C [b0, b1, b2, b3, b4]) s = .next t ∧
      (t.link .C).inFlight = some ⟨0x40, some ⟨0x40, .ok, .none⟩⟩ ∧ t.tx.state = .down ∧ t.tx.settings = c ∧
      ∀ k r, s.record k = some r → r.phase = .confirming → t.record k = none ∧
        ∃ h ∈ t.alerts.history, h.id = r.id ∧ h.phase = .finished .unconfirmed

/-- R159, R141: with no status for 30 blocks the link falls from UP to DEGRADED, and at the link timeout to DOWN,
what that makes of the alert records on it, and what a new timeout then finds. -/
def Obligations.LinksFallWithoutStatus : Prop :=
  Claims.LinksFallWithoutStatus ∧
    Claims.DownMarksRecords ∧
    Claims.TimeoutsFollowTheBoundary

-- air supervision and panel lines

/-- R165, R166, R95: when the silence counter stands at the window in NORMAL, the fill notice goes out. A stopped
engine is FILLING, with the fallback clip in VOICE A when one is designated; its answer is on its way. A HELD or
FILLING engine answers NOT FILLED and changes nothing. No queued alert takes the air at the state notice. (That an
event found due waits to be taken is the model's choice, log entry 4.) -/
def Sys2Proof.Claims.SilenceStartsTheFill : Prop :=
  ∀ s : State, Found .silenceWindow s → s.sup.mode = some .normal → s.sup.settings.window ≤ s.sup.counter →
    let due := s.due.erase .silenceWindow ++ [.fillAnswer]
    (s.cue.state = .held ∨ s.cue.state = .filling → exec .silenceWindow s =
      .next { s with due := due, sup := { s.sup with answer := some .notFilled } }) ∧
    (s.cue.state = .idle ∨ s.cue.state = .armed → (∀ e ∈ s.cue.entries, e.state ≠ .playing) →
      NoneTakes .ordinary .filling s → (∀ o, s.cue.voiceA ≠ .carrying o) → (∀ o, s.cue.voiceB ≠ .carrying o) →
      let filling (voice : VoiceState) (answer : FillAnswer) (t : State) : State := { t with
        due := due
        cue := { s.cue with
          voiceA := voice, state := .filling, goPending := false, window := none, clock := s.cue.clock + 1 }
        alerts := { s.alerts with view := .filling }
        sup := { s.sup with answer := some answer } }
      (s.clips.fallback = none → exec .silenceWindow s = .next (filling s.cue.voiceA .filledSilent s)) ∧
      ∀ n, s.clips.fallback = some n → (s.clips.playout[n]).state = .ready → s.clips.readerA = none →
        let clips : ClipStore := { s.clips with
          readerA := some ⟨.playout n, 0, false, false⟩
          playout := s.clips.playout.set n { s.clips.playout[n] with uses := (s.clips.playout[n]).uses + 1 } }
        exec .silenceWindow s = .next (filling .filling .filled { s with
          clips := clips
          mix := { s.mix with voiceA := ⟨some (.clip (.playout n)), 32768, 32768, none, none⟩ } }))

/-- R166: the answer to the fill notice enters FALLBACK, or under an alert the remembered mode; FALLBACK_ENTERED is
raised on links P and C, with FALLBACK_NO_AUDIO in its place on C when no clip fills; NOT FILLED leaves the air mode.
(That an event found due waits to be taken is the model's choice, log entry 4.) (That an answer on its way since
before an AIR STOP and an AIR START does so too is the model's reading, log entry 60.) -/
def Sys2Proof.Claims.FillAnswersEnterFallback : Prop :=
  ∀ s : State, Found .fillAnswer s →
    let answered : State := { s with due := s.due.erase .fillAnswer, sup := { s.sup with answer := none } }
    let entered (e : Event) : State := raise .P .fallbackEntered (raise .C e { answered with
      sup := { answered.sup with mode := some .fallback }
      panel := { s.panel with reports := { s.panel.reports with fallback := true } } })
    let remembered (e : Event) : State := raise .P .fallbackEntered (raise .C e { answered with
      sup := { answered.sup with remembered := some .fallback } })
    (s.sup.mode = some .normal → s.sup.answer = some .filled →
      exec .fillAnswer s = .next (entered .fallbackEntered)) ∧
    (s.sup.mode = some .normal → s.sup.answer = some .filledSilent →
      exec .fillAnswer s = .next (entered .fallbackNoAudio)) ∧
    (s.sup.mode = some .alert → s.sup.answer = some .filled →
      exec .fillAnswer s = .next (remembered .fallbackEntered)) ∧
    (s.sup.mode = some .alert → s.sup.answer = some .filledSilent →
      exec .fillAnswer s = .next (remembered .fallbackNoAudio)) ∧
    (s.sup.answer = some .notFilled → exec .fillAnswer s = .next answered)

/-- R167, R96: in FALLBACK, turning STUDIO on ends it: air mode NORMAL, the silence counter 0, FALLBACK_LEFT with
cause STUDIO, and the fill ends. -/
def Sys2Proof.Claims.StudioEndsFallback : Prop :=
  ∀ (g1 g0 f1 f0 : Byte) (s : State), Takes .C s → s.dev.state = .onAir → s.sup.mode = some .fallback →
    s.mix.studio.binding = none → s.cue.state = .filling → (∀ e ∈ s.cue.entries, e.state ≠ .playing) →
    NoneTakes .ordinary .armed s → NoneTakes .ordinary .idle s → ∃ t, exec (.studioSet .C [1, g1, g0, f1, f0]) s = .next t ∧
      t.sup = { s.sup with mode := some .normal, counter := 0 } ∧ t.panel.reports.fallback = false ∧
      t.cue.state = (if s.cue.entries = [] then .idle else .armed) ∧ t.cue.entries = s.cue.entries ∧
      (∃ p ∈ (t.link .C).events, p.event = .fallbackLeft .studio) ∧ t.mix.studio.binding = some (.source 0)

/-- R95, R166: a fill notice that finds the engine PLAYING stops it as CUE STOP does: every PLAYING entry goes back
to its start, the item in VOICE B fades out over its fade-out, and the engine is FILLING, with the fallback clip in
VOICE A at once. No queued alert takes the air at the state notice. (That an event found due waits to be taken is
the model's choice, log entry 4.) -/
def Sys2Proof.Claims.FillsStopThePlaying : Prop :=
  ∀ (n : ClipId) (s : State), Found .silenceWindow s → s.sup.mode = some .normal →
    s.sup.settings.window ≤ s.sup.counter → s.cue.state = .playing → NoneTakes .ordinary .filling s →
    s.clips.fallback = some n → (s.clips.playout[n]).state = .ready →
    ∃ t, exec .silenceWindow s = .next t ∧ t.cue.state = .filling ∧ t.cue.voiceA = .filling ∧
      t.sup = { s.sup with answer := some .filled } ∧ t.due = s.due.erase .silenceWindow ++ [.fillAnswer] ∧
      t.mix.voiceA = ⟨some (.clip (.playout n)), 32768, 32768, none, none⟩ ∧
      t.clips.readerA = some ⟨.playout n, 0, false, false⟩ ∧
      t.cue.entries = s.cue.entries.map (fun e => if e.state = .playing then { e with
        state := .waiting, ending := false, successorStarted := false, played := 0, resume := none, voice := none
        released := false } else e) ∧
      ∀ i o e, s.carried .B = some i → s.cue.voiceB = .carrying o → s.cue.entries[i]? = some e → e.kind ≠ .gap →
        0 < e.fadeOut → s.mix.voiceB.binding.isSome = true → (∃ o', t.cue.voiceB = .releasing o') ∧
        t.mix.voiceB = { s.mix.voiceB with waiting := some ⟨0, min e.fadeOut 500, .out⟩ }

/-- R96, R167: turning STUDIO on in FALLBACK: the fill in VOICE A fades out over the fallback fade time, its voice
RELEASING. Under an alert that remembers FALLBACK, the air mode stays ALERT and remembers NORMAL, the counter is 0,
FALLBACK_LEFT records STUDIO, and a held engine whose state left is FILLING is to return to ARMED, or to IDLE with
an empty list. -/
def Sys2Proof.Claims.FillsFadeOut : Prop :=
  ∀ (g1 g0 f1 f0 : Byte) (s : State), Takes .C s → s.dev.state = .onAir → s.mix.studio.binding = none →
    (s.sup.mode = some .fallback → s.cue.state = .filling → s.cue.voiceA = .filling →
      s.mix.voiceA.binding.isSome = true → 0 < s.sup.settings.fade → (∀ e ∈ s.cue.entries, e.state ≠ .playing) →
      NoneTakes .ordinary .armed s → NoneTakes .ordinary .idle s →
      ∃ t, exec (.studioSet .C [1, g1, g0, f1, f0]) s = .next t ∧ (∃ o, t.cue.voiceA = .releasing o) ∧
        t.mix.voiceA = { s.mix.voiceA with waiting := some ⟨0, min s.sup.settings.fade 500, .out⟩ }) ∧
    ∀ h : HeldRecord, s.sup.mode = some .alert → s.sup.remembered = some .fallback → s.cue.state = .held →
      s.cue.held = some h → ∃ t, exec (.studioSet .C [1, g1, g0, f1, f0]) s = .next t ∧
        t.sup = { s.sup with remembered := some .normal, counter := 0 } ∧ t.mix.studio.binding = some (.source 0) ∧
        (∃ p ∈ (t.link .C).events, p.event = .fallbackLeft .studio) ∧ t.cue = { s.cue with held := some { h with
          stateLeft := if h.stateLeft ≠ .filling then h.stateLeft
            else if s.cue.entries = [] then .idle else .armed } }

/-- FALLBACK (R165 to R167). -/
def Obligations.FallbackIsEnteredAndLeft : Prop :=
  Claims.SilenceStartsTheFill ∧
    Claims.FillAnswersEnterFallback ∧
    Claims.StudioEndsFallback ∧
    Claims.FillsStopThePlaying ∧
    Claims.FillsFadeOut

/-- R172: at an input block boundary an input line is sampled: a seeding boundary sets its recognised level and previous
sample; else the level is recognised when it differs from the recognised level and equals the previous sample, which
sets the pending flag. An output line is not sampled. An open contact reads high on an INPUT_PULLUP line (R171); on an
INPUT line its level is the outside world's (the model's choice, log entry 44). -/
def Sys2Proof.Claims.PanelLinesAreSampled : Prop :=
  ∀ (env : InputBoundary) (n : PanelLineNo) (s : State), s.live = true → s.due = [] →
    ∃ t, exec (.inputBlockBoundary env) s = .next t ∧
      let x := s.panel.lines[n]
      let c := s.panel.settings.lines[n]
      let high : Bool := match env.pins[n] with
        | .low => false
        | .high => true
        | .opened floats => decide (c.direction = .inputPullup) || floats
      let level : Bool := high == c.activeHigh
      (c.direction = .output → (t.panel.lines[n]) = x) ∧
      (c.direction ≠ .output → (t.panel.lines[n]) =
        if x.seeding then { x with recognised := level, previous := level, seeding := false }
        else if level ≠ x.recognised ∧ level = x.previous then
          { x with recognised := level, previous := level, flag := true }
        else { x with previous := level })

/-- R171, R176, R200: the level of a panel pin: an output line shows the latest report of its function's condition
at its active level; an input line, and every line in POWER_UP, is not driven. -/
def Sys2Proof.Claims.PanelPinsFollowTheirConditions : Prop :=
  ∀ (n : PanelLineNo) (s : State),
    let c := s.panel.settings.lines[n]
    let r := s.panel.reports
    let shows (f : PanelFunction) (on : Bool) : Prop :=
      c.function = f → s.pin n = some (if on then c.activeHigh else !c.activeHigh)
    (s.live = true → c.direction = .output →
      shows .onAir r.onAir ∧ shows .micLive r.micLive ∧ shows .alertActive r.alertActive ∧
        shows .delaySafe r.delaySafe ∧ shows .fallback r.fallback ∧ shows .linkOk r.linkOk ∧
        shows .callerOn r.callerOn ∧ shows .general (s.panel.lines[n]).general) ∧
    (c.direction ≠ .output → s.pin n = none) ∧ (s.dev.state = .powerUp → s.pin n = none)

/-- R171: the internal pull-ups: in POWER_UP on every line, else on the INPUT_PULLUP lines as they are now
configured. A driven pin reads its level, an open contact high where the pull-up is on. (What an open contact reads
without one is the outside world's, log entry 44.) -/
def Sys2Proof.Claims.PullUpsFollowTheDirection : Prop :=
  ∀ (n : PanelLineNo) (floats : Bool) (s : State),
    s.pinReads n .low = false ∧ s.pinReads n .high = true ∧
    (s.dev.state = .powerUp → s.dev.supply = .running ∨ s.dev.supply = .loading →
      s.pinReads n (.opened floats) = true) ∧
    (s.live = true → s.pinReads n (.opened floats) =
      if (s.panel.settings.lines[n]).direction = .inputPullup then true else floats)

/-- R172, R173, R174: a recognised change at an input block boundary raises PANEL_INPUT, which names the line with its
new level; a MIC line's change to active turns STUDIO on there. (For the second: no other line has a function, no
reader is open, and the timed events are left to their rows.) (That a panel action comes after the timed events is the
model's reading, log entry 19.) -/
def Sys2Proof.Claims.RecognisedChangesAct : Prop :=
  ∀ (env : InputBoundary) (n : PanelLineNo) (level : Bool) (s : State), s.live = true → s.due = [] →
    env.pins[n] = (if level = (s.panel.settings.lines[n]).activeHigh then .high else .low) →
    (s.panel.settings.lines[n]).direction ≠ .output → (s.panel.lines[n]).seeding = false →
    (s.panel.lines[n]).recognised = !level → (s.panel.lines[n]).previous = level →
    ∃ t, exec (.inputBlockBoundary env) s = .next t ∧
      (∃ p ∈ (t.link .C).events, ∃ ls, p.event = .panelInput ls ∧ (n, level) ∈ ls) ∧
      ((s.panel.settings.lines[n]).function = .mic → level = true → s.mix.studio.binding = none →
        env.first = [] → env.leave = true → s.clips.readerA = none → s.clips.readerB = none →
        s.clips.readerAlert = none → s.clips.alertCapture = none → s.alerts.tone = none →
        (∀ m : PanelLineNo, m ≠ n → (s.panel.settings.lines[m]).direction = .output ∨
          (s.panel.settings.lines[m]).function = .none) →
        t.mix.studio.binding = some (.source 0) ∧ t.mix.studio.target = s.mix.studio.target ∧
          t.panel.reports.micLive = true)

/-- R174, R175: what the panel functions do: a change to active of DUMP, FADER, STOP and TAKE_NEXT, and one of FADER
to inactive, acts as DUMP, CUE GO, CUE STOP, CALLER TAKE NEXT and CUE STOP, MIC as STUDIO SET with the studio's gain
and fade time; a refusal raises PANEL_REFUSED with the line and the code, and nothing else changes. RELEASE_CALLERS
releases both slots with HOLD. The other changes do nothing. -/
def Sys2Proof.Claims.PanelFunctionsAct : Prop :=
  ∀ (n : PanelLineNo) (s : State), Takes .C s → (s.dev.state ≠ .onAir → s.delay.state = .off) →
    let f := (s.panel.settings.lines[n]).function
    let acts (i : Instr) (code : Nat) (active : Bool) : Prop := ∃ c : Status,
      exec i s = .next (answered .C code c .none (if c = .ok then panelAction n active s else s)) ∧
      (c ≠ .ok → panelAction n active s = raise .C (.panelRefused n c) s)
    let b8 (x : Nat) : Byte := BitVec.ofNat 8 x
    (f = .dump → acts (.dump .C []) 0x34 true) ∧
    (f = .fader → acts (.cueGo .C []) 0x20 true ∧ acts (.cueStop .C []) 0x21 false) ∧
    (f = .stop → acts (.cueStop .C []) 0x21 true) ∧
    (f = .takeNext → acts (.callerTakeNext .C []) 0x38 true) ∧
    (∀ on : Bool, f = .mic → s.mix.studio.target ≤ 65535 → s.mix.studioFade ≤ 500 →
      acts (.studioSet .C [if on then 1 else 0, b8 (s.mix.studio.target / 256), b8 s.mix.studio.target,
        b8 (s.mix.studioFade / 256), b8 s.mix.studioFade]) 0x36 on) ∧
    (f = .releaseCallers → (∀ k, (s.slot k).occupant = none) →
      panelAction n true s = raise .C (.panelRefused n .notFound) s) ∧
    (∀ k i, f = .releaseCallers → s.slot k = ⟨some i, none⟩ → 0 < s.mix.slotFade[k] →
      (s.contrib (slotContributor k)).binding.isSome = true →
      (panelAction n true s).slot k = ⟨some i, some .hold⟩ ∧
      (panelAction n true s).contrib (slotContributor k) =
        { s.contrib (slotContributor k) with waiting := some ⟨0, min s.mix.slotFade[k] 500, .out⟩ }) ∧
    (f ∈ [PanelFunction.dump, .goEdge, .stop, .takeNext, .releaseCallers, .none] → panelAction n false s = s) ∧
    (f = .none → panelAction n true s = s)

/-- The panel lines: inputs sampled, told and acted on, outputs driven, pull-ups (R171 to R176). -/
def Obligations.PanelLinesFollowTheirPins : Prop :=
  Claims.PanelLinesAreSampled ∧
    Claims.PanelPinsFollowTheirConditions ∧
    Claims.PullUpsFollowTheDirection ∧
    Claims.RecognisedChangesAct ∧
    Claims.PanelFunctionsAct

/-- R177, R171, R178: PANEL CONFIGURE puts a whole configuration in use: a line whose configuration changes starts
afresh at a seeding boundary, the others keep what they hold. An output function on an input line, and the reverse,
is out of range. PANEL OUTPUT SET drives a GENERAL output line; any other line is NOT_FOUND. (What a line that
starts afresh holds is the model's reading, log entries 26 and 32.) -/
def Sys2Proof.Claims.PanelLinesAreConfigured : Prop :=
  (∀ c : LineConfig, lineConfigOf c.direction.code (if c.activeHigh then 1 else 0) c.function.code =
    if c.direction = .output ↔ c.function ∈ [PanelFunction.onAir, .micLive, .alertActive, .delaySafe, .fallback, .linkOk,
      .callerOn, .general] then some c else none) ∧
  (∀ (ps : List Byte) (s : State), Takes .C s → ps.length = 25 →
    (panelSettingsOf ps = none → exec (.panelConfigure .C ps) s = .next (answered .C 0x3D .badParam .none s)) ∧
    ∀ c, panelSettingsOf ps = some c →
      (∀ n : Fin 8, lineConfigOf (ps.getD (3 * n.val) 0) (ps.getD (3 * n.val + 1) 0) (ps.getD (3 * n.val + 2) 0) =
        some c.lines[n]) ∧
      c.cancelWindow = (ps.getD 24 0).toNat ∧ c.cancelWindow ≤ 100 ∧
      ∃ t, exec (.panelConfigure .C ps) s = .next t ∧ t.panel.settings = c ∧ t.panel.reports = s.panel.reports ∧
        (t.link .C).inFlight = some ⟨0x3D, some ⟨0x3D, .ok, .none⟩⟩ ∧
        (∀ n : Fin 8, (t.panel.lines[n]) = if c.lines[n] = s.panel.settings.lines[n] then s.panel.lines[n]
          else ⟨false, false, true, false, false⟩) ∧
        { t with panel := s.panel, links := s.links } = s) ∧
  ∀ (b v : Byte) (n : PanelLineNo) (s : State), Takes .C s → b.toNat = n.val + 1 → v.toNat ≤ 1 →
    let c := s.panel.settings.lines[n]
    let general := c.direction = .output ∧ c.function = .general
    let lines := s.panel.lines.set n { s.panel.lines[n] with general := decide (v = 1) }
    (general → exec (.panelOutputSet .C [b, v]) s = .next (answered .C 0x3E .ok .none
      { s with panel := { s.panel with lines := lines } })) ∧
    (¬general → exec (.panelOutputSet .C [b, v]) s = .next (answered .C 0x3E .notFound .none s))

/-- R97, R177: a new cancel window setting taken after the input block boundary that found an open window at the old one,
though its row has not come, finds the window closed; a longer setting does not keep it open. (That an event found due
waits to be taken is the model's choice, log entry 4.) -/
def Sys2Proof.Claims.CancelSettingsFollowTheBoundary : Prop :=
  ∀ (ps : List Byte) (c : PanelSettings) (w : CancelWindow) (s : State), Reaches .C s → ps.length = 25 →
    panelSettingsOf ps = some c → s.due = [.cancelWindowClose] → s.cue.window = some w →
    s.panel.settings.cancelWindow ≤ w.count →
    ∃ t, exec (.panelConfigure .C ps) s = .next t ∧ (t.link .C).inFlight = some ⟨0x3D, some ⟨0x3D, .ok, .none⟩⟩ ∧
      t.panel.settings = c ∧ { t with panel := s.panel, links := s.links } = { s with
        due := []
        cue := { s.cue with window := none } }

/-- R177, R199: the bytes of a panel configuration: the codes of the directions and functions, and that 25 bytes are
taken exactly when every line's three bytes are a direction, a level and a function that fit, and the cancel window
is at most 100. -/
def Sys2Proof.Claims.PanelBytes : Prop :=
  [Direction.inputPullup, .input, .output].map Direction.code = [0x00, 0x01, 0x02] ∧
  [PanelFunction.dump, .goEdge, .fader, .stop, .takeNext, .releaseCallers, .mic, .none, .onAir, .micLive, .alertActive,
    .delaySafe, .fallback, .linkOk, .callerOn, .general].map PanelFunction.code =
    [0x00, 0x01, 0x02, 0x03, 0x04, 0x05, 0x06, 0x07, 0x10, 0x11, 0x12, 0x13, 0x14, 0x15, 0x16, 0x17] ∧
  let fits (d l f : Byte) : Prop := l.toNat ≤ 1 ∧
    (d.toNat ≤ 1 ∧ f.toNat ≤ 7 ∨ d.toNat = 2 ∧ 0x10 ≤ f.toNat ∧ f.toNat ≤ 0x17)
  (∀ d l f : Byte, (lineConfigOf d l f).isSome = true ↔ fits d l f) ∧
  ∀ ps : List Byte, ps.length = 25 → ((panelSettingsOf ps).isSome = true ↔
    (∀ n : Fin 8, fits (ps.getD (3 * n.val) 0) (ps.getD (3 * n.val + 1) 0) (ps.getD (3 * n.val + 2) 0)) ∧
      (ps.getD 24 0).toNat ≤ 100)

/-- PANEL CONFIGURE, also after a cancel window was found at its setting, and PANEL OUTPUT SET, and the bytes of a panel
configuration (R97, R171, R177, R178, R199). (What a
changed line starts with is the model's reading, log entries 26 and 32.) -/
def Obligations.PanelLinesAreConfigured : Prop :=
  Claims.PanelLinesAreConfigured ∧
    Claims.CancelSettingsFollowTheBoundary ∧
    Claims.PanelBytes

-- settings, memory, profile

/-- R146, R161, R169: ALERT SETTINGS SET, LINK SETTINGS SET and SUPERVISION SET take settings in range whole, at
once, and refuse any others BAD_PARAM; the fallback fade time is clamped to 500, and SUPERVISION SET answers the
settings as taken. (With an event left to its row that the last boundary found by the old settings, see the statements
beside this one, and for LINK SETTINGS SET O46.) -/
def Sys2Proof.Claims.SettingsAreTaken : Prop :=
  ∀ (b0 b1 b2 b3 b4 b5 b6 b7 : Byte) (s : State), Takes .C s →
    let n2 (x y : Byte) : Nat := x.toNat * 256 + y.toNat
    let n3 (x y z : Byte) : Nat := x.toNat * 65536 + y.toNat * 256 + z.toNat
    let text (b : Byte) : Prop := 0x20 ≤ b.toNat ∧ b.toNat ≤ 0x7E
    let alert : AlertSettings := ⟨n2 b0 b1, n3 b2 b3 b4, decide (b5 = 1)⟩
    let alertGood := 1000 ≤ alert.warningHold ∧ alert.warningHold ≤ 30000 ∧ 6000 ≤ alert.advisoryHold ∧
      alert.advisoryHold ≤ 360000 ∧ b5.toNat ≤ 1
    let link : LinkSettings := ⟨n2 b0 b1, #v[b2, b3, b4]⟩
    let linkGood := 50 ≤ link.timeout ∧ link.timeout ≤ 1000 ∧ text b2 ∧ text b3 ∧ text b4
    let sup : SupervisionSettings := ⟨n3 b0 b1 b2, n2 b3 b4, min (n2 b5 b6) 500, decide (b7 = 1)⟩
    let supGood := sup.threshold ≤ 8388608 ∧ 200 ≤ sup.window ∧ sup.window ≤ 12000 ∧ b7.toNat ≤ 1
    (alertGood → exec (.alertSettingsSet .C [b0, b1, b2, b3, b4, b5]) s =
      .next (answered .C 0x3B .ok .none { s with alerts := { s.alerts with settings := alert } })) ∧
    (¬alertGood → exec (.alertSettingsSet .C [b0, b1, b2, b3, b4, b5]) s =
      .next (answered .C 0x3B .badParam .none s)) ∧
    (linkGood → exec (.linkSettingsSet .C [b0, b1, b2, b3, b4]) s = .next (answered .C 0x40 .ok .none
      { s with tx := { s.tx with settings := link } })) ∧
    (¬linkGood → exec (.linkSettingsSet .C [b0, b1, b2, b3, b4]) s = .next (answered .C 0x40 .badParam .none s)) ∧
    (supGood → exec (.supervisionSet .C [b0, b1, b2, b3, b4, b5, b6, b7]) s =
      .next (answered .C 0x3C .ok (.supervision sup) { s with sup := { s.sup with settings := sup } })) ∧
    (¬supGood → exec (.supervisionSet .C [b0, b1, b2, b3, b4, b5, b6, b7]) s =
      .next (answered .C 0x3C .badParam .none s))

/-- R131, R146: ALERT SETTINGS SET, with settings in range, taken after the input block boundary that found a record at the old
hold limit, though its row has not come, finds the record overdue, and AIRING when the air was free and it headed the queue:
a higher limit does not hold it back. (That an event found due waits to be taken is the model's choice, log entry 4.) -/
def Sys2Proof.Claims.HoldLimitsFollowTheBoundary : Prop :=
  ∀ (b0 b1 b2 b3 b4 b5 : Byte) (c : AlertSettings) (k : AlertSlot) (r : AlertRecord) (s : State), Reaches .C s →
    alertSettingsOf [b0, b1, b2, b3, b4, b5] = some c → s.due = [.holdLimitReached k] → s.record k = some r →
    r.phase = .pending → r.overdue = false →
    (r.cls = .warning ∧ s.alerts.settings.warningHold ≤ r.hold ∨
      r.cls = .advisory ∧ s.alerts.settings.advisoryHold ≤ r.hold) →
    let set := Instr.alertSettingsSet .C [b0, b1, b2, b3, b4, b5]
    ∃ t, exec set s = .next t ∧ (t.link .C).inFlight = some ⟨0x3B, some ⟨0x3B, .ok, .none⟩⟩ ∧ t.alerts.settings = c ∧
      (∃ x, t.record k = some x ∧ x.id = r.id ∧ (x.phase = .airing ∨ x.phase = .pending ∧ x.overdue = true)) ∧
      ((∃ j x, s.record j = some x ∧ x.phase = .airing) → t.record k = some { r with overdue := true }) ∧
      (∀ u, exec (.holdLimitReached k) s = .next u → exec set s = exec set u) ∧
      ((∀ j x, s.record j = some x → x.phase ≠ .airing) → s.dev.state = .onAir → s.alerts.queue.head? = some k →
        t.record k = some { r with overdue := true, phase := .airing } ∧ t.cue.state = .held)

/-- R165, R166, R169: SUPERVISION SET, with settings in range, taken after the output block boundary that found the silence
counter at the old window, though its row has not come, finds the entry to FALLBACK begun: the fill notice has gone out and
its answer is on its way, and a longer window does not call it back. (That an event found due waits to be taken is the
model's choice, log entry 4.) -/
def Sys2Proof.Claims.SilenceWindowsFollowTheBoundary : Prop :=
  ∀ (b0 b1 b2 b3 b4 b5 b6 b7 : Byte) (c : SupervisionSettings) (s : State), Reaches .C s →
    supervisionSettingsOf [b0, b1, b2, b3, b4, b5, b6, b7] = some c → s.due = [.silenceWindow] →
    s.sup.mode = some .normal → s.sup.settings.window ≤ s.sup.counter →
    let set := Instr.supervisionSet .C [b0, b1, b2, b3, b4, b5, b6, b7]
    ∃ t, exec set s = .next t ∧ (t.link .C).inFlight = some ⟨0x3C, some ⟨0x3C, .ok, .supervision c⟩⟩ ∧
      t.sup.settings = c ∧ t.due = [.fillAnswer] ∧ t.sup.answer.isSome = true ∧
      (s.cue.state = .held ∨ s.cue.state = .filling → t.sup.answer = some .notFilled ∧ t.cue = s.cue) ∧
      ∀ u, exec .silenceWindow s = .next u → exec set s = exec set u

/-- The settings commands of the alerts, the link and the air supervision, also when an event that the last boundary found
by the old settings is left to its row (R131, R146, R161, R165, R166, R169). -/
def Obligations.SettingsAreTaken : Prop :=
  Claims.SettingsAreTaken ∧
    Claims.HoldLimitsFollowTheBoundary ∧
    Claims.SilenceWindowsFollowTheBoundary

/-- R35: MEMORY SETTINGS SET, in STANDBY: refused BAD_PARAM outside the ranges and IN_USE over what the pool holds;
with R unchanged only A_res changes; with a new R the pool is rebuilt, the write head is 0, the target re-clamped,
and the OK waits for the silent fill, after which every segment of the delay region reads silent. (That the region
keeps its cells until SILENT FILL COMPLETE, when the fill is whole, is the model's choice, log entry 33.) -/
def Obligations.MemorySettingsAreTaken : Prop :=
  (∀ (r1 r0 a1 a0 : Byte) (s : State), Takes .C s → s.dev.state = .standby →
    let ring := r1.toNat * 256 + r0.toNat
    let reserve := a1.toNat * 256 + a0.toNat
    let set := exec (.memorySettingsSet .C [r1, r0, a1, a0]) s
    let good := 259 ≤ ring ∧ ring ≤ 4003 ∧ reserve ≤ 12000 ∧ reserve ≤ 16384 - ring
    let inUse := if ring = s.mem.ring then 16384 - s.mem.ring - reserve < s.mem.general
      else 0 < s.mem.general ∨ 0 < s.mem.alertCount ∨ s.clips.channels[0].isSome = true ∨ s.clips.channels[1].isSome = true
    let rebuilt : SampleMemory := { s.mem with
      ring := ring, reserve := reserve, held := [], free := List.range' ring (16384 - ring), general := 0, alertCount := 0 }
    (¬good → set = .next (answered .C 0x3F .badParam .none s)) ∧
    (good → inUse → set = .next (answered .C 0x3F .inUse .none s)) ∧
    (good → ¬inUse → ring = s.mem.ring →
      set = .next (answered .C 0x3F .ok .none { s with mem := { s.mem with reserve := reserve } })) ∧
    (good → ¬inUse → ring ≠ s.mem.ring → set = .next ({ s with
      mem := rebuilt
      delay := { s.delay with writeHead := 0, target := min s.delay.target (ring - 3) } }.modLink .C fun p =>
        { p with receiver := .hunting, inFlight := some ⟨0x3F, none⟩ }))) ∧
  ∀ s : State, s.dev.supply = .running → (s.link .C).inFlight = some ⟨0x3F, none⟩ →
    ∃ m : SampleMemory, exec .silentFillComplete s = .next ({ s with mem := m }.modLink .C fun p =>
        { p with inFlight := some ⟨0x3F, some ⟨0x3F, .ok, .none⟩⟩ }) ∧
      { m with cells := s.mem.cells } = s.mem ∧
      ∀ n, m.read n = if n < s.mem.ring then Segment.silent else s.mem.read n

/-- R206, R207, R204: PROFILE PROGRAM writes the settings in use with the rates given into the lowest-numbered
UNPROGRAMMED generation; BUSY while one is WRITING, FULL when none is left. At its 20th boundary it is VALID and
PROFILE_DONE is raised. PROFILE READ answers the generations' states, or a written generation's contents. (That an
event found due waits to be taken is the model's choice, log entry 4.) (So are the bytes over which a generation's CRC
runs, log entry 10.) -/
def Obligations.ProfilesAreProgrammed : Prop :=
  (∀ (p c l a : Rate) (s : State), Takes .C s → s.dev.state = .standby →
    let set := exec (.profileProgram .C [p.code, c.code, l.code, a.code]) s
    let writing := ∃ i : Fin 4, (s.prof.gens[i]).state = .writing
    (writing → set = .next (answered .C 0x41 .busy .none s)) ∧
    (¬writing → (∀ i : Fin 4, (s.prof.gens[i]).state ≠ .unprogrammed) → set = .next (answered .C 0x41 .full .none s)) ∧
    ∀ i : Fin 4, ¬writing → (s.prof.gens[i]).state = .unprogrammed →
      (∀ j : Fin 4, j < i → (s.prof.gens[j]).state ≠ .unprogrammed) →
      let contents : Settings :=
        ⟨s.tx.settings, #v[p, c, l, a], s.mem.ring, s.mem.reserve, s.delay.target, s.delay.settings, s.sup.settings,
          s.alerts.settings, s.panel.settings⟩
      set = .next (answered .C 0x41 .ok .none
        { s with prof := { s.prof with gens := s.prof.gens.set i (.writing contents 0) } })) ∧
  (∀ (i : Fin 4) (c : Settings) (n : Nat) (s : State), Found .profileDone s → s.prof.gens[i] = .writing c n → 20 ≤ n →
    (∀ j : Fin 4, j ≠ i → (s.prof.gens[j]).state ≠ .writing) → exec .profileDone s =
      .next (raise .C (.profileDone (i.val + 1)) { s with
        due := s.due.erase .profileDone
        prof := { s.prof with gens := s.prof.gens.set i (.written c c.crc) } }) ∧
    (Generation.written c c.crc).state = .valid) ∧
  ∀ (b : Byte) (s : State), Takes .C s →
    let read (c : Status) (r : Result) : Prop := exec (.profileRead .C [b]) s = .next (answered .C 0x42 c r s)
    (b = 0 → read .ok (.profileStates s.prof.loaded #v[s.prof.gens[0].state, s.prof.gens[1].state,
      s.prof.gens[2].state, s.prof.gens[3].state])) ∧
    (4 < b.toNat → read .badParam .none) ∧
    ∀ i : Fin 4, b.toNat = i.val + 1 →
      (∀ c crc, s.prof.gens[i] = .written c crc → read .ok (.profileContents c (decide (c.crc = crc)))) ∧
      ((∀ c crc, s.prof.gens[i] ≠ .written c crc) → read .notFound .none)

-- supplies and resets

/-- R200, R205, R57 and each chapter's values after reset: POWER ON and HARDWARE RESET begin POWER_UP from any state.
With no generation programmed, POWER UP END leaves the reset state, with RESET_DONE on every link. The highest VALID
generation is loaded, its target clamped to R − 3; PROFILE_FALLBACK tells of a FAILING one above it, and one left
WRITING counts as FAILING. (That the fill is whole at POWER ON and that the load ends at a step with nothing waiting
is the model's choice, log entry 11; so are the reset values that the spec does not give, log entry 26, and POWER ON
from any state, log entry 20.) (That the pool reads silent too, nothing being listed, is the model's choice, log entry
6; so are the bytes over which a generation's CRC runs, log entry 10.) -/
def Sys2Proof.Claims.PowerUpLoadsTheProfile : Prop :=
  ∀ s : State,
    ((∀ i : Fin 4, s.prof.gens[i] = .unprogrammed) → ∃ u, exec .powerOn s = .next u ∧ u.dev.state = .powerUp ∧
      u.prof.loaded = 0 ∧ exec .powerUpEnd u = .next { State.reset with pending := s.pending }) ∧
    (s.dev.supply ≠ .failed → ∃ u, exec .powerOn s = .next u ∧
      exec .hardwareReset s = .next { u with dev := { u.dev with kind := .hardware } }) ∧
    ∀ (i : Fin 4) (c : Settings), s.prof.gens[i] = .written c c.crc → .profileDone ∉ s.due →
      (∀ j : Fin 4, i < j → (s.prof.gens[j]).state ≠ .valid) →
      ∃ u, exec .powerOn s = .next u ∧ u.dev = ⟨.loading, .powerUp, .powerOn, .internal, 0, 0⟩ ∧
        u.prof.loaded = i.val + 1 ∧
        u.mem.ring = c.ring ∧ u.mem.reserve = c.reserve ∧ u.mem.cells = [] ∧
        u.mem.free = List.range' c.ring (16384 - c.ring) ∧
        u.delay.target = min c.target (c.ring - 3) ∧ u.delay.settings = c.delay ∧ u.delay.excess = 0 ∧
        u.sup.settings = c.supervision ∧ u.alerts.settings = c.alert ∧ u.tx.settings = c.link ∧
        u.panel.settings = c.panel ∧ (u.link .P).rate = c.rates[0] ∧ (u.link .C).rate = c.rates[1] ∧
        (u.link .S).rate = c.rates[2] ∧ (u.link .A).rate = c.rates[3] ∧
        (u.link .C).events = match [(3 : Fin 4), 2, 1].find? fun j =>
            decide (i < j ∧ (s.prof.gens[j]).state ≠ .unprogrammed) with
          | some j => [⟨.profileFallback (i.val + 1) (j.val + 1), 1⟩]
          | none => []

/-- R200, R203, R206: at POWER LOSS and while RESET is held low all activity stops: nothing is in flight, the
outputs are silent and no frame is sent; RESET low breaks off a profile write, which is FAILING, and POWER LOSS
leaves it WRITING, so that the next POWER ON finds it FAILING. Then only power or the RESET line changes anything;
while the profile is being loaded, when the links are held idle (R181, R195), only these and POWER UP END. (What a
stopped part takes is the model's reading, log entry 20. No PROFILE_DONE is left to its row.) -/
def Sys2Proof.Claims.StoppedPartsAreInert : Prop :=
  (∀ s : State, .profileDone ∉ s.due → ∃ t u, exec .powerLoss s = .next t ∧ t.dev = { s.dev with supply := .failed } ∧ t.prof = s.prof ∧
    t.tx = { s.tx with frame := none } ∧ t.port = Vector.replicate 4 Block.silent ∧
    (∀ l, (t.link l).inFlight = none ∧ (t.link l).owed = []) ∧ (∀ n, t.pin n = none) ∧
    (s.dev.supply ≠ .failed → exec .resetLineLow s = .next u ∧ u.dev = { s.dev with supply := .resetLow } ∧
      (∀ l, (u.link l).inFlight = none ∧ (u.link l).owed = []) ∧
      ∀ i : Fin 4, ((s.prof.gens[i]).state = .writing → (u.prof.gens[i]).state = .failing) ∧
        ((s.prof.gens[i]).state ≠ .writing → u.prof.gens[i] = s.prof.gens[i]))) ∧
  (∀ s t : State, .profileDone ∉ s.due → exec .powerOn s = .next t → ∀ i : Fin 4,
    (s.prof.gens[i]).state = .writing → (t.prof.gens[i]).state = .failing) ∧
  ∀ (c : Instr) (s : State), s.dev.supply ≠ .running → (s.dev.supply = .loading → c ≠ .powerUpEnd) → c ≠ .powerOn →
    c ≠ .hardwareReset → c ≠ .powerLoss → c ≠ .resetLineLow → exec c s = .next s

/-- R206: a write of the profile that the last boundary found complete is VALID, be power lost or RESET low before its
row comes. (That an event found due waits to be taken is the model's choice, log entry 4.) (The bytes over which the
CRC runs: log entry 10.) -/
def Sys2Proof.Claims.CompleteWritesStand : Prop :=
  ∀ (i : Fin 4) (c : Settings) (n : Nat) (s : State), Found .profileDone s → s.prof.gens[i] = .writing c n → 20 ≤ n →
    (∀ j : Fin 4, j ≠ i → (s.prof.gens[j]).state ≠ .writing) →
    ∀ e ∈ [Instr.powerLoss, .resetLineLow, .powerOn, .hardwareReset], ∃ t, exec e s = .next t ∧
      t.prof.gens[i] = .written c c.crc

/-- R200, R195: POWER UP END, in every POWER_UP: the device is in STANDBY, its profile loaded, and RESET_DONE with the
kind of the reset is raised on every link; nothing else changes. Out of POWER_UP, and while the part does not run,
nothing changes. (That it also ends the loading of the profile is the model's choice, log entry 11.) (That the row
changes nothing out of POWER_UP is the model's choice, log entry 5, and that a part that does not run takes nothing
its reading, log entry 20.) -/
def Sys2Proof.Claims.PowerUpEnds : Prop :=
  ∀ s : State,
    (s.dev.state = .powerUp → s.dev.supply = .running ∨ s.dev.supply = .loading →
      ∃ t, exec .powerUpEnd s = .next t ∧ t.dev = { s.dev with supply := .running, state := .standby } ∧
        { t with dev := s.dev, links := s.links } = s ∧
        ∀ l, { t.link l with events := (s.link l).events } = s.link l ∧
          (∃ p ∈ (t.link l).events, p.event = .resetDone s.dev.kind) ∧
          ∀ p, p.event.number ≠ 0x01 → (p ∈ (t.link l).events ↔ p ∈ (s.link l).events)) ∧
    (s.dev.state ≠ .powerUp ∨ s.dev.supply = .failed ∨ s.dev.supply = .resetLow → exec .powerUpEnd s = .next s)

/-- R205, R204, R171: with no generation VALID the factory defaults are loaded, as generation 0; PROFILE_FALLBACK
tells of the highest FAILING one, one left WRITING among them. (POWER ON from any state is the model's reading, log
entry 20.) -/
def Sys2Proof.Claims.FactoryDefaultsAreLoaded : Prop :=
  ∀ s : State, (∀ i : Fin 4, (s.prof.gens[i]).state ≠ .valid) → .profileDone ∉ s.due →
    ∃ u, exec .powerOn s = .next u ∧ u.prof.loaded = 0 ∧ u.mem.ring = 2003 ∧ u.mem.reserve = 6000 ∧
      u.delay.target = 2000 ∧ u.delay.settings = ⟨50, 300, 1000, 36, 24, 12, 5, 12, 32768, 4000⟩ ∧
      u.sup.settings = ⟨2048, 1500, 100, true⟩ ∧ u.alerts.settings = ⟨6000, 60000, true⟩ ∧
      u.tx.settings = ⟨200, #v[0x30, 0x30, 0x30]⟩ ∧ (∀ l, (u.link l).rate = .baud115200) ∧
      u.panel.settings.cancelWindow = 30 ∧ u.panel.settings.lines =
        #v[⟨.inputPullup, false, .goEdge⟩, ⟨.inputPullup, false, .stop⟩, ⟨.inputPullup, false, .dump⟩,
          ⟨.inputPullup, false, .mic⟩, ⟨.output, true, .onAir⟩, ⟨.output, true, .alertActive⟩,
          ⟨.output, true, .delaySafe⟩, ⟨.output, true, .micLive⟩] ∧
      (u.link .C).events = match [(3 : Fin 4), 2, 1, 0].find? fun j =>
          decide ((s.prof.gens[j]).state ≠ .unprogrammed) with
        | some j => [⟨.profileFallback 0 (j.val + 1), 1⟩]
        | none => []

/-- Power-up, hardware reset, power loss and the RESET line (R200, R205, R206). (Where these rest on the model's
choices: log entries 4, 5, 6, 10, 11, 20 and 26.) -/
def Obligations.PowerUpAndPowerDown : Prop :=
  Claims.PowerUpLoadsTheProfile ∧
    Claims.StoppedPartsAreInert ∧
    Claims.CompleteWritesStand ∧
    Claims.PowerUpEnds ∧
    Claims.FactoryDefaultsAreLoaded

/-- R203, R195 and each chapter's values after SOFT RESET: SOFT RESET is answered OK, and once its response has been
sent the reset is made: STANDBY; the mix, the cue list, the callers and the records as after power-on; settings,
target, clock source, link state, history and memory kept; playout captures ended, roles kept, alert clips emptied; a
profile write FAILING; on every link the receiver HUNTING, the event set RESET_DONE alone, every event enabled. What
the last boundary found is taken before the reset. (That RESPONSE SENT and SOFT RESET MADE each make the whole reset,
which leaves nothing in flight or owed on link C, is the model's choice, log entry 21; the panel's levels after it are
log entry 26.) (That there is no read position in STANDBY: log entry 28; that no reset meets a segment partly written:
log entry 40.) -/
def Obligations.SoftResetIsMade : Prop :=
  (∀ s : State, Takes .C s → exec (.softReset .C []) s = .next (answered .C 0x32 .ok .none s)) ∧
  (∀ (d : Due) (s : State), s.live = true → s.due = [d] → d ≠ .fillAnswer →
    (s.link .C).inFlight = some ⟨0x32, some ⟨0x32, .ok, .none⟩⟩ →
    exec .softResetMade s = exec .softResetMade (take d s) ∧ exec (.responseSent .C) s = exec .softResetMade (take d s)) ∧
  ∀ s : State, s.dev.supply = .running → (s.link .C).inFlight = some ⟨0x32, some ⟨0x32, .ok, .none⟩⟩ → Settled s →
    ∃ t, exec .softResetMade s = .next t ∧ exec (.responseSent .C) s = .next t ∧
      t.dev = { s.dev with state := .standby } ∧ t.mix = State.reset.mix ∧ t.cue = State.reset.cue ∧
      t.callers = State.reset.callers ∧
      t.delay = { State.reset.delay with target := s.delay.target, settings := s.delay.settings } ∧
      t.alerts = { State.reset.alerts with
        settings := s.alerts.settings, history := s.alerts.history, lastLink := s.alerts.lastLink } ∧
      t.sup = { State.reset.sup with settings := s.sup.settings } ∧ t.tx = s.tx ∧
      t.panel = { State.reset.panel with
        settings := s.panel.settings
        reports := { State.reset.panel.reports with linkOk := decide (s.tx.state = .up) } } ∧
      t.prof.loaded = s.prof.loaded ∧
      (∀ i : Fin 4, ((s.prof.gens[i]).state = .writing → (t.prof.gens[i]).state = .failing) ∧
        ((s.prof.gens[i]).state ≠ .writing → t.prof.gens[i] = s.prof.gens[i])) ∧
      t.mem.cells = s.mem.cells ∧ t.mem.ring = s.mem.ring ∧ t.mem.reserve = s.mem.reserve ∧
      t.mem.errors = s.mem.errors ∧ t.mem.general = s.mem.general ∧
      t.clips.channels = Vector.replicate 2 none ∧ t.clips.alert = Vector.replicate 4 Clip.empty ∧
      t.clips.alertCapture = none ∧ t.clips.readerA = none ∧ t.clips.readerB = none ∧ t.clips.readerAlert = none ∧
      t.clips.fallback = s.clips.fallback ∧ t.clips.tone = s.clips.tone ∧
      (∀ n : ClipId, (t.clips.playout[n]).uses = (if s.clips.fallback = some n then 1 else 0) +
        (if s.clips.tone = some n then 1 else 0)) ∧
      (∀ n : ClipId, (∀ ch : Channel, ∀ c, s.clips.channels[ch] = some c → c.clip ≠ n) →
        t.clips.playout[n] = { s.clips.playout[n] with uses := (t.clips.playout[n]).uses }) ∧
      (∀ (ch : Channel) c, s.clips.channels[ch] = some c → (t.clips.playout[c.clip]).state =
        if (s.clips.playout[c.clip]).count = 0 then .empty else .ready) ∧
      (∀ l : Link, (t.link l).receiver = .hunting ∧ (t.link l).events = [⟨.resetDone .soft, 1⟩] ∧
        (t.link l).enabled = linkEvents l ∧ (t.link l).faults = (s.link l).faults ∧
        (t.link l).rate = (s.link l).rate) ∧
      (t.link .C).inFlight = none ∧ (t.link .C).owed = []

-- the laws of the device, kept by every step

/-- Laws 3 and 4 with the canonical form: every step keeps the memory canonical (segments rising, none listed that
reads silent); the pool mapped, so that the free list and the two counts add up to P (R30); and playout clips within P
− A_res (R31). (That a segment not listed reads silent is the model's choice, log entry 6.) -/
def Obligations.TheMemoryStaysSound : Prop :=
  (∀ s t : State, MemoryCanonical s → step s = .next t → MemoryCanonical t) ∧
    (∀ s t : State, PoolMapped s → step s = .next t → PoolMapped t) ∧
    (∀ s : State, PoolMapped s → PoolAccounted s) ∧
    ∀ s t : State, ReserveKept s → step s = .next t → ReserveKept t

/-- Law 1 (R37): every step keeps E at most 480·(R − 3), with the target at most R − 3 and the delay OFF with E = 0
unless the device is ON_AIR. -/
def Obligations.TheDelayStaysBounded : Prop :=
  ∀ s t : State, DelayBounded s → step s = .next t → DelayBounded t

/-- Law 11 (R152): every step keeps the next link frame's number one more, modulo 65,536, than that of the frame sent
last. -/
def Obligations.LinkFramesStayNumbered : Prop :=
  ∀ s t : State, Numbered s → step s = .next t → Numbered t

/-- Law 13 (R133): every step keeps at most one alert record AIRING. -/
def Obligations.OneAlertAirs : Prop :=
  ∀ s t : State, OneAiring s → step s = .next t → OneAiring t

/-- Law 5 (R106, R111): every step keeps the HELD lines in the hold queue, each once, and no others, and each line
ON_AIR in the one slot it names, and no others. -/
def Obligations.LinesStayPlaced : Prop :=
  ∀ s t : State, LinesKept s → step s = .next t → LinesKept t

/-- The reset state (STANDBY once POWER_UP has ended: the model's choice, log entry 1) has what the laws keep. (That
the memory lists nothing and so reads silent: log entry 6.) -/
def Obligations.ResetKeepsTheLaws : Prop :=
  MemoryCanonical State.reset ∧ PoolMapped State.reset ∧ ReserveKept State.reset ∧ DelayBounded State.reset ∧
    Numbered State.reset ∧ OneAiring State.reset ∧ LinesKept State.reset
end

