-- ==== Sys2Proof/Laws/Touches.lean ====
section
/-! SUPPORT. What a shared operation may change: a state's parts, and the statement that only the parts named change. -/

namespace Sys2Proof.Laws

open Sys2Proof.Machine

/-- What is in flight or owed an answer on each link. -/
def answers (s : State) : List (Option InFlight × List Owed) :=
  [s.links.p, s.links.c, s.links.s, s.links.a].map fun p => (p.inFlight, p.owed)

/-- The parts of a state, one for each of its fields; of the device also whether it runs and in which state, and of the links
what they have to answer. -/
inductive Part where
  | runs | answers | dev | inputs | mix | formed | mem | delay | clips | cue | callers | alerts | tx | sup | panel | prof | links | port | air
  | due | pending
  deriving DecidableEq, Repr

/-- The part is the same in both states. -/
def Part.Same (s t : State) : Part → Prop
  | .runs => (t.dev.supply, t.dev.state) = (s.dev.supply, s.dev.state)
  | .answers => Laws.answers t = Laws.answers s
  | .dev => t.dev = s.dev
  | .inputs => t.inputs = s.inputs
  | .mix => t.mix = s.mix
  | .formed => t.formed = s.formed
  | .mem => t.mem = s.mem
  | .delay => t.delay = s.delay
  | .clips => t.clips = s.clips
  | .cue => t.cue = s.cue
  | .callers => t.callers = s.callers
  | .alerts => t.alerts = s.alerts
  | .tx => t.tx = s.tx
  | .sup => t.sup = s.sup
  | .panel => t.panel = s.panel
  | .prof => t.prof = s.prof
  | .links => t.links = s.links
  | .port => t.port = s.port
  | .air => t.air = s.air
  | .due => t.due = s.due
  | .pending => t.pending = s.pending

/-- From `s` to `t` no part but those of `ps` changes. -/
def Touches (ps : List Part) (s t : State) : Prop := ∀ p, p ∉ ps → p.Same s t

theorem Part.Same.trans {p : Part} {s t u : State} (h : p.Same s t) (k : p.Same t u) : p.Same s u := by
  cases p <;> exact Eq.trans k h

theorem Part.Same.refl (p : Part) (s : State) : p.Same s s := by
  cases p <;> rfl

theorem Touches.refl (ps : List Part) (s : State) : Touches ps s s := fun p _ => Part.Same.refl p s

theorem Touches.trans {ps : List Part} {s t u : State} (h : Touches ps s t) (k : Touches ps t u) : Touches ps s u :=
  fun p hp => (h p hp).trans (k p hp)

theorem Touches.mono {ps qs : List Part} {s t : State} (h : Touches ps s t) (hs : ps ⊆ qs) : Touches qs s t :=
  fun p hp => h p fun hm => hp (hs hm)

/-- A change within `qs`, then one within fewer parts. -/
theorem Touches.and {ps qs : List Part} {s t u : State} (h : Touches qs s t) (k : Touches ps t u)
    (hs : ps ⊆ qs := by decide) : Touches qs s u :=
  h.trans (k.mono hs)

/-- A fold of changes within `ps` is a change within `ps`. -/
theorem Touches.foldl {α : Type} {ps : List Part} (f : State → α → State) (h : ∀ s a, Touches ps s (f s a)) (as : List α) :
    ∀ s, Touches ps s (as.foldl f s) := by
  induction as with
  | nil => exact fun s => Touches.refl ps s
  | cons a as ih => exact fun s => (h s a).trans (ih (f s a))

end Sys2Proof.Laws
end

