-- ==== Sys2Proof/Laws/Operations.lean ====
section
/-! SUPPORT. For each operation that the meanings share, the parts of the state that it may change (the mix, the clips, the
delay, the callers, the cue list, the alerts). Every other part stays as it is. -/

namespace Sys2Proof.Laws

-- the lemmas one after the other: in one text, all at once they ask for more threads than the compile has
set_option Elab.async false

open Sys2Proof.Machine

-- links and the panel's reports

theorem modLink_touches (l : Link) (f : LinkPort → LinkPort) (s : State) :
    Touches [.links, .answers] s (s.modLink l f) := by
  intro p hp; cases p <;> first | rfl | exact absurd (by decide) hp

/-- A change of a link's events or receiver leaves what it has to answer. -/
theorem modLink_keeps_answers (l : Link) (f : LinkPort → LinkPort) (s : State)
    (h : ∀ p, (f p).inFlight = p.inFlight ∧ (f p).owed = p.owed) : Touches [.links] s (s.modLink l f) := by
  intro p hp
  cases p <;> first
    | rfl
    | exact absurd (by decide) hp
    | cases l <;> simp [Part.Same, answers, State.modLink, State.link, Links.set, Links.get, h]

theorem raise_touches (l : Link) (e : Event) (s : State) : Touches [.links] s (raise l e s) :=
  modLink_keeps_answers l _ s fun _ => ⟨rfl, rfl⟩

theorem report_touches (f : Reports → Reports) (s : State) : Touches [.panel] s (s.report f) := by
  intro p hp; cases p <;> first | rfl | exact absurd (by decide) hp

-- the mix, the clips and the pool

theorem setContrib_touches (c : Contributor) (x : Contrib) (s : State) : Touches [.mix] s (s.setContrib c x) := by
  intro p hp; cases p <;> first | rfl | exact absurd (by decide) hp

theorem setReader_touches (r : ReaderOf) (x : Option Reader) (s : State) : Touches [.clips] s (s.setReader r x) := by
  cases r <;> intro p hp <;> cases p <;> first | rfl | exact absurd (by decide) hp

theorem modClip_touches (c : ClipRef) (f : Clip → Clip) (s : State) : Touches [.clips] s (s.modClip c f) := by
  cases c <;> intro p hp <;> cases p <;> first | rfl | exact absurd (by decide) hp

theorem useClip_touches (up : Bool) (c : ClipRef) (s : State) : Touches [.clips] s (useClip up c s) := by
  cases c
  · exact modClip_touches _ _ s
  · exact Touches.refl _ s

theorem closeReader_touches (r : ReaderOf) (s : State) : Touches [.clips] s (closeReader r s) := by
  unfold closeReader
  split
  · exact Touches.refl _ s
  · exact (setReader_touches _ _ s).and (useClip_touches _ _ _)

theorem closeReaderOf_touches (c : Contributor) (s : State) : Touches [.clips] s (closeReaderOf c s) := by
  unfold closeReaderOf
  split
  · exact closeReader_touches _ s
  · exact Touches.refl _ s

theorem openReader_touches (r : ReaderOf) (c : ClipRef) (n : Nat) (s : State) :
    Touches [.clips] s (openReader r c n s) :=
  (setReader_touches _ _ s).and (useClip_touches _ _ _)

theorem cut_touches (c : Contributor) (s : State) : Touches [.mix, .clips] s (cut c s) := by
  unfold cut
  split
  · exact ((Touches.refl _ s).and (closeReaderOf_touches c s)).and (setContrib_touches _ _ _)
  · exact Touches.refl _ s

theorem activate_touches (c : Contributor) (b : Binding) (g f n : Nat) (s : State) :
    Touches [.mix, .clips] s (activate c b g f n s) := by
  unfold activate
  split
  · split
    · exact (((Touches.refl _ s).and (closeReader_touches _ s)).and (openReader_touches _ _ _ _)).and
        (setContrib_touches _ _ _)
    · exact Touches.refl _ s
  · exact ((Touches.refl _ s).and (closeReaderOf_touches c s)).and (setContrib_touches _ _ _)

theorem level_touches (c : Contributor) (g n : Nat) (s : State) : Touches [.mix] s (level c g n s) :=
  setContrib_touches _ _ s

theorem fadeOut_touches (c : Contributor) (n : Nat) (s : State) : Touches [.mix, .clips] s (fadeOut c n s) := by
  unfold fadeOut
  split
  · exact cut_touches c s
  · split
    · exact (Touches.refl _ s).and (setContrib_touches _ _ s)
    · exact Touches.refl _ s

theorem memory_touches (m : SampleMemory) (s : State) : Touches [.mem] s { s with mem := m } := by
  intro p hp; cases p <;> first | rfl | exact absurd (by decide) hp

theorem emptyClip_touches (c : ClipRef) (s : State) : Touches [.mem, .clips] s (emptyClip c s) :=
  ((Touches.refl _ s).and (memory_touches _ s)).and (modClip_touches c _ _)

theorem appendBlock_touches {c : ClipRef} {b : Block} {peak : Nat} {s t : State} (h : appendBlock c b peak s = some t) :
    Touches [.mem, .clips] s t := by
  unfold appendBlock at h
  split at h
  · cases h
  · cases h
    exact ((Touches.refl _ s).and (memory_touches _ s)).and (modClip_touches c _ _)

theorem records_touches (a : Alerts) (s : State) : Touches [.alerts] s { s with alerts := a } := by
  intro p hp; cases p <;> first | rfl | exact absurd (by decide) hp

theorem markDamaged_touches (q : AlertSlot → AlertRecord → Bool) (s : State) : Touches [.alerts] s (markDamaged q s) :=
  records_touches _ s

-- the delay

theorem delay_touches (d : Delay) (s : State) : Touches [.delay] s { s with delay := d } := by
  intro p hp; cases p <;> first | rfl | exact absurd (by decide) hp

theorem air_touches (a : AirBlock) (s : State) : Touches [.air] s { s with air := a } := by
  intro p hp; cases p <;> first | rfl | exact absurd (by decide) hp

theorem workOutDelay_touches (s : State) : Touches [.delay, .links, .panel] s (workOutDelay s) := by
  unfold workOutDelay
  dsimp only
  split
  · exact (Touches.refl _ s).and (delay_touches _ s)
  · exact (((Touches.refl _ s).and (delay_touches _ s)).and (raise_touches _ _ _)).and (report_touches _ _)

theorem forcedDump_touches (s : State) : Touches [.delay] s (forcedDump s) := by
  unfold forcedDump
  split
  · exact Touches.refl _ s
  · exact delay_touches _ s

theorem startDelay_touches (s : State) : Touches [.mem, .delay, .links, .panel] s (startDelay s) := by
  refine Touches.and (ps := [.delay, .links, .panel]) ?_ (workOutDelay_touches _)
  intro p hp; cases p <;> first | rfl | exact absurd (by decide) hp

theorem stopDelay_touches (s : State) : Touches [.delay, .links, .panel] s (stopDelay s) := by
  refine Touches.and (ps := [.delay, .links, .panel]) ?_ (workOutDelay_touches _)
  intro p hp; cases p <;> first | rfl | exact absurd (by decide) hp

theorem writeDelay_touches (f : Formed) (s : State) : Touches [.mem, .delay] s (writeDelay f s) := by
  unfold writeDelay
  split
  · exact Touches.refl _ s
  · intro p hp; cases p <;> first | rfl | exact absurd (by decide) hp

theorem carryOutDump_touches (s : State) : Touches [.delay, .links] s (carryOutDump s) := by
  unfold carryOutDump
  split
  · dsimp only
    split
    · exact (Touches.refl _ s).and (delay_touches _ s)
    · exact ((Touches.refl _ s).and (delay_touches _ s)).and (raise_touches _ _ _)
  · exact (Touches.refl _ s).and (delay_touches _ s)

theorem delayFetchFailed_touches (n : Nat) (g : Segment) (s : State) :
    Touches [.mem, .links, .alerts] s (delayFetchFailed n g s) := by
  have h : Touches [.mem, .links] s
      (raise .C (.delayMemoryError n) { s with mem := { s.mem with errors := countUp 65535 s.mem.errors } }) :=
    ((Touches.refl _ s).and (memory_touches _ s)).and (raise_touches _ _ _)
  unfold delayFetchFailed
  dsimp only
  split
  · exact ((Touches.refl _ s).and h).and (markDamaged_touches _ _)
  · exact (Touches.refl _ s).and h

theorem reportFetches_touches (seg n : Nat) (s : State) : Touches [.mem, .links, .alerts] s (reportFetches seg n s) := by
  refine Touches.foldl _ (fun t i => ?_) _ s
  dsimp only
  split
  · exact Touches.refl _ t
  · exact delayFetchFailed_touches _ _ t

theorem readDelay_touches (pos : Nat × Nat) (s : State) :
    Touches [.mem, .links, .alerts, .delay, .air] s (readDelay pos s) := by
  have h (a : AirBlock) (d : Delay) (t : State) : Touches [.air, .delay] t { t with air := a, delay := d } := by
    intro p hp; cases p <;> first | rfl | exact absurd (by decide) hp
  exact ((Touches.refl _ s).and (reportFetches_touches _ _ s)).and (h _ _ _)

theorem outputDelay_touches (s : State) : Touches [.mem, .links, .alerts, .delay, .air, .panel] s (outputDelay s) := by
  unfold outputDelay
  split
  · exact (Touches.refl _ s).and (air_touches _ s)
  · refine Touches.and (ps := [.delay, .links, .panel]) ?_ (workOutDelay_touches _)
    split
    · split
      · exact ((Touches.refl _ s).and (carryOutDump_touches s)).and (readDelay_touches _ _)
      · exact ((Touches.refl _ s).and (carryOutDump_touches s)).and (air_touches _ _)
    · exact ((Touches.refl _ s).and (carryOutDump_touches s)).and (air_touches _ _)

-- callers

theorem callers_touches (c : Callers) (s : State) : Touches [.callers] s { s with callers := c } := by
  intro p hp; cases p <;> first | rfl | exact absurd (by decide) hp

theorem setLine_touches (i : PhoneLine) (x : LineRecord) (s : State) : Touches [.callers] s (s.setLine i x) :=
  callers_touches _ s

theorem setSlot_touches (k : CallerSlot) (x : SlotRecord) (s : State) : Touches [.callers, .panel] s (s.setSlot k x) :=
  ((Touches.refl _ s).and (callers_touches _ s)).and (report_touches _ _)

theorem raiseQueue_touches (s : State) : Touches [.links] s (raiseQueue s) := raise_touches _ _ s

theorem placeLine_touches (i : PhoneLine) (s : State) : Touches [.callers] s (placeLine i s) := callers_touches _ s

theorem joinQueue_touches (i : PhoneLine) (s : State) : Touches [.callers] s (joinQueue i s) :=
  (callers_touches _ s).and (placeLine_touches i _)

theorem leaveQueue_touches (i : PhoneLine) (s : State) : Touches [.callers] s (leaveQueue i s) := callers_touches _ s

theorem abortMeasure_touches (i : PhoneLine) (s : State) : Touches [.callers, .links] s (abortMeasure i s) := by
  unfold abortMeasure
  split
  · split
    · exact (((Touches.refl _ s).and (setLine_touches i _ s)).and (callers_touches _ _)).and (raise_touches _ _ _)
    · exact Touches.refl _ s
  · exact Touches.refl _ s

theorem enterSlot_touches (i : PhoneLine) (k : CallerSlot) (s : State) :
    Touches [.callers, .panel, .links, .mix, .clips] s (enterSlot i k s) :=
  (((((((Touches.refl _ s).and (leaveQueue_touches i s)).and (setLine_touches i _ _)).and (setSlot_touches k _ _)).and
    (activate_touches _ _ _ _ _ _)).and (raise_touches _ _ _)).and (raiseQueue_touches _))

theorem settleRelease_touches (cause : OffAirCause) (k : CallerSlot) (s : State) :
    Touches [.callers, .panel, .links] s (settleRelease cause k s) := by
  unfold settleRelease
  split
  · rename_i d _
    cases d
    · exact ((((Touches.refl _ s).and (setSlot_touches k _ s)).and (setLine_touches _ _ _)).and
        (joinQueue_touches _ _)).and (raise_touches _ _ _)
    · exact (((Touches.refl _ s).and (setSlot_touches k _ s)).and (setLine_touches _ _ _)).and (raise_touches _ _ _)
  · exact Touches.refl _ s

theorem endRelease_touches (k : CallerSlot) (s : State) : Touches [.callers, .panel, .links] s (endRelease k s) := by
  unfold endRelease
  dsimp only
  split
  · exact settleRelease_touches .released k s
  · exact (settleRelease_touches .released k s).and (raiseQueue_touches _)

theorem releaseSlot_touches (k : CallerSlot) (d : Disposition) (s : State) :
    Touches [.callers, .panel, .links, .mix, .clips] s (releaseSlot k d s) := by
  unfold releaseSlot
  split
  · exact (Touches.refl _ s).and (setSlot_touches k _ s)
  · have h (i : PhoneLine) : Touches [.callers, .panel, .mix, .clips] s
        (fadeOut (slotContributor k) s.mix.slotFade[k] (s.setSlot k ⟨some i, some d⟩)) :=
      ((Touches.refl _ s).and (setSlot_touches k _ s)).and (fadeOut_touches _ _ _)
    dsimp only
    split
    · exact ((Touches.refl _ s).and (h _)).and (endRelease_touches k _)
    · exact (Touches.refl _ s).and (h _)
  · exact Touches.refl _ s

theorem returnLine_touches (cause : OffAirCause) (k : CallerSlot) (s : State) :
    Touches [.callers, .panel, .links, .mix, .clips] s (returnLine cause k s) := by
  unfold returnLine
  split
  · exact ((((Touches.refl _ s).and (cut_touches _ s)).and (setSlot_touches k _ _)).and (setLine_touches _ _ _)).and
      (raise_touches _ _ _)
  · exact Touches.refl _ s

theorem requeueReturned_touches (back : List PhoneLine) (s : State) :
    Touches [.callers] s (requeueReturned back s) := by
  unfold requeueReturned
  split
  · exact Touches.refl _ s
  · exact ((callers_touches _ s).trans (Touches.foldl _ (fun t (x : PhoneLine × Nat) => setLine_touches x.1 _ t) _ _)).trans
      (Touches.foldl _ (fun t i => placeLine_touches i t) _ _)

theorem cutRelease_touches (cause : OffAirCause) (k : CallerSlot) (s : State) :
    Touches [.callers, .panel, .links, .mix, .clips] s (cutRelease cause k s) := by
  unfold cutRelease
  split
  · exact ((Touches.refl _ s).and (cut_touches _ s)).and (settleRelease_touches _ k _)
  · exact Touches.refl _ s

theorem emptySlots_touches (cause : OffAirCause) (s : State) :
    Touches [.callers, .panel, .links, .mix, .clips] s (emptySlots cause s) := by
  have h : Touches [.callers, .panel, .links, .mix, .clips] s (cutRelease cause 1 (cutRelease cause 0
      (requeueReturned s.linesToReturn (returnLine cause 1 (returnLine cause 0 s))))) :=
    ((((returnLine_touches cause 0 s).and (returnLine_touches cause 1 _)).and (requeueReturned_touches _ _)).and
      (cutRelease_touches cause 0 _)).and (cutRelease_touches cause 1 _)
  unfold emptySlots
  dsimp only
  split
  · exact h
  · exact h.and (raiseQueue_touches _)

theorem measureDone_touches (s : State) : Touches [.callers, .links] s (measureDone s) := by
  unfold measureDone
  split
  · split
    · exact (((Touches.refl _ s).and (setLine_touches _ _ s)).and (callers_touches _ _)).and (raise_touches _ _ _)
    · exact Touches.refl _ s
  · exact Touches.refl _ s

theorem countMeasure_touches (s : State) : Touches [.callers] s (countMeasure s) := by
  unfold countMeasure
  split
  · exact callers_touches _ s
  · exact Touches.refl _ s

-- the cue list and holding for an alert

theorem cue_touches (c : Cue) (s : State) : Touches [.cue] s { s with cue := c } := by
  intro p hp; cases p <;> first | rfl | exact absurd (by decide) hp

theorem setVoice_touches (v : Voice) (x : VoiceState) (s : State) : Touches [.cue] s (s.setVoice v x) := by
  cases v <;> exact cue_touches _ s

theorem setEntries_touches (es : List Entry) (s : State) : Touches [.cue, .links] s (setEntries es s) := by
  unfold setEntries
  dsimp only
  split
  · exact ((Touches.refl _ s).and (cue_touches _ s)).and (raise_touches _ _ _)
  · exact (Touches.refl _ s).and (cue_touches _ s)

theorem releaseClaim_touches (e : Entry) (s : State) : Touches [.clips] s (releaseClaim e s) := by
  unfold releaseClaim
  split
  · exact useClip_touches _ _ s
  · exact Touches.refl _ s

theorem itemEnded_touches (e : Entry) (s : State) : Touches [.clips, .links] s (itemEnded e s) :=
  ((Touches.refl _ s).and (releaseClaim_touches e s)).and (raise_touches _ _ _)

theorem cutVoices_touches (s : State) : Touches [.mix, .clips, .cue] s (cutVoices s) :=
  ((((Touches.refl _ s).and (cut_touches .voiceA s)).and (cut_touches .voiceB _)).and (setVoice_touches .A _ _)).and
    (setVoice_touches .B _ _)

/-- The parts that the Cue Engine's list, its voices and the notices to the Alert Controller lie in. -/
abbrev cueParts : List Part := [.mix, .clips, .cue, .links, .alerts]

theorem holdEngine_touches (offer : Option Bool) (s : State) : Touches cueParts s (holdEngine offer s) := by
  unfold holdEngine
  split
  · exact Touches.refl _ s
  · exact (((((Touches.refl _ s).and (cutVoices_touches s)).and (Touches.foldl _ (fun t e => itemEnded_touches e t) _ _)).and
      (setEntries_touches _ _)).trans fun p hp => by
        cases p <;> first | rfl | exact absurd (by decide) hp).and (raise_touches _ _ _)

-- taking the air

theorem workOutWait_touches (s : State) : Touches [.cue] s (workOutWait s) := cue_touches _ s

theorem setRecord_touches (k : AlertSlot) (r : Option AlertRecord) (s : State) : Touches [.alerts] s (s.setRecord k r) :=
  records_touches _ s

theorem raiseAlertState_touches (k : AlertSlot) (s : State) : Touches [.links] s (raiseAlertState k s) := by
  unfold raiseAlertState
  split
  · exact raise_touches _ _ s
  · exact Touches.refl _ s

theorem sup_touches (x : Supervisor) (s : State) : Touches [.sup] s { s with sup := x } := by
  intro p hp; cases p <;> first | rfl | exact absurd (by decide) hp

theorem reportFallback_touches (s : State) : Touches [.panel] s (reportFallback s) := report_touches _ s

theorem takeoverAir_touches (s : State) : Touches [.sup, .panel] s (takeoverAir s) := by
  unfold takeoverAir
  split
  · exact Touches.refl _ s
  · exact ((Touches.refl _ s).and (sup_touches _ s)).and (reportFallback_touches _)
  · exact Touches.refl _ s

theorem releaseAirMode_touches (s : State) : Touches [.sup, .panel] s (releaseAirMode s) := by
  unfold releaseAirMode
  split
  · exact ((Touches.refl _ s).and (sup_touches _ s)).and (reportFallback_touches _)
  · exact Touches.refl _ s

theorem bindAlert_touches (k : AlertSlot) (r : AlertRecord) (s : State) :
    Touches [.mix, .clips, .alerts] s (bindAlert k r s) := by
  unfold bindAlert
  split
  · exact (Touches.refl _ s).and (activate_touches _ _ _ _ _ s)
  · split
    · exact ((Touches.refl _ s).and (records_touches _ s)).and (activate_touches _ _ _ _ _ _)
    · exact (Touches.refl _ s).and (activate_touches _ _ _ _ _ s)

/-- The parts that a takeover, and so any window check, may change: an alert takes the air from every block but the clock,
the memory, the link unit, the Profile Store and the ports. -/
abbrev airParts : List Part := [.mix, .delay, .clips, .cue, .callers, .alerts, .sup, .panel, .links]

theorem takeover_touches (k : AlertSlot) (offer : Option Bool) (s : State) :
    Touches airParts s (takeover k offer s) := by
  unfold takeover
  split
  · exact Touches.refl _ s
  · rename_i r _
    have h1 (t : State) : Touches airParts t (emptySlots .alert (holdEngine offer (takeoverAir t))) :=
      (((Touches.refl _ t).and (takeoverAir_touches t)).and (holdEngine_touches offer _)).and (emptySlots_touches .alert _)
    have h2 (t : State) : Touches airParts t
        ((workOutWait (bindAlert k r t)).report fun x => { x with alertActive := true }) :=
      (((Touches.refl _ t).and (bindAlert_touches k r t)).and (workOutWait_touches _)).and (report_touches _ _)
    have h3 : Touches airParts s (raise .C (.alertOnAir r.id r.cls) <| raiseAlertState k <|
        ({ s with alerts := { s.alerts with queue := s.alerts.queue.filter (· ≠ k), tone := none } } : State).setRecord k
          (some { r with phase := .airing })) :=
      ((((Touches.refl _ s).and (records_touches _ s)).and (setRecord_touches k _ _)).and
        (raiseAlertState_touches k _)).and (raise_touches _ _ _)
    dsimp only
    refine Touches.trans ?_ (h2 _)
    split
    · exact (h3.trans (h1 _)).and (forcedDump_touches _)
    · exact h3.trans (h1 _)

theorem windowCheck_touches (c : Check) (s : State) : Touches airParts s (windowCheck c s) := by
  unfold windowCheck
  split
  · exact takeover_touches _ _ s
  · exact Touches.refl _ s

theorem enterEngine_touches (was st : EngineState) (s : State) : Touches airParts s (enterEngine was st s) := by
  unfold enterEngine
  dsimp only
  split
  · exact (Touches.refl _ s).and (cue_touches _ s)
  · refine Touches.trans ?_ (windowCheck_touches _ _)
    intro p hp; cases p <;> first | rfl | exact absurd (by decide) hp

end Sys2Proof.Laws
end

