-- ==== Sys2Proof/Laws/Engines.lean ====
section
/-! SUPPORT. The parts of the state that the Cue Engine, the Alert Controller, the Transmitter Link Unit, the Mix Engine and
the captures may change at work; and that no command or event changes the queue of waiting commands. -/

namespace Sys2Proof.Laws

-- the lemmas one after the other: in one text, all at once they ask for more threads than the compile has
set_option Elab.async false

open Sys2Proof.Machine

-- the Cue Engine

theorem closeWindowOf_touches (v : Voice) (s : State) : Touches [.cue] s (closeWindowOf v s) := by
  unfold closeWindowOf
  split
  · split
    · exact cue_touches _ s
    · exact Touches.refl _ s
  · exact Touches.refl _ s

theorem leaveVoice_touches (v : Voice) (s : State) : Touches airParts s (leaveVoice v s) := by
  unfold leaveVoice
  split
  · exact Touches.refl _ s
  · split
    · exact Touches.refl _ s
    · exact (((((Touches.refl _ s).and (cut_touches _ s)).and (setVoice_touches v _ _)).and (itemEnded_touches _ _)).and
        (setEntries_touches _ _)).and (closeWindowOf_touches v _)

theorem soundEntry_touches (e : Entry) (v : Voice) (s : State) : Touches [.mix, .clips] s (soundEntry e v s) := by
  unfold soundEntry
  split
  · exact activate_touches _ _ _ _ _ s
  · exact activate_touches _ _ _ _ _ s
  · exact cut_touches _ s

theorem startIn_touches (p : Entry → Bool) (v : Voice) (s : State) : Touches airParts s (startIn p v s) := by
  unfold startIn
  split
  · exact Touches.refl _ s
  · dsimp only
    exact (((Touches.refl _ s).and (soundEntry_touches _ v s)).and (setVoice_touches v _ _)).and (cue_touches _ _)

theorem takeVoice_touches (v : Voice) (s : State) : Touches airParts s (takeVoice v s) := by
  unfold takeVoice
  split
  · exact leaveVoice_touches v s
  · exact Touches.refl _ s

theorem leaveMark_touches (p : Entry → Bool) (s : State) : Touches airParts s (leaveMark p s) :=
  ((Touches.refl _ s).and (cue_touches _ s)).and (setEntries_touches _ _)

theorem startEntry_touches (fuel : Nat) (p : Entry → Bool) (s : State) : Touches airParts s (startEntry fuel p s) := by
  induction fuel generalizing p s with
  | zero => unfold startEntry; exact Touches.refl _ s
  | succ n ih =>
    unfold startEntry
    split
    · exact Touches.refl _ s
    · exact Touches.refl _ s
    · rename_i m e hn he
      cases hn
      dsimp only
      split
      · split
        · exact ((leaveMark_touches p s).trans (takeover_touches _ _ _)).and (itemEnded_touches e _)
        · split
          · exact ((leaveMark_touches p s).and (itemEnded_touches e _)).trans (ih _ _)
          · exact (leaveMark_touches p s).and (itemEnded_touches e _)
      · split
        · exact (takeVoice_touches _ s).trans (startIn_touches _ _ _)
        · exact Touches.refl _ s

theorem startHead_touches (s : State) : Touches airParts s (startHead s) := startEntry_touches _ _ s

theorem settleFrom_touches (was : EngineState) (s : State) : Touches airParts s (settleFrom was s) := by
  unfold settleFrom
  split
  · exact Touches.refl _ s
  · dsimp only
    split
    · exact enterEngine_touches _ _ s
    · exact ((Touches.refl _ s).and (cue_touches _ s)).trans (enterEngine_touches _ _ _)

theorem endItem_touches (v : Voice) (s : State) : Touches airParts s (endItem v s) := by
  unfold endItem
  split
  · exact Touches.refl _ s
  · dsimp only
    split
    · exact (leaveVoice_touches v s).trans (takeover_touches _ _ _)
    · split
      · exact (leaveVoice_touches v s).trans (startHead_touches _)
      · exact leaveVoice_touches v s

theorem itemEnd_touches (v : Voice) (s : State) : Touches airParts s (itemEnd v s) :=
  (endItem_touches v s).trans (settleFrom_touches _ _)

theorem releaseVoice_touches (v : Voice) (n : Nat) (s : State) : Touches airParts s (releaseVoice v n s) :=
  ((Touches.refl _ s).and (fadeOut_touches _ n s)).and (setVoice_touches v _ _)

theorem stopVoice_touches (v : Voice) (s : State) : Touches airParts s (stopVoice v s) := by
  unfold stopVoice
  split
  · exact Touches.refl _ s
  · split
    · exact Touches.refl _ s
    · split
      · exact (Touches.refl _ s).and (setVoice_touches v _ s)
      · exact releaseVoice_touches v _ s

theorem stopEntries_touches (s : State) : Touches airParts s (stopEntries s) := by
  unfold stopEntries
  dsimp only
  exact ((stopVoice_touches .A s).trans (stopVoice_touches .B _)).and (cue_touches _ _)

theorem fadeFill_touches (s : State) : Touches airParts s (fadeFill s) := by
  unfold fadeFill
  dsimp only
  split
  · exact (releaseVoice_touches .A _ s).and (cue_touches _ _)
  · exact (Touches.refl _ s).and (cue_touches _ s)

theorem fillEnd_touches (s : State) : Touches airParts s (fillEnd s) := by
  unfold fillEnd
  split
  · exact (fadeFill_touches s).trans (settleFrom_touches _ _)
  · split
    · exact (Touches.refl _ s).and (cue_touches _ s)
    · exact Touches.refl _ s
  · exact Touches.refl _ s

theorem endFallback_touches (cause : LeftCause) (s : State) : Touches airParts s (endFallback cause s) := by
  unfold endFallback
  split
  · have h : Touches airParts s (raise .C (.fallbackLeft cause) (reportFallback
        { s with sup := { s.sup with mode := some .normal, counter := 0 } })) :=
      (((Touches.refl _ s).and (sup_touches _ s)).and (reportFallback_touches _)).and (raise_touches _ _ _)
    dsimp only
    split
    · exact h
    · exact h.trans (fillEnd_touches _)
  · split
    · exact (((Touches.refl _ s).and (sup_touches _ s)).and (raise_touches _ _ _)).trans (fillEnd_touches _)
    · exact Touches.refl _ s
  · exact Touches.refl _ s

theorem manualSegue_touches (s : State) : Touches airParts s (manualSegue s) := by
  unfold manualSegue
  split
  · exact Touches.refl _ s
  · split
    · split
      · exact (Touches.refl _ s).and (cue_touches _ s)
      · exact startHead_touches s
    · dsimp only
      have hc (c : Cue) : Touches airParts s { s with cue := c } := (Touches.refl _ s).and (cue_touches c s)
      have hs (c : Prop) [Decidable c] (t : State) (ht : Touches airParts s t) :
          Touches airParts s (if c then t else startHead t) := by
        split
        · exact ht
        · exact ht.trans (startHead_touches t)
      refine hs _ _ ?_
      split
      · split
        · exact (hc _).trans (endItem_touches _ _)
        · exact (hc _).and (fadeOut_touches _ _ _)
      · exact hc _

/-- What an owner's reply leaves, when it takes the command. -/
def ReplyTouches (ps : List Part) (s : State) : Reply → Prop
  | .ok t _ => Touches ps s t
  | .refuse _ => True
  | .later t => Touches ps s t

theorem goCue_touches (s : State) : ReplyTouches airParts s (goCue s) := by
  unfold goCue
  split
  · trivial
  · trivial
  · exact (startHead_touches s).trans (settleFrom_touches _ _)
  · split
    · exact (manualSegue_touches s).trans (settleFrom_touches _ _)
    · trivial
  · split
    · exact (((fadeFill_touches s).trans (endFallback_touches _ _)).trans (startHead_touches _)).trans
        (settleFrom_touches _ _)
    · trivial

theorem stopCue_touches (s : State) : Touches airParts s (stopCue s) := by
  unfold stopCue
  split
  · exact (stopEntries_touches s).trans (settleFrom_touches _ _)
  · split
    · dsimp only
      exact (Touches.refl _ s).and (cue_touches _ s)
    · exact Touches.refl _ s
  · exact Touches.refl _ s

theorem airStopCue_touches (s : State) : Touches airParts s (airStopCue s) := by
  unfold airStopCue
  split
  · exact fillEnd_touches s
  · exact stopCue_touches s
  · exact Touches.refl _ s

theorem releaseStream_touches (src : StreamSource) (s : State) : ReplyTouches airParts s (releaseStream src s) := by
  unfold releaseStream
  split
  · trivial
  · split
    · exact ((Touches.refl _ s).and (itemEnded_touches _ s)).and (setEntries_touches _ _)
    · split
      · trivial
      · have hc (c : Cue) : Touches airParts s { s with cue := c } := (Touches.refl _ s).and (cue_touches c s)
        dsimp only
        refine Touches.trans ?_ (settleFrom_touches _ _)
        split
        · exact (hc _).trans (endItem_touches _ _)
        · split
          · exact ((hc _).and (fadeOut_touches _ _ _)).trans (startHead_touches _)
          · exact (hc _).and (fadeOut_touches _ _ _)

theorem fillNotice_touches (s : State) : Touches airParts s (fillNotice s).1 := by
  unfold fillNotice
  split
  · exact Touches.refl _ s
  · dsimp only
    split
    · exact (((stopEntries_touches s).and (activate_touches _ _ _ _ _ _)).and (setVoice_touches .A _ _)).trans
        (enterEngine_touches _ _ _)
    · exact (stopEntries_touches s).trans (enterEngine_touches _ _ _)

theorem restartHeld_touches (s : State) : Touches airParts s (restartHeld s) := by
  refine Touches.foldl _ (fun t e => ?_) _ s
  split
  · exact startIn_touches _ _ t
  · exact Touches.refl _ t

theorem releaseEngine_touches (s : State) : Touches airParts s (releaseEngine s) := by
  unfold releaseEngine
  split
  · have h (c : Cue) : Touches airParts s (raise .P .engineResumed { s with cue := c }) :=
      ((Touches.refl _ s).and (cue_touches c s)).and (raise_touches _ _ _)
    dsimp only
    split
    · split
      · exact (((h _).and (activate_touches _ _ _ _ _ _)).and (setVoice_touches .A _ _)).trans (enterEngine_touches _ _ _)
      · exact (h _).trans (enterEngine_touches _ _ _)
    · exact (((h _).trans (restartHeld_touches _)).trans (startEntry_touches _ _ _)).trans (settleFrom_touches _ _)
  · exact Touches.refl _ s

theorem voiceEndOfAudio_touches (v : Voice) (s : State) : Touches airParts s (voiceEndOfAudio v s) := by
  unfold voiceEndOfAudio
  split
  · exact itemEnd_touches v s
  · exact ((Touches.refl _ s).and (cut_touches _ s)).and (setVoice_touches v _ _)
  · split
    · exact (Touches.refl _ s).and (activate_touches _ _ _ _ _ s)
    · exact Touches.refl _ s
  · exact Touches.refl _ s

theorem voiceFadedOut_touches (v : Voice) (s : State) : Touches airParts s (voiceFadedOut v s) := by
  unfold voiceFadedOut
  split
  · exact (Touches.refl _ s).and (setVoice_touches v _ s)
  · split
    · exact itemEnd_touches v s
    · exact Touches.refl _ s
  · exact Touches.refl _ s

theorem beginEnd_touches (v : Voice) (s : State) : Touches airParts s (beginEnd v s) := by
  unfold beginEnd
  split
  · split
    · have hc (c : Cue) : Touches airParts s { s with cue := c } := (Touches.refl _ s).and (cue_touches c s)
      dsimp only
      refine Touches.trans ?_ (settleFrom_touches _ _)
      split
      · exact ((hc _).and (fadeOut_touches _ _ _)).trans (startHead_touches _)
      · exact (hc _).and (fadeOut_touches _ _ _)
    · exact Touches.refl _ s
  · exact Touches.refl _ s

theorem endAtLimit_touches (v : Voice) (s : State) : Touches airParts s (endAtLimit v s) := by
  unfold endAtLimit
  split
  · exact itemEnd_touches v s
  · exact Touches.refl _ s

theorem countPlayed_touches (s : State) : Touches [.cue] s (countPlayed s) := cue_touches _ s

theorem goEdge_touches (s : State) : ReplyTouches airParts s (goEdge s) := by
  unfold goEdge
  split
  · dsimp only
    exact ((((Touches.refl _ s).and (cut_touches _ s)).and (setVoice_touches _ _ _)).and (cue_touches _ _)).trans
      (settleFrom_touches _ _)
  · have h := goCue_touches s
    split
    · rename_i t r ht
      rw [ht] at h
      have h : Touches airParts s t := h
      split
      · split
        · exact h
        · exact h.and (cue_touches _ t)
      · exact h
    · exact h

theorem closeWindow_touches (s : State) : Touches [.cue] s (closeWindow s) := by
  unfold closeWindow
  split
  · split
    · exact cue_touches _ s
    · exact Touches.refl _ s
  · exact Touches.refl _ s

theorem countWindow_touches (s : State) : Touches [.cue] s (countWindow s) := cue_touches _ s

-- the Alert Controller

/-- The parts an alert record's life may change: those of a takeover, and the pool its clip's segments go back to. -/
abbrev alertParts : List Part := [.mix, .delay, .clips, .cue, .callers, .alerts, .sup, .panel, .links, .mem]

theorem discardAlertClip_touches (k : AlertSlot) (s : State) : Touches [.mem, .clips] s (discardAlertClip k s) := by
  have hc (c : ClipStore) : Touches [.mem, .clips] s { s with clips := c } := by
    intro p hp; cases p <;> first | rfl | exact absurd (by decide) hp
  refine Touches.and (ps := [.mem, .clips]) ?_ (emptyClip_touches _ _)
  dsimp only
  split <;> split <;> first
    | exact hc _
    | exact Touches.refl _ s
    | (split <;> first
      | exact (hc _).and (setReader_touches _ _ _)
      | exact (Touches.refl _ s).and (setReader_touches _ _ s)
      | exact hc _)

theorem finish_touches (k : AlertSlot) (o : AlertOutcome) (s : State) :
    Touches [.alerts, .cue, .links] s (finish k o s) := by
  unfold finish
  split
  · exact Touches.refl _ s
  · dsimp only
    exact (((Touches.refl _ s).and (records_touches _ s)).and (raise_touches _ _ _)).and (workOutWait_touches _)

theorem releaseAir_touches (s : State) : Touches airParts s (releaseAir s) :=
  ((((Touches.refl _ s).and (releaseAirMode_touches s)).and (report_touches _ _)).and (workOutWait_touches _)).trans
    (releaseEngine_touches _)

theorem afterAiring_touches (s : State) : Touches airParts s (afterAiring s) := by
  unfold afterAiring
  split
  · exact takeover_touches _ _ s
  · exact releaseAir_touches s

theorem modRecord_touches (k : AlertSlot) (f : AlertRecord → AlertRecord) (s : State) :
    Touches [.alerts] s (s.modRecord k f) :=
  setRecord_touches k _ s

theorem stopAlertAudio_touches (k : AlertSlot) (r : AlertRecord) (s : State) :
    Touches alertParts s (stopAlertAudio k r s) := by
  have h (a : Alerts) : Touches alertParts s (cut .alert { s with alerts := a }) :=
    ((Touches.refl _ s).and (records_touches a s)).and (cut_touches .alert _)
  unfold stopAlertAudio
  dsimp only
  split
  · exact h _
  · exact (h _).and (discardAlertClip_touches k _)

theorem endAiring_touches (k : AlertSlot) (cancelled : Bool) (s : State) :
    Touches alertParts s (endAiring k cancelled s) := by
  unfold endAiring
  split
  · exact Touches.refl _ s
  · rename_i r _
    have h := (stopAlertAudio_touches k r s).and (raise_touches .C (.alertOffAir r.id cancelled) _)
    dsimp only
    refine Touches.and ?_ (afterAiring_touches _)
    split
    · exact h.and (finish_touches k _ _)
    · split
      · exact ((h.and (modRecord_touches k _ _)).and (raiseAlertState_touches k _)).and (finish_touches k _ _)
      · exact (h.and (modRecord_touches k _ _)).and (raiseAlertState_touches k _)

theorem captureEnded_touches (k : AlertSlot) (n : Nat) (truncated : Bool) (s : State) :
    Touches airParts s (captureEnded k n truncated s) := by
  unfold captureEnded
  split
  · exact Touches.refl _ s
  · split
    · exact ((Touches.refl _ s).and (setRecord_touches k _ s)).and (finish_touches k _ _)
    · dsimp only
      exact (((((Touches.refl _ s).and (setRecord_touches k _ s)).and (records_touches _ _)).and
        (raiseAlertState_touches k _)).and (workOutWait_touches _)).trans (windowCheck_touches _ _)

theorem clips_touches (c : ClipStore) (s : State) : Touches [.clips] s { s with clips := c } := by
  intro p hp; cases p <;> first | rfl | exact absurd (by decide) hp

theorem startAlertCapture_touches (k : AlertSlot) (s : State) : Touches [.mem, .clips] s (startAlertCapture k s) := by
  unfold startAlertCapture
  split
  · exact Touches.refl _ s
  · dsimp only
    exact ((emptyClip_touches _ s).and (modClip_touches _ _ _)).and (clips_touches _ _)

theorem endAlertCapture_touches (truncated : Bool) (s : State) : Touches airParts s (endAlertCapture truncated s) := by
  unfold endAlertCapture
  split
  · exact Touches.refl _ s
  · dsimp only
    exact (((Touches.refl _ s).and (clips_touches _ s)).and (modClip_touches _ _ _)).trans (captureEnded_touches _ _ _ _)

theorem alertCaptureFull_touches (s : State) : Touches airParts s (alertCaptureFull s) := by
  unfold alertCaptureFull
  split
  · split
    · exact endAlertCapture_touches _ s
    · exact Touches.refl _ s
  · exact Touches.refl _ s

theorem expire_touches (k : AlertSlot) (s : State) : Touches alertParts s (expire k s) := by
  unfold expire
  split
  · split
    · exact ((Touches.refl _ s).and (discardAlertClip_touches k s)).and (finish_touches k _ _)
    · exact Touches.refl _ s
  · exact Touches.refl _ s

theorem becomeOverdue_touches (k : AlertSlot) (s : State) : Touches airParts s (becomeOverdue k s) := by
  unfold becomeOverdue
  split
  · split
    · exact ((Touches.refl _ s).and (setRecord_touches k _ s)).trans (windowCheck_touches _ _)
    · exact Touches.refl _ s
  · exact Touches.refl _ s

theorem liveLimit_touches (s : State) : Touches alertParts s (liveLimit s) := by
  unfold liveLimit
  split
  · split
    · split
      · exact ((Touches.refl _ s).and (setRecord_touches _ _ s)).trans (endAiring_touches _ _ _)
      · exact Touches.refl _ s
    · exact Touches.refl _ s
  · exact Touches.refl _ s

theorem cancelRecord_touches (k : AlertSlot) (s : State) : Touches alertParts s (cancelRecord k s) := by
  unfold cancelRecord
  split
  · exact Touches.refl _ s
  · split
    · exact endAiring_touches k true s
    · exact (Touches.refl _ s).and (finish_touches k _ s)
    · exact ((Touches.refl _ s).and (discardAlertClip_touches k s)).and (finish_touches k _ _)

theorem airStopAlerts_touches (s : State) : Touches alertParts s (airStopAlerts s) := by
  refine Touches.foldl _ (fun t k => ?_) _ s
  split
  · split
    · exact cancelRecord_touches k t
    · exact Touches.refl _ t
  · exact Touches.refl _ t

theorem alertEndOfAudio_touches (s : State) : Touches alertParts s (alertEndOfAudio s) := by
  unfold alertEndOfAudio
  split
  · exact Touches.refl _ s
  · split
    · exact ((Touches.refl _ s).and (records_touches _ s)).and (activate_touches _ _ _ _ _ _)
    · exact endAiring_touches _ _ s

theorem mapRecords_touches (p : AlertRecord → Bool) (f : AlertRecord → AlertRecord) (s : State) :
    Touches [.alerts] s (s.mapRecords p f) :=
  records_touches _ s

theorem statusReport_touches (st : TxStatus) (s : State) : Touches [.alerts, .cue, .links] s (statusReport st s) := by
  have h (t : State) : Touches [.alerts, .cue, .links] t (alertSlots.foldl (fun u k => match u.record k with
      | some r => if r.reachedBy st then finish k r.verdict u else u
      | none => u) t) := by
    refine Touches.foldl _ (fun u k => ?_) _ t
    split
    · split
      · exact finish_touches k _ u
      · exact Touches.refl _ u
    · exact Touches.refl _ u
  unfold statusReport
  dsimp only
  split
  · exact ((Touches.refl _ s).and (mapRecords_touches _ _ s)).trans (h _)
  · exact h s

theorem linkReport_touches (l : LinkHealth) (s : State) : Touches [.alerts, .cue, .links] s (linkReport l s) := by
  unfold linkReport
  dsimp only
  split
  · have h (a : Alerts) (p f) : Touches [.alerts, .cue, .links] s (({ s with alerts := a } : State).mapRecords p f) :=
      ((Touches.refl _ s).and (records_touches a s)).and (mapRecords_touches p f _)
    refine (h _ _ _).trans (Touches.foldl _ (fun u k => ?_) _ _)
    split
    · exact finish_touches k _ u
    · exact Touches.refl _ u
  · exact (Touches.refl _ s).and (records_touches _ s)

theorem endConfirmWindow_touches (k : AlertSlot) (s : State) :
    Touches [.alerts, .cue, .links] s (endConfirmWindow k s) := by
  unfold endConfirmWindow
  split
  · split
    · exact finish_touches k _ s
    · exact Touches.refl _ s
  · exact Touches.refl _ s

-- the Transmitter Link Unit

theorem tx_touches (x : TxLink) (s : State) : Touches [.tx] s { s with tx := x } := by
  intro p hp; cases p <;> first | rfl | exact absurd (by decide) hp

theorem sendFrame_touches (s : State) : Touches [.alerts, .tx] s (sendFrame s) := by
  unfold sendFrame
  dsimp only
  split
  · exact ((Touches.refl _ s).and (mapRecords_touches _ _ s)).and (tx_touches _ _)
  · exact (Touches.refl _ s).and (tx_touches _ s)

theorem changeLink_touches (l : LinkHealth) (s : State) :
    Touches [.alerts, .cue, .links, .tx, .panel] s (changeLink l s) := by
  unfold changeLink
  split
  · exact Touches.refl _ s
  · exact (((((Touches.refl _ s).and (tx_touches _ s)).and (raise_touches _ _ _)).and (raise_touches _ _ _)).and
      (linkReport_touches l _)).and (report_touches _ _)

theorem takeStatus_touches (st : TxStatus) (s : State) :
    Touches [.alerts, .cue, .links, .tx, .panel] s (takeStatus st s) := by
  have h (x : TxLink) : Touches [.alerts, .cue, .links, .tx, .panel] s { s with tx := x } :=
    (Touches.refl _ s).and (tx_touches x s)
  unfold takeStatus
  dsimp only
  split
  · exact (((h _).and (raise_touches _ _ _)).trans (changeLink_touches _ _)).and (statusReport_touches _ _)
  · exact ((h _).trans (changeLink_touches _ _)).and (statusReport_touches _ _)

-- the Mix Engine, its readers and the captures

theorem clipFetchFailed_touches (n : Nat) (s : State) :
    Touches [.mem, .clips, .alerts, .links] s (clipFetchFailed n s) := by
  unfold clipFetchFailed
  dsimp only
  split
  · split
    · exact ((((Touches.refl _ s).and (memory_touches _ s)).and (modClip_touches _ _ _)).and (raise_touches _ _ _)).and
        (markDamaged_touches _ _)
    · exact (((Touches.refl _ s).and (memory_touches _ s)).and (modClip_touches _ _ _)).and (raise_touches _ _ _)
  · exact (Touches.refl _ s).and (memory_touches _ s)

theorem fetchClip_touches (n : Nat) (s : State) : Touches [.mem, .clips, .alerts, .links] s (fetchClip n s).2 := by
  unfold fetchClip
  dsimp only
  split
  · exact Touches.refl _ s
  · exact clipFetchFailed_touches n s

theorem due_touches (d : List Due) (s : State) : Touches [.due] s { s with due := d } := by
  intro p hp; cases p <;> first | rfl | exact absurd (by decide) hp

theorem readBlock_touches (r : ReaderOf) (s : State) :
    Touches [.mem, .clips, .alerts, .links, .due] s (readBlock r s).2 := by
  unfold readBlock
  split
  · exact Touches.refl _ s
  · rename_i x _
    split
    · exact Touches.refl _ s
    · have h : Touches [.mem, .clips, .alerts, .links, .due] s (match (s.segments x.clip)[x.ordinal]? with
          | some n => ((fetchClip n s).1.frames, (fetchClip n s).2)
          | none => (Block.silent, s)).2 := by
        split
        · exact (Touches.refl _ s).and (fetchClip_touches _ s)
        · exact Touches.refl _ s
      dsimp only
      split
      · exact (h.and (setReader_touches r _ _)).and (due_touches _ _)
      · exact h.and (setReader_touches r _ _)

theorem contributorBlock_touches (c : Contributor) (r : ReaderOf) (s : State) :
    Touches [.mem, .clips, .alerts, .links, .due] s (contributorBlock c r s).2 := by
  unfold contributorBlock
  split
  · exact readBlock_touches r s
  · exact Touches.refl _ s

theorem formBlock_touches (s : State) :
    Touches [.mem, .clips, .alerts, .links, .due, .mix, .formed] s (formBlock s) := by
  have h0 (m : Mix) (t : State) : Touches [.mix] t { t with mix := m } := by
    intro p hp; cases p <;> first | rfl | exact absurd (by decide) hp
  have h1 (m : Mix) (f : Option Formed) (t : State) : Touches [.mix, .formed] t { t with mix := m, formed := f } := by
    intro p hp; cases p <;> first | rfl | exact absurd (by decide) hp
  exact (((((Touches.refl _ s).and (h0 _ s)).and (contributorBlock_touches .voiceA .voiceA _)).and
    (contributorBlock_touches .voiceB .voiceB _)).and (contributorBlock_touches .alert .alert _)).and (h1 _ _ _)

theorem completeFade_touches (c : Contributor) (s : State) : Touches airParts s (completeFade c s) := by
  unfold completeFade
  dsimp only
  split
  · split
    · split
      · exact (Touches.refl _ s).and (setContrib_touches _ _ s)
      · have h := ((Touches.refl airParts s).and (closeReaderOf_touches c s)).and
          (setContrib_touches c (s.contrib c).inactive _)
        cases c
        · exact h
        · exact h.trans (voiceFadedOut_touches .A _)
        · exact h.trans (voiceFadedOut_touches .B _)
        · exact h.and (endRelease_touches 0 _)
        · exact h.and (endRelease_touches 1 _)
        · exact h
    · exact Touches.refl _ s
  · exact Touches.refl _ s

theorem switchStudio_touches (on : Bool) (g n : Nat) (s : State) :
    Touches [.mix, .clips] s (switchStudio on g n s) := by
  unfold switchStudio
  dsimp only
  split
  · split
    · exact activate_touches _ _ _ _ _ s
    · split
      · exact (Touches.refl _ s).and (level_touches _ _ _ s)
      · split <;> exact (Touches.refl _ s).and (setContrib_touches _ _ s)
  · split
    · exact ((Touches.refl _ s).and (setContrib_touches _ _ s)).and (fadeOut_touches _ _ _)
    · exact (Touches.refl _ s).and (level_touches _ _ _ s)

theorem studioSwitch_touches (on : Bool) (g n : Nat) (s : State) : Touches airParts s (studioSwitch on g n s) := by
  have h := ((Touches.refl airParts s).and (switchStudio_touches on g n s)).and
    (report_touches (fun r => { r with micLive := (switchStudio on g n s).studioOn }) _)
  unfold studioSwitch
  dsimp only
  split
  · exact h.trans (endFallback_touches _ _)
  · exact h

theorem settleCapture_touches (ch : Channel) (truncated : Bool) (s : State) :
    Touches [.clips] s (settleCapture ch truncated s) := by
  unfold settleCapture
  split
  · exact Touches.refl _ s
  · exact (clips_touches _ s).trans (modClip_touches _ _ _)

theorem endCapture_touches (ch : Channel) (cause : CaptureCause) (s : State) :
    Touches [.clips, .links] s (endCapture ch cause s) := by
  unfold endCapture
  split
  · exact Touches.refl _ s
  · exact ((Touches.refl _ s).and (settleCapture_touches ch _ s)).and (raise_touches _ _ _)

theorem captureInto_touches (c : Capturer) (s : State) : Touches [.mem, .clips, .links, .due] s (captureInto c s) := by
  have h (o : Option State) (t : State) (ho : ∀ u, o = some u → Touches [.mem, .clips] s u)
      (ht : Touches [.mem, .clips, .links, .due] s t) : Touches [.mem, .clips, .links, .due] s (o.getD t) := by
    cases o with
    | none => exact ht
    | some u => exact (Touches.refl _ s).and (ho u rfl)
  unfold captureInto
  split
  · split
    · exact Touches.refl _ s
    · exact h _ _ (fun u hu => appendBlock_touches hu) ((Touches.refl _ s).and (endCapture_touches _ _ s))
  · split
    · exact Touches.refl _ s
    · exact h _ _ (fun u hu => appendBlock_touches hu) ((Touches.refl _ s).and (due_touches _ s))

theorem runCaptures_touches (named : List Capturer) (s : State) :
    Touches [.mem, .clips, .links, .due] s (runCaptures named s) :=
  Touches.foldl _ (fun t c => captureInto_touches c t) _ s

end Sys2Proof.Laws
end

