-- ==== Sys2Proof/Laws/Boundaries.lean ====
section
/-! SUPPORT. The parts of the state that due events and the two block boundaries may change. -/

namespace Sys2Proof.Laws

-- the lemmas one after the other: in one text, all at once they ask for more threads than the compile has
set_option Elab.async false

open Sys2Proof.Machine

/-- The parts a due event may change: those of an alert record's life, and the clock, the link unit, the Profile Store and the
due events themselves. -/
abbrev dueParts : List Part :=
  [.mix, .delay, .clips, .cue, .callers, .alerts, .sup, .panel, .links, .mem, .dev, .tx, .prof, .due]

theorem dev_touches (d : Device) (s : State) : Touches [.dev, .runs] s { s with dev := d } := by
  intro p hp; cases p <;> first | rfl | exact absurd (by decide) hp

/-- A change of the device's clock and counts: it runs as before. -/
theorem clock_touches (c : ClockSource) (n m : Nat) (s : State) :
    Touches [.dev] s { s with dev := { s.dev with clock := c, returnCount := n, arrived := m } } := by
  intro p hp; cases p <;> first | rfl | exact absurd (by decide) hp

theorem prof_touches (x : ProfileStore) (s : State) : Touches [.prof] s { s with prof := x } := by
  intro p hp; cases p <;> first | rfl | exact absurd (by decide) hp

theorem panel_touches (x : Panel) (s : State) : Touches [.panel] s { s with panel := x } := by
  intro p hp; cases p <;> first | rfl | exact absurd (by decide) hp

theorem takeLine_touches (i : PhoneLine) (s : State) : Touches airParts s (takeLine i s) := by
  unfold takeLine
  split
  · exact ((Touches.refl _ s).and (enterSlot_touches i _ s)).trans (endFallback_touches _ _)
  · exact Touches.refl _ s

theorem takeNext_touches (s : State) : ReplyTouches airParts s (takeNext s) := by
  unfold takeNext
  split
  · trivial
  · split
    · exact takeLine_touches _ s
    · trivial

theorem releaseCallers_touches (s : State) : ReplyTouches airParts s (releaseCallers s) := by
  unfold releaseCallers
  split
  · exact ((Touches.refl _ s).and (releaseSlot_touches 0 .hold s)).and (releaseSlot_touches 1 .hold _)
  · trivial

theorem operatorDump_touches (s : State) : ReplyTouches [.delay] s (operatorDump s) := by
  unfold operatorDump
  split
  · trivial
  · exact delay_touches _ s

theorem ReplyTouches.mono {ps qs : List Part} {s : State} {r : Reply} (h : ReplyTouches ps s r)
    (hs : ps ⊆ qs := by decide) : ReplyTouches qs s r := by
  cases r
  · exact Touches.mono h hs
  · trivial
  · exact Touches.mono h hs

theorem panelOwner_touches (f : PanelFunction) (on : Bool) (s : State) : ReplyTouches airParts s (panelOwner f on s) := by
  unfold panelOwner
  split
  · exact (operatorDump_touches s).mono
  · exact goEdge_touches s
  · exact goCue_touches s
  · exact stopCue_touches s
  · exact stopCue_touches s
  · exact takeNext_touches s
  · exact releaseCallers_touches s
  · exact studioSwitch_touches _ _ _ s
  · exact Touches.refl _ s

theorem panelAction_touches (n : PanelLineNo) (on : Bool) (s : State) : Touches airParts s (panelAction n on s) := by
  have h := panelOwner_touches (s.panelConfig n).function on s
  unfold panelAction
  split
  · rename_i t r ht
    rw [ht] at h
    exact h
  · exact (Touches.refl _ s).and (raise_touches _ _ s)
  · rename_i t ht
    rw [ht] at h
    exact h

theorem endWrite_touches (s : State) : Touches [.prof, .links] s (endWrite s) := by
  unfold endWrite
  split
  · split
    · exact ((Touches.refl _ s).and (prof_touches _ s)).and (raise_touches _ _ _)
    · exact Touches.refl _ s
  · exact Touches.refl _ s

theorem restoreClock_touches (s : State) : Touches [.dev, .links] s (restoreClock s) :=
  ((Touches.refl _ s).and (clock_touches .wordClock 0 s.dev.arrived s)).and (raise_touches _ _ _)

theorem beginFallback_touches (s : State) : Touches dueParts s (beginFallback s) := by
  have h (x : Supervisor) (d : List Due) (t : State) : Touches [.sup, .due] t { t with sup := x, due := d } := by
    intro p hp; cases p <;> first | rfl | exact absurd (by decide) hp
  exact ((Touches.refl _ s).and (fillNotice_touches s)).and (h _ _ _)

theorem enterFallback_touches (s : State) : Touches [.sup, .panel] s (enterFallback s) := by
  unfold enterFallback
  split
  · exact ((Touches.refl _ s).and (sup_touches _ s)).and (reportFallback_touches _)
  · exact (Touches.refl _ s).and (sup_touches _ s)
  · exact Touches.refl _ s

theorem takeFillAnswer_touches (s : State) : Touches [.sup, .panel, .links] s (takeFillAnswer s) := by
  have h (x : Supervisor) : Touches [.sup, .panel, .links] s (enterFallback { s with sup := x }) :=
    ((Touches.refl _ s).and (sup_touches x s)).and (enterFallback_touches _)
  unfold takeFillAnswer
  dsimp only
  split
  · exact ((h _).and (raise_touches _ _ _)).and (raise_touches _ _ _)
  · exact ((h _).and (raise_touches _ _ _)).and (raise_touches _ _ _)
  · exact (Touches.refl _ s).and (sup_touches _ s)

theorem happen_touches (d : Due) (s : State) : Touches dueParts s (happen d s) := by
  cases d with
  | endOfAudio r =>
    cases r
    · exact (Touches.refl _ s).and (voiceEndOfAudio_touches .A s)
    · exact (Touches.refl _ s).and (voiceEndOfAudio_touches .B s)
    · exact (Touches.refl _ s).and (alertEndOfAudio_touches s)
  | alertNoSegment => exact (Touches.refl _ s).and (endAlertCapture_touches true s)
  | panelAction n on => exact (Touches.refl _ s).and (panelAction_touches n on s)
  | fadeComplete c => exact (Touches.refl _ s).and (completeFade_touches c s)
  | measureDone => exact (Touches.refl _ s).and (measureDone_touches s)
  | captureMaxLength ch => exact (Touches.refl _ s).and (endCapture_touches ch .maxLength s)
  | alertCaptureFull => exact (Touches.refl _ s).and (alertCaptureFull_touches s)
  | liveAlertLimit => exact (Touches.refl _ s).and (liveLimit_touches s)
  | durationLimit v => exact (Touches.refl _ s).and (endAtLimit_touches v s)
  | endFadeStart v => exact (Touches.refl _ s).and (beginEnd_touches v s)
  | cancelWindowClose => exact (Touches.refl _ s).and (closeWindow_touches s)
  | alertExpiry k => exact (Touches.refl _ s).and (expire_touches k s)
  | holdLimitReached k => exact (Touches.refl _ s).and (becomeOverdue_touches k s)
  | confirmWindowExpiry k => exact (Touches.refl _ s).and (endConfirmWindow_touches k s)
  | silenceWindow => exact beginFallback_touches s
  | fillAnswer => exact (Touches.refl _ s).and (takeFillAnswer_touches s)
  | profileDone => exact (Touches.refl _ s).and (endWrite_touches s)
  | clockRestored => exact (Touches.refl _ s).and (restoreClock_touches s)
  | statusAgeLimit => exact (Touches.refl _ s).and (changeLink_touches .degraded s)
  | linkTimeout => exact (Touches.refl _ s).and (changeLink_touches .down s)

theorem take_touches (d : Due) (s : State) : Touches dueParts s (take d s) := by
  unfold take
  split
  · have h := (Touches.refl dueParts s).and (due_touches (s.due.erase d) s)
    dsimp only
    split
    · exact h.trans (happen_touches d _)
    · exact h
  · exact Touches.refl _ s

theorem takeEach_touches (ds : List Due) (s : State) : Touches dueParts s (takeEach ds s) :=
  Touches.foldl _ (fun t d => take_touches d t) ds s

theorem settleLink_touches (s : State) : Touches dueParts s (settleLink s) := takeEach_touches linkDue s

theorem settleFound_touches (s : State) : Touches dueParts s (settleFound s) := by
  unfold settleFound
  split
  · exact takeEach_touches foundOrder s
  · exact Touches.refl _ s

theorem findDue_touches (ds : List Due) (s : State) : Touches [.due] s (findDue ds s) := due_touches _ s

theorem settleDue_touches (first : List Due) (leave : Bool) (s : State) : Touches dueParts s (settleDue first leave s) :=
  (takeEach_touches first s).trans (takeEach_touches _ _)

/-- The parts an input block boundary may change: all but the ports of the output and the waiting commands. -/
abbrev inputParts : List Part := .inputs :: .formed :: dueParts

theorem completeInputs_touches (bus : Vector (Option BusPeriod) 480) (s : State) :
    Touches [.inputs, .dev] s (completeInputs bus s) := by
  intro p hp; cases p <;> first | rfl | exact absurd (by decide) hp

theorem countReturn_touches (c : ClockSeen) (s : State) : Touches [.dev] s (countReturn c s) := by
  unfold countReturn
  split
  · exact clock_touches s.dev.clock _ s.dev.arrived s
  · exact Touches.refl _ s

theorem useFormed_touches (s : State) : Touches [.mem, .delay, .alerts] s (useFormed s) := by
  unfold useFormed
  split
  · exact (((Touches.refl _ s).and (writeDelay_touches _ s)).and (mapRecords_touches _ _ _)).and (records_touches _ _)
  · exact Touches.refl _ s

theorem countCaptured_touches (s : State) : Touches [.alerts] s (countCaptured s) := by
  unfold countCaptured
  split
  · exact modRecord_touches _ _ s
  · exact Touches.refl _ s

theorem inputWork_touches (env : InputBoundary) (s : State) : Touches inputParts s (inputWork env s) :=
  (((((((((((Touches.refl _ s).and (memory_touches _ s)).and (completeInputs_touches env.bus _)).and
    (countReturn_touches env.clock _)).and (formBlock_touches _)).and (useFormed_touches _)).and
      (runCaptures_touches env.captures _)).and (countCaptured_touches _)).and (countMeasure_touches _)).and
        (countPlayed_touches _)).and (countWindow_touches _)).and (prof_touches _ _)

theorem samplePanel_touches (pins : Vector Contact 8) (n : PanelLineNo) (s : State) :
    Touches [.panel, .links, .due] s (samplePanel pins n s) := by
  have h (x : PanelLine) : Touches [.panel, .links, .due] s (s.setPanelLine n x) := (Touches.refl _ s).and (panel_touches _ s)
  unfold samplePanel
  dsimp only
  split
  · split
    · exact ((h _).and (due_touches _ _)).and (raise_touches _ _ _)
    · exact h _
  · exact Touches.refl _ s

theorem samplePanels_touches (pins : Vector Contact 8) (s : State) :
    Touches [.panel, .links, .due] s (samplePanels pins s) :=
  Touches.foldl _ (fun t n => samplePanel_touches pins n t) _ s

theorem findToneEnd_touches (s : State) : Touches [.due] s (findToneEnd s) := by
  unfold findToneEnd
  split
  · exact due_touches _ s
  · exact Touches.refl _ s

theorem inputBoundary_touches (env : InputBoundary) (s : State) : Touches inputParts s (inputBoundary env s) := by
  unfold inputBoundary
  split
  · exact ((((((Touches.refl _ s).and (takeEach_touches defaultOrder s)).trans (inputWork_touches env _)).and
      (findDue_touches inputDue _)).and (findToneEnd_touches _)).and (samplePanels_touches env.pins _)).and
        (settleDue_touches env.first env.leave _)
  · exact Touches.refl _ s

/-- The parts an output block boundary may change: all but the input port, what the Mix Engine formed and the waiting
commands. -/
abbrev outputParts : List Part := .port :: .air :: dueParts

theorem port_touches (x : Vector Block 4) (s : State) : Touches [.port] s { s with port := x } := by
  intro p hp; cases p <;> first | rfl | exact absurd (by decide) hp

theorem countSilence_touches (s : State) : Touches [.sup] s (countSilence s) := by
  unfold countSilence
  split
  · exact sup_touches _ s
  · exact Touches.refl _ s

theorem outputWork_touches (env : OutputBoundary) (s : State) : Touches outputParts s (outputWork env s) :=
  (((((((Touches.refl _ s).and (memory_touches _ s)).and (outputDelay_touches _)).and (tx_touches _ _)).and
    (mapRecords_touches _ _ _)).and (sendFrame_touches _)).and (port_touches _ _)).and (countSilence_touches _)

theorem outputBoundary_touches (env : OutputBoundary) (s : State) : Touches outputParts s (outputBoundary env s) := by
  unfold outputBoundary
  split
  · exact ((((Touches.refl _ s).and (takeEach_touches defaultOrder s)).trans (outputWork_touches env _)).and
      (findDue_touches outputDue _)).and (settleDue_touches env.first env.leave _)
  · exact Touches.refl _ s

end Sys2Proof.Laws
end

