-- ==== Sys2Proof/Laws/Links.lean ====
section
/-! SUPPORT. What a frame of a control link can do: one lemma for a command that is taken, one for each outcome of its
owner, how the answer commutes with what owners do (R184 to R186, R188), and what taking the events that a boundary left
does to the links. -/

namespace Sys2Proof.Laws

open Sys2Proof.Machine Sys2Proof.Safety

@[simp] theorem link_modLink (l : Link) (f : LinkPort → LinkPort) (s : State) : (s.modLink l f).link l = f (s.link l) := by
  cases l <;> rfl

@[simp] theorem link_modLink_ne {k l : Link} (h : k ≠ l) (f : LinkPort → LinkPort) (s : State) :
    (s.modLink l f).link k = s.link k := by
  cases k <;> cases l <;> first | rfl | exact absurd rfl h

@[simp] theorem modLink_modLink (l : Link) (f g : LinkPort → LinkPort) (s : State) :
    (s.modLink l f).modLink l g = s.modLink l fun p => g (f p) := by
  cases l <;> rfl

/-- What two links hold can be changed in either order. -/
theorem modLink_comm {k l : Link} (h : k ≠ l) (f g : LinkPort → LinkPort) (s : State) :
    (s.modLink l f).modLink k g = (s.modLink k g).modLink l f := by
  cases k <;> cases l <;> first | rfl | exact absurd rfl h

/-- A change of a link that leaves it as it is changes nothing. -/
theorem modLink_same (l : Link) (f : LinkPort → LinkPort) (s : State) (h : f (s.link l) = s.link l) : s.modLink l f = s := by
  cases l <;> simp only [State.link, Links.get] at h <;> simp [State.modLink, Links.set, State.link, Links.get, h]

/-- Raising an event leaves the receiver and the answer of every link to be set before or after. -/
theorem raise_frameComplete (k l : Link) (e : Event) (s : State) :
    raise k e (frameComplete l s) = frameComplete l (raise k e s) := by
  cases k <;> cases l <;> rfl

/-- The state a taken command's owner answers from: its answer is all that is left to add. -/
theorem conclude_ok (l : Link) (code : Nat) (s t : State) (r : Result) :
    conclude l code s (.ok (frameComplete l t) r) = answered l code .ok r t := by
  cases l <;> rfl

theorem conclude_refuse (l : Link) (code : Nat) (s : State) (c : Status) :
    conclude l code (frameComplete l s) (.refuse c) = answered l code c .none s := by
  cases l <;> rfl

/-- An event that is not due changes nothing. -/
theorem take_not_due {d : Due} {s : State} (h : d ∉ s.due) : take d s = s := by simp [take, h]

/-- Events none of which is due change nothing. -/
theorem takeEach_not_due {ds : List Due} {s : State} (h : ∀ d ∈ ds, d ∉ s.due) : takeEach ds s = s := by
  induction ds with
  | nil => rfl
  | cons d ds ih =>
    rw [takeEach, List.foldl_cons, take_not_due (h d List.mem_cons_self)]
    exact ih fun x hx => h x (List.mem_cons_of_mem _ hx)

/-- With nothing left from the last boundary a command finds the state as it is. -/
theorem settleFound_settled {s : State} (h : Settled s) : settleFound s = s := by
  unfold settleFound
  split
  · exact takeEach_not_due fun d hd hs => absurd (h d hs ▸ hd) (by decide)
  · rfl

/-- Taking what a boundary left keeps the device running as it does, and what each link has to answer. -/
theorem settleFound_keeps (s : State) : (settleFound s).dev.supply = s.dev.supply ∧
    (settleFound s).dev.state = s.dev.state ∧ answers (settleFound s) = answers s := by
  have r := settleFound_touches s .runs (by decide)
  exact ⟨congrArg Prod.fst r, congrArg Prod.snd r, settleFound_touches s .answers (by decide)⟩

theorem not_busy {l : Link} {s : State} (h : Takes l s) : (s.link l).busy = false := by
  simp [LinkPort.busy, h.2.2.1, h.2.2.2.1]

/-- A command that passes the checks of R186 is its owner's. -/
theorem command_taken {l : Link} {s : State} (h : Takes l s) {code : Nat} {ps : List Byte} (owner : State → Reply)
    (hc : failedCheck l code ps (frameComplete l s) = none) :
    command l code ps owner s = conclude l code (frameComplete l s) (owner (frameComplete l s)) := by
  simp only [command, State.running, h.1, not_busy h, settleFound_settled h.2.2.2.2, hc, decide_true, if_true,
    Bool.false_eq_true, if_false]

/-- A command marked "yes" in every column of R187 passes the checks when its link and its parameter bytes do. -/
theorem checks_pass {l : Link} {s : State} (h : Takes l s) {code : Nat} {ps : List Byte} (links : List Link)
    (params : ParamBytes) (hr : commandTable.find? (fun r => decide (r.code = code)) = some (always code links params))
    (hl : links.contains l = true) (hp : params.admits ps.length = true) :
    failedCheck l code ps (frameComplete l s) = none := by
  have ht : (always code links params).taken (frameComplete l s) = true := by
    obtain ⟨-, h, -⟩ := h
    rcases h with h | ⟨h, hm⟩
    · simp [CommandRow.taken, frameComplete, State.modLink, h, always]
    · obtain ⟨m, hm⟩ := Option.isSome_iff_exists.mp hm
      cases m <;> simp [CommandRow.taken, frameComplete, State.modLink, h, hm, always]
  simp only [failedCheck, hr, ht, always, hl, hp, Bool.not_true, if_false, Bool.false_eq_true] at *

end Sys2Proof.Laws
end

