-- ==== Sys2Proof/Laws/Memory.lean ====
section
/-! SUPPORT. The sample memory: what is read after a write, and that every operation on it keeps its canonical form (segment
numbers rising, none listed that reads silent), which the reset state has. -/

namespace Sys2Proof.Laws

open Sys2Proof.Machine Sys2Proof.Safety

/-- The canonical form, as a proposition. -/
theorem wf_iff (m : SampleMemory) :
    m.wf = true ↔ (m.cells.Pairwise fun a b => a.1 < b.1) ∧ ∀ c ∈ m.cells, c.2 ≠ Segment.silent := by
  simp [SampleMemory.wf]

-- reading after writing

theorem readCell_writeCell_same (n : Nat) (g : Segment) (cells : List (Nat × Segment))
    (h : cells.Pairwise fun a b => a.1 < b.1) : readCell n (writeCell n g cells) = g := by
  have absent : ∀ (rest : List (Nat × Segment)), (∀ c ∈ rest, n < c.1) → readCell n rest = .silent := by
    intro rest
    induction rest with
    | nil => intro _; rfl
    | cons c rest ih =>
      intro hc
      have h1 := hc c List.mem_cons_self
      have h2 : ¬ c.1 = n := by omega
      simp only [readCell, h2, if_false]
      exact ih fun d hd => hc d (List.mem_cons_of_mem _ hd)
  induction cells with
  | nil =>
    by_cases hg : g = .silent
    · simp [writeCell, readCell, hg]
    · simp [writeCell, readCell, hg]
  | cons c rest ih =>
    obtain ⟨hc, hr⟩ := List.pairwise_cons.mp h
    simp only [writeCell]
    split
    · rename_i hlt
      split
      · rename_i hg
        rw [hg]
        exact absent _ fun d hd => by
          rcases List.mem_cons.mp hd with rfl | hd
          · exact hlt
          · exact Nat.lt_trans hlt (hc d hd)
      · simp [readCell]
    · split
      · rename_i heq
        split
        · rename_i hg
          rw [hg]
          exact absent _ fun d hd => heq ▸ hc d hd
        · simp [readCell]
      · rename_i hne
        have h2 : ¬ c.1 = n := fun e => hne e.symm
        simp only [readCell, h2, if_false]
        exact ih hr

theorem readCell_writeCell_ne {n k : Nat} (h : k ≠ n) (g : Segment) (cells : List (Nat × Segment)) :
    readCell k (writeCell n g cells) = readCell k cells := by
  induction cells with
  | nil =>
    by_cases hg : g = .silent
    · simp [writeCell, hg]
    · simp [writeCell, readCell, hg, Ne.symm h]
  | cons c rest ih =>
    simp only [writeCell]
    split
    · split
      · rfl
      · simp [readCell, Ne.symm h]
    · split
      · rename_i heq
        split
        · simp [readCell, ← heq, Ne.symm h]
        · simp [readCell, ← heq, Ne.symm h]
      · simp only [readCell, ih]

/-- A segment written is read back as written. -/
theorem read_write_same {m : SampleMemory} (h : m.wf = true) (n : Nat) (g : Segment) : (m.write n g).read n = g :=
  readCell_writeCell_same n g m.cells ((wf_iff m).mp h).1

/-- A write leaves every other segment as it is. -/
theorem read_write_ne {n k : Nat} (h : k ≠ n) (m : SampleMemory) (g : Segment) : (m.write n g).read k = m.read k :=
  readCell_writeCell_ne h g m.cells

-- the canonical form

theorem mem_writeCell {n : Nat} {g : Segment} {cells : List (Nat × Segment)} {c : Nat × Segment}
    (h : c ∈ writeCell n g cells) : c ∈ cells ∨ c = (n, g) ∧ g ≠ .silent := by
  induction cells with
  | nil =>
    simp only [writeCell] at h
    split at h
    · exact absurd h (by simp)
    · rename_i hg
      exact .inr ⟨by simpa using h, hg⟩
  | cons d rest ih =>
    simp only [writeCell] at h
    split at h
    · split at h
      · exact .inl h
      · rename_i hg
        rcases List.mem_cons.mp h with h | h
        · exact .inr ⟨h, hg⟩
        · exact .inl h
    · split at h
      · split at h
        · exact .inl (List.mem_cons_of_mem _ h)
        · rename_i hg
          rcases List.mem_cons.mp h with h | h
          · exact .inr ⟨h, hg⟩
          · exact .inl (List.mem_cons_of_mem _ h)
      · rcases List.mem_cons.mp h with h | h
        · exact .inl (h ▸ List.mem_cons_self)
        · rcases ih h with h | h
          · exact .inl (List.mem_cons_of_mem _ h)
          · exact .inr h

theorem write_wf {m : SampleMemory} (h : m.wf = true) (n : Nat) (g : Segment) : (m.write n g).wf = true := by
  obtain ⟨hp, hs⟩ := (wf_iff m).mp h
  refine (wf_iff _).mpr ⟨?_, fun c hc => ?_⟩
  · show (writeCell n g m.cells).Pairwise fun a b => a.1 < b.1
    clear hs h
    revert hp
    generalize m.cells = cells
    intro hp
    induction cells with
    | nil => simp only [writeCell]; split <;> simp
    | cons c rest ih =>
      obtain ⟨hc, hr⟩ := List.pairwise_cons.mp hp
      simp only [writeCell]
      split
      · rename_i hlt
        split
        · exact hp
        · refine List.pairwise_cons.mpr ⟨fun d hd => ?_, hp⟩
          rcases List.mem_cons.mp hd with rfl | hd
          · exact hlt
          · exact Nat.lt_trans hlt (hc d hd)
      · split
        · rename_i heq
          split
          · exact hr
          · exact List.pairwise_cons.mpr ⟨fun d hd => heq ▸ hc d hd, hr⟩
        · rename_i hge hne
          refine List.pairwise_cons.mpr ⟨fun d hd => ?_, ih hr⟩
          rcases mem_writeCell hd with hd | ⟨rfl, -⟩
          · exact hc d hd
          · show c.1 < n
            omega
  · rcases mem_writeCell hc with hc | ⟨rfl, hg⟩
    · exact hs c hc
    · exact hg

theorem upset_wf {m : SampleMemory} (h : m.wf = true) (us : List (Nat × Block)) : (m.upset us).wf = true := by
  unfold SampleMemory.upset
  induction us generalizing m with
  | nil => exact h
  | cons u us ih => exact ih (write_wf h _ _)

theorem fill_wf {m : SampleMemory} (h : m.wf = true) : m.fill.wf = true := by
  obtain ⟨hp, hs⟩ := (wf_iff m).mp h
  exact (wf_iff _).mpr ⟨hp.filter _, fun c hc => hs c (List.mem_filter.mp hc).1⟩

theorem rebuild_wf {m : SampleMemory} (h : m.wf = true) (ring reserve : Nat) : (m.rebuild ring reserve).wf = true := h

theorem initial_wf (ring reserve : Nat) : (SampleMemory.initial ring reserve).wf = true := rfl

theorem allocate_wf {m m' : SampleMemory} (h : m.wf = true) {c : ClipRef} {last : Option Nat} {n : Nat}
    (ha : m.allocate c last = some (n, m')) : m'.wf = true := by
  unfold SampleMemory.allocate at ha
  split at ha
  · dsimp only at ha
    split at ha
    · cases ha
      have linked (k : Nat) : (if m.ring ≤ k ∧ k < Config.segments then
          m.write k { m.read k with link := some n } else m).wf = true := by
        split
        · exact write_wf h _ _
        · exact h
      exact linked _
    · cases ha
      exact h
  · cases ha

theorem freeOne_wf {m : SampleMemory} (h : m.wf = true) (c : ClipRef) (n : Nat) : (m.freeOne c n).wf = true := by
  unfold SampleMemory.freeOne
  split
  · exact h
  · exact h

theorem freeAll_wf {m : SampleMemory} (h : m.wf = true) (c : ClipRef) (ns : List Nat) : (m.freeAll c ns).wf = true := by
  unfold SampleMemory.freeAll
  induction ns generalizing m with
  | nil => exact h
  | cons n ns ih => exact ih (freeOne_wf h c n)

/-- The reset state's memory has the canonical form. -/
theorem reset_wf : State.reset.mem.wf = true := rfl

end Sys2Proof.Laws
end

