-- ==== Sys2Proof/Laws/PerInstr.lean ====
section
/-! SUPPORT. One family of statements about every command: what its frame holds (R182, R196, R199). -/

namespace Sys2Proof.Laws

/-- The frame of a well-formed command, where it comes as one, has a body of at most 250 bytes, the command code among
them, and its code is one byte (R182, R196). -/
def FrameFits.Statement (i : Instr) : Prop :=
  i.wellFormed = true → ∀ l code ps, i.frame = some (l, code, ps) → ps.length + 1 ≤ 250 ∧ code < 256

/-- A frame with a known code fits when its parameters do. -/
theorem frame_fits {ps : List Byte} (h : paramsFit ps = true) {l : Link} {c : Nat} (hc : c < 256) :
    ∀ l' code ps', some (l, c, ps) = some (l', code, ps') → ps'.length + 1 ≤ 250 ∧ code < 256 := by
  rintro l' code ps' e
  cases e
  simp only [paramsFit, decide_eq_true_eq] at h
  omega

theorem FrameFits.identify (l : Link) (ps : List Byte) : FrameFits.Statement (.identify l ps) :=
  fun h => frame_fits h (by decide)
theorem FrameFits.statusRead (l : Link) (ps : List Byte) : FrameFits.Statement (.statusRead l ps) :=
  fun h => frame_fits h (by decide)
theorem FrameFits.eventsRead (l : Link) (ps : List Byte) : FrameFits.Statement (.eventsRead l ps) :=
  fun h => frame_fits h (by decide)
theorem FrameFits.eventsAcknowledge (l : Link) (ps : List Byte) : FrameFits.Statement (.eventsAcknowledge l ps) :=
  fun h => frame_fits h (by decide)
theorem FrameFits.eventMaskSet (l : Link) (ps : List Byte) : FrameFits.Statement (.eventMaskSet l ps) :=
  fun h => frame_fits h (by decide)
theorem FrameFits.clipCaptureStart (l : Link) (ps : List Byte) : FrameFits.Statement (.clipCaptureStart l ps) :=
  fun h => frame_fits h (by decide)
theorem FrameFits.clipCaptureStop (l : Link) (ps : List Byte) : FrameFits.Statement (.clipCaptureStop l ps) :=
  fun h => frame_fits h (by decide)
theorem FrameFits.clipDelete (l : Link) (ps : List Byte) : FrameFits.Statement (.clipDelete l ps) :=
  fun h => frame_fits h (by decide)
theorem FrameFits.clipRead (l : Link) (ps : List Byte) : FrameFits.Statement (.clipRead l ps) :=
  fun h => frame_fits h (by decide)
theorem FrameFits.clipRoleSet (l : Link) (ps : List Byte) : FrameFits.Statement (.clipRoleSet l ps) :=
  fun h => frame_fits h (by decide)
theorem FrameFits.cueAppend (l : Link) (ps : List Byte) : FrameFits.Statement (.cueAppend l ps) :=
  fun h => frame_fits h (by decide)
theorem FrameFits.cueInsert (l : Link) (ps : List Byte) : FrameFits.Statement (.cueInsert l ps) :=
  fun h => frame_fits h (by decide)
theorem FrameFits.cueRemove (l : Link) (ps : List Byte) : FrameFits.Statement (.cueRemove l ps) :=
  fun h => frame_fits h (by decide)
theorem FrameFits.cueClear (l : Link) (ps : List Byte) : FrameFits.Statement (.cueClear l ps) :=
  fun h => frame_fits h (by decide)
theorem FrameFits.cueListRead (l : Link) (ps : List Byte) : FrameFits.Statement (.cueListRead l ps) :=
  fun h => frame_fits h (by decide)
theorem FrameFits.streamRelease (l : Link) (ps : List Byte) : FrameFits.Statement (.streamRelease l ps) :=
  fun h => frame_fits h (by decide)
theorem FrameFits.cueGo (l : Link) (ps : List Byte) : FrameFits.Statement (.cueGo l ps) :=
  fun h => frame_fits h (by decide)
theorem FrameFits.cueStop (l : Link) (ps : List Byte) : FrameFits.Statement (.cueStop l ps) :=
  fun h => frame_fits h (by decide)
theorem FrameFits.airStart (l : Link) (ps : List Byte) : FrameFits.Statement (.airStart l ps) :=
  fun h => frame_fits h (by decide)
theorem FrameFits.airStop (l : Link) (ps : List Byte) : FrameFits.Statement (.airStop l ps) :=
  fun h => frame_fits h (by decide)
theorem FrameFits.softReset (l : Link) (ps : List Byte) : FrameFits.Statement (.softReset l ps) :=
  fun h => frame_fits h (by decide)
theorem FrameFits.delayTargetSet (l : Link) (ps : List Byte) : FrameFits.Statement (.delayTargetSet l ps) :=
  fun h => frame_fits h (by decide)
theorem FrameFits.dump (l : Link) (ps : List Byte) : FrameFits.Statement (.dump l ps) :=
  fun h => frame_fits h (by decide)
theorem FrameFits.delaySettingsSet (l : Link) (ps : List Byte) : FrameFits.Statement (.delaySettingsSet l ps) :=
  fun h => frame_fits h (by decide)
theorem FrameFits.studioSet (l : Link) (ps : List Byte) : FrameFits.Statement (.studioSet l ps) :=
  fun h => frame_fits h (by decide)
theorem FrameFits.slotGainSet (l : Link) (ps : List Byte) : FrameFits.Statement (.slotGainSet l ps) :=
  fun h => frame_fits h (by decide)
theorem FrameFits.callerTakeNext (l : Link) (ps : List Byte) : FrameFits.Statement (.callerTakeNext l ps) :=
  fun h => frame_fits h (by decide)
theorem FrameFits.callerTakeLine (l : Link) (ps : List Byte) : FrameFits.Statement (.callerTakeLine l ps) :=
  fun h => frame_fits h (by decide)
theorem FrameFits.callerRelease (l : Link) (ps : List Byte) : FrameFits.Statement (.callerRelease l ps) :=
  fun h => frame_fits h (by decide)
theorem FrameFits.alertSettingsSet (l : Link) (ps : List Byte) : FrameFits.Statement (.alertSettingsSet l ps) :=
  fun h => frame_fits h (by decide)
theorem FrameFits.supervisionSet (l : Link) (ps : List Byte) : FrameFits.Statement (.supervisionSet l ps) :=
  fun h => frame_fits h (by decide)
theorem FrameFits.panelConfigure (l : Link) (ps : List Byte) : FrameFits.Statement (.panelConfigure l ps) :=
  fun h => frame_fits h (by decide)
theorem FrameFits.panelOutputSet (l : Link) (ps : List Byte) : FrameFits.Statement (.panelOutputSet l ps) :=
  fun h => frame_fits h (by decide)
theorem FrameFits.memorySettingsSet (l : Link) (ps : List Byte) : FrameFits.Statement (.memorySettingsSet l ps) :=
  fun h => frame_fits h (by decide)
theorem FrameFits.linkSettingsSet (l : Link) (ps : List Byte) : FrameFits.Statement (.linkSettingsSet l ps) :=
  fun h => frame_fits h (by decide)
theorem FrameFits.profileProgram (l : Link) (ps : List Byte) : FrameFits.Statement (.profileProgram l ps) :=
  fun h => frame_fits h (by decide)
theorem FrameFits.profileRead (l : Link) (ps : List Byte) : FrameFits.Statement (.profileRead l ps) :=
  fun h => frame_fits h (by decide)
theorem FrameFits.alertCancel (l : Link) (ps : List Byte) : FrameFits.Statement (.alertCancel l ps) :=
  fun h => frame_fits h (by decide)
theorem FrameFits.lineConnect (l : Link) (ps : List Byte) : FrameFits.Statement (.lineConnect l ps) :=
  fun h => frame_fits h (by decide)
theorem FrameFits.lineDown (l : Link) (ps : List Byte) : FrameFits.Statement (.lineDown l ps) :=
  fun h => frame_fits h (by decide)
theorem FrameFits.lineMeasure (l : Link) (ps : List Byte) : FrameFits.Statement (.lineMeasure l ps) :=
  fun h => frame_fits h (by decide)
theorem FrameFits.callerAdmit (l : Link) (ps : List Byte) : FrameFits.Statement (.callerAdmit l ps) :=
  fun h => frame_fits h (by decide)
theorem FrameFits.callerUpdate (l : Link) (ps : List Byte) : FrameFits.Statement (.callerUpdate l ps) :=
  fun h => frame_fits h (by decide)
theorem FrameFits.callerWithdraw (l : Link) (ps : List Byte) : FrameFits.Statement (.callerWithdraw l ps) :=
  fun h => frame_fits h (by decide)
theorem FrameFits.queueRead (l : Link) (ps : List Byte) : FrameFits.Statement (.queueRead l ps) :=
  fun h => frame_fits h (by decide)
theorem FrameFits.alertBegin (l : Link) (ps : List Byte) : FrameFits.Statement (.alertBegin l ps) :=
  fun h => frame_fits h (by decide)
theorem FrameFits.alertAudioEnd (l : Link) (ps : List Byte) : FrameFits.Statement (.alertAudioEnd l ps) :=
  fun h => frame_fits h (by decide)
theorem FrameFits.alertRead (l : Link) (ps : List Byte) : FrameFits.Statement (.alertRead l ps) :=
  fun h => frame_fits h (by decide)
theorem FrameFits.alertHistoryRead (l : Link) (ps : List Byte) : FrameFits.Statement (.alertHistoryRead l ps) :=
  fun h => frame_fits h (by decide)
theorem FrameFits.unknownCommand (l : Link) (code : Byte) (ps : List Byte) : FrameFits.Statement (.unknownCommand l code ps) :=
  by
  intro h l' c' ps' e
  simp only [Instr.wellFormed, Bool.and_eq_true] at h
  simp only [Instr.frame] at e
  split at e
  · cases e
  · exact frame_fits h.1 code.isLt l' c' ps' e
theorem FrameFits.badFrame (f : FrameOnLink) : FrameFits.Statement (.badFrame f) :=
  fun _ _ _ _ e => nomatch e
theorem FrameFits.frameWhileBusy (l : Link) (frame : ReceivedFrame) :
    FrameFits.Statement (.frameWhileBusy l frame) :=
  fun _ _ _ _ e => nomatch e
theorem FrameFits.frameAbandoned (l : Link) (bytes : List Byte) (cause : AbandonCause) : FrameFits.Statement (.frameAbandoned l bytes cause) :=
  fun _ _ _ _ e => nomatch e
theorem FrameFits.responseSent (l : Link) : FrameFits.Statement (.responseSent l) := fun _ _ _ _ e => nomatch e
theorem FrameFits.softResetMade : FrameFits.Statement (.softResetMade) := fun _ _ _ _ e => nomatch e
theorem FrameFits.silentFillComplete : FrameFits.Statement (.silentFillComplete) := fun _ _ _ _ e => nomatch e
theorem FrameFits.powerOn : FrameFits.Statement (.powerOn) := fun _ _ _ _ e => nomatch e
theorem FrameFits.hardwareReset : FrameFits.Statement (.hardwareReset) := fun _ _ _ _ e => nomatch e
theorem FrameFits.powerUpEnd : FrameFits.Statement (.powerUpEnd) := fun _ _ _ _ e => nomatch e
theorem FrameFits.inputBlockBoundary (env : InputBoundary) : FrameFits.Statement (.inputBlockBoundary env) :=
  fun _ _ _ _ e => nomatch e
theorem FrameFits.outputBlockBoundary (env : OutputBoundary) : FrameFits.Statement (.outputBlockBoundary env) :=
  fun _ _ _ _ e => nomatch e
theorem FrameFits.clockLost (arrived : Nat) : FrameFits.Statement (.clockLost arrived) := fun _ _ _ _ e => nomatch e
theorem FrameFits.clockRestored : FrameFits.Statement (.clockRestored) := fun _ _ _ _ e => nomatch e
theorem FrameFits.statusFrame (bytes : Vector Byte 8) : FrameFits.Statement (.statusFrame bytes) :=
  fun _ _ _ _ e => nomatch e
theorem FrameFits.invalidStatusFrame (bytes : List Byte) : FrameFits.Statement (.invalidStatusFrame bytes) :=
  fun _ _ _ _ e => nomatch e
theorem FrameFits.statusAgeLimit : FrameFits.Statement (.statusAgeLimit) := fun _ _ _ _ e => nomatch e
theorem FrameFits.linkTimeout : FrameFits.Statement (.linkTimeout) := fun _ _ _ _ e => nomatch e
theorem FrameFits.fadeComplete (c : Contributor) : FrameFits.Statement (.fadeComplete c) := fun _ _ _ _ e => nomatch e
theorem FrameFits.measureDone : FrameFits.Statement (.measureDone) := fun _ _ _ _ e => nomatch e
theorem FrameFits.captureMaxLength (ch : Channel) : FrameFits.Statement (.captureMaxLength ch) :=
  fun _ _ _ _ e => nomatch e
theorem FrameFits.alertCaptureFull : FrameFits.Statement (.alertCaptureFull) := fun _ _ _ _ e => nomatch e
theorem FrameFits.liveAlertLimit : FrameFits.Statement (.liveAlertLimit) := fun _ _ _ _ e => nomatch e
theorem FrameFits.durationLimit (v : Voice) : FrameFits.Statement (.durationLimit v) := fun _ _ _ _ e => nomatch e
theorem FrameFits.endFadeStart (v : Voice) : FrameFits.Statement (.endFadeStart v) := fun _ _ _ _ e => nomatch e
theorem FrameFits.cancelWindowClose : FrameFits.Statement (.cancelWindowClose) := fun _ _ _ _ e => nomatch e
theorem FrameFits.alertExpiry (k : AlertSlot) : FrameFits.Statement (.alertExpiry k) := fun _ _ _ _ e => nomatch e
theorem FrameFits.holdLimitReached (k : AlertSlot) : FrameFits.Statement (.holdLimitReached k) :=
  fun _ _ _ _ e => nomatch e
theorem FrameFits.confirmWindowExpiry (k : AlertSlot) : FrameFits.Statement (.confirmWindowExpiry k) :=
  fun _ _ _ _ e => nomatch e
theorem FrameFits.silenceWindow : FrameFits.Statement (.silenceWindow) := fun _ _ _ _ e => nomatch e
theorem FrameFits.fillAnswer : FrameFits.Statement (.fillAnswer) := fun _ _ _ _ e => nomatch e
theorem FrameFits.profileDone : FrameFits.Statement (.profileDone) := fun _ _ _ _ e => nomatch e
theorem FrameFits.powerLoss : FrameFits.Statement (.powerLoss) := fun _ _ _ _ e => nomatch e
theorem FrameFits.resetLineLow : FrameFits.Statement (.resetLineLow) := fun _ _ _ _ e => nomatch e

end Sys2Proof.Laws
end

