-- ==== Sys2Proof/Laws/State.lean ====
section
/-! SUPPORT. For each named update of a state, one lemma per field that it leaves as it is, and what the field it changes
reads as afterwards. -/

namespace Sys2Proof.Laws

open Sys2Proof.Machine

-- modLink

@[simp] theorem modLink_dev (l : Link) (f : LinkPort → LinkPort) (s : State) : (s.modLink l f).dev = s.dev := rfl
@[simp] theorem modLink_inputs (l : Link) (f : LinkPort → LinkPort) (s : State) : (s.modLink l f).inputs = s.inputs := rfl
@[simp] theorem modLink_mix (l : Link) (f : LinkPort → LinkPort) (s : State) : (s.modLink l f).mix = s.mix := rfl
@[simp] theorem modLink_formed (l : Link) (f : LinkPort → LinkPort) (s : State) : (s.modLink l f).formed = s.formed := rfl
@[simp] theorem modLink_mem (l : Link) (f : LinkPort → LinkPort) (s : State) : (s.modLink l f).mem = s.mem := rfl
@[simp] theorem modLink_delay (l : Link) (f : LinkPort → LinkPort) (s : State) : (s.modLink l f).delay = s.delay := rfl
@[simp] theorem modLink_clips (l : Link) (f : LinkPort → LinkPort) (s : State) : (s.modLink l f).clips = s.clips := rfl
@[simp] theorem modLink_cue (l : Link) (f : LinkPort → LinkPort) (s : State) : (s.modLink l f).cue = s.cue := rfl
@[simp] theorem modLink_callers (l : Link) (f : LinkPort → LinkPort) (s : State) : (s.modLink l f).callers = s.callers := rfl
@[simp] theorem modLink_alerts (l : Link) (f : LinkPort → LinkPort) (s : State) : (s.modLink l f).alerts = s.alerts := rfl
@[simp] theorem modLink_tx (l : Link) (f : LinkPort → LinkPort) (s : State) : (s.modLink l f).tx = s.tx := rfl
@[simp] theorem modLink_sup (l : Link) (f : LinkPort → LinkPort) (s : State) : (s.modLink l f).sup = s.sup := rfl
@[simp] theorem modLink_panel (l : Link) (f : LinkPort → LinkPort) (s : State) : (s.modLink l f).panel = s.panel := rfl
@[simp] theorem modLink_prof (l : Link) (f : LinkPort → LinkPort) (s : State) : (s.modLink l f).prof = s.prof := rfl
@[simp] theorem modLink_port (l : Link) (f : LinkPort → LinkPort) (s : State) : (s.modLink l f).port = s.port := rfl
@[simp] theorem modLink_air (l : Link) (f : LinkPort → LinkPort) (s : State) : (s.modLink l f).air = s.air := rfl
@[simp] theorem modLink_due (l : Link) (f : LinkPort → LinkPort) (s : State) : (s.modLink l f).due = s.due := rfl
@[simp] theorem modLink_pending (l : Link) (f : LinkPort → LinkPort) (s : State) : (s.modLink l f).pending = s.pending := rfl

-- raise

@[simp] theorem raise_dev (l : Link) (e : Event) (s : State) : (raise l e s).dev = s.dev := rfl
@[simp] theorem raise_inputs (l : Link) (e : Event) (s : State) : (raise l e s).inputs = s.inputs := rfl
@[simp] theorem raise_mix (l : Link) (e : Event) (s : State) : (raise l e s).mix = s.mix := rfl
@[simp] theorem raise_formed (l : Link) (e : Event) (s : State) : (raise l e s).formed = s.formed := rfl
@[simp] theorem raise_mem (l : Link) (e : Event) (s : State) : (raise l e s).mem = s.mem := rfl
@[simp] theorem raise_delay (l : Link) (e : Event) (s : State) : (raise l e s).delay = s.delay := rfl
@[simp] theorem raise_clips (l : Link) (e : Event) (s : State) : (raise l e s).clips = s.clips := rfl
@[simp] theorem raise_cue (l : Link) (e : Event) (s : State) : (raise l e s).cue = s.cue := rfl
@[simp] theorem raise_callers (l : Link) (e : Event) (s : State) : (raise l e s).callers = s.callers := rfl
@[simp] theorem raise_alerts (l : Link) (e : Event) (s : State) : (raise l e s).alerts = s.alerts := rfl
@[simp] theorem raise_tx (l : Link) (e : Event) (s : State) : (raise l e s).tx = s.tx := rfl
@[simp] theorem raise_sup (l : Link) (e : Event) (s : State) : (raise l e s).sup = s.sup := rfl
@[simp] theorem raise_panel (l : Link) (e : Event) (s : State) : (raise l e s).panel = s.panel := rfl
@[simp] theorem raise_prof (l : Link) (e : Event) (s : State) : (raise l e s).prof = s.prof := rfl
@[simp] theorem raise_port (l : Link) (e : Event) (s : State) : (raise l e s).port = s.port := rfl
@[simp] theorem raise_air (l : Link) (e : Event) (s : State) : (raise l e s).air = s.air := rfl
@[simp] theorem raise_due (l : Link) (e : Event) (s : State) : (raise l e s).due = s.due := rfl
@[simp] theorem raise_pending (l : Link) (e : Event) (s : State) : (raise l e s).pending = s.pending := rfl

-- report

@[simp] theorem report_dev (f : Reports → Reports) (s : State) : (s.report f).dev = s.dev := rfl
@[simp] theorem report_inputs (f : Reports → Reports) (s : State) : (s.report f).inputs = s.inputs := rfl
@[simp] theorem report_mix (f : Reports → Reports) (s : State) : (s.report f).mix = s.mix := rfl
@[simp] theorem report_formed (f : Reports → Reports) (s : State) : (s.report f).formed = s.formed := rfl
@[simp] theorem report_mem (f : Reports → Reports) (s : State) : (s.report f).mem = s.mem := rfl
@[simp] theorem report_delay (f : Reports → Reports) (s : State) : (s.report f).delay = s.delay := rfl
@[simp] theorem report_clips (f : Reports → Reports) (s : State) : (s.report f).clips = s.clips := rfl
@[simp] theorem report_cue (f : Reports → Reports) (s : State) : (s.report f).cue = s.cue := rfl
@[simp] theorem report_callers (f : Reports → Reports) (s : State) : (s.report f).callers = s.callers := rfl
@[simp] theorem report_alerts (f : Reports → Reports) (s : State) : (s.report f).alerts = s.alerts := rfl
@[simp] theorem report_tx (f : Reports → Reports) (s : State) : (s.report f).tx = s.tx := rfl
@[simp] theorem report_sup (f : Reports → Reports) (s : State) : (s.report f).sup = s.sup := rfl
@[simp] theorem report_prof (f : Reports → Reports) (s : State) : (s.report f).prof = s.prof := rfl
@[simp] theorem report_links (f : Reports → Reports) (s : State) : (s.report f).links = s.links := rfl
@[simp] theorem report_port (f : Reports → Reports) (s : State) : (s.report f).port = s.port := rfl
@[simp] theorem report_air (f : Reports → Reports) (s : State) : (s.report f).air = s.air := rfl
@[simp] theorem report_due (f : Reports → Reports) (s : State) : (s.report f).due = s.due := rfl
@[simp] theorem report_pending (f : Reports → Reports) (s : State) : (s.report f).pending = s.pending := rfl

-- setContrib

@[simp] theorem setContrib_dev (c : Contributor) (x : Contrib) (s : State) : (s.setContrib c x).dev = s.dev := rfl
@[simp] theorem setContrib_inputs (c : Contributor) (x : Contrib) (s : State) : (s.setContrib c x).inputs = s.inputs := rfl
@[simp] theorem setContrib_formed (c : Contributor) (x : Contrib) (s : State) : (s.setContrib c x).formed = s.formed := rfl
@[simp] theorem setContrib_mem (c : Contributor) (x : Contrib) (s : State) : (s.setContrib c x).mem = s.mem := rfl
@[simp] theorem setContrib_delay (c : Contributor) (x : Contrib) (s : State) : (s.setContrib c x).delay = s.delay := rfl
@[simp] theorem setContrib_clips (c : Contributor) (x : Contrib) (s : State) : (s.setContrib c x).clips = s.clips := rfl
@[simp] theorem setContrib_cue (c : Contributor) (x : Contrib) (s : State) : (s.setContrib c x).cue = s.cue := rfl
@[simp] theorem setContrib_callers (c : Contributor) (x : Contrib) (s : State) : (s.setContrib c x).callers = s.callers := rfl
@[simp] theorem setContrib_alerts (c : Contributor) (x : Contrib) (s : State) : (s.setContrib c x).alerts = s.alerts := rfl
@[simp] theorem setContrib_tx (c : Contributor) (x : Contrib) (s : State) : (s.setContrib c x).tx = s.tx := rfl
@[simp] theorem setContrib_sup (c : Contributor) (x : Contrib) (s : State) : (s.setContrib c x).sup = s.sup := rfl
@[simp] theorem setContrib_panel (c : Contributor) (x : Contrib) (s : State) : (s.setContrib c x).panel = s.panel := rfl
@[simp] theorem setContrib_prof (c : Contributor) (x : Contrib) (s : State) : (s.setContrib c x).prof = s.prof := rfl
@[simp] theorem setContrib_links (c : Contributor) (x : Contrib) (s : State) : (s.setContrib c x).links = s.links := rfl
@[simp] theorem setContrib_port (c : Contributor) (x : Contrib) (s : State) : (s.setContrib c x).port = s.port := rfl
@[simp] theorem setContrib_air (c : Contributor) (x : Contrib) (s : State) : (s.setContrib c x).air = s.air := rfl
@[simp] theorem setContrib_due (c : Contributor) (x : Contrib) (s : State) : (s.setContrib c x).due = s.due := rfl
@[simp] theorem setContrib_pending (c : Contributor) (x : Contrib) (s : State) : (s.setContrib c x).pending = s.pending := rfl

-- setLine

@[simp] theorem setLine_dev (i : PhoneLine) (x : LineRecord) (s : State) : (s.setLine i x).dev = s.dev := rfl
@[simp] theorem setLine_inputs (i : PhoneLine) (x : LineRecord) (s : State) : (s.setLine i x).inputs = s.inputs := rfl
@[simp] theorem setLine_mix (i : PhoneLine) (x : LineRecord) (s : State) : (s.setLine i x).mix = s.mix := rfl
@[simp] theorem setLine_formed (i : PhoneLine) (x : LineRecord) (s : State) : (s.setLine i x).formed = s.formed := rfl
@[simp] theorem setLine_mem (i : PhoneLine) (x : LineRecord) (s : State) : (s.setLine i x).mem = s.mem := rfl
@[simp] theorem setLine_delay (i : PhoneLine) (x : LineRecord) (s : State) : (s.setLine i x).delay = s.delay := rfl
@[simp] theorem setLine_clips (i : PhoneLine) (x : LineRecord) (s : State) : (s.setLine i x).clips = s.clips := rfl
@[simp] theorem setLine_cue (i : PhoneLine) (x : LineRecord) (s : State) : (s.setLine i x).cue = s.cue := rfl
@[simp] theorem setLine_alerts (i : PhoneLine) (x : LineRecord) (s : State) : (s.setLine i x).alerts = s.alerts := rfl
@[simp] theorem setLine_tx (i : PhoneLine) (x : LineRecord) (s : State) : (s.setLine i x).tx = s.tx := rfl
@[simp] theorem setLine_sup (i : PhoneLine) (x : LineRecord) (s : State) : (s.setLine i x).sup = s.sup := rfl
@[simp] theorem setLine_panel (i : PhoneLine) (x : LineRecord) (s : State) : (s.setLine i x).panel = s.panel := rfl
@[simp] theorem setLine_prof (i : PhoneLine) (x : LineRecord) (s : State) : (s.setLine i x).prof = s.prof := rfl
@[simp] theorem setLine_links (i : PhoneLine) (x : LineRecord) (s : State) : (s.setLine i x).links = s.links := rfl
@[simp] theorem setLine_port (i : PhoneLine) (x : LineRecord) (s : State) : (s.setLine i x).port = s.port := rfl
@[simp] theorem setLine_air (i : PhoneLine) (x : LineRecord) (s : State) : (s.setLine i x).air = s.air := rfl
@[simp] theorem setLine_due (i : PhoneLine) (x : LineRecord) (s : State) : (s.setLine i x).due = s.due := rfl
@[simp] theorem setLine_pending (i : PhoneLine) (x : LineRecord) (s : State) : (s.setLine i x).pending = s.pending := rfl

-- setSlot

@[simp] theorem setSlot_dev (k : CallerSlot) (x : SlotRecord) (s : State) : (s.setSlot k x).dev = s.dev := rfl
@[simp] theorem setSlot_inputs (k : CallerSlot) (x : SlotRecord) (s : State) : (s.setSlot k x).inputs = s.inputs := rfl
@[simp] theorem setSlot_mix (k : CallerSlot) (x : SlotRecord) (s : State) : (s.setSlot k x).mix = s.mix := rfl
@[simp] theorem setSlot_formed (k : CallerSlot) (x : SlotRecord) (s : State) : (s.setSlot k x).formed = s.formed := rfl
@[simp] theorem setSlot_mem (k : CallerSlot) (x : SlotRecord) (s : State) : (s.setSlot k x).mem = s.mem := rfl
@[simp] theorem setSlot_delay (k : CallerSlot) (x : SlotRecord) (s : State) : (s.setSlot k x).delay = s.delay := rfl
@[simp] theorem setSlot_clips (k : CallerSlot) (x : SlotRecord) (s : State) : (s.setSlot k x).clips = s.clips := rfl
@[simp] theorem setSlot_cue (k : CallerSlot) (x : SlotRecord) (s : State) : (s.setSlot k x).cue = s.cue := rfl
@[simp] theorem setSlot_alerts (k : CallerSlot) (x : SlotRecord) (s : State) : (s.setSlot k x).alerts = s.alerts := rfl
@[simp] theorem setSlot_tx (k : CallerSlot) (x : SlotRecord) (s : State) : (s.setSlot k x).tx = s.tx := rfl
@[simp] theorem setSlot_sup (k : CallerSlot) (x : SlotRecord) (s : State) : (s.setSlot k x).sup = s.sup := rfl
@[simp] theorem setSlot_prof (k : CallerSlot) (x : SlotRecord) (s : State) : (s.setSlot k x).prof = s.prof := rfl
@[simp] theorem setSlot_links (k : CallerSlot) (x : SlotRecord) (s : State) : (s.setSlot k x).links = s.links := rfl
@[simp] theorem setSlot_port (k : CallerSlot) (x : SlotRecord) (s : State) : (s.setSlot k x).port = s.port := rfl
@[simp] theorem setSlot_air (k : CallerSlot) (x : SlotRecord) (s : State) : (s.setSlot k x).air = s.air := rfl
@[simp] theorem setSlot_due (k : CallerSlot) (x : SlotRecord) (s : State) : (s.setSlot k x).due = s.due := rfl
@[simp] theorem setSlot_pending (k : CallerSlot) (x : SlotRecord) (s : State) : (s.setSlot k x).pending = s.pending := rfl

-- setRecord

@[simp] theorem setRecord_dev (k : AlertSlot) (r : Option AlertRecord) (s : State) : (s.setRecord k r).dev = s.dev := rfl
@[simp] theorem setRecord_inputs (k : AlertSlot) (r : Option AlertRecord) (s : State) : (s.setRecord k r).inputs = s.inputs := rfl
@[simp] theorem setRecord_mix (k : AlertSlot) (r : Option AlertRecord) (s : State) : (s.setRecord k r).mix = s.mix := rfl
@[simp] theorem setRecord_formed (k : AlertSlot) (r : Option AlertRecord) (s : State) : (s.setRecord k r).formed = s.formed := rfl
@[simp] theorem setRecord_mem (k : AlertSlot) (r : Option AlertRecord) (s : State) : (s.setRecord k r).mem = s.mem := rfl
@[simp] theorem setRecord_delay (k : AlertSlot) (r : Option AlertRecord) (s : State) : (s.setRecord k r).delay = s.delay := rfl
@[simp] theorem setRecord_clips (k : AlertSlot) (r : Option AlertRecord) (s : State) : (s.setRecord k r).clips = s.clips := rfl
@[simp] theorem setRecord_cue (k : AlertSlot) (r : Option AlertRecord) (s : State) : (s.setRecord k r).cue = s.cue := rfl
@[simp] theorem setRecord_callers (k : AlertSlot) (r : Option AlertRecord) (s : State) : (s.setRecord k r).callers = s.callers := rfl
@[simp] theorem setRecord_tx (k : AlertSlot) (r : Option AlertRecord) (s : State) : (s.setRecord k r).tx = s.tx := rfl
@[simp] theorem setRecord_sup (k : AlertSlot) (r : Option AlertRecord) (s : State) : (s.setRecord k r).sup = s.sup := rfl
@[simp] theorem setRecord_panel (k : AlertSlot) (r : Option AlertRecord) (s : State) : (s.setRecord k r).panel = s.panel := rfl
@[simp] theorem setRecord_prof (k : AlertSlot) (r : Option AlertRecord) (s : State) : (s.setRecord k r).prof = s.prof := rfl
@[simp] theorem setRecord_links (k : AlertSlot) (r : Option AlertRecord) (s : State) : (s.setRecord k r).links = s.links := rfl
@[simp] theorem setRecord_port (k : AlertSlot) (r : Option AlertRecord) (s : State) : (s.setRecord k r).port = s.port := rfl
@[simp] theorem setRecord_air (k : AlertSlot) (r : Option AlertRecord) (s : State) : (s.setRecord k r).air = s.air := rfl
@[simp] theorem setRecord_due (k : AlertSlot) (r : Option AlertRecord) (s : State) : (s.setRecord k r).due = s.due := rfl
@[simp] theorem setRecord_pending (k : AlertSlot) (r : Option AlertRecord) (s : State) : (s.setRecord k r).pending = s.pending := rfl

-- setPanelLine

@[simp] theorem setPanelLine_dev (n : PanelLineNo) (x : PanelLine) (s : State) : (s.setPanelLine n x).dev = s.dev := rfl
@[simp] theorem setPanelLine_inputs (n : PanelLineNo) (x : PanelLine) (s : State) : (s.setPanelLine n x).inputs = s.inputs := rfl
@[simp] theorem setPanelLine_mix (n : PanelLineNo) (x : PanelLine) (s : State) : (s.setPanelLine n x).mix = s.mix := rfl
@[simp] theorem setPanelLine_formed (n : PanelLineNo) (x : PanelLine) (s : State) : (s.setPanelLine n x).formed = s.formed := rfl
@[simp] theorem setPanelLine_mem (n : PanelLineNo) (x : PanelLine) (s : State) : (s.setPanelLine n x).mem = s.mem := rfl
@[simp] theorem setPanelLine_delay (n : PanelLineNo) (x : PanelLine) (s : State) : (s.setPanelLine n x).delay = s.delay := rfl
@[simp] theorem setPanelLine_clips (n : PanelLineNo) (x : PanelLine) (s : State) : (s.setPanelLine n x).clips = s.clips := rfl
@[simp] theorem setPanelLine_cue (n : PanelLineNo) (x : PanelLine) (s : State) : (s.setPanelLine n x).cue = s.cue := rfl
@[simp] theorem setPanelLine_callers (n : PanelLineNo) (x : PanelLine) (s : State) : (s.setPanelLine n x).callers = s.callers := rfl
@[simp] theorem setPanelLine_alerts (n : PanelLineNo) (x : PanelLine) (s : State) : (s.setPanelLine n x).alerts = s.alerts := rfl
@[simp] theorem setPanelLine_tx (n : PanelLineNo) (x : PanelLine) (s : State) : (s.setPanelLine n x).tx = s.tx := rfl
@[simp] theorem setPanelLine_sup (n : PanelLineNo) (x : PanelLine) (s : State) : (s.setPanelLine n x).sup = s.sup := rfl
@[simp] theorem setPanelLine_prof (n : PanelLineNo) (x : PanelLine) (s : State) : (s.setPanelLine n x).prof = s.prof := rfl
@[simp] theorem setPanelLine_links (n : PanelLineNo) (x : PanelLine) (s : State) : (s.setPanelLine n x).links = s.links := rfl
@[simp] theorem setPanelLine_port (n : PanelLineNo) (x : PanelLine) (s : State) : (s.setPanelLine n x).port = s.port := rfl
@[simp] theorem setPanelLine_air (n : PanelLineNo) (x : PanelLine) (s : State) : (s.setPanelLine n x).air = s.air := rfl
@[simp] theorem setPanelLine_due (n : PanelLineNo) (x : PanelLine) (s : State) : (s.setPanelLine n x).due = s.due := rfl
@[simp] theorem setPanelLine_pending (n : PanelLineNo) (x : PanelLine) (s : State) : (s.setPanelLine n x).pending = s.pending := rfl

-- setVoice

@[simp] theorem setVoice_dev (v : Voice) (x : VoiceState) (s : State) : (s.setVoice v x).dev = s.dev := by cases v <;> rfl
@[simp] theorem setVoice_inputs (v : Voice) (x : VoiceState) (s : State) : (s.setVoice v x).inputs = s.inputs := by cases v <;> rfl
@[simp] theorem setVoice_mix (v : Voice) (x : VoiceState) (s : State) : (s.setVoice v x).mix = s.mix := by cases v <;> rfl
@[simp] theorem setVoice_formed (v : Voice) (x : VoiceState) (s : State) : (s.setVoice v x).formed = s.formed := by cases v <;> rfl
@[simp] theorem setVoice_mem (v : Voice) (x : VoiceState) (s : State) : (s.setVoice v x).mem = s.mem := by cases v <;> rfl
@[simp] theorem setVoice_delay (v : Voice) (x : VoiceState) (s : State) : (s.setVoice v x).delay = s.delay := by cases v <;> rfl
@[simp] theorem setVoice_clips (v : Voice) (x : VoiceState) (s : State) : (s.setVoice v x).clips = s.clips := by cases v <;> rfl
@[simp] theorem setVoice_callers (v : Voice) (x : VoiceState) (s : State) : (s.setVoice v x).callers = s.callers := by cases v <;> rfl
@[simp] theorem setVoice_alerts (v : Voice) (x : VoiceState) (s : State) : (s.setVoice v x).alerts = s.alerts := by cases v <;> rfl
@[simp] theorem setVoice_tx (v : Voice) (x : VoiceState) (s : State) : (s.setVoice v x).tx = s.tx := by cases v <;> rfl
@[simp] theorem setVoice_sup (v : Voice) (x : VoiceState) (s : State) : (s.setVoice v x).sup = s.sup := by cases v <;> rfl
@[simp] theorem setVoice_panel (v : Voice) (x : VoiceState) (s : State) : (s.setVoice v x).panel = s.panel := by cases v <;> rfl
@[simp] theorem setVoice_prof (v : Voice) (x : VoiceState) (s : State) : (s.setVoice v x).prof = s.prof := by cases v <;> rfl
@[simp] theorem setVoice_links (v : Voice) (x : VoiceState) (s : State) : (s.setVoice v x).links = s.links := by cases v <;> rfl
@[simp] theorem setVoice_port (v : Voice) (x : VoiceState) (s : State) : (s.setVoice v x).port = s.port := by cases v <;> rfl
@[simp] theorem setVoice_air (v : Voice) (x : VoiceState) (s : State) : (s.setVoice v x).air = s.air := by cases v <;> rfl
@[simp] theorem setVoice_due (v : Voice) (x : VoiceState) (s : State) : (s.setVoice v x).due = s.due := by cases v <;> rfl
@[simp] theorem setVoice_pending (v : Voice) (x : VoiceState) (s : State) : (s.setVoice v x).pending = s.pending := by cases v <;> rfl

-- setReader

@[simp] theorem setReader_dev (r : ReaderOf) (x : Option Reader) (s : State) : (s.setReader r x).dev = s.dev := by cases r <;> rfl
@[simp] theorem setReader_inputs (r : ReaderOf) (x : Option Reader) (s : State) : (s.setReader r x).inputs = s.inputs := by cases r <;> rfl
@[simp] theorem setReader_mix (r : ReaderOf) (x : Option Reader) (s : State) : (s.setReader r x).mix = s.mix := by cases r <;> rfl
@[simp] theorem setReader_formed (r : ReaderOf) (x : Option Reader) (s : State) : (s.setReader r x).formed = s.formed := by cases r <;> rfl
@[simp] theorem setReader_mem (r : ReaderOf) (x : Option Reader) (s : State) : (s.setReader r x).mem = s.mem := by cases r <;> rfl
@[simp] theorem setReader_delay (r : ReaderOf) (x : Option Reader) (s : State) : (s.setReader r x).delay = s.delay := by cases r <;> rfl
@[simp] theorem setReader_cue (r : ReaderOf) (x : Option Reader) (s : State) : (s.setReader r x).cue = s.cue := by cases r <;> rfl
@[simp] theorem setReader_callers (r : ReaderOf) (x : Option Reader) (s : State) : (s.setReader r x).callers = s.callers := by cases r <;> rfl
@[simp] theorem setReader_alerts (r : ReaderOf) (x : Option Reader) (s : State) : (s.setReader r x).alerts = s.alerts := by cases r <;> rfl
@[simp] theorem setReader_tx (r : ReaderOf) (x : Option Reader) (s : State) : (s.setReader r x).tx = s.tx := by cases r <;> rfl
@[simp] theorem setReader_sup (r : ReaderOf) (x : Option Reader) (s : State) : (s.setReader r x).sup = s.sup := by cases r <;> rfl
@[simp] theorem setReader_panel (r : ReaderOf) (x : Option Reader) (s : State) : (s.setReader r x).panel = s.panel := by cases r <;> rfl
@[simp] theorem setReader_prof (r : ReaderOf) (x : Option Reader) (s : State) : (s.setReader r x).prof = s.prof := by cases r <;> rfl
@[simp] theorem setReader_links (r : ReaderOf) (x : Option Reader) (s : State) : (s.setReader r x).links = s.links := by cases r <;> rfl
@[simp] theorem setReader_port (r : ReaderOf) (x : Option Reader) (s : State) : (s.setReader r x).port = s.port := by cases r <;> rfl
@[simp] theorem setReader_air (r : ReaderOf) (x : Option Reader) (s : State) : (s.setReader r x).air = s.air := by cases r <;> rfl
@[simp] theorem setReader_due (r : ReaderOf) (x : Option Reader) (s : State) : (s.setReader r x).due = s.due := by cases r <;> rfl
@[simp] theorem setReader_pending (r : ReaderOf) (x : Option Reader) (s : State) : (s.setReader r x).pending = s.pending := by cases r <;> rfl

-- modClip

@[simp] theorem modClip_dev (c : ClipRef) (f : Clip → Clip) (s : State) : (s.modClip c f).dev = s.dev := by cases c <;> rfl
@[simp] theorem modClip_inputs (c : ClipRef) (f : Clip → Clip) (s : State) : (s.modClip c f).inputs = s.inputs := by cases c <;> rfl
@[simp] theorem modClip_mix (c : ClipRef) (f : Clip → Clip) (s : State) : (s.modClip c f).mix = s.mix := by cases c <;> rfl
@[simp] theorem modClip_formed (c : ClipRef) (f : Clip → Clip) (s : State) : (s.modClip c f).formed = s.formed := by cases c <;> rfl
@[simp] theorem modClip_mem (c : ClipRef) (f : Clip → Clip) (s : State) : (s.modClip c f).mem = s.mem := by cases c <;> rfl
@[simp] theorem modClip_delay (c : ClipRef) (f : Clip → Clip) (s : State) : (s.modClip c f).delay = s.delay := by cases c <;> rfl
@[simp] theorem modClip_cue (c : ClipRef) (f : Clip → Clip) (s : State) : (s.modClip c f).cue = s.cue := by cases c <;> rfl
@[simp] theorem modClip_callers (c : ClipRef) (f : Clip → Clip) (s : State) : (s.modClip c f).callers = s.callers := by cases c <;> rfl
@[simp] theorem modClip_alerts (c : ClipRef) (f : Clip → Clip) (s : State) : (s.modClip c f).alerts = s.alerts := by cases c <;> rfl
@[simp] theorem modClip_tx (c : ClipRef) (f : Clip → Clip) (s : State) : (s.modClip c f).tx = s.tx := by cases c <;> rfl
@[simp] theorem modClip_sup (c : ClipRef) (f : Clip → Clip) (s : State) : (s.modClip c f).sup = s.sup := by cases c <;> rfl
@[simp] theorem modClip_panel (c : ClipRef) (f : Clip → Clip) (s : State) : (s.modClip c f).panel = s.panel := by cases c <;> rfl
@[simp] theorem modClip_prof (c : ClipRef) (f : Clip → Clip) (s : State) : (s.modClip c f).prof = s.prof := by cases c <;> rfl
@[simp] theorem modClip_links (c : ClipRef) (f : Clip → Clip) (s : State) : (s.modClip c f).links = s.links := by cases c <;> rfl
@[simp] theorem modClip_port (c : ClipRef) (f : Clip → Clip) (s : State) : (s.modClip c f).port = s.port := by cases c <;> rfl
@[simp] theorem modClip_air (c : ClipRef) (f : Clip → Clip) (s : State) : (s.modClip c f).air = s.air := by cases c <;> rfl
@[simp] theorem modClip_due (c : ClipRef) (f : Clip → Clip) (s : State) : (s.modClip c f).due = s.due := by cases c <;> rfl
@[simp] theorem modClip_pending (c : ClipRef) (f : Clip → Clip) (s : State) : (s.modClip c f).pending = s.pending := by cases c <;> rfl

-- what is read after an update

@[simp] theorem contrib_setContrib (c : Contributor) (x : Contrib) (s : State) : (s.setContrib c x).contrib c = x := by
  cases c <;> rfl

@[simp] theorem contrib_setContrib_ne {c d : Contributor} (h : d ≠ c) (x : Contrib) (s : State) :
    (s.setContrib c x).contrib d = s.contrib d := by
  cases c <;> cases d <;> first | rfl | exact absurd rfl h

@[simp] theorem voice_setVoice (v : Voice) (x : VoiceState) (s : State) : (s.setVoice v x).voice v = x := by
  cases v <;> rfl

@[simp] theorem voice_setVoice_ne {v w : Voice} (h : w ≠ v) (x : VoiceState) (s : State) :
    (s.setVoice v x).voice w = s.voice w := by
  cases v <;> cases w <;> first | rfl | exact absurd rfl h

@[simp] theorem reader_setReader (r : ReaderOf) (x : Option Reader) (s : State) :
    (s.setReader r x).clips.reader r = x := by
  cases r <;> rfl

@[simp] theorem line_setLine (i : PhoneLine) (x : LineRecord) (s : State) : (s.setLine i x).line i = x := by
  simp [State.line, State.setLine]

@[simp] theorem line_setLine_ne {i j : PhoneLine} (h : j ≠ i) (x : LineRecord) (s : State) :
    (s.setLine i x).line j = s.line j := by
  have h' : i.val ≠ j.val := fun e => h (Fin.ext e.symm)
  simp [State.line, State.setLine, h']

@[simp] theorem slot_setSlot (k : CallerSlot) (x : SlotRecord) (s : State) : (s.setSlot k x).slot k = x := by
  simp [State.slot, State.setSlot, State.report]

@[simp] theorem slot_setSlot_ne {k j : CallerSlot} (h : j ≠ k) (x : SlotRecord) (s : State) :
    (s.setSlot k x).slot j = s.slot j := by
  have h' : k.val ≠ j.val := fun e => h (Fin.ext e.symm)
  simp [State.slot, State.setSlot, State.report, h']

@[simp] theorem record_setRecord (k : AlertSlot) (r : Option AlertRecord) (s : State) : (s.setRecord k r).record k = r := by
  simp [State.record, State.setRecord]

@[simp] theorem record_setRecord_ne {k j : AlertSlot} (h : j ≠ k) (r : Option AlertRecord) (s : State) :
    (s.setRecord k r).record j = s.record j := by
  have h' : k.val ≠ j.val := fun e => h (Fin.ext e.symm)
  simp [State.record, State.setRecord, h']

@[simp] theorem clip_modClip (c : ClipRef) (f : Clip → Clip) (s : State) : (s.modClip c f).clip c = f (s.clip c) := by
  cases c <;> simp [State.clip, State.modClip]

@[simp] theorem clip_modClip_ne {c d : ClipRef} (h : d ≠ c) (f : Clip → Clip) (s : State) :
    (s.modClip c f).clip d = s.clip d := by
  cases c <;> cases d <;> try rfl
  · rename_i m n
    have h' : m.val ≠ n.val := fun e => h (by rw [Fin.ext e])
    simp [State.clip, State.modClip, h']
  · rename_i m n
    have h' : m.val ≠ n.val := fun e => h (by rw [Fin.ext e])
    simp [State.clip, State.modClip, h']

-- setLinkSettings

@[simp] theorem setLinkSettings_dev (c : LinkSettings) (s : State) : (s.setLinkSettings c).dev = s.dev := rfl
@[simp] theorem setLinkSettings_inputs (c : LinkSettings) (s : State) : (s.setLinkSettings c).inputs = s.inputs := rfl
@[simp] theorem setLinkSettings_mix (c : LinkSettings) (s : State) : (s.setLinkSettings c).mix = s.mix := rfl
@[simp] theorem setLinkSettings_formed (c : LinkSettings) (s : State) : (s.setLinkSettings c).formed = s.formed := rfl
@[simp] theorem setLinkSettings_mem (c : LinkSettings) (s : State) : (s.setLinkSettings c).mem = s.mem := rfl
@[simp] theorem setLinkSettings_delay (c : LinkSettings) (s : State) : (s.setLinkSettings c).delay = s.delay := rfl
@[simp] theorem setLinkSettings_clips (c : LinkSettings) (s : State) : (s.setLinkSettings c).clips = s.clips := rfl
@[simp] theorem setLinkSettings_cue (c : LinkSettings) (s : State) : (s.setLinkSettings c).cue = s.cue := rfl
@[simp] theorem setLinkSettings_callers (c : LinkSettings) (s : State) : (s.setLinkSettings c).callers = s.callers := rfl
@[simp] theorem setLinkSettings_alerts (c : LinkSettings) (s : State) : (s.setLinkSettings c).alerts = s.alerts := rfl
@[simp] theorem setLinkSettings_sup (c : LinkSettings) (s : State) : (s.setLinkSettings c).sup = s.sup := rfl
@[simp] theorem setLinkSettings_panel (c : LinkSettings) (s : State) : (s.setLinkSettings c).panel = s.panel := rfl
@[simp] theorem setLinkSettings_prof (c : LinkSettings) (s : State) : (s.setLinkSettings c).prof = s.prof := rfl
@[simp] theorem setLinkSettings_links (c : LinkSettings) (s : State) : (s.setLinkSettings c).links = s.links := rfl
@[simp] theorem setLinkSettings_port (c : LinkSettings) (s : State) : (s.setLinkSettings c).port = s.port := rfl
@[simp] theorem setLinkSettings_air (c : LinkSettings) (s : State) : (s.setLinkSettings c).air = s.air := rfl
@[simp] theorem setLinkSettings_due (c : LinkSettings) (s : State) : (s.setLinkSettings c).due = s.due := rfl
@[simp] theorem setLinkSettings_pending (c : LinkSettings) (s : State) : (s.setLinkSettings c).pending = s.pending := rfl
@[simp] theorem setLinkSettings_tx (c : LinkSettings) (s : State) :
    (s.setLinkSettings c).tx = { s.tx with settings := c } := rfl

-- setAlertSettings

@[simp] theorem setAlertSettings_dev (c : AlertSettings) (s : State) : (s.setAlertSettings c).dev = s.dev := rfl
@[simp] theorem setAlertSettings_inputs (c : AlertSettings) (s : State) : (s.setAlertSettings c).inputs = s.inputs := rfl
@[simp] theorem setAlertSettings_mix (c : AlertSettings) (s : State) : (s.setAlertSettings c).mix = s.mix := rfl
@[simp] theorem setAlertSettings_formed (c : AlertSettings) (s : State) : (s.setAlertSettings c).formed = s.formed := rfl
@[simp] theorem setAlertSettings_mem (c : AlertSettings) (s : State) : (s.setAlertSettings c).mem = s.mem := rfl
@[simp] theorem setAlertSettings_delay (c : AlertSettings) (s : State) : (s.setAlertSettings c).delay = s.delay := rfl
@[simp] theorem setAlertSettings_clips (c : AlertSettings) (s : State) : (s.setAlertSettings c).clips = s.clips := rfl
@[simp] theorem setAlertSettings_cue (c : AlertSettings) (s : State) : (s.setAlertSettings c).cue = s.cue := rfl
@[simp] theorem setAlertSettings_callers (c : AlertSettings) (s : State) : (s.setAlertSettings c).callers = s.callers := rfl
@[simp] theorem setAlertSettings_sup (c : AlertSettings) (s : State) : (s.setAlertSettings c).sup = s.sup := rfl
@[simp] theorem setAlertSettings_panel (c : AlertSettings) (s : State) : (s.setAlertSettings c).panel = s.panel := rfl
@[simp] theorem setAlertSettings_prof (c : AlertSettings) (s : State) : (s.setAlertSettings c).prof = s.prof := rfl
@[simp] theorem setAlertSettings_links (c : AlertSettings) (s : State) : (s.setAlertSettings c).links = s.links := rfl
@[simp] theorem setAlertSettings_port (c : AlertSettings) (s : State) : (s.setAlertSettings c).port = s.port := rfl
@[simp] theorem setAlertSettings_air (c : AlertSettings) (s : State) : (s.setAlertSettings c).air = s.air := rfl
@[simp] theorem setAlertSettings_due (c : AlertSettings) (s : State) : (s.setAlertSettings c).due = s.due := rfl
@[simp] theorem setAlertSettings_pending (c : AlertSettings) (s : State) : (s.setAlertSettings c).pending = s.pending := rfl
@[simp] theorem setAlertSettings_tx (c : AlertSettings) (s : State) : (s.setAlertSettings c).tx = s.tx := rfl
@[simp] theorem setAlertSettings_alerts (c : AlertSettings) (s : State) :
    (s.setAlertSettings c).alerts = { s.alerts with settings := c } := rfl

-- setSupervision

@[simp] theorem setSupervision_dev (c : SupervisionSettings) (s : State) : (s.setSupervision c).dev = s.dev := rfl
@[simp] theorem setSupervision_inputs (c : SupervisionSettings) (s : State) : (s.setSupervision c).inputs = s.inputs := rfl
@[simp] theorem setSupervision_mix (c : SupervisionSettings) (s : State) : (s.setSupervision c).mix = s.mix := rfl
@[simp] theorem setSupervision_formed (c : SupervisionSettings) (s : State) : (s.setSupervision c).formed = s.formed := rfl
@[simp] theorem setSupervision_mem (c : SupervisionSettings) (s : State) : (s.setSupervision c).mem = s.mem := rfl
@[simp] theorem setSupervision_delay (c : SupervisionSettings) (s : State) : (s.setSupervision c).delay = s.delay := rfl
@[simp] theorem setSupervision_clips (c : SupervisionSettings) (s : State) : (s.setSupervision c).clips = s.clips := rfl
@[simp] theorem setSupervision_cue (c : SupervisionSettings) (s : State) : (s.setSupervision c).cue = s.cue := rfl
@[simp] theorem setSupervision_callers (c : SupervisionSettings) (s : State) : (s.setSupervision c).callers = s.callers := rfl
@[simp] theorem setSupervision_alerts (c : SupervisionSettings) (s : State) : (s.setSupervision c).alerts = s.alerts := rfl
@[simp] theorem setSupervision_panel (c : SupervisionSettings) (s : State) : (s.setSupervision c).panel = s.panel := rfl
@[simp] theorem setSupervision_prof (c : SupervisionSettings) (s : State) : (s.setSupervision c).prof = s.prof := rfl
@[simp] theorem setSupervision_links (c : SupervisionSettings) (s : State) : (s.setSupervision c).links = s.links := rfl
@[simp] theorem setSupervision_port (c : SupervisionSettings) (s : State) : (s.setSupervision c).port = s.port := rfl
@[simp] theorem setSupervision_air (c : SupervisionSettings) (s : State) : (s.setSupervision c).air = s.air := rfl
@[simp] theorem setSupervision_due (c : SupervisionSettings) (s : State) : (s.setSupervision c).due = s.due := rfl
@[simp] theorem setSupervision_pending (c : SupervisionSettings) (s : State) : (s.setSupervision c).pending = s.pending := rfl
@[simp] theorem setSupervision_tx (c : SupervisionSettings) (s : State) : (s.setSupervision c).tx = s.tx := rfl
@[simp] theorem setSupervision_sup (c : SupervisionSettings) (s : State) :
    (s.setSupervision c).sup = { s.sup with settings := c } := rfl

end Sys2Proof.Laws
end

