-- ==== Sys2Proof/Laws/Waiting.lean ====
section
/-! SUPPORT. No command or event changes the queue of waiting commands: `exec` acts on everything but the queue, and always
answers a next state. -/

namespace Sys2Proof.Laws

-- the lemmas one after the other: in one text, all at once they ask for more threads than the compile has
set_option Elab.async false

open Sys2Proof.Machine

/-- Every part but the waiting commands. -/
abbrev allButWaiting : List Part :=
  [.mix, .delay, .clips, .cue, .callers, .alerts, .sup, .panel, .links, .mem, .dev, .tx, .prof, .due, .inputs, .formed, .port,
    .air, .runs, .answers]

/-- Everything but the waiting commands may have changed. -/
theorem touches_of_waiting {s t : State} (h : t.pending = s.pending) : Touches allButWaiting s t := by
  intro p hp; cases p <;> first | exact h | exact absurd (by decide) hp

theorem respond_touches (l : Link) (code : Nat) (st : Status) (r : Result) (s : State) :
    Touches [.links, .answers] s (respond l code st r s) :=
  modLink_touches l _ s

/-- A frame of a command changes what its owner changes, and its link. -/
theorem command_touches {ps : List Part} (l : Link) (code : Nat) (bytes : List Byte) (owner : State → Reply) (s : State)
    (h : ∀ t, ReplyTouches ps t (owner t)) (hd : .answers :: dueParts ⊆ ps := by decide) :
    Touches ps s (command l code bytes owner s) := by
  have hl : [Part.links, .answers] ⊆ ps := fun _ m => hd ((by decide : [Part.links, .answers] ⊆ .answers :: dueParts) m)
  have hc (t : State) : Touches ps t (frameComplete l t) := (modLink_touches l _ t).mono hl
  have hf : Touches ps s (frameComplete l (settleFound s)) := ((settleFound_touches s).mono fun _ m => hd (List.mem_cons_of_mem _ m)).trans (hc _)
  unfold command
  split
  · split
    · exact (hc s).trans ((modLink_touches l _ _).mono hl)
    · dsimp only
      split
      · exact hf.trans ((respond_touches l _ _ _ _).mono hl)
      · have ho := h (frameComplete l (settleFound s))
        unfold conclude
        split
        · rename_i t r hr
          rw [hr] at ho
          exact (hf.trans ho).trans ((respond_touches l _ _ _ _).mono hl)
        · exact hf.trans ((respond_touches l _ _ _ _).mono hl)
        · rename_i t hr
          rw [hr] at ho
          exact (hf.trans ho).trans ((modLink_touches l _ _).mono hl)
  · exact Touches.refl _ s

-- what the owners of the commands may change

theorem acknowledge_touches (l : Link) (n c : Nat) (s : State) : Touches allButWaiting s (acknowledge l n c s) := by
  have h (f : LinkPort → LinkPort) := (Touches.refl allButWaiting s).and (modLink_touches l f s)
  unfold acknowledge
  dsimp only
  split
  · exact (h _).and (panel_touches _ _)
  · exact h _

theorem eventsAcknowledgeOwner_touches (l : Link) (ps : List Byte) (s : State) :
    ReplyTouches allButWaiting s (eventsAcknowledgeOwner l ps s) := by
  unfold eventsAcknowledgeOwner
  split
  · exact Touches.foldl _ (fun t (x : Nat × Nat) => acknowledge_touches l x.1 x.2 t) _ s
  · trivial

theorem eventMaskSetOwner_touches (l : Link) (ps : List Byte) (s : State) :
    ReplyTouches allButWaiting s (eventMaskSetOwner l ps s) := by
  unfold eventMaskSetOwner
  split
  · exact (Touches.refl _ s).and (modLink_touches l _ s)
  · trivial

theorem statusReadOwner_touches (ps : List Byte) (s : State) : ReplyTouches allButWaiting s (statusReadOwner ps s) := by
  unfold statusReadOwner
  split
  · exact Touches.refl _ s
  · trivial

theorem captureStartOwner_touches (ps : List Byte) (s : State) :
    ReplyTouches allButWaiting s (captureStartOwner ps s) := by
  unfold captureStartOwner
  split
  · trivial
  · split
    · trivial
    · split
      · trivial
      · exact ((Touches.refl _ s).and (clips_touches _ s)).and (modClip_touches _ _ _)

theorem captureStopOwner_touches (ps : List Byte) (s : State) : ReplyTouches allButWaiting s (captureStopOwner ps s) := by
  unfold captureStopOwner
  split
  · trivial
  · split
    · trivial
    · split
      · trivial
      · exact (Touches.refl _ s).and (endCapture_touches _ _ s)

theorem clipDeleteOwner_touches (ps : List Byte) (s : State) : ReplyTouches allButWaiting s (clipDeleteOwner ps s) := by
  unfold clipDeleteOwner
  split
  · trivial
  · dsimp only
    split
    · trivial
    · split
      · trivial
      · split
        · trivial
        · exact (Touches.refl _ s).and (emptyClip_touches _ s)

theorem clipReadOwner_touches (ps : List Byte) (s : State) : ReplyTouches allButWaiting s (clipReadOwner ps s) := by
  unfold clipReadOwner
  split
  · trivial
  · dsimp only
    split
    · trivial
    · split
      · exact Touches.refl _ s
      · split
        · trivial
        · exact (Touches.refl _ s).and (fetchClip_touches _ s)

theorem useOptional_touches (up : Bool) (n : Option ClipId) (s : State) : Touches [.clips] s (useOptional up n s) := by
  cases n
  · exact Touches.refl _ s
  · exact useClip_touches _ _ s

theorem clipRoleSetOwner_touches (ps : List Byte) (s : State) : ReplyTouches allButWaiting s (clipRoleSetOwner ps s) := by
  unfold clipRoleSetOwner
  split
  · split
    · exact (((Touches.refl _ s).and (useOptional_touches _ _ s)).and (useOptional_touches _ _ _)).and (clips_touches _ _)
    · trivial
  · trivial

theorem makeClaim_touches (e : Entry) (s : State) : Touches [.clips] s (makeClaim e s) := by
  unfold makeClaim
  split
  · exact useClip_touches _ _ s
  · exact Touches.refl _ s

theorem joinList_touches (i : Nat) (e : Entry) (s : State) : Touches airParts s (joinList i e s) :=
  (((Touches.refl _ s).and (makeClaim_touches e s)).and (setEntries_touches _ _)).trans (settleFrom_touches _ _)

theorem cueAppendOwner_touches (ps : List Byte) (s : State) : ReplyTouches allButWaiting s (cueAppendOwner ps s) := by
  unfold cueAppendOwner
  split
  · trivial
  · split
    · trivial
    · split
      · trivial
      · split
        · trivial
        · exact (Touches.refl _ s).and (joinList_touches _ _ s)

theorem cueInsertOwner_touches (ps : List Byte) (s : State) : ReplyTouches allButWaiting s (cueInsertOwner ps s) := by
  unfold cueInsertOwner
  split
  · split
    · trivial
    · split
      · trivial
      · split
        · trivial
        · split
          · trivial
          · split
            · trivial
            · exact (Touches.refl _ s).and (joinList_touches _ _ s)
  · trivial

theorem cueRemoveOwner_touches (ps : List Byte) (s : State) : ReplyTouches allButWaiting s (cueRemoveOwner ps s) := by
  unfold cueRemoveOwner
  split
  · trivial
  · split
    · trivial
    · split
      · exact (((Touches.refl _ s).and (releaseClaim_touches _ s)).and (setEntries_touches _ _)).and
          (settleFrom_touches _ _)
      · trivial

theorem cueClearOwner_touches (s : State) : ReplyTouches allButWaiting s (cueClearOwner s) :=
  (((Touches.refl allButWaiting s).and (Touches.foldl _ (fun t e => releaseClaim_touches e t) _ s)).and
    (setEntries_touches _ _)).and (settleFrom_touches _ _)

theorem cueListReadOwner_touches (ps : List Byte) (s : State) : ReplyTouches allButWaiting s (cueListReadOwner ps s) := by
  unfold cueListReadOwner
  split
  · trivial
  · exact Touches.refl _ s

theorem streamReleaseOwner_touches (ps : List Byte) (s : State) :
    ReplyTouches allButWaiting s (streamReleaseOwner ps s) := by
  unfold streamReleaseOwner
  split
  · trivial
  · exact (releaseStream_touches _ s).mono

theorem delaySettingsSetOwner_touches (ps : List Byte) (s : State) :
    ReplyTouches allButWaiting s (delaySettingsSetOwner ps s) := by
  unfold delaySettingsSetOwner
  split
  · exact (Touches.refl _ s).and (delay_touches _ s)
  · trivial

theorem studioSetOwner_touches (ps : List Byte) (s : State) : ReplyTouches allButWaiting s (studioSetOwner ps s) := by
  have h (m : Mix) : Touches [.mix] s { s with mix := m } := by
    intro p hp; cases p <;> first | rfl | exact absurd (by decide) hp
  unfold studioSetOwner
  split
  · exact ((Touches.refl _ s).and (h _)).and (studioSwitch_touches _ _ _ _)
  · trivial

theorem slotGainSetOwner_touches (ps : List Byte) (s : State) : ReplyTouches allButWaiting s (slotGainSetOwner ps s) := by
  have h (m : Mix) : Touches [.mix] s { s with mix := m } := by
    intro p hp; cases p <;> first | rfl | exact absurd (by decide) hp
  unfold slotGainSetOwner
  split
  · exact ((Touches.refl _ s).and (h _)).and (level_touches _ _ _ _)
  · trivial

theorem airStart_touches (s : State) : Touches allButWaiting s (airStart s) := by
  have h (d : Device) (x : Supervisor) : Touches [.dev, .sup, .runs] s { s with dev := d, sup := x } := by
    intro p hp; cases p <;> first | rfl | exact absurd (by decide) hp
  exact (((Touches.refl _ s).and (h _ _)).and (startDelay_touches _)).and (report_touches _ _)

theorem endAirMode_touches (s : State) : Touches [.sup, .panel, .links] s (endAirMode s) := by
  have h (x : Supervisor) : Touches [.sup, .panel, .links] s (reportFallback { s with sup := x }) :=
    ((Touches.refl _ s).and (sup_touches x s)).and (reportFallback_touches _)
  unfold endAirMode
  dsimp only
  split
  · exact (h _).and (raise_touches _ _ _)
  · exact h _

theorem airStop_touches (s : State) : Touches allButWaiting s (airStop s) := by
  have h1 := (Touches.refl allButWaiting s).and (dev_touches { s.dev with state := .standby } s)
  have h2 := (h1.and (airStopCue_touches _)).and (emptySlots_touches .airStop _)
  have h3 := (h2.and (airStopAlerts_touches _)).and (endAirMode_touches _)
  have h4 := (h3.and (stopDelay_touches _)).and (report_touches (fun r => { r with onAir := false }) _)
  unfold airStop
  exact h4

theorem airStopOwner_touches (s : State) : ReplyTouches allButWaiting s (airStopOwner s) := by
  unfold airStopOwner
  split
  · trivial
  · exact airStop_touches s

theorem takeLineOwner_touches (ps : List Byte) (s : State) : ReplyTouches allButWaiting s (takeLineOwner ps s) := by
  unfold takeLineOwner
  split
  · trivial
  · split
    · trivial
    · split
      · exact (Touches.refl _ s).and (takeLine_touches _ s)
      · trivial

theorem callerReleaseOwner_touches (ps : List Byte) (s : State) :
    ReplyTouches allButWaiting s (callerReleaseOwner ps s) := by
  unfold callerReleaseOwner
  split
  · split
    · exact (Touches.refl _ s).and (releaseSlot_touches _ _ s)
    · trivial
  · trivial

theorem lineConnectOwner_touches (ps : List Byte) (s : State) : ReplyTouches allButWaiting s (lineConnectOwner ps s) := by
  unfold lineConnectOwner
  split
  · trivial
  · split
    · exact (Touches.refl _ s).and (setLine_touches _ _ s)
    · trivial

theorem lineDown_touches (i : PhoneLine) (s : State) : Touches allButWaiting s (lineDown i s) := by
  unfold lineDown
  split
  · exact Touches.refl _ s
  · exact ((Touches.refl _ s).and (abortMeasure_touches i s)).and (setLine_touches i _ _)
  · exact (((Touches.refl _ s).and (leaveQueue_touches i s)).and (setLine_touches i _ _)).and (raiseQueue_touches _)
  · exact ((((Touches.refl _ s).and (cut_touches _ s)).and (setSlot_touches _ _ _)).and (setLine_touches i _ _)).and
      (raise_touches _ _ _)
  · exact (Touches.refl _ s).and (setLine_touches i _ s)

theorem lineDownOwner_touches (ps : List Byte) (s : State) : ReplyTouches allButWaiting s (lineDownOwner ps s) := by
  unfold lineDownOwner
  split
  · trivial
  · exact lineDown_touches _ s

theorem lineMeasureOwner_touches (ps : List Byte) (s : State) : ReplyTouches allButWaiting s (lineMeasureOwner ps s) := by
  unfold lineMeasureOwner
  split
  · trivial
  · split
    · trivial
    · split
      · trivial
      · exact (Touches.refl _ s).and (callers_touches _ s)

theorem callerAdmitOwner_touches (ps : List Byte) (s : State) : ReplyTouches allButWaiting s (callerAdmitOwner ps s) := by
  unfold callerAdmitOwner
  split
  · trivial
  · split
    · trivial
    · exact ((((Touches.refl _ s).and (abortMeasure_touches _ s)).and (setLine_touches _ _ _)).and
        (joinQueue_touches _ _)).and (raiseQueue_touches _)
    · trivial

theorem callerUpdateOwner_touches (ps : List Byte) (s : State) : ReplyTouches allButWaiting s (callerUpdateOwner ps s) := by
  have h (i : PhoneLine) (x : LineRecord) : Touches allButWaiting s (placeLine i (leaveQueue i (s.setLine i x))) :=
    (((Touches.refl _ s).and (setLine_touches i x s)).and (leaveQueue_touches i _)).and (placeLine_touches i _)
  unfold callerUpdateOwner
  split
  · trivial
  · split
    · unfold updateCaller
      dsimp only
      split
      · exact h _ _
      · exact (h _ _).and (raiseQueue_touches _)
    · trivial

theorem callerWithdrawOwner_touches (ps : List Byte) (s : State) :
    ReplyTouches allButWaiting s (callerWithdrawOwner ps s) := by
  unfold callerWithdrawOwner
  split
  · trivial
  · split
    · exact (((Touches.refl _ s).and (leaveQueue_touches _ s)).and (setLine_touches _ _ _)).and (raiseQueue_touches _)
    · trivial

theorem alertSettingsSetOwner_touches (ps : List Byte) (s : State) :
    ReplyTouches allButWaiting s (alertSettingsSetOwner ps s) := by
  unfold alertSettingsSetOwner
  split
  · exact (Touches.refl _ s).and (records_touches _ s)
  · trivial

theorem alertCancelOwner_touches (l : Link) (ps : List Byte) (s : State) :
    ReplyTouches allButWaiting s (alertCancelOwner l ps s) := by
  unfold alertCancelOwner
  split
  · trivial
  · split
    · trivial
    · split
      · trivial
      · exact (Touches.refl _ s).and (cancelRecord_touches _ s)

theorem makeRoom_touches (cls : AlertClass) (s : State) : Touches alertParts s (makeRoom cls s) := by
  unfold makeRoom
  split
  · exact Touches.refl _ s
  · split
    · exact ((Touches.refl _ s).and (discardAlertClip_touches _ s)).and (finish_touches _ _ _)
    · exact Touches.refl _ s

theorem arrive_touches (a : Arrival) (k : AlertSlot) (s : State) : ReplyTouches alertParts s (arrive a k s) := by
  have h (r : Option AlertRecord) := ((Touches.refl alertParts s).and (setRecord_touches k r s)).and
    (raiseAlertState_touches k _)
  unfold arrive
  dsimp only
  split
  · exact (h _).and (takeover_touches k none _)
  · exact (h _).and (startAlertCapture_touches k _)

theorem alertBeginOwner_touches (ps : List Byte) (s : State) : ReplyTouches allButWaiting s (alertBeginOwner ps s) := by
  unfold alertBeginOwner
  split
  · trivial
  · split
    · trivial
    · rename_i a _
      split
      · trivial
      · dsimp only
        split
        · rename_i k _
          have h := arrive_touches a k (makeRoom a.cls s)
          have hm := (Touches.refl allButWaiting s).and (makeRoom_touches a.cls s)
          cases hr : arrive a k (makeRoom a.cls s) with
          | ok t r => rw [hr] at h; exact hm.and h
          | refuse c => trivial
          | later t => rw [hr] at h; exact hm.and h
        · trivial

theorem alertAudioEndOwner_touches (ps : List Byte) (s : State) :
    ReplyTouches allButWaiting s (alertAudioEndOwner ps s) := by
  unfold alertAudioEndOwner
  split
  · trivial
  · split
    · unfold alertAudioEnd
      split
      · split
        · exact (Touches.refl _ s).and (endAlertCapture_touches false s)
        · exact (Touches.refl _ s).and (endAiring_touches _ false s)
        · exact Touches.refl _ s
      · exact Touches.refl _ s
    · trivial

theorem alertReadOwner_touches (ps : List Byte) (s : State) : ReplyTouches allButWaiting s (alertReadOwner ps s) := by
  unfold alertReadOwner
  dsimp only
  split
  · exact Touches.refl _ s
  · split
    · exact Touches.refl _ s
    · split
      · exact Touches.refl _ s
      · trivial

theorem alertHistoryReadOwner_touches (ps : List Byte) (s : State) :
    ReplyTouches allButWaiting s (alertHistoryReadOwner ps s) := by
  unfold alertHistoryReadOwner
  dsimp only
  split
  · trivial
  · split
    · exact Touches.refl _ s
    · split
      · exact Touches.refl _ s
      · trivial

theorem supervisionSetOwner_touches (ps : List Byte) (s : State) :
    ReplyTouches allButWaiting s (supervisionSetOwner ps s) := by
  unfold supervisionSetOwner
  split
  · exact (Touches.refl _ s).and (sup_touches _ s)
  · trivial

theorem panelConfigureOwner_touches (ps : List Byte) (s : State) :
    ReplyTouches allButWaiting s (panelConfigureOwner ps s) := by
  unfold panelConfigureOwner
  split
  · exact ((Touches.refl _ s).and (panel_touches _ s)).and (modLink_touches .C _ _)
  · trivial

theorem panelOutputSetOwner_touches (ps : List Byte) (s : State) :
    ReplyTouches allButWaiting s (panelOutputSetOwner ps s) := by
  unfold panelOutputSetOwner
  split
  · split
    · exact (Touches.refl _ s).and (panel_touches _ s)
    · trivial
  · trivial

theorem memorySettingsSetOwner_touches (ps : List Byte) (s : State) :
    ReplyTouches allButWaiting s (memorySettingsSetOwner ps s) := by
  have h (m : SampleMemory) (d : Delay) : Touches [.mem, .delay] s { s with mem := m, delay := d } := by
    intro p hp; cases p <;> first | rfl | exact absurd (by decide) hp
  unfold memorySettingsSetOwner
  dsimp only
  split
  · trivial
  · split
    · trivial
    · split
      · exact (Touches.refl _ s).and (memory_touches _ s)
      · exact (Touches.refl _ s).and (h _ _)

theorem linkSettingsSetOwner_touches (ps : List Byte) (s : State) :
    ReplyTouches allButWaiting s (linkSettingsSetOwner ps s) := by
  unfold linkSettingsSetOwner
  split
  · exact (Touches.refl _ s).and (tx_touches _ s)
  · trivial

theorem profileProgramOwner_touches (ps : List Byte) (s : State) :
    ReplyTouches allButWaiting s (profileProgramOwner ps s) := by
  unfold profileProgramOwner
  split
  · trivial
  · split
    · trivial
    · split
      · trivial
      · exact (Touches.refl _ s).and (prof_touches _ s)

theorem profileReadOwner_touches (ps : List Byte) (s : State) : ReplyTouches allButWaiting s (profileReadOwner ps s) := by
  unfold profileReadOwner
  dsimp only
  split
  · exact Touches.refl _ s
  · split
    · split
      · exact Touches.refl _ s
      · trivial
    · trivial

-- the frames, the resets and the stops

theorem softResetClips_touches (s : State) : Touches [.mem, .clips] s (softResetClips s) :=
  ((((Touches.refl _ s).and (settleCapture_touches 0 false s)).and (settleCapture_touches 1 false _)).trans
    (Touches.foldl _ (fun u k => emptyClip_touches (.alert k) u) _ _)).and (clips_touches _ _)

theorem profileLoaded_touches (s : State) : Touches [.dev, .runs] s (profileLoaded s) := by
  unfold profileLoaded
  split
  · intro p hp; cases p <;> first | rfl | exact absurd (by decide) hp
  · exact Touches.refl _ s

theorem raiseResetDone_touches (k : ResetKind) (s : State) : Touches [.links] s (raiseResetDone k s) :=
  Touches.foldl _ (fun t l => raise_touches l _ t) _ s

theorem softReset_keeps (s : State) : (softReset s).pending = s.pending :=
  (raiseResetDone_touches .soft _ .pending (by decide)).trans
    (softResetClips_touches s .pending (by decide) : (softResetClips s).pending = s.pending)

theorem softReset_waiting (s : State) : (softReset (settleFound s)).pending = s.pending :=
  (softReset_keeps _).trans (settleFound_touches s .pending (by decide))

theorem beginPowerUp_waiting (k : ResetKind) (s : State) : (beginPowerUp k s).pending = s.pending := by
  unfold beginPowerUp raiseFallback
  dsimp only
  split
  · split <;> rfl
  · rfl

theorem takeRow_touches (d : Due) (s : State) : Touches dueParts s (takeRow d s) := by
  unfold takeRow
  split
  · exact take_touches d s
  · exact Touches.refl _ s

theorem endPowerUp_touches (s : State) : Touches [.dev, .links, .runs] s (endPowerUp s) := by
  unfold endPowerUp
  dsimp only
  split
  · refine Touches.trans ?_ ((raiseResetDone_touches _ _).mono (by decide))
    refine ((profileLoaded_touches s).mono (by decide)).trans ?_
    intro p hp; cases p <;> first | rfl | exact absurd (by decide) hp
  · exact Touches.refl _ s

/-- Every command and event answers a next state, and none changes the queue of waiting commands. -/
theorem exec_keeps_waiting (i : Instr) (s : State) : ∃ t, exec i s = .next t ∧ t.pending = s.pending := by
  have cmd (l : Link) (code : Nat) (ps : List Byte) (owner : State → Reply)
      (h : ∀ t, ReplyTouches allButWaiting t (owner t)) : (command l code ps owner s).pending = s.pending :=
    command_touches l code ps owner s h (by decide) .pending (by decide)
  have due (d : Due) : (takeRow d s).pending = s.pending := takeRow_touches d s .pending (by decide)
  cases i with
  | identify l ps => exact ⟨_, rfl, cmd _ _ _ _ fun t => Touches.refl _ t⟩
  | statusRead l ps => exact ⟨_, rfl, cmd _ _ _ _ (statusReadOwner_touches ps)⟩
  | eventsRead l ps => exact ⟨_, rfl, cmd _ _ _ _ fun t => Touches.refl _ t⟩
  | eventsAcknowledge l ps => exact ⟨_, rfl, cmd _ _ _ _ (eventsAcknowledgeOwner_touches l ps)⟩
  | eventMaskSet l ps => exact ⟨_, rfl, cmd _ _ _ _ (eventMaskSetOwner_touches l ps)⟩
  | clipCaptureStart l ps => exact ⟨_, rfl, cmd _ _ _ _ (captureStartOwner_touches ps)⟩
  | clipCaptureStop l ps => exact ⟨_, rfl, cmd _ _ _ _ (captureStopOwner_touches ps)⟩
  | clipDelete l ps => exact ⟨_, rfl, cmd _ _ _ _ (clipDeleteOwner_touches ps)⟩
  | clipRead l ps => exact ⟨_, rfl, cmd _ _ _ _ (clipReadOwner_touches ps)⟩
  | clipRoleSet l ps => exact ⟨_, rfl, cmd _ _ _ _ (clipRoleSetOwner_touches ps)⟩
  | cueAppend l ps => exact ⟨_, rfl, cmd _ _ _ _ (cueAppendOwner_touches ps)⟩
  | cueInsert l ps => exact ⟨_, rfl, cmd _ _ _ _ (cueInsertOwner_touches ps)⟩
  | cueRemove l ps => exact ⟨_, rfl, cmd _ _ _ _ (cueRemoveOwner_touches ps)⟩
  | cueClear l ps => exact ⟨_, rfl, cmd _ _ _ _ cueClearOwner_touches⟩
  | cueListRead l ps => exact ⟨_, rfl, cmd _ _ _ _ (cueListReadOwner_touches ps)⟩
  | streamRelease l ps => exact ⟨_, rfl, cmd _ _ _ _ (streamReleaseOwner_touches ps)⟩
  | cueGo l ps => exact ⟨_, rfl, cmd _ _ _ _ fun t => (goCue_touches t).mono⟩
  | cueStop l ps => exact ⟨_, rfl, cmd _ _ _ _ fun t => (stopCue_touches t).mono (by decide)⟩
  | airStart l ps => exact ⟨_, rfl, cmd _ _ _ _ airStart_touches⟩
  | airStop l ps => exact ⟨_, rfl, cmd _ _ _ _ airStopOwner_touches⟩
  | softReset l ps => exact ⟨_, rfl, cmd _ _ _ _ fun t => Touches.refl _ t⟩
  | delayTargetSet l ps =>
    exact ⟨_, rfl, cmd _ _ _ _ fun t => ((Touches.refl _ t).and (delay_touches _ t)).and (workOutDelay_touches _)⟩
  | dump l ps => exact ⟨_, rfl, cmd _ _ _ _ fun t => (operatorDump_touches t).mono⟩
  | delaySettingsSet l ps => exact ⟨_, rfl, cmd _ _ _ _ (delaySettingsSetOwner_touches ps)⟩
  | studioSet l ps => exact ⟨_, rfl, cmd _ _ _ _ (studioSetOwner_touches ps)⟩
  | slotGainSet l ps => exact ⟨_, rfl, cmd _ _ _ _ (slotGainSetOwner_touches ps)⟩
  | callerTakeNext l ps => exact ⟨_, rfl, cmd _ _ _ _ fun t => (takeNext_touches t).mono⟩
  | callerTakeLine l ps => exact ⟨_, rfl, cmd _ _ _ _ (takeLineOwner_touches ps)⟩
  | callerRelease l ps => exact ⟨_, rfl, cmd _ _ _ _ (callerReleaseOwner_touches ps)⟩
  | alertSettingsSet l ps => exact ⟨_, rfl, cmd _ _ _ _ (alertSettingsSetOwner_touches ps)⟩
  | supervisionSet l ps => exact ⟨_, rfl, cmd _ _ _ _ (supervisionSetOwner_touches ps)⟩
  | panelConfigure l ps => exact ⟨_, rfl, cmd _ _ _ _ (panelConfigureOwner_touches ps)⟩
  | panelOutputSet l ps => exact ⟨_, rfl, cmd _ _ _ _ (panelOutputSetOwner_touches ps)⟩
  | memorySettingsSet l ps => exact ⟨_, rfl, cmd _ _ _ _ (memorySettingsSetOwner_touches ps)⟩
  | linkSettingsSet l ps => exact ⟨_, rfl, cmd _ _ _ _ (linkSettingsSetOwner_touches ps)⟩
  | profileProgram l ps => exact ⟨_, rfl, cmd _ _ _ _ (profileProgramOwner_touches ps)⟩
  | profileRead l ps => exact ⟨_, rfl, cmd _ _ _ _ (profileReadOwner_touches ps)⟩
  | alertCancel l ps => exact ⟨_, rfl, cmd _ _ _ _ (alertCancelOwner_touches l ps)⟩
  | lineConnect l ps => exact ⟨_, rfl, cmd _ _ _ _ (lineConnectOwner_touches ps)⟩
  | lineDown l ps => exact ⟨_, rfl, cmd _ _ _ _ (lineDownOwner_touches ps)⟩
  | lineMeasure l ps => exact ⟨_, rfl, cmd _ _ _ _ (lineMeasureOwner_touches ps)⟩
  | callerAdmit l ps => exact ⟨_, rfl, cmd _ _ _ _ (callerAdmitOwner_touches ps)⟩
  | callerUpdate l ps => exact ⟨_, rfl, cmd _ _ _ _ (callerUpdateOwner_touches ps)⟩
  | callerWithdraw l ps => exact ⟨_, rfl, cmd _ _ _ _ (callerWithdrawOwner_touches ps)⟩
  | queueRead l ps => exact ⟨_, rfl, cmd _ _ _ _ fun t => Touches.refl _ t⟩
  | alertBegin l ps => exact ⟨_, rfl, cmd _ _ _ _ (alertBeginOwner_touches ps)⟩
  | alertAudioEnd l ps => exact ⟨_, rfl, cmd _ _ _ _ (alertAudioEndOwner_touches ps)⟩
  | alertRead l ps => exact ⟨_, rfl, cmd _ _ _ _ (alertReadOwner_touches ps)⟩
  | alertHistoryRead l ps => exact ⟨_, rfl, cmd _ _ _ _ (alertHistoryReadOwner_touches ps)⟩
  | unknownCommand l code ps =>
    refine ⟨_, rfl, ?_⟩
    split
    · rfl
    · exact cmd _ _ _ _ fun _ => trivial
  | badFrame f =>
    refine ⟨_, rfl, ?_⟩
    unfold badFrame
    split
    · dsimp only
      split <;> rfl
    · rfl
  | frameWhileBusy l frame =>
    refine ⟨_, rfl, ?_⟩
    unfold frameWhileBusy
    split <;> rfl
  | frameAbandoned l bs cause =>
    refine ⟨_, rfl, ?_⟩
    unfold frameAbandoned
    split <;> rfl
  | responseSent l =>
    refine ⟨_, rfl, ?_⟩
    unfold responseSent
    split
    · split
      · exact softReset_waiting s
      · rfl
    · rfl
  | softResetMade =>
    refine ⟨_, rfl, ?_⟩
    unfold softResetMade
    split
    · exact softReset_waiting s
    · rfl
  | silentFillComplete =>
    refine ⟨_, rfl, ?_⟩
    unfold silentFillComplete
    split <;> rfl
  | powerOn => exact ⟨_, rfl, (beginPowerUp_waiting _ _).trans (due .profileDone)⟩
  | hardwareReset =>
    refine ⟨_, rfl, ?_⟩
    split
    · rfl
    · exact (beginPowerUp_waiting _ _).trans (due .profileDone)
  | powerUpEnd =>
    refine ⟨_, rfl, ?_⟩
    exact endPowerUp_touches s .pending (by decide)
  | inputBlockBoundary env => exact ⟨_, rfl, inputBoundary_touches env s .pending (by decide)⟩
  | outputBlockBoundary env => exact ⟨_, rfl, outputBoundary_touches env s .pending (by decide)⟩
  | clockLost arrived =>
    refine ⟨_, rfl, ?_⟩
    unfold loseClock
    split <;> exact due .clockRestored
  | clockRestored => exact ⟨_, rfl, due _⟩
  | statusFrame b =>
    refine ⟨_, rfl, ?_⟩
    unfold receiveStatus
    split
    · split
      · exact ((settleLink_touches s).and (takeStatus_touches _ _)) .pending (by decide)
      · rfl
    · rfl
  | invalidStatusFrame bs =>
    refine ⟨_, rfl, ?_⟩
    unfold receiveInvalidStatus
    split
    · split
      · split <;> rfl
      · split <;> rfl
    · rfl
  | statusAgeLimit => exact ⟨_, rfl, due _⟩
  | linkTimeout => exact ⟨_, rfl, due _⟩
  | fadeComplete c => exact ⟨_, rfl, due _⟩
  | measureDone => exact ⟨_, rfl, due _⟩
  | captureMaxLength ch => exact ⟨_, rfl, due _⟩
  | alertCaptureFull => exact ⟨_, rfl, due _⟩
  | liveAlertLimit => exact ⟨_, rfl, due _⟩
  | durationLimit v => exact ⟨_, rfl, due _⟩
  | endFadeStart v => exact ⟨_, rfl, due _⟩
  | cancelWindowClose => exact ⟨_, rfl, due _⟩
  | alertExpiry k => exact ⟨_, rfl, due _⟩
  | holdLimitReached k => exact ⟨_, rfl, due _⟩
  | confirmWindowExpiry k => exact ⟨_, rfl, due _⟩
  | silenceWindow => exact ⟨_, rfl, due _⟩
  | fillAnswer => exact ⟨_, rfl, due _⟩
  | profileDone => exact ⟨_, rfl, due _⟩
  | powerLoss => exact ⟨_, rfl, due .profileDone⟩
  | resetLineLow =>
    refine ⟨_, rfl, ?_⟩
    split
    · rfl
    · exact due .profileDone

end Sys2Proof.Laws
end

