-- ==== Sys2Proof/Tests/Slice0.lean ====
section
/-! SUPPORT. Tests: ill-formed commands refused; the spec's worked cases; and, for every statement with hypotheses, a
theorem `witness_<statement>` whose parts are, clause by clause, concrete states and operands that meet them. -/

namespace Sys2Proof.Tests

-- the tests one after the other: in one text, all at once they ask for more threads than the compile has
set_option Elab.async false

open Sys2Proof.Machine Sys2Proof.Safety

-- well-formed commands

theorem test_long_parameters_are_ill_formed : (Instr.alertBegin .A (List.replicate 250 0x30)).wellFormed = false ∧
    (Instr.alertBegin .A (List.replicate 249 0x30)).wellFormed = true := by decide +kernel

theorem test_a_known_code_is_no_unknown_command : (Instr.unknownCommand .P 0x01 []).wellFormed = false ∧
    (Instr.unknownCommand .P 0x06 []).wellFormed = true ∧
    (Instr.unknownCommand .P 0x06 (List.replicate 250 0)).wellFormed = false := by decide +kernel

theorem test_a_good_length_byte_abandons_nothing : (Instr.frameAbandoned .S [0xA5] (.badLength 250)).wellFormed = false ∧
    (Instr.frameAbandoned .S [0xA5] (.badLength 251)).wellFormed = true ∧
    (Instr.frameAbandoned .S [0xA5] (.badLength 0)).wellFormed = true := by decide +kernel

theorem test_a_frame_holds_at_most_252_bytes : (Instr.frameAbandoned .S (List.replicate 253 0) .badStop).wellFormed = false := by
  decide +kernel

theorem test_upsets_name_segments :
    (Instr.outputBlockBoundary ⟨[(16384, Block.silent)], [], false⟩).wellFormed = false ∧
      (Instr.outputBlockBoundary ⟨[(16383, Block.silent)], [], false⟩).wellFormed = true := by decide +kernel

/-- What the outside world brings to an input block boundary at which nothing arrives. -/
def nothing : InputBoundary :=
  ⟨Vector.replicate 480 none, .throughout, Vector.replicate 8 .high, [], [], [], false⟩

theorem test_upsets_of_an_input_boundary_name_segments :
    (Instr.inputBlockBoundary { nothing with upsets := [(16384, Block.silent)] }).wellFormed = false ∧
      (Instr.inputBlockBoundary nothing).wellFormed = true := by decide +kernel

theorem test_a_lost_clock_leaves_part_of_a_block : (Instr.clockLost 480).wellFormed = false ∧
    (Instr.clockLost 479).wellFormed = true := by decide +kernel

/-- A status frame of R197: last in order 0102h, no frame missing, carrier on; its CRC-16 was worked out outside the
model. -/
def goodStatus : Vector Byte 8 := #v[0x5A, 0xC6, 0x01, 0x02, 0x00, 0x01, 0x0E, 0x4E]

theorem test_status_frames_pass_their_check : (Instr.statusFrame goodStatus).wellFormed = true ∧
    (Instr.statusFrame (goodStatus.set 7 0x4F)).wellFormed = false ∧
    (Instr.invalidStatusFrame goodStatus.toList).wellFormed = false ∧
    (Instr.invalidStatusFrame (List.replicate 9 0)).wellFormed = false ∧
    (Instr.invalidStatusFrame (goodStatus.toList.take 7)).wellFormed = true := by decide +kernel

/-- R156: the fields of that frame. -/
theorem test_status_fields : parseStatus goodStatus = some ⟨0x0102, 0, true, false⟩ := by decide +kernel

-- the check bytes of chapter 10

/-- R196's worked frame: IDENTIFY is A5h, 01h, 01h, 12h. -/
theorem test_identify_frame : frameOf [0x01] = [0xA5, 0x01, 0x01, 0x12] := by decide +kernel

/-- R196's worked answer: BUSY to that frame is A5h, 02h, 01h, 0Ah, F5h. -/
theorem test_busy_frame : ((Owed.command 1).response).frame = [0xA5, 0x02, 0x01, 0x0A, 0xF5] := by decide +kernel

/-- R24's CRC-16 over "123456789" is 29B1h, the published check value of polynomial 1021h from FFFFh. -/
theorem test_crc16_check_value :
    crc16 [0x31, 0x32, 0x33, 0x34, 0x35, 0x36, 0x37, 0x38, 0x39] = 0x29B1 := by decide +kernel

-- the worked fade sequence of chapter 01

theorem test_fade_upwards : [0, 239, 479].map (frameGain ⟨0, 32768, 3, 0, .level⟩) = [22, 5461, 10922] ∧
    [0, 239, 479].map (frameGain ⟨0, 32768, 3, 1, .level⟩) = [10944, 16383, 21845] ∧
    [0, 239, 479].map (frameGain ⟨0, 32768, 3, 2, .level⟩) = [21867, 27306, 32768] := by decide +kernel

theorem test_fade_downwards : [0, 1, 2, 3].map (fadeGain 32768 0 3) = [32768, 21846, 10923, 0] ∧
    frameGain ⟨32768, 0, 3, 0, .level⟩ 0 = 32746 ∧ fadeGain 21845 0 2 1 = 10923 := by decide +kernel

-- the worked mix case of chapter 01 and R11's and R13's numbers

theorem test_products_round_downwards : product (BitVec.ofInt 24 (-3)) 16384 = -2 ∧
    product (BitVec.ofInt 24 (-200000)) 49152 = -300000 ∧ effectiveGain 32768 6144 = 49152 ∧
    effectiveGain 32768 16384 = 65535 ∧ effectiveGain 32768 4096 = 32768 := by decide +kernel

/-- STUDIO 1,000,000 and CALLER 1 −200,000 at trim 6,144, with VOICE A 7,000,000 (source 1 here for the clip). -/
def workedMix : State :=
  let on (n : Source) : Contrib := ⟨some (.source n), 32768, 32768, none, none⟩
  let s := State.reset
  { s with
    mix := { s.mix with studio := on 0, voiceA := on 1, caller1 := on 3 }
    callers := { s.callers with lines := s.callers.lines.set 0 ⟨.onAir, 6144, none, none, none, some 0, .pass⟩ } }

/-- The blocks of the worked mix, VOICE A's sample given. -/
def workedBlocks (voice : Int) : Contributor → Block
  | .studio => Vector.replicate 480 ⟨BitVec.ofInt 24 1000000, 0⟩
  | .voiceA => Vector.replicate 480 ⟨BitVec.ofInt 24 voice, 0⟩
  | .caller1 => Vector.replicate 480 ⟨BitVec.ofInt 24 (-200000), 0⟩
  | _ => Block.silent

theorem test_worked_mix :
    ([none, some Contributor.caller1, some .caller2].map fun w =>
      (mixFrame workedMix (workedBlocks 7000000) w 0).left.toInt) = [7700000, 8000000, 7700000] := by decide +kernel

theorem test_worked_mix_saturates :
    ([none, some Contributor.caller1, some .caller2].map fun w =>
      (mixFrame workedMix (workedBlocks 7800000) w 0).left.toInt) = [8388607, 8388607, 8388607] := by decide +kernel

-- the worked cases of chapter 03

theorem test_interpolation :
    interpolate (fun j => if j = 97 then 1000 else 1600) 468 100 = 1300 ∧
      interpolate (fun j => if j = 97 then -1000 else -1601) 468 100 = -1301 := by decide +kernel

theorem test_stretches : [960000, 480012, 479976, 144000, 143976, 24000, 23988, 3].map (fun d =>
    chooseShape Config.delay (960000 - d) 960000 false 8388608) =
      [.stretch 36, .stretch 36, .stretch 24, .stretch 24, .stretch 12, .stretch 12, .stretch 5, .stretch 3] := by
  decide +kernel

theorem test_quiet_stretches : chooseShape Config.delay (960000 - 24000) 960000 false 32767 = .stretch 24 ∧
    chooseShape { Config.delay with s1 := 30 } 0 960000 false 0 = .stretch 48 ∧
    chooseShape Config.delay (960000 - 7) 960000 false 0 = .stretch 7 := by decide +kernel

theorem test_shrink : chooseShape Config.delay 960000 720000 false 0 = .compress 12 ∧
    chooseShape Config.delay 720005 720000 false 0 = .compress 5 ∧
    chooseShape Config.delay 840000 960000 false 40000 = .stretch 12 := by decide +kernel

-- states for the witnesses

/-- ON_AIR in NORMAL, the delay BUILDING at E = 0, a block written and nothing read. -/
def airing : State :=
  let s := State.reset
  { s with
    dev := { s.dev with state := .onAir }
    sup := { s.sup with mode := some .normal }
    delay := { s.delay with writeHead := 1, readPos := some (2002, 479), fed := true, state := .building }
    panel := { s.panel with reports := { s.panel.reports with onAir := true } } }

/-- `s` with one event found due. -/
def due (d : Due) (s : State) : State := { s with due := [d] }

/-- `s` with the fallback air mode. -/
def inFallback (s : State) : State := { s with sup := { s.sup with mode := some .fallback } }

/-- `s` in POWER_UP. -/
def poweringUp (s : State) : State := { s with dev := { s.dev with state := .powerUp } }

/-- A contributor sounding source `n` at full gain, with a running and a pending fade. -/
def sounding (n : Source) (fade : Option Fade) (waiting : Option PendingFade) : Contrib :=
  ⟨some (.source n), 32768, 32768, fade, waiting⟩

/-- `s` with link P's identify command in flight, answered. -/
def busyP (s : State) : State := answered .P 0x01 .ok .none s

/-- `s` with `n` frames owed an answer on link P. -/
def owing (n : Nat) (s : State) : State := s.modLink .P fun p => { p with owed := List.replicate n .badFrame }

/-- No record takes the air at a check with none queued. -/
theorem none_queued {s : State} (h : s.alerts.queue = []) (c : Check) (v : EngineState) : NoneTakes c v s :=
  .inr (.inr fun k hk => by rw [h] at hk; cases hk)

-- witnesses: control links

theorem witness_IdentifyAnswers : (∀ l : Link, (l = .P ∨ l = .C ∨ l = .S ∨ l = .A) → Takes l State.reset) ∧
    Takes .P airing ∧ Takes .P (inFallback airing) := by
  refine ⟨fun l _ => ?_, ?_⟩
  · cases l <;> (unfold Takes; decide +kernel)
  · unfold Takes; decide +kernel

theorem witness_StatusReadPages : Takes .S State.reset ∧ 5 < (6 : Byte).toNat ∧ 5 < (255 : Byte).toNat := by
  unfold Takes; decide +kernel

theorem witness_EventsReadReturnsThePendingEvents :
    Takes .P (raise .P .engineHeld State.reset) ∧ Ascending ((raise .P .engineHeld State.reset).link .P).events := by
  unfold Takes Ascending; decide +kernel

theorem witness_ListsAreRead : Takes .P State.reset ∧ Takes .S State.reset ∧
    (1 ≤ (1 : Byte).toNat ∧ (1 : Byte).toNat ≤ 32) ∧ 1 ≤ (32 : Byte).toNat ∧ (32 : Byte).toNat ≤ 32 := by
  unfold Takes; decide +kernel

/-- An event not pending, and one that is, at a count of 255 too. -/
theorem witness_RaisingAnEvent :
    let s := State.reset.modLink .C fun p => { p with events := [⟨.resetDone .powerOn, 255⟩] }
    Ascending (s.link .C).events ∧ (∀ q ∈ (s.link .C).events, q.event.number ≠ Event.clockLost.number) ∧
      (∃ q ∈ (s.link .C).events, q.event.number = (Event.resetDone .soft).number ∧ q.count = 255) ∧
      (∃ p ∈ (s.link .C).events, p.event.number ≠ Event.clockLost.number) := by
  unfold Ascending; decide +kernel

theorem witness_AttnFollowsThePendingEvents :
    ((poweringUp State.reset).dev.supply = .running ∧ (poweringUp State.reset).dev.state = .powerUp) ∧
      State.reset.dev.supply = .running ∧ State.reset.dev.state ≠ .powerUp := by decide +kernel

/-- A number of another link, and the lowest and highest numbers of link C. -/
theorem witness_AcknowledgingAnEvent : Takes .C State.reset ∧ (0x10 : Byte).toNat ∉ linkEvents .C ∧
    (0x01 : Byte).toNat ∈ linkEvents .C ∧ (0x2E : Byte).toNat ∈ linkEvents .C ∧
    Ascending (State.reset.link .C).events := by
  unfold Takes Ascending; decide +kernel

/-- No event, 25 events, and a number that is no event of the link. -/
theorem witness_SettingTheEventMask : Takes .A State.reset ∧ (∀ b ∈ ([] : List Byte), b.toNat ∈ linkEvents .A) ∧
    (List.replicate 25 (0x40 : Byte)).length ≤ 25 ∧ (∀ b ∈ List.replicate 25 (0x40 : Byte), b.toNat ∈ linkEvents .A) ∧
    ∃ b ∈ [(0x40 : Byte), 0x41], b.toNat ∉ linkEvents .A := by
  unfold Takes; decide +kernel

/-- The codes on both sides of the table's groups. -/
theorem witness_UnknownCommandsAreAnswered : LinkFree .P State.reset ∧ Settled State.reset ∧
    Settled (due .fillAnswer State.reset) ∧
    ∀ code ∈ [(0x00 : Byte), 0x06, 0xFF], ∀ r ∈ commandTable, r.code ≠ code.toNat := by
  unfold LinkFree Settled; decide +kernel

/-- An unknown code; a wrong link; a state in which the command is not taken; one parameter byte too many. -/
theorem witness_FailedChecksAreAnswered :
    (LinkFree .P State.reset ∧ LinkFree .C State.reset ∧ Settled State.reset) ∧
    ((Instr.unknownCommand .P 0x06 []).frame = some (.P, 0x06, []) ∧ ∀ r ∈ commandTable, r.code ≠ 0x06) ∧
    ((Instr.airStop .P []).frame = some (.P, 0x31, []) ∧ ∃ r ∈ commandTable, r.code = 0x31 ∧ Link.P ∉ r.links) ∧
    ((Instr.airStop .C []).frame = some (.C, 0x31, []) ∧
      ∃ r ∈ commandTable, r.code = 0x31 ∧ Link.C ∈ r.links ∧ r.taken State.reset = false) ∧
    ((Instr.airStart .C [0]).frame = some (.C, 0x30, [0]) ∧
      ∃ r ∈ commandTable, r.code = 0x30 ∧ Link.C ∈ r.links ∧ r.taken State.reset = true ∧ r.params.admits 1 = false) := by
  unfold LinkFree Settled
  constructorm* _ ∧ _ <;> decide +kernel

theorem witness_RefusedCommandsChangeNothing :
    let t := answered .P 0x32 .notPermitted .none State.reset
    (Instr.softReset .P []).frame = some (.P, 0x32, []) ∧ LinkFree .P State.reset ∧ Settled State.reset ∧
      exec (.softReset .P []) State.reset = .next t ∧
      (t.link .P).inFlight = some ⟨0x32, some ⟨0x32, .notPermitted, .none⟩⟩ ∧ Status.notPermitted ≠ .ok :=
  ⟨rfl, ⟨rfl, rfl, rfl⟩, fun _ h => (nomatch h), rfl, rfl, by decide⟩

/-- A body of one byte and one of 250, each with a check byte that is not its own. -/
theorem witness_BadFrameIsAnswered : (∀ l ∈ [Link.P, .A], State.reset.dev.supply = .running ∧
    (State.reset.link l).inFlight = none ∧ (State.reset.link l).owed = []) ∧
    (1 ≤ [(1 : Byte)].length ∧ crc8 (BitVec.ofNat 8 1 :: [1]) ≠ 0x13) ∧
    (List.replicate 250 (0 : Byte)).length ≤ 250 ∧ crc8 (BitVec.ofNat 8 250 :: List.replicate 250 0) ≠
      crc8 (BitVec.ofNat 8 250 :: List.replicate 250 0) + 1 := by
  have ne (x : BitVec 8) : x ≠ x + 1 := fun h => by simp at h
  exact ⟨by decide +kernel, by decide +kernel, by decide +kernel, ne _⟩

/-- A command in flight with 7 frames owed, and 8 frames owed with nothing in flight. -/
theorem witness_FramesOfABusyLinkAreOwed :
    ((owing 7 (busyP State.reset)).dev.supply = .running ∧ ((owing 7 (busyP State.reset)).link .P).inFlight.isSome = true ∧
      ((owing 7 (busyP State.reset)).link .P).owed.length = 7) ∧
    ((owing 8 State.reset).dev.supply = .running ∧ ((owing 8 State.reset).link .P).owed ≠ []) ∧
    (Instr.cueGo .P []).frame = some (.P, (0x20 : Byte).toNat, []) ∧ ([] : List Byte).length ≤ 249 ∧
    crc8 [1, 0x20] = 0xF5 ∧ crc8 [1, 0x20] ≠ 0xF4 := by decide +kernel

theorem witness_SentResponsesFreeTheLink :
    (State.reset.dev.supply = .running ∧ ((busyP State.reset).link .P).inFlight = some ⟨0x01, some ⟨0x01, .ok, .none⟩⟩) ∧
    (∃ f, ((answered .C 0x31 .ok .none State.reset).link .C).inFlight = some f ∧ f.answer.isSome = true ∧
      f.answer ≠ some ⟨0x32, .ok, .none⟩) ∧
    ((owing 8 State.reset).link .P).inFlight = none :=
  ⟨⟨rfl, rfl⟩, ⟨_, rfl, rfl, by decide⟩, rfl⟩

/-- Frames of one byte and of 250; no byte received, a length awaited, a body begun; the bad length bytes 0 and 251. -/
theorem witness_AbandonedFramesAreCounted :
    ((1 ≤ 1 ∧ 1 ≤ 250 ∧ [(0 : Byte)].length = 1) ∧ (List.replicate 250 (0 : Byte)).length = 250) ∧
    State.reset.dev.supply = .running ∧
    (State.reset.link .S).receiver.bytes [0xA5, 0x02, 0x00] = some (.body 2 1) ∧ Receiver.body 2 1 ≠ .hunting ∧
    (State.reset.link .S).receiver.bytes [0xA5] = some .length ∧ (0 : Byte).toNat = 0 ∧ 250 < (251 : Byte).toNat ∧
    (State.reset.link .S).receiver.bytes [] = some .hunting := by decide +kernel

-- witnesses: the air mix and the clock

/-- The last frame of the longest fade and the first of the shortest; an active contributor that fades nowhere. -/
theorem witness_FadeGainsStayBetweenTheirEnds :
    (1 ≤ 1 ∧ 1 ≤ 500 ∧ 0 ≤ 65535 ∧ 65535 ≤ 65535 ∧ 0 < 1 ∧ 0 < 480) ∧ (1 ≤ 500 ∧ 499 < 500 ∧ 479 < 480) ∧
    ((State.reset.setContrib .studio (sounding 0 none none)).contrib .studio).active = true ∧
    ((State.reset.setContrib .studio (sounding 0 none none)).contrib .studio).fadingOut = false := by decide +kernel

theorem witness_TheSumsOfTheMix : workedMix.mix.alert.binding = none ∧
    workedMix.trimOf .caller1 = some 6144 ∧ workedMix.trimOf .studio = none := by decide +kernel

/-- `nothing` with the word clock seen as given. -/
def clocked (c : ClockSeen) : InputBoundary := { nothing with clock := c }

/-- `s` on the internal clock with a return count. -/
def onInternal (n : Nat) (s : State) : State :=
  { s with dev := { s.dev with clock := .internal, returnCount := n, arrived := 479 } }

theorem witness_InputBlocksComplete : airing.live = true ∧ airing.due = [] ∧
    ((onInternal 0 airing).dev.clock = .internal ∧ (onInternal 0 airing).dev.arrived ≤ (479 : Fin 480).val) := by
  decide +kernel

/-- The word clock present; the internal clock at return counts 0, 98, 99 and 100. -/
theorem witness_ClocksAreLostAndRestored :
    let onWord : State := { airing with dev := { airing.dev with clock := .wordClock } }
    (onWord.live = true ∧ onWord.dev.clock = .wordClock ∧ 479 < 480 ∧ onWord.due = [] ∧ onWord.dev.returnCount < 100 ∧
      .clockRestored ∉ onWord.due ∧ (due .clockRestored (onInternal 100 airing)).due = [.clockRestored]) ∧
    (Found .clockRestored (due .clockRestored (onInternal 100 airing)) ∧
      (due .clockRestored (onInternal 100 airing)).dev.clock = .internal ∧
      100 ≤ (due .clockRestored (onInternal 100 airing)).dev.returnCount) ∧
    ((clocked .throughout).first = [] ∧ (clocked .throughout).leave = false ∧
      (clocked .throughout).clock = .throughout ∧ (clocked .brief).clock = .brief ∧ (clocked .long).clock = .long) ∧
    ((onInternal 98 airing).live = true ∧ (onInternal 98 airing).due = [] ∧ (onInternal 98 airing).dev.returnCount < 99) ∧
    (onInternal 99 airing).dev.returnCount = 99 ∧ (onInternal 99 airing).dev.returnCount < 100 := by
  unfold Found; decide +kernel

/-- Line 1 in slot 1, STUDIO on: two boundaries between which only S3 differs, on air. -/
theorem witness_MixMinusNeverContainsItsCaller :
    let period (x : Sample) : BusPeriod := (Vector.replicate 8 ⟨7, 7⟩).set 3 ⟨x, x⟩
    let env (x : Sample) : InputBoundary := { nothing with bus := Vector.replicate 480 (some (period x)) }
    let s := (airing.setContrib .caller1 (sounding 3 none none)).setContrib .studio (sounding 0 none none)
    s.live = true ∧ s.due = [] ∧ (s.contrib (slotContributor 0)).binding = some (.source 3) ∧
      (∀ c, c ≠ slotContributor 0 → (s.contrib c).binding ≠ some (.source 3)) ∧
      { env 8388607 with bus := (env 1).bus } = env 1 ∧
      (∀ j : Fin 480, ((env 1).bus[j]).isSome = ((env 8388607).bus[j]).isSome ∧
        ∀ p p', (env 1).bus[j] = some p → (env 8388607).bus[j] = some p' → ∀ m : Fin 8, m ≠ 3 → p[m] = p'[m]) := by
  refine ⟨rfl, rfl, rfl, ?_, rfl, ?_⟩
  · intro c; cases c <;> decide +kernel
  · intro j
    simp only [Fin.getElem_fin, Vector.getElem_replicate, Option.isSome_some, Option.some.injEq, true_and]
    rintro _ _ rfl rfl m hm
    revert m; decide +kernel

theorem witness_AlertSoundsAlone :
    let s := airing.setContrib .alert ⟨some (.source 7), 32768, 32768, none, none⟩
    s.live = true ∧ s.due = [] ∧ s.mix.alert = ⟨some (.source 7), 32768, 32768, none, none⟩ := by decide +kernel

/-- A LEVEL and an OUT fade of STUDIO, and the OUT fade of a voice that is RELEASING, each of 500 blocks all done. -/
theorem witness_CompletedFades :
    let f (p : Purpose) : Fade := ⟨32768, 0, 500, 500, p⟩
    let studio (p : Purpose) : State := due (.fadeComplete .studio) (airing.setContrib .studio (sounding 0 (some (f p)) none))
    let voice : State := due (.fadeComplete .voiceA)
      ((airing.setContrib .voiceA (sounding 1 (some (f .out)) none)).setVoice .A (.releasing 3))
    (Found (.fadeComplete .studio) (studio .level) ∧ ((studio .level).contrib .studio).fade = some (f .level) ∧
      (f .level).length ≤ (f .level).done) ∧
    (Found (.fadeComplete .studio) (studio .out) ∧ ((studio .out).contrib .studio).fade = some (f .out)) ∧
    Found (.fadeComplete .voiceA) voice ∧ (voice.contrib .voiceA).fade = some (f .out) ∧
      voice.cue.voiceA = .releasing 3 ∧ voice.clips.readerA = none := by
  unfold Found; decide +kernel

/-- STUDIO inactive; active; fading out; and the switch values 1, 0 and 2; fade lengths 0, 500 and 65,535. -/
theorem witness_StudioSetTable :
    let on (fade : Option Fade) : State := airing.setContrib .studio (sounding 0 fade none)
    let out : Fade := ⟨32768, 0, 10, 3, .out⟩
    (Takes .C airing ∧ airing.sup.mode ≠ some .fallback ∧
      ¬(airing.sup.mode = some .alert ∧ airing.sup.remembered = some .fallback) ∧ airing.mix.studio.binding = none) ∧
    (Takes .C (on none) ∧ (on none).mix.studio.binding.isSome = true ∧ (on none).mix.studio.fade = none ∧
      (on none).mix.studio.waiting = none) ∧
    (Takes .C (on (some out)) ∧ (on (some out)).mix.studio.fade = some out ∧ out.purpose = .out) ∧
    min 500 ((0 : Byte).toNat * 256 + (0 : Byte).toNat) = 0 ∧
    min 500 ((255 : Byte).toNat * 256 + (255 : Byte).toNat) ≠ 0 ∧ (2 : Byte) ≠ 0 ∧ (2 : Byte) ≠ 1 := by
  unfold Takes; decide +kernel

/-- A slot number above 2; slot 2 empty, occupied, and with a release pending. -/
theorem witness_SlotGainSetLevels :
    let on (w : Option PendingFade) : State := airing.setContrib .caller2 (sounding 4 none w)
    (Takes .C airing ∧ (3 : Byte) ≠ 1 ∧ (3 : Byte) ≠ 2 ∧ (2 : Byte).toNat = (1 : CallerSlot).val + 1 ∧
      (airing.contrib (slotContributor 1)).binding = none) ∧
    (Takes .C (on none) ∧ ((on none).contrib (slotContributor 1)).binding.isSome = true ∧
      ((on none).contrib (slotContributor 1)).fade = none ∧ ((on none).contrib (slotContributor 1)).waiting = none) ∧
    ((on (some ⟨0, 500, .out⟩)).contrib (slotContributor 1)).waiting = some ⟨0, 500, .out⟩ := by
  unfold Takes; decide +kernel

-- witnesses: the programme delay and the air

theorem witness_DelayTargetSetTakesTheTarget : Takes .C State.reset ∧ Takes .C airing ∧
    (255 : Byte).toNat * 256 + (255 : Byte).toNat > airing.mem.ring - 3 := by
  unfold Takes; decide +kernel

/-- Every value at an end of its range; one value past each end. -/
theorem witness_DelaySettingsSetTakesThemAll :
    let good (bA bB bC quiet dumpStep : Nat) : Prop :=
      1 ≤ bA ∧ bA < bB ∧ bB < bC ∧ bC ≤ 4000 ∧ quiet ≤ 8388608 ∧ 1 ≤ dumpStep ∧ dumpStep ≤ 4000
    Takes .C State.reset ∧ good 1 2 4000 8388608 4000 ∧ good 1 2 3 0 1 ∧ ¬good 0 2 3 0 1 ∧ ¬good 2 2 3 0 1 ∧
      ¬good 1 2 4001 0 1 ∧ ¬good 1 2 3 8388609 1 ∧ ¬good 1 2 3 0 0 ∧ ¬good 1 2 3 0 4001 := by
  unfold Takes; constructorm* _ ∧ _ <;> decide +kernel

/-- `s` with a pending dump, an excess and a count of alert segments. -/
def delaying (dump : Option DumpStep) (excess alertSegs : Nat) (s : State) : State :=
  { s with delay := { s.delay with dump := dump, excess := excess, alertSegs := alertSegs } }

theorem witness_DumpBecomesPending :
    let off : State := { airing with delay := { airing.delay with state := .off } }
    (Takes .C off ∧ off.dev.state = .onAir ∧ off.delay.state = .off) ∧
    (Takes .C (delaying none 0 1 airing) ∧ (delaying none 0 1 airing).dev.state = .onAir ∧
      0 < (delaying none 0 1 airing).delay.alertSegs) ∧
    Takes .C airing ∧ airing.dev.state = .onAir ∧ airing.delay.state ≠ .off ∧ airing.delay.alertSegs = 0 := by
  unfold Takes; decide +kernel

/-- An operator dump and a forced one, at the last offset of a segment. -/
theorem witness_DumpsStopAtAnAlert :
    let a := delaying (some (.blocks 4000)) 960000 1 airing
    let b := delaying (some .unlimited) 0 0 airing
    (a.delay.dump = some (.blocks 4000) ∧ a.delay.readPos = some (2002, 479) ∧ 479 < 480) ∧
      b.delay.dump = some .unlimited ∧ b.delay.readPos = some (2002, 479) := by decide +kernel

/-- The default settings at each side of the target, one sample away; with values of zero too. -/
theorem witness_ReadShapesApproachTheTarget :
    let c := Config.delay
    (c.bA < c.bB ∧ c.bB < c.bC ∧ c.s1 ≤ 48 ∧ c.s2 ≤ 48 ∧ c.s3 ≤ 48 ∧ c.s4 ≤ 48) ∧
    (959999 < 960000 ∧ 960000 - 959999 < 480 * c.bA ∧ c.s4 ≠ 0 ∧ { c with s4 := 0 }.s4 = 0) ∧
    (960000 < 960001 ∧ c.q ≠ 0 ∧ { c with q := 0 }.q = 0) := by decide +kernel

/-- An output block boundary that brings nothing. -/
def quiet : OutputBoundary := ⟨[], [], false⟩

/-- The shape of a read where the memory lists nothing: silence with peak 0, no alert. -/
theorem shape_of_silence {s : State} (h : s.mem.cells = []) (pos : Nat × Nat) : s.readShape pos =
    chooseShape s.delay.settings s.delay.excess s.delay.targetSamples false 0 := by
  have r : Segment.silent.received = Segment.silent := by simp [Segment.received, Segment.passes, Segment.silent]
  simp only [State.readShape, suspended, SampleMemory.ringSegment, SampleMemory.read, h, readCell, r]
  rfl

theorem witness_EachReadMovesTheReadPosition :
    let ok (s : State) : Prop := s.live = true ∧ s.due = [] ∧ s.delay.state ≠ .off ∧ s.delay.dump = none ∧
      s.delay.fed = true ∧ s.delay.readPos = some (2002, 479)
    let s (excess : Nat) : State := delaying none excess 0 airing
    (quiet.upsets = [] ∧ ok (s 0) ∧ (s 0).readShape (2002, 479) = .stretch 48) ∧
    (ok (s 959999) ∧ (s 959999).readShape (2002, 479) = .stretch 1) ∧
    (ok (s 960000) ∧ (s 960000).readShape (2002, 479) = .plain) ∧
    (ok (s 960001) ∧ (s 960001).readShape (2002, 479) = .compress 1) := by
  simp only [fun n => shape_of_silence (s := delaying none n 0 airing) rfl]
  constructorm* _ ∧ _ <;> decide +kernel

theorem witness_PlainReadsPassTheProgramme :
    let s := delaying none 960000 0 airing
    (s.live = true ∧ s.due = [] ∧ quiet.upsets = [] ∧ 479 < 480 ∧ s.delay.state ≠ .off ∧ s.delay.dump = none ∧
      s.delay.fed = true ∧ s.delay.readPos = some (2002, 479)) ∧ s.readShape (2002, 479) = .plain := by
  refine ⟨?_, ?_⟩
  · decide +kernel
  · rw [shape_of_silence rfl]; decide +kernel

theorem witness_EveryProgrammeBlockIsWritten : (MemoryCanonical State.reset ∧ State.reset.delay.state = .off) ∧
    MemoryCanonical airing ∧ airing.delay.state ≠ .off := by
  unfold MemoryCanonical; decide +kernel

theorem witness_AirStartPrimesTheRing : Takes .C State.reset ∧ State.reset.dev.state = .standby ∧
    State.reset.delay.state = .off ∧ MemoryCanonical State.reset := by
  unfold Takes MemoryCanonical; decide +kernel

/-- An alert record. -/
def alert (id : Nat) (cls : AlertClass) (phase : AlertPhase) : AlertRecord where
  id := id
  origin := [0x45, 0x41, 0x53]
  event := [0x54, 0x4F, 0x52]
  cls := cls
  areas := [[0x30, 0x30, 0x31, 0x32, 0x33, 0x34]]
  valid := 1
  phase := phase
  cutThrough := false
  truncated := false
  damaged := false
  clip := none
  firstSeq := none
  lastSeq := none
  age := 6000
  hold := 0
  overdue := false
  airBlocks := 0
  framesSent := 0
  clean := true
  confirm := 0

/-- `s` with a record in slot 1. -/
def withRecord (r : AlertRecord) (s : State) : State := s.setRecord 0 (some r)

/-- A GAP entry that has a voice, PLAYING. -/
def playingGap : Entry where
  kind := .gap
  limit := some 10
  tag := none
  fadeIn := 0
  fadeOut := 5
  segue := false
  level := 32768
  state := .playing
  ending := false
  successorStarted := false
  played := 3
  resume := none
  voice := some .A
  released := false

/-- `s` with a cue list and an engine state. -/
def cueing (es : List Entry) (st : EngineState) (s : State) : State :=
  { s with cue := { s.cue with entries := es, state := st } }

/-- One alert segment held; a WARNING record PENDING; a TEST record PENDING, with an entry PLAYING. -/
theorem witness_AirStopEndsTheAir :
    let w := withRecord (alert 7 .warning .pending) airing
    let t := cueing [playingGap] .playing (withRecord (alert 7 .test .pending) airing)
    (Takes .C (delaying none 0 1 airing) ∧ (delaying none 0 1 airing).dev.state = .onAir ∧
      0 < (delaying none 0 1 airing).delay.alertSegs) ∧
    (Takes .C w ∧ w.dev.state = .onAir ∧ ∃ k, ∃ r ∈ w.record k, r.cls = .warning ∧ r.phase = .pending) ∧
    Takes .C t ∧ t.dev.state = .onAir ∧ t.delay.alertSegs = 0 ∧ t.cue.state = .playing ∧
      ∀ k, ∀ r ∈ t.record k, ¬(r.phase = .airing ∨
        (r.cls = .warning ∨ r.cls = .immediate) ∧ (r.phase = .pending ∨ r.phase = .receiving)) := by
  unfold Takes
  refine ⟨?_, ⟨?_, ?_, 0, _, rfl, ?_⟩, ?_⟩ <;> decide +kernel

-- witnesses: sample memory and clips

/-- No segment free; the reserve reached, for a playout clip; a free segment for each kind of clip. -/
theorem witness_AllocationsKeepTheReserve :
    let m := SampleMemory.initial 2003 6000
    let empty : SampleMemory := { m with free := [] }
    let full : SampleMemory := { m with general := 8381 }
    let room (c : ClipRef) (m : SampleMemory) : Prop :=
      m.free ≠ [] ∧ ∀ n, c = .playout n → m.general < 16384 - m.ring - m.reserve
    (empty.wf = true ∧ ¬room (.alert 0) empty) ∧ (full.wf = true ∧ ¬room (.playout 0) full ∧ room (.alert 3) full) ∧
    (m.wf = true ∧ m.free = 2003 :: List.range' 2004 14380 ∧ room (.playout 62) m ∧ (∀ h ∈ m.held, h.1 ≠ 2003) ∧
      m.ring ≤ 2003) ∧
    ({ m with general := 8380 }.wf = true ∧ room (.playout 0) { m with general := 8380 }) := by
  refine ⟨⟨by decide +kernel, fun h => h.1 rfl⟩, ⟨by decide +kernel, ?_, ?_, ?_⟩,
    ⟨by decide +kernel, rfl, ⟨List.cons_ne_nil _ _, fun _ _ => by decide +kernel⟩, by decide +kernel, by decide +kernel⟩,
    by decide +kernel, List.cons_ne_nil _ _, fun _ _ => by decide +kernel⟩
  · exact fun h => absurd (h.2 0 rfl) (by decide +kernel)
  · exact List.cons_ne_nil _ _
  · exact fun n h => nomatch h

/-- A READY clip of two segments. -/
def twoSegments (isProtected loop : Bool) (uses : Nat) : Clip :=
  ⟨.ready, isProtected, loop, some 9, some 2003, 2, false, false, uses⟩

/-- `s` with playout clip `n` as given, over segments 2003 and 2004. -/
def withClip (n : ClipId) (c : Clip) (s : State) : State :=
  { s with
    clips := { s.clips with playout := s.clips.playout.set n c }
    mem := { s.mem with
      cells := [(2003, { Segment.silent with link := some 2004 })]
      held := [(2003, .playout n), (2004, .playout n)]
      free := [2005, 2006]
      general := 2 } }

/-- `s` with the clip-capture channels as given. -/
def capturing (a b : Option Capture) (s : State) : State :=
  { s with clips := { s.clips with channels := #v[a, b] } }

/-- Parameters in range at both ends and one past each end; a clip that is not EMPTY; both channels recording; channel 1
free; channel 2 alone free. -/
theorem witness_CapturesStart :
    let good (id src length prot tag : Nat) (tagged : Bool) : Prop := 1 ≤ id ∧ id ≤ 63 ∧ src ≤ 8 ∧ 1 ≤ length ∧
      length ≤ 12000 ∧ prot ≤ 1 ∧ (tagged = true → tag ≠ 0)
    let c : Capture := ⟨5, .pgmLive, 10⟩
    (good 63 8 12000 1 1 true ∧ good 1 0 1 0 0 false ∧ ¬good 0 8 1 0 0 false ∧ ¬good 64 8 1 0 0 false ∧
      ¬good 1 9 1 0 0 false ∧ ¬good 1 8 0 0 0 false ∧ ¬good 1 8 12001 0 0 false ∧ ¬good 1 8 1 2 0 false ∧
      ¬good 1 8 1 0 0 true) ∧
    (Takes .P State.reset ∧ (63 : Byte).toNat = (62 : ClipId).val + 1 ∧ (State.reset.clips.playout[62]).state = .empty ∧
      State.reset.clips.channels[0] = none ∧ (8 : Byte).toNat = 8 ∧ (7 : Byte).toNat = (7 : Source).val) ∧
    (Takes .P (withClip 62 (twoSegments true false 0) State.reset) ∧
      ((withClip 62 (twoSegments true false 0) State.reset).clips.playout[62]).state ≠ .empty) ∧
    (Takes .P (capturing (some c) (some c) State.reset) ∧
      ((capturing (some c) (some c) State.reset).clips.playout[62]).state = .empty ∧
      (capturing (some c) (some c) State.reset).clips.channels[0].isSome = true ∧
      (capturing (some c) (some c) State.reset).clips.channels[1].isSome = true) ∧
    (Takes .P (capturing (some c) none State.reset) ∧ (capturing (some c) none State.reset).clips.channels[1] = none ∧
      (capturing (some c) none State.reset).clips.channels[0].isSome = true) := by
  unfold Takes; constructorm* _ ∧ _ <;> decide +kernel

/-- A capture of two segments into clip 63 that has reached its greatest length. -/
theorem witness_CapturesEnd :
    let c : Capture := ⟨62, .pgmLive, 2⟩
    let s := due (.captureMaxLength 1)
      (capturing none (some c) (withClip 62 { twoSegments true false 0 with state := .capturing } State.reset))
    s.clips.channels[1] = some c ∧ (∀ j : Channel, j ≠ 1 → ∀ d ∈ s.clips.channels[j], d.clip ≠ c.clip) ∧
      Takes .P { s with due := [] } ∧ (63 : Byte).toNat = c.clip.val + 1 ∧ (s.clips.playout[c.clip]).state = .capturing ∧
      Found (.captureMaxLength 1) s ∧ c.greatest ≤ (s.clips.playout[c.clip]).count := by
  unfold Takes Found; constructorm* _ ∧ _ <;> decide +kernel

/-- Ids past both ends; a PROTECTED clip on air; an EMPTY, a CAPTURING and a used clip; a clip to delete. -/
theorem witness_ClipsAreDeleted :
    let on (c : Clip) : State := withClip 0 c State.reset
    let s := on (twoSegments true false 0)
    ((0 : Byte).toNat = 0 ∧ 63 < (64 : Byte).toNat ∧ (1 : Byte).toNat = (0 : ClipId).val + 1) ∧
    (Takes .P (withClip 0 (twoSegments true false 0) airing) ∧
      ((withClip 0 (twoSegments true false 0) airing).clips.playout[0]).isProtected = true ∧
      (withClip 0 (twoSegments true false 0) airing).dev.state = .onAir) ∧
    (Takes .P State.reset ∧ State.reset.dev.state ≠ .onAir ∧ (State.reset.clips.playout[0]).state = .empty) ∧
    (Takes .P (on { twoSegments true false 0 with state := .capturing }) ∧
      ((on { twoSegments true false 0 with state := .capturing }).clips.playout[0]).state = .capturing) ∧
    (((on (twoSegments true false 1)).clips.playout[0]).state = .ready ∧
      0 < ((on (twoSegments true false 1)).clips.playout[0]).uses) ∧
    (Takes .P s ∧ s.dev.state ≠ .onAir ∧ (s.clips.playout[0]).state = .ready ∧ (s.clips.playout[0]).uses = 0 ∧
      s.segments (.playout 0) = [2003, 2004] ∧ (s.segments (.playout 0)).Nodup ∧
      ∀ k ∈ s.segments (.playout 0), s.mem.holder k = .clip (.playout 0)) := by
  unfold Takes; constructorm* _ ∧ _ <;> decide +kernel

/-- A clip designated, the clip id 00h, a role above 1, and an id with no READY, PROTECTED clip. -/
theorem witness_RolesAreSet :
    let s := withClip 62 (twoSegments true false 0) State.reset
    (Takes .P s ∧ (63 : Byte).toNat = (62 : ClipId).val + 1 ∧ (s.clips.playout[62]).state = .ready ∧
      (s.clips.playout[62]).isProtected = true) ∧ (0 : Byte) = 0 ∧ 1 < (2 : Byte).toNat ∧
    (∀ i : ClipId, ¬((64 : Byte).toNat = i.val + 1 ∧ (s.clips.playout[i]).state = .ready ∧
      (s.clips.playout[i]).isProtected = true)) ∧ (64 : Byte) ≠ 0 := by
  unfold Takes; constructorm* _ ∧ _ <;> decide +kernel

/-- A count of 0 at first frame 479; first frames and counts one past their ranges; a place beyond the chain; the last 36
frames of the last segment. -/
theorem witness_ClipReadReturnsTheClip :
    let s := withClip 62 (twoSegments true false 0) State.reset
    (Takes .P s ∧ (63 : Byte).toNat = (62 : ClipId).val + 1) ∧
    (((1 : Byte).toNat * 256 + (223 : Byte).toNat = 479) ∧ 479 < 480 ∧ (0 : Byte) = 0) ∧
    (480 ≤ (1 : Byte).toNat * 256 + (224 : Byte).toNat ∧ 36 < (37 : Byte).toNat ∧ 480 < 445 + (36 : Byte).toNat) ∧
    (444 + (36 : Byte).toNat ≤ 480 ∧ 1 ≤ (1 : Byte).toNat ∧ (36 : Byte).toNat ≤ 36 ∧
      (s.segments (.playout 62)).length ≤ (0 : Byte).toNat * 256 + (2 : Byte).toNat) ∧
    (s.segments (.playout 62))[1]? = some 2004 ∧ segmentCheck (s.mem.read 2004).frames = (s.mem.read 2004).check := by
  unfold Takes; refine ⟨?_, ?_, ?_, ?_, ?_, rfl⟩ <;> decide +kernel

/-- A reader at the first and at the last segment, the last of them failing its check. -/
theorem witness_ReadersFollowTheChain :
    let s := withClip 0 (twoSegments false true 1) State.reset
    let at' (o : Nat) : State := s.setReader .voiceB (some ⟨.playout 0, o, false, false⟩)
    let bad : State := { at' 1 with mem := { (at' 1).mem with cells := [(2003, { Segment.silent with link := some 2004 }),
      (2004, { Segment.silent with check := segmentCheck Block.silent + 1 })] } }
    ((at' 0).clips.reader .voiceB = some ⟨.playout 0, 0, false, false⟩ ∧
      ((at' 0).segments (.playout 0))[0]? = some 2003 ∧ (at' 0).mem.holder 2003 = .clip (.playout 0) ∧
      segmentCheck ((at' 0).mem.read 2003).frames = ((at' 0).mem.read 2003).check) ∧
    (bad.clips.reader .voiceB = some ⟨.playout 0, 1, false, false⟩ ∧ (bad.segments (.playout 0))[1]? = some 2004 ∧
      bad.mem.holder 2004 = .clip (.playout 0) ∧ segmentCheck (bad.mem.read 2004).frames ≠ (bad.mem.read 2004).check) := by
  have ne (x : BitVec 16) : x ≠ x + 1 := fun h => by simp at h
  refine ⟨⟨?_, ?_, ?_, rfl⟩, ?_, ?_, ?_, ne _⟩ <;> decide +kernel

-- witnesses: the cue list

/-- The kinds at the ends of their ranges, and what spells no entry: a limit of 0 or 36,001, a tag of 0, a kind above 3, ids
out of range, fields that the kind does not take or needs. -/
theorem witness_EntriesAreSpelled :
    let inRange (limited tagged : Bool) (limit tag : Nat) : Prop :=
      (limited = true → 1 ≤ limit ∧ limit ≤ 36000) ∧ (tagged = true → tag ≠ 0)
    (inRange true true 1 1 ∧ inRange true false 36000 0 ∧ inRange false false 0 0 ∧ ¬inRange true false 0 0 ∧
      ¬inRange true false 36001 0 ∧ ¬inRange false true 0 0) ∧
    ((63 : Byte).toNat = (62 : ClipId).val + 1 ∧ (1 : Byte).getLsbD 0 = true ∧ (2 : Byte).getLsbD 0 = false ∧
      (2 : Byte).getLsbD 1 = true ∧ (0 : Byte).getLsbD 1 = false ∧ (0 : Byte).getLsbD 0 = false) ∧
    3 < (4 : Byte).toNat ∧ (0 : Byte).toNat ≤ 1 ∧ 2 ≤ (2 : Byte).toNat ∧ 63 < (64 : Byte).toNat ∧ (3 : Byte) ≠ 1 ∧
    (3 : Byte) ≠ 2 := by
  constructorm* _ ∧ _ <;> decide +kernel

/-- An entry of a kind, WAITING at its start. -/
def waiting (kind : EntryKind) (limit : Option Nat) (fadeOut : Nat) : Entry where
  kind := kind
  limit := limit
  tag := none
  fadeIn := 0
  fadeOut := fadeOut
  segue := false
  level := 32768
  state := .waiting
  ending := false
  successorStarted := false
  played := 0
  resume := none
  voice := none
  released := false

/-- That entry PLAYING in VOICE A, `n` blocks played. -/
def playing (kind : EntryKind) (limit : Option Nat) (fadeOut n : Nat) : Entry :=
  { waiting kind limit fadeOut with state := .playing, played := n, voice := some .A }

/-- The bytes of a CLIP entry of clip 1, of a limit given. -/
def clipEntry (limit : Byte) : List Byte := [0x00, 0x03, 0x01, 0x00, limit, 0, 0, 0, 0, 0, 0, 0, 0]

/-- The bytes of a GAP entry of 3 blocks. -/
def gapEntry : List Byte := [0x02, 0x02, 0x00, 0x00, 0x03, 0, 0, 0, 0, 0, 0, 0, 0]

/-- A looping clip with its limit joins an empty list; a GAP joins a list of 31 entries at its head and at its tail. -/
theorem witness_EntriesJoinTheList :
    let s := withClip 0 (twoSegments false true 0) State.reset
    let g := cueing (List.replicate 31 (waiting .gap (some 1) 0)) .armed State.reset
    let p := cueing [playing .gap (some 1) 0 0] .playing State.reset
    (Takes .P s ∧ EngineFollows s ∧ (clipEntry 5).length = 13 ∧
      entryOf (clipEntry 5) = some (waiting (.clip 0) (some 5) 0) ∧ s.cue.entries.length < 32 ∧
      (s.clips.playout[0]).state = .ready) ∧
    (Takes .P g ∧ EngineFollows g ∧ entryOf gapEntry = some (waiting .gap (some 3) 0) ∧
      g.cue.entries.length < 32 ∧ g.cue.entries.countP (fun e => decide (e.state ≠ .waiting)) < (1 : Byte).toNat ∧
      (32 : Byte).toNat ≤ 32 ∧ (32 : Byte).toNat ≤ g.cue.entries.length + 1) ∧
    (EngineFollows p ∧ p.cue.entries.countP (fun e => decide (e.state ≠ .waiting)) < (2 : Byte).toNat) ∧
    s.cue.state = .idle ∧ NoneTakes .ordinary .armed s := by
  unfold Takes EngineFollows; constructorm* _ ∧ _ <;> first | exact none_queued rfl _ _ | decide +kernel

/-- No entry spelled; positions 0 and 33; a position past the tail; a PLAYING entry; an endless clip; a full list; a clip not
READY; a position among the PLAYING entries, past the tail, and on a full list. -/
theorem witness_ListCommandsRefused :
    let e := waiting .gap (some 1) 0
    let full := cueing (List.replicate 32 e) .armed State.reset
    let p := cueing [playing .gap (some 1) 0 0] .playing State.reset
    let loop := withClip 0 (twoSegments false true 0) State.reset
    let front (s : State) : Nat := s.cue.entries.countP fun e => decide (e.state ≠ .waiting)
    (Takes .P full ∧ entryOf (List.replicate 13 (255 : Byte)) = none ∧ (0 : Byte).toNat = 0 ∧ 32 < (33 : Byte).toNat) ∧
    (Takes .P p ∧ p.cue.entries.length < (2 : Byte).toNat ∧
      p.cue.entries[(1 : Byte).toNat - 1]? = some (playing .gap (some 1) 0 0)) ∧
    (Takes .P loop ∧ entryOf [0x00, 0x01, 0x01, 0, 0, 0, 0, 0, 0, 0, 0, 0, 0] = some (waiting (.clip 0) none 0) ∧
      (loop.clips.playout[0]).state = .ready ∧ (loop.clips.playout[0]).loop = true) ∧
    (32 ≤ full.cue.entries.length ∧ front full < (32 : Byte).toNat ∧ entryOf gapEntry = some (waiting .gap (some 3) 0)) ∧
    (State.reset.cue.entries.length < 32 ∧ entryOf (clipEntry 5) = some (waiting (.clip 0) (some 5) 0) ∧
      (State.reset.clips.playout[0]).state ≠ .ready) ∧
    ((1 : Byte).toNat ≤ front p ∧ front p < (3 : Byte).toNat ∧ p.cue.entries.length + 1 < (3 : Byte).toNat) := by
  unfold Takes; constructorm* _ ∧ _ <;> decide +kernel

/-- A list of one WAITING entry; a list that plays its head, with a WAITING entry behind. -/
theorem witness_EntriesLeaveTheList :
    let e := waiting (.clip 0) none 0
    let one := cueing [e] .armed State.reset
    let two := cueing [playing .gap (some 1) 0 0, e] .playing State.reset
    (NoneTakes .ordinary .idle one ∧ Takes .P one ∧ EngineFollows one ∧ one.cue.entries[(1 : Byte).toNat - 1]? = some e ∧
      e.state = .waiting) ∧
    (Takes .P two ∧ EngineFollows two ∧ two.cue.entries[(2 : Byte).toNat - 1]? = some e) := by
  unfold Takes EngineFollows; constructorm* _ ∧ _ <;> first | exact none_queued rfl _ _ | decide +kernel

/-- HELD; IDLE and PLAYING without a WAITING entry; a head of each kind in ARMED. -/
theorem witness_GoStartsTheHead :
    let armed (k : EntryKind) : State :=
      cueing [waiting k (some 1) 0] .armed (withClip 0 (twoSegments false false 1) State.reset)
    let starts (s : State) (k : EntryKind) : Prop := Takes .P s ∧ Takes .C s ∧ s.cue.state = .armed ∧
      s.cue.entries = [waiting k (some 1) 0] ∧ k ≠ .mark ∧ s.cue.voiceA = .free ∧
      s.clips.readerA = none ∧ s.mix.voiceA.binding = none
    (Takes .P (cueing [] .held State.reset) ∧ (cueing [] .held State.reset).cue.state = .held) ∧
    (Takes .C State.reset ∧ State.reset.cue.state = .idle ∧ ∀ e ∈ State.reset.cue.entries, e.state ≠ .waiting) ∧
    ((cueing [playingGap] .playing State.reset).cue.state = .playing ∧
      ∀ e ∈ (cueing [playingGap] .playing State.reset).cue.entries, e.state ≠ .waiting) ∧
    (starts (armed (.clip 0)) (.clip 0) ∧ ((armed (.clip 0)).clips.playout[0]).state = .ready) ∧
    starts (armed (.stream .s1)) (.stream .s1) ∧ starts (armed (.stream .s2)) (.stream .s2) ∧
    starts (armed .gap) .gap ∧ ∀ k, NoneTakes .ordinary .playing (armed k) := by
  unfold Takes; constructorm* _ ∧ _ <;> first | exact fun k => none_queued rfl _ _ | decide +kernel

/-- `s` playing a STREAM in VOICE A from S1, with a limit of 10 blocks and a fade-out of 4, `n` blocks played. -/
def streaming (n : Nat) (s : State) : State :=
  (cueing [playing (.stream .s1) (some 10) 4 n] .playing (s.setVoice .A (.carrying 0))).setContrib .voiceA
    (sounding 1 none none)

theorem witness_StopSetsEntriesBack :
    let s := streaming 3 State.reset
    (Takes .P State.reset ∧ State.reset.cue.state = .idle) ∧
    (Takes .C s ∧ s.cue.state = .playing ∧ NoneTakes .ordinary .armed s ∧ s.cue.entries ≠ [] ∧ s.carried .A = some 0 ∧
      s.voice .A = .carrying 0 ∧ s.cue.entries[0]? = some (playing (.stream .s1) (some 10) 4 3) ∧
      (s.contrib (voiceContributor .A)).binding.isSome = true) := by
  unfold Takes; constructorm* _ ∧ _ <;> first | exact none_queued rfl _ _ | decide +kernel

/-- A window counted to its setting; a GO_EDGE line within an open one. -/
theorem witness_CancelWindowsClose :
    let at' (n : Nat) : State := { streaming 1 State.reset with
      due := [.cancelWindowClose]
      cue := { (streaming 1 State.reset).cue with window := some ⟨.A, n⟩ } }
    let e := playing (.stream .s1) (some 10) 4 1
    (Found .cancelWindowClose (at' 30) ∧ (at' 30).cue.window = some ⟨.A, 30⟩ ∧
      (at' 30).panel.settings.cancelWindow ≤ 30) ∧
    ((at' 1).panel.settings.lines[0]).function = .goEdge ∧ (at' 1).cue.window = some ⟨.A, 1⟩ ∧
    (at' 1).cue.state = .playing ∧ (at' 1).cue.entries = [] ++ e :: [] ∧ e.state = .playing ∧ e.voice = some .A ∧
    (∀ x ∈ ([] ++ [] : List Entry), x.state ≠ .playing) ∧ NoneTakes .ordinary .armed (at' 1) ∧
    ((at' 1).contrib (voiceContributor .A)).binding.isSome = true ∧
    (at' 1).clips.reader (voiceReader .A) = none := by
  unfold Found; constructorm* _ ∧ _ <;> first | exact none_queued rfl _ _ | decide +kernel

/-- No stream on the source; the last entry of a HELD list; an entry with its voice. -/
theorem witness_StreamsAreReleased :
    let s := streaming 3 State.reset
    let e := playing (.stream .s1) (some 10) 4 3
    let held := cueing [e] .held State.reset
    let found (src : StreamSource) (e : Entry) : Bool :=
      decide (e.state = .playing ∧ e.ending = false ∧ e.kind = .stream src)
    (Takes .P s ∧ (2 : Byte).toNat = 2 ∧ ∀ x ∈ s.cue.entries, found .s2 x = false) ∧
    (Takes .P held ∧ held.cue.state = .held ∧ held.cue.entries = [] ++ e :: [] ∧ found .s1 e = true ∧ e.segue = false) ∧
    (s.cue.entries = [] ++ e :: [] ∧ s.cue.state = .playing ∧ e.voice = some .A ∧ 0 < e.fadeOut ∧
      s.cue.goPending = false ∧ (s.contrib (voiceContributor .A)).binding.isSome = true) := by
  unfold Takes; constructorm* _ ∧ _ <;> decide +kernel

/-- A remaining length of 4, equal to the fade-out, and of 1; the limit reached. -/
theorem witness_TimedItemsEnd :
    let e (n : Nat) : Entry := playing (.stream .s1) (some 10) 4 n
    let s (d : Due) (n : Nat) : State :=
      let t := due d (streaming n State.reset)
      { t with cue := { t.cue with clock := 1, counted := 1 } }
    let common (d : Due) (n : Nat) : Prop := (s d n).carried .A = some 0 ∧ (s d n).voice .A = .carrying 0 ∧
      (s d n).cue.entries[0]? = some (e n) ∧ (s d n).cue.state = .playing ∧ 0 < (s d n).cue.counted ∧
      (s d n).cue.goPending = false ∧ ((s d n).contrib (voiceContributor .A)).binding.isSome = true ∧ Found d (s d n)
    (common (.endFadeStart .A) 6 ∧ 10 - (e 6).played ≤ (e 6).fadeOut ∧ 0 < 10 - (e 6).played) ∧
    (common (.endFadeStart .A) 9 ∧ 0 < 10 - (e 9).played) ∧
    (common (.durationLimit .A) 10 ∧ 10 ≤ (e 10).played ∧ (e 10).released = false ∧
      (s (.durationLimit .A) 10).cue.window = none ∧
      (s (.durationLimit .A) 10).clips.reader (voiceReader .A) = none ∧
      ∀ c v, NoneTakes c v (s (.durationLimit .A) 10)) := by
  unfold Found; constructorm* _ ∧ _ <;> first | exact fun _ _ => none_queued rfl _ _ | decide +kernel

-- witnesses: callers

/-- `s` with line `i` as given. -/
def withLine (i : PhoneLine) (x : LineRecord) (s : State) : State := s.setLine i x

/-- A line in SCREENING. -/
def screening : LineRecord := ⟨.screening, 4096, none, none, none, none, .none⟩

/-- A HELD line of a priority and an admission number. -/
def heldLine (priority number : Nat) : LineRecord := ⟨.held, 4096, some priority, none, some number, none, .none⟩

/-- `s` with line 4 HELD alone in the queue. -/
def oneHeld (s : State) : State :=
  let t := withLine 3 (heldLine 2 1) s
  { t with callers := { t.callers with queue := [3], nextNumber := 65534 } }

/-- `s` with line 4 on air in slot 2 and line 1 in slot 1. -/
def bothSlots (s : State) : State :=
  let t := withLine 0 ⟨.onAir, 4096, none, none, none, some 0, .none⟩
    (withLine 3 ⟨.onAir, 4096, none, none, none, some 1, .none⟩ s)
  { t with
    callers := { t.callers with slots := #v[⟨some 0, none⟩, ⟨some 3, none⟩] }
    mix := { t.mix with caller1 := sounding 3 none none, caller2 := sounding 6 none none }
    panel := { t.panel with reports := { t.panel.reports with callerOn := true } } }

theorem witness_LinesConnect : Takes .S State.reset ∧ (0 : Byte).toNat = 0 ∧ 4 < (5 : Byte).toNat ∧
    (1 : Byte).toNat = (0 : PhoneLine).val + 1 ∧ (4 : Byte).toNat = (3 : PhoneLine).val + 1 ∧
    (State.reset.line 3).state = .free ∧ Takes .S (oneHeld State.reset) ∧
    ((oneHeld State.reset).line 3).state ≠ .free := by
  unfold Takes; constructorm* _ ∧ _ <;> decide +kernel

/-- A FREE line; a SCREENING line without and with a measurement; a HELD line; a line on air. -/
theorem witness_LinesGoDown :
    let screen := withLine 3 screening State.reset
    let measured : State := { screen with callers := { screen.callers with measure := some ⟨3, 1, 0, 199⟩ } }
    (Takes .S State.reset ∧ (4 : Byte).toNat = (3 : PhoneLine).val + 1 ∧ (State.reset.line 3).state = .free) ∧
    (Takes .S screen ∧ (screen.line 3).state = .screening ∧ screen.callers.measure = none) ∧
    (Takes .S measured ∧ (measured.line 3).state = .screening ∧ measured.callers.measure = some ⟨3, 1, 0, 199⟩) ∧
    (Takes .S (oneHeld State.reset) ∧ ((oneHeld State.reset).line 3).state = .held) ∧
    (Takes .S (bothSlots airing) ∧ ((bothSlots airing).line 3).state = .onAir ∧
      ((bothSlots airing).line 3).slot = some 1 ∧
      ((bothSlots airing).contrib (slotContributor 1)).binding.isSome = true) := by
  unfold Takes; constructorm* _ ∧ _ <;> decide +kernel

/-- `s` measuring line 4, `n` blocks counted, with a peak. -/
def measuring (n peak : Nat) (s : State) : State :=
  let t := due .measureDone (withLine 3 screening s)
  { t with callers := { t.callers with measure := some ⟨3, 4194304, peak, n⟩ } }

/-- Line numbers past both ends; a measurement in flight; a line not SCREENING; a line to measure; the peaks at each side of
4,096 and of 8,300,000. -/
theorem witness_LinesAreMeasured :
    ((0 : Byte).toNat = 0 ∧ 4 < (5 : Byte).toNat ∧ (4 : Byte).toNat = (3 : PhoneLine).val + 1) ∧
    (Takes .S { measuring 199 0 State.reset with due := [] } ∧ (measuring 199 0 State.reset).callers.measure ≠ none) ∧
    (Takes .S State.reset ∧ State.reset.callers.measure = none ∧ (State.reset.line 3).state ≠ .screening) ∧
    (Takes .S (withLine 3 screening State.reset) ∧ (withLine 3 screening State.reset).callers.measure = none ∧
      ((withLine 3 screening State.reset).line 3).state = .screening) ∧
    (Found .measureDone (measuring 200 4095 State.reset) ∧
      (measuring 200 4095 State.reset).callers.measure = some ⟨3, 4194304, 4095, 200⟩ ∧ 4095 < 4096) ∧
    (Found .measureDone (measuring 200 4096 State.reset) ∧ 4096 ≤ 8299999 ∧ 8299999 < 8300000) := by
  unfold Takes Found; constructorm* _ ∧ _ <;> decide +kernel

/-- The worked measurement results of chapter 06, at the default target. -/
theorem test_measurement_results : ([1048576, 3000000, 4194304, 8299999, 10000, 4095, 8300000].map fun peak =>
    match exec .measureDone (measuring 200 peak State.reset) with
    | .next t => ((t.line 3).result, (t.line 3).trim)
    | _ => (.none, 0)) = [(.pass, 16384), (.pass, 5726), (.pass, 4096), (.pass, 2069), (.pass, 32767),
      (.noSignal, 4096), (.clipped, 4096)] := by decide +kernel

/-- A line admitted at priority 3 to a queue of one, with its measurement in flight; the HELD line updated and withdrawn; a
FREE line and one on air; texts of 0 and of 24 characters at both ends of their range. -/
theorem witness_CallersQueueInOrder :
    let s := withLine 0 screening (oneHeld State.reset)
    let m : State := { s with callers := { s.callers with measure := some ⟨0, 1, 0, 199⟩ } }
    let ok (s : State) : Prop := Takes .S s ∧
      (∀ j ∈ s.callers.queue, ∃ n ∈ (s.line j).number, n < s.callers.nextNumber) ∧
      s.callers.nextNumber < 65535 ∧ s.callers.queue.Nodup ∧ QueueInOrder s.callers.lines s.callers.queue ∧
      s.callers.queue.Pairwise (fun a b => (s.line a).number ≠ (s.line b).number)
    ((3 : Byte).toNat ≤ 3 ∧ ([] : List Byte).length ≤ 24 ∧
      (List.replicate 12 (0x20 : Byte) ++ List.replicate 12 0x7E).length ≤ 24 ∧
      ∀ c ∈ List.replicate 12 (0x20 : Byte) ++ List.replicate 12 0x7E, 0x20 ≤ c.toNat ∧ c.toNat ≤ 0x7E) ∧
    (ok s ∧ (1 : Byte).toNat = (0 : PhoneLine).val + 1 ∧ (s.line 0).state = .screening ∧ 0 ∉ s.callers.queue) ∧
    (ok m ∧ m.callers.measure = some ⟨0, 1, 0, 199⟩) ∧
    ((s.line 3).state = .held ∧ 3 ∈ s.callers.queue ∧ (4 : Byte).toNat = (3 : PhoneLine).val + 1) ∧
    ((s.line 1).state = .free ∧ ok (bothSlots airing) ∧ ((bothSlots airing).line 0).state = .onAir) := by
  have h (s : State) (n : Nat) (hs : s.line 3 = heldLine 2 n) (q : s.callers.queue = [3])
      (hn : n < s.callers.nextNumber) : ∀ j ∈ s.callers.queue, ∃ n ∈ (s.line j).number, n < s.callers.nextNumber := by
    intro j hj
    rw [q, List.mem_singleton] at hj
    subst hj
    exact ⟨n, by rw [hs]; rfl, hn⟩
  unfold Takes QueueInOrder
  refine ⟨?_, ⟨⟨?_, h _ 1 rfl rfl ?_, ?_, ?_, ?_, ?_⟩, ?_⟩, ⟨⟨?_, h _ 1 rfl rfl ?_, ?_, ?_, ?_, ?_⟩, ?_⟩, ?_, ?_,
    ⟨?_, fun _ hj => (nomatch hj), ?_, ?_, ?_, ?_⟩, ?_⟩
  all_goals decide +kernel

/-- Both slots full; the policy on with E one sample short; an empty queue; a line not HELD; the head taken into slot 1, and
into slot 2, with the policy off and with E at the target. -/
theorem witness_CallersTakeTheAir :
    let s := oneHeld airing
    let safe := oneHeld (delaying none 960000 0 airing)
    let second : State := { safe with callers := { safe.callers with slots := #v[⟨some 0, none⟩, ⟨none, none⟩] } }
    let off : State := { s with sup := { s.sup with settings := { s.sup.settings with safeTake := false } } }
    let ok (s : State) : Prop := Takes .C s ∧ s.dev.state = .onAir ∧ s.sup.mode = some .normal
    (ok (bothSlots airing) ∧ ((bothSlots airing).slot 0).occupant.isSome = true ∧
      ((bothSlots airing).slot 1).occupant.isSome = true) ∧
    (ok (oneHeld (delaying none 959999 0 airing)) ∧
      (oneHeld (delaying none 959999 0 airing)).sup.settings.safeTake = true ∧ 959999 < 480 * 2000 ∧
      ((oneHeld airing).slot 0).occupant = none) ∧
    (ok (delaying none 960000 0 airing) ∧ (delaying none 960000 0 airing).callers.queue = [] ∧
      ((delaying none 960000 0 airing).line 0).state ≠ .held ∧
      ¬((delaying none 960000 0 airing).delay.excess < 480 * (delaying none 960000 0 airing).delay.target)) ∧
    (ok safe ∧ (4 : Byte).toNat = (3 : PhoneLine).val + 1 ∧ (safe.slot 0).occupant = none ∧
      ¬(safe.delay.excess < 480 * safe.delay.target) ∧ safe.callers.queue.head? = some 3 ∧ (safe.line 3).state = .held) ∧
    (ok second ∧ (second.slot 1).occupant = none ∧ (second.slot 0).occupant.isSome = true ∧
      second.callers.queue.head? = some 3) ∧
    (ok off ∧ off.sup.settings.safeTake = false) := by
  unfold Takes; constructorm* _ ∧ _ <;> decide +kernel

/-- An empty slot; an occupant whose release is in progress; one to release over 25 blocks; one to drop at once; a release's
fade of 25 blocks all done. -/
theorem witness_CallersLeaveTheAir :
    let s := bothSlots airing
    let cut : State := { s with mix := { s.mix with slotFade := #v[0, 0] } }
    let releasing (d : Disposition) : State :=
      { s with callers := { s.callers with slots := #v[⟨some 0, none⟩, ⟨some 3, some d⟩] } }
    let done (d : Disposition) : State := due (.fadeComplete .caller2)
      ((releasing d).setContrib .caller2 (sounding 6 (some ⟨32768, 0, 25, 25, .out⟩) none))
    (Takes .C airing ∧ (2 : Byte).toNat = (1 : CallerSlot).val + 1 ∧ (airing.slot 1).occupant = none) ∧
    (Takes .C (releasing .hold) ∧ ((releasing .hold).slot 1).occupant = some 3 ∧
      ((releasing .hold).slot 1).release.isSome = true ∧ (releasing .hold).panel.reports.callerOn = true) ∧
    (Takes .C s ∧ (s.slot 1).occupant = some 3 ∧ (s.slot 1).release = none ∧ 0 < s.mix.slotFade[1] ∧
      (s.contrib (slotContributor 1)).binding.isSome = true) ∧
    (Takes .C cut ∧ (cut.slot 1).release = none ∧ cut.mix.slotFade[1] = 0 ∧ cut.callers.queue = [] ∧
      cut.callers.nextNumber < 65535) ∧
    (Found (.fadeComplete (slotContributor 1)) (done .hold) ∧ (done .hold).slot 1 = ⟨some 3, some .hold⟩ ∧
      ((done .hold).contrib (slotContributor 1)).fade = some ⟨32768, 0, 25, 25, .out⟩ ∧
      (done .hold).callers.queue = [] ∧ (done .drop).slot 1 = ⟨some 3, some .drop⟩) := by
  unfold Takes Found; constructorm* _ ∧ _ <;> decide +kernel

/-- The policy on, E one sample short and a line HELD: CALLER TAKE NEXT is answered, and the slots stay as they are; so with
lines on air. -/
theorem witness_NoTakeBeforeTheDelayIsSafe :
    let s := oneHeld (delaying none 959999 0 airing)
    (s.sup.settings.safeTake = true ∧ s.delay.excess < 480 * s.delay.target ∧ s.due = [] ∧
      exec (.callerTakeNext .C []) s = .next (answered .C 0x38 .notSafe .none s)) ∧
    (bothSlots airing).sup.settings.safeTake = true ∧
    (bothSlots airing).delay.excess < 480 * (bothSlots airing).delay.target ∧
    ((bothSlots airing).slot 1).occupant = some 3 :=
  ⟨⟨rfl, by decide +kernel, rfl, rfl⟩, rfl, by decide +kernel, rfl⟩

-- witnesses: emergency alerts

/-- The parameters of ALERT BEGIN: id 7, one area, a validity of 1 minute, a class. -/
def arrival (cls : Byte) : List Byte :=
  [0, 7, 0x45, 0x41, 0x53, 0x54, 0x4F, 0x52, cls, 0, 1, 0x30, 0x30, 0x31, 0x32, 0x33, 0x34]

/-- What those parameters say. -/
def arrived (cls : AlertClass) : Arrival :=
  ⟨7, [0x45, 0x41, 0x53], [0x54, 0x4F, 0x52], cls, [[0x30, 0x30, 0x31, 0x32, 0x33, 0x34]], 1⟩

/-- An ADVISORY alert on a free machine, and an IMMEDIATE one behind a record AIRING, which takes slot 2. -/
theorem witness_AlertsAreCaptured :
    let behind := withRecord (alert 9 .warning .airing) airing
    (Takes .A airing ∧ airing.dev.state = .onAir ∧ 11 ≤ (arrival 1).length ∧ ((arrival 1).length - 11) % 6 = 0 ∧
      arrivalOf (arrival 1) = some (arrived .advisory) ∧ (arrived .advisory).cls ≠ .immediate ∧
      airing.clips.alert[0] = Clip.empty) ∧ AlertAccepted (arrived .advisory) 0 airing ∧
    (Takes .A behind ∧ behind.dev.state = .onAir ∧ arrivalOf (arrival 3) = some (arrived .immediate) ∧
      behind.clips.alert[1] = Clip.empty ∧ ∃ j, ∃ r ∈ behind.record j, r.phase = .airing) ∧
    AlertAccepted (arrived .immediate) 1 behind := by
  have behind : ∀ j : AlertSlot, ∀ r ∈ (withRecord (alert 9 .warning .airing) airing).record j,
    r.id ≠ 7 ∧ r.phase ≠ .receiving ∧ ¬(r.cutThrough = true ∧ r.phase = .airing) := by decide +kernel
  have free : ∀ j : AlertSlot, ∀ r ∈ airing.record j,
    r.id ≠ 7 ∧ r.phase ≠ .receiving ∧ ¬(r.cutThrough = true ∧ r.phase = .airing) := by decide +kernel
  unfold Takes
  exact ⟨by decide +kernel, ⟨free, by decide +kernel, by decide +kernel, by decide +kernel, rfl⟩,
    ⟨by decide +kernel, by decide +kernel, by decide +kernel, by decide +kernel, 0, _, rfl, rfl⟩,
    behind, by decide +kernel, by decide +kernel, by decide +kernel, rfl⟩

/-- With the air in NORMAL and the engine IDLE, and in FALLBACK with the engine FILLING. -/
theorem witness_ImmediateAlertsCutThrough :
    let fill := cueing [] .filling (inFallback airing)
    (Takes .A airing ∧ airing.dev.state = .onAir ∧ arrivalOf (arrival 3) = some (arrived .immediate) ∧
      (∀ j, ∀ r ∈ airing.record j, r.phase ≠ .airing) ∧ airing.sup.mode = some .normal ∧ airing.cue.state ≠ .held) ∧
    AlertAccepted (arrived .immediate) 0 airing ∧
    (Takes .A fill ∧ fill.dev.state = .onAir ∧ (∀ j, ∀ r ∈ fill.record j, r.phase ≠ .airing) ∧
      fill.sup.mode = some .fallback ∧ fill.cue.state ≠ .held) ∧
    AlertAccepted (arrived .immediate) 0 fill := by
  have free : ∀ j : AlertSlot, ∀ r ∈ airing.record j,
    r.id ≠ 7 ∧ r.phase ≠ .receiving ∧ ¬(r.cutThrough = true ∧ r.phase = .airing) := by decide +kernel
  unfold Takes
  exact ⟨by decide +kernel, ⟨free, by decide +kernel, by decide +kernel, by decide +kernel, rfl⟩,
    by decide +kernel, free, by decide +kernel, by decide +kernel, by decide +kernel, rfl⟩

/-- Parameters out of range (a validity of 0); a duplicate active and one past; an id of another origin; a record RECEIVING;
four records, the newcomer no higher than the queue's tail. -/
theorem witness_AlertsAreRefused :
    let other : AlertRecord := { alert 7 .test .confirming with origin := [0x57, 0x58, 0x52] }
    let past : State := { airing with alerts := { airing.alerts with history := [alert 7 .test (.finished .expired)] } }
    let four : State := { airing with alerts := { airing.alerts with
      records := #v[some (alert 1 .test .pending), some (alert 2 .test .pending), some (alert 3 .test .pending),
        some (alert 4 .advisory .pending)], queue := [3, 0, 1, 2] } }
    (Takes .A airing ∧ airing.dev.state = .onAir ∧ arrivalOf ((arrival 1).set 10 0) = none) ∧
    (Takes .A (withRecord (alert 7 .test .confirming) airing) ∧
      (withRecord (alert 7 .test .confirming) airing).record 0 = some (alert 7 .test .confirming) ∧
      (alert 7 .test .confirming).origin = (arrived .test).origin) ∧
    (Takes .A past ∧ ∃ r ∈ past.alerts.history, r.id = 7 ∧ r.origin = (arrived .test).origin) ∧
    (Takes .A (withRecord other airing) ∧ (withRecord other airing).record 0 = some other ∧
      other.origin ≠ (arrived .test).origin) ∧
    (Takes .A (withRecord (alert 9 .test .receiving) airing) ∧
      (withRecord (alert 9 .test .receiving) airing).record 0 = some (alert 9 .test .receiving)) ∧
    (Takes .A four ∧ (∀ k, (four.record k).isSome = true) ∧ four.alerts.queue.getLast? = some 2 ∧
      four.record 2 = some (alert 3 .test .pending) ∧ (arrived .test).cls.rank ≤ (alert 3 .test .pending).cls.rank ∧
      ∀ k, ∀ r ∈ four.record k, r.id ≠ 7 ∧ r.phase ≠ .receiving) := by
  unfold Takes; constructorm* _ ∧ _ <;> decide +kernel

/-- `s` with an ADVISORY record RECEIVING in slot 1, its alert clip at a segment count. -/
def receiving (count : Nat) (s : State) : State :=
  let t := withRecord { alert 7 .advisory .receiving with clip := some (0, 0) } s
  { t with clips := { t.clips with
    alert := t.clips.alert.set 0 ⟨.capturing, false, false, none, some 2003, count, false, false, 0⟩, alertCapture := some 0 } }

theorem witness_CapturedAlertsWait :
    let r : AlertRecord := { alert 7 .advisory .receiving with clip := some (0, 0) }
    let s := due .alertCaptureFull (receiving 12000 airing)
    ((receiving 1 airing).record 0 = some r ∧ r.phase = .receiving ∧ r.cls = .advisory ∧
      (receiving 1 airing).alerts.queue = [] ++ [] ∧ (receiving 1 airing).clips.alertCapture = some 0 ∧
      0 < ((receiving 1 airing).clips.alert[0]).count ∧ Takes .A (receiving 1 airing) ∧
      (0 : Byte).toNat * 256 + (7 : Byte).toNat = r.id ∧ r.id ≠ 0 ∧
      ∀ j, ∀ x ∈ (receiving 1 airing).record j, x.id = r.id → j = 0) ∧
    (s.record 0 = some r ∧ s.alerts.queue = [] ∧ s.clips.alertCapture = some 0 ∧ Found .alertCaptureFull s ∧
      12000 ≤ (s.clips.alert[0]).count ∧ NoneTakes .ordinary s.alerts.view s) := by
  unfold Takes Found; constructorm* _ ∧ _ <;> first | exact none_queued rfl _ _ | decide +kernel

/-- A WARNING record at its limit behind an airing, and an ADVISORY one at its limit with the air free. -/
theorem witness_HeldAlertsBecomeOverdue :
    let w : AlertRecord := { alert 7 .warning .pending with hold := 6000 }
    let a : AlertRecord := { alert 7 .advisory .pending with hold := 60000, clip := some (0, 1) }
    let blocked := due (.holdLimitReached 0) ((withRecord w airing).setRecord 1 (some (alert 8 .warning .airing)))
    let free : State :=
      let s := due (.holdLimitReached 0) (withRecord a airing)
      { s with alerts := { s.alerts with queue := [0] } }
    (Found (.holdLimitReached 0) blocked ∧ blocked.record 0 = some w ∧ w.phase = .pending ∧ w.overdue = false ∧
      w.cls = .warning ∧ blocked.alerts.settings.warningHold ≤ w.hold ∧
      blocked.record 1 = some (alert 8 .warning .airing)) ∧
    (Found (.holdLimitReached 0) free ∧ free.record 0 = some a ∧ a.phase = .pending ∧ a.overdue = false ∧
      a.cls = .advisory ∧ free.alerts.settings.advisoryHold ≤ a.hold ∧ (∀ j, ∀ x ∈ free.record j, x.phase ≠ .airing) ∧
      free.dev.state = .onAir ∧ free.alerts.queue.head? = some 0 ∧ free.cue.state ≠ .held) := by
  unfold Found; constructorm* _ ∧ _ <;> decide +kernel

/-- Cancels from links A and C of a CONFIRMING and of a RECEIVING record; a WARNING record; a validity of one minute reached;
a confirm window of 500 blocks counted. -/
theorem witness_AlertsFinish :
    let c : AlertRecord := { alert 7 .test .confirming with confirm := 500 }
    let s := withRecord c airing
    let r : AlertRecord := { alert 7 .advisory .receiving with clip := some (0, 0) }
    (Takes .A s ∧ Takes .C s ∧ s.record 0 = some c ∧ (0 : Byte).toNat * 256 + (7 : Byte).toNat = c.id ∧ c.id ≠ 0 ∧
      (∀ j, ∀ x ∈ s.record j, x.id = c.id → j = 0) ∧ c.cls = .test ∧ c.phase = .confirming) ∧
    (Takes .C (withRecord (alert 7 .warning .pending) airing) ∧
      (withRecord (alert 7 .warning .pending) airing).record 0 = some (alert 7 .warning .pending)) ∧
    (Takes .C (receiving 1 airing) ∧ (receiving 1 airing).record 0 = some r ∧ r.phase = .receiving ∧
      (receiving 1 airing).clips.readerAlert = none) ∧
    (Found (.alertExpiry 0) (due (.alertExpiry 0) (receiving 1 airing)) ∧ 6000 * r.valid ≤ r.age) ∧
    (Found (.confirmWindowExpiry 0) (due (.confirmWindowExpiry 0) s) ∧ c.framesSent = c.airBlocks ∧ 500 ≤ c.confirm) := by
  unfold Takes Found; constructorm* _ ∧ _ <;> decide +kernel

/-- `s` under a cut-through airing in slot 1 of `n` blocks. -/
def cutThrough (n : Nat) (s : State) : State :=
  let r : AlertRecord := { alert 7 .immediate .airing with cutThrough := true, airBlocks := n }
  let t := withRecord r (cueing [] .held s)
  { t with
    cue := { t.cue with held := some ⟨.idle, none⟩ }
    sup := { t.sup with mode := some .alert, remembered := some .normal }
    mix := { t.mix with alert := ⟨some (.source 7), 32768, 32768, none, none⟩ }
    panel := { t.panel with reports := { t.panel.reports with alertActive := true } } }

/-- One block aired, and 12,000. -/
theorem witness_AiringsEnd :
    let ok (n : Nat) (s : State) : Prop :=
      s.record 0 = some { alert 7 .immediate .airing with cutThrough := true, airBlocks := n } ∧
        (∀ j, ∀ x ∈ s.record j, x.phase = .airing → j = 0) ∧ s.alerts.queue = [] ∧ s.sup.mode = some .alert ∧
        s.cue.state = .held ∧ s.cue.held.isSome = true ∧ s.mix.alert.binding.isSome = true
    (ok 1 (cutThrough 1 airing) ∧ Takes .A (cutThrough 1 airing) ∧
      (∀ j, ∀ x ∈ (cutThrough 1 airing).record j, x.id = 7 → j = 0) ∧ 0 < 1) ∧
    (ok 12000 (due .liveAlertLimit (cutThrough 12000 airing)) ∧
      Found .liveAlertLimit (due .liveAlertLimit (cutThrough 12000 airing))) := by
  unfold Takes Found; constructorm* _ ∧ _ <;> decide +kernel

/-- An active record out of and in the queue; a record of the history; an id of none; the summary; history reads of 0, 1, 8
and 9. -/
theorem witness_AlertsAreRead :
    let s := withRecord (alert 7 .test .pending) airing
    let queued : State := { s with alerts := { s.alerts with queue := [0] } }
    let past : State := { airing with alerts := { airing.alerts with history := [alert 7 .test (.finished .expired)] } }
    (Takes .A s ∧ (0 : Byte).toNat * 256 + (7 : Byte).toNat = 7 ∧ s.record 0 = some (alert 7 .test .pending) ∧
      (∀ j, ∀ x ∈ s.record j, x.id = 7 → j = 0) ∧ 0 ∉ s.alerts.queue ∧ queued.alerts.queue = [] ++ 0 :: []) ∧
    (Takes .A past ∧ (∀ k, ∀ x ∈ past.record k, x.id ≠ 7) ∧
      past.alerts.history = [] ++ alert 7 .test (.finished .expired) :: [] ∧
      past.alerts.history[(1 : Byte).toNat - 1]? = some (alert 7 .test (.finished .expired))) ∧
    (Takes .A airing ∧ (∀ k, ∀ x ∈ airing.record k, x.id ≠ 7) ∧ ∀ x ∈ airing.alerts.history, x.id ≠ 7) ∧
    (8 < (9 : Byte).toNat ∧ 1 ≤ (8 : Byte).toNat ∧ (8 : Byte).toNat ≤ 8 ∧
      airing.alerts.history.length < (8 : Byte).toNat) := by
  unfold Takes; constructorm* _ ∧ _ <;> decide +kernel

-- witnesses: the transmitter link

/-- On air; in STANDBY, with the delay OFF; a history that is full. -/
theorem witness_LinkFramesCarryTheAir : (airing.live = true ∧ airing.due = [] ∧ airing.dev.state = .onAir) ∧
    (State.reset.live = true ∧ State.reset.due = [] ∧ State.reset.delay.state = .off) ∧
    (List.replicate 256 (⟨0, 0, false, LineSet.empty⟩ : Sent)).length ≤ 256 := by decide +kernel

/-- A frame that passes its check and one that fails; a broken frame of 7 bytes; no record on the link. -/
theorem witness_StatusFramesSetTheLink :
    let good (b : Vector Byte 8) : Prop := crc16 (b.toList.take 6) = BitVec.ofNat 16 ((b[6]).toNat * 256 + (b[7]).toNat)
    State.reset.live = true ∧ LinkSettled State.reset ∧ good goodStatus ∧ ¬good (goodStatus.set 7 0x4F) ∧ (goodStatus.toList.take 7).length < 8 ∧
      ∀ k, ∀ r ∈ State.reset.record k, r.phase ≠ .airing ∧ r.phase ≠ .confirming := by
  unfold LinkSettled; constructorm* _ ∧ _ <;> decide +kernel

/-- A status that reaches a record's last frame exactly; and the farthest that still does. -/
theorem witness_StatusFramesConfirm :
    let r (last : Nat) : AlertRecord :=
      { alert 7 .test .confirming with airBlocks := 2, framesSent := 2, firstSeq := some last, lastSeq := some last }
    (airing.live = true ∧ LinkSettled airing ∧ parseStatus goodStatus = some ⟨0x0102, 0, true, false⟩ ∧
      (withRecord (r 0x0102) airing).record 0 = some (r 0x0102) ∧ (r 0x0102).phase = .confirming ∧
      (r 0x0102).framesSent = (r 0x0102).airBlocks) ∧
    (0x0102 + 65536 - 0x0102 % 65536) % 65536 < 32768 ∧ (0x0102 + 65536 - 0x8103 % 65536) % 65536 = 32767 := by
  unfold LinkSettled; constructorm* _ ∧ _ <;> decide +kernel

/-- UP at an age of 30; DEGRADED at an age of the link timeout, without and with a record CONFIRMING. -/
theorem witness_LinksFallWithoutStatus :
    let aged (h : LinkHealth) (n : Nat) (d : Due) (s : State) : State :=
      due d { s with tx := { s.tx with state := h, age := n } }
    let c := aged .degraded 200 .linkTimeout (withRecord (alert 7 .test .confirming) airing)
    (Found .statusAgeLimit (aged .up 30 .statusAgeLimit airing) ∧ (aged .up 30 .statusAgeLimit airing).tx.state = .up ∧
      30 ≤ (aged .up 30 .statusAgeLimit airing).tx.age) ∧
    (Found .linkTimeout (aged .degraded 200 .linkTimeout airing) ∧
      (aged .degraded 200 .linkTimeout airing).tx.state ≠ .down ∧
      (aged .degraded 200 .linkTimeout airing).tx.settings.timeout ≤ 200 ∧
      ∀ k, ∀ r ∈ (aged .degraded 200 .linkTimeout airing).record k, r.phase ≠ .airing ∧ r.phase ≠ .confirming) ∧
    (Found .linkTimeout c ∧ c.tx.settings.timeout ≤ c.tx.age ∧ c.record 0 = some (alert 7 .test .confirming)) := by
  unfold Found; constructorm* _ ∧ _ <;> decide +kernel

-- witnesses: air supervision and panel lines

/-- `s` with the silence counter at the window. -/
def silentAir (s : State) : State := due .silenceWindow { s with sup := { s.sup with counter := 1500 } }

/-- The counter at the window: HELD; IDLE with no clip designated; ARMED with one. -/
theorem witness_SilenceStartsTheFill :
    let clip : State :=
      let s := cueing [waiting .gap (some 1) 0] .armed (withClip 0 (twoSegments true true 1) airing)
      silentAir { s with clips := { s.clips with fallback := some 0 } }
    let ok (s : State) : Prop := Found .silenceWindow s ∧ s.sup.mode = some .normal ∧
      s.sup.settings.window ≤ s.sup.counter
    (ok (silentAir (cueing [] .held airing)) ∧ (silentAir (cueing [] .held airing)).cue.state = .held) ∧
    (ok (silentAir airing) ∧ (silentAir airing).cue.state = .idle ∧
      (∀ e ∈ (silentAir airing).cue.entries, e.state ≠ .playing) ∧ NoneTakes .ordinary .filling (silentAir airing) ∧
      (silentAir airing).cue.voiceA = .free ∧ (silentAir airing).cue.voiceB = .free ∧
      (silentAir airing).clips.fallback = none) ∧
    (ok clip ∧ clip.cue.state = .armed ∧ (∀ e ∈ clip.cue.entries, e.state ≠ .playing) ∧ NoneTakes .ordinary .filling clip ∧
      clip.cue.voiceA = .free ∧ clip.cue.voiceB = .free ∧ clip.clips.fallback = some 0 ∧
      (clip.clips.playout[0]).state = .ready ∧ clip.clips.readerA = none) := by
  unfold Found; constructorm* _ ∧ _ <;> first | exact none_queued rfl _ _ | decide +kernel

/-- Each answer in NORMAL and under an alert, and NOT FILLED. -/
theorem witness_FillAnswersEnterFallback :
    let s (m : AirMode) (a : FillAnswer) : State :=
      due .fillAnswer { airing with sup := { airing.sup with mode := some m, answer := some a } }
    ∀ m ∈ [AirMode.normal, .alert], ∀ a ∈ [FillAnswer.filled, .filledSilent, .notFilled],
      Found .fillAnswer (s m a) ∧ (s m a).sup.mode = some m ∧ (s m a).sup.answer = some a := by
  unfold Found; decide +kernel

theorem witness_StudioEndsFallback :
    let s := cueing [] .filling (inFallback airing)
    Takes .C s ∧ s.dev.state = .onAir ∧ s.sup.mode = some .fallback ∧ s.mix.studio.binding = none ∧
      s.cue.state = .filling ∧ (∀ e ∈ s.cue.entries, e.state ≠ .playing) ∧ NoneTakes .ordinary .armed s ∧
      NoneTakes .ordinary .idle s := by
  unfold Takes; constructorm* _ ∧ _ <;> first | exact none_queued rfl _ _ | decide +kernel

/-- `s` with panel line 1 keeping `x`. -/
def panelAt (x : PanelLine) (s : State) : State := s.setPanelLine 0 x

/-- A seeding boundary; a level seen twice; an output line. -/
theorem witness_PanelLinesAreSampled :
    let twice := panelAt ⟨true, false, false, false, false⟩ State.reset
    (State.reset.live = true ∧ State.reset.due = [] ∧ (State.reset.panel.settings.lines[0]).direction ≠ .output ∧
      (State.reset.panel.lines[0]).seeding = true ∧ (State.reset.panel.settings.lines[4]).direction = .output) ∧
    (twice.live = true ∧ twice.due = [] ∧ (twice.panel.lines[0]).seeding = false ∧
      nothing.pins[0] = .high ∧ (twice.panel.settings.lines[0]).activeHigh = false ∧
      (twice.panel.lines[0]).recognised = true ∧ (twice.panel.lines[0]).previous = false) := by decide +kernel

/-- R172's debounce: a level is recognised at the second boundary that samples it, and sets the flag. -/
theorem test_panel_debounce :
    let line (x : PanelLine) : PanelLine := (samplePanel nothing.pins 0 (panelAt x State.reset)).panel.lines[0]
    line ⟨true, true, false, false, false⟩ = ⟨true, false, false, false, false⟩ ∧
      line ⟨true, false, false, false, false⟩ = ⟨false, false, false, true, false⟩ ∧
      line ⟨false, false, true, false, false⟩ = ⟨false, false, false, false, false⟩ := by decide +kernel

theorem witness_PanelPinsFollowTheirConditions :
    (State.reset.live = true ∧ (State.reset.panel.settings.lines[4]).direction = .output ∧
      (State.reset.panel.settings.lines[4]).function = .onAir) ∧
    (State.reset.panel.settings.lines[0]).direction ≠ .output ∧ (poweringUp State.reset).dev.state = .powerUp := by
  decide +kernel

/-- A configuration of eight unused inputs and a cancel window of 100; one past it; line 8 a GENERAL output and not. -/
theorem witness_PanelLinesAreConfigured :
    let bytes (window : Byte) : List Byte := (List.replicate 8 [(0x01 : Byte), 0x00, 0x07]).flatten ++ [window]
    let c : PanelSettings := ⟨Vector.replicate 8 ⟨.input, false, .none⟩, 100⟩
    let general : State := { State.reset with panel := { State.reset.panel with settings := { State.reset.panel.settings with
      lines := State.reset.panel.settings.lines.set 7 ⟨.output, true, .general⟩ } } }
    (Takes .C State.reset ∧ (bytes 100).length = 25 ∧ panelSettingsOf (bytes 100) = some c ∧
      panelSettingsOf (bytes 101) = none) ∧
    (Takes .C general ∧ (8 : Byte).toNat = (7 : PanelLineNo).val + 1 ∧ (1 : Byte).toNat ≤ 1 ∧
      (general.panel.settings.lines[7]).direction = .output ∧
      (general.panel.settings.lines[7]).function = .general) ∧
    ¬((State.reset.panel.settings.lines[7]).direction = .output ∧
      (State.reset.panel.settings.lines[7]).function = .general) := by
  unfold Takes; constructorm* _ ∧ _ <;> decide +kernel

-- witnesses: settings, memory, profile

/-- Each setting at both ends of its range and one past each. -/
theorem witness_SettingsAreTaken :
    let alert (w a p : Nat) : Prop := 1000 ≤ w ∧ w ≤ 30000 ∧ 6000 ≤ a ∧ a ≤ 360000 ∧ p ≤ 1
    let link (t c : Nat) : Prop := 50 ≤ t ∧ t ≤ 1000 ∧ 0x20 ≤ c ∧ c ≤ 0x7E
    let sup (t w p : Nat) : Prop := t ≤ 8388608 ∧ 200 ≤ w ∧ w ≤ 12000 ∧ p ≤ 1
    Takes .C State.reset ∧
    (alert 1000 6000 0 ∧ alert 30000 360000 1 ∧ ¬alert 999 6000 0 ∧ ¬alert 30001 6000 0 ∧ ¬alert 1000 5999 0 ∧
      ¬alert 1000 360001 0 ∧ ¬alert 1000 6000 2) ∧
    (link 50 0x20 ∧ link 1000 0x7E ∧ ¬link 49 0x20 ∧ ¬link 1001 0x20 ∧ ¬link 50 0x1F ∧ ¬link 50 0x7F) ∧
    (sup 0 200 0 ∧ sup 8388608 12000 1 ∧ ¬sup 8388609 200 0 ∧ ¬sup 0 199 0 ∧ ¬sup 0 12001 0 ∧ ¬sup 0 200 2) := by
  unfold Takes; constructorm* _ ∧ _ <;> decide +kernel

/-- R at both ends and past each, A_res past 12,000 and past P; more held than the new reserve leaves; a clip held, R
changing; R kept and R changed; a fill under way. -/
theorem witness_MemorySettingsAreTaken :
    let good (ring reserve : Nat) : Prop := 259 ≤ ring ∧ ring ≤ 4003 ∧ reserve ≤ 12000 ∧ reserve ≤ 16384 - ring
    let held (n : Nat) : State := { State.reset with mem := { State.reset.mem with general := n } }
    let filling := State.reset.modLink .C fun p => { p with inFlight := some ⟨0x3F, none⟩ }
    (good 259 12000 ∧ good 4003 12000 ∧ ¬good 258 0 ∧ ¬good 4004 0 ∧ ¬good 259 12001) ∧
    (Takes .C State.reset ∧ State.reset.dev.state = .standby ∧ State.reset.mem.ring = 2003 ∧
      ¬(16384 - State.reset.mem.ring - 12000 < State.reset.mem.general) ∧ State.reset.mem.alertCount = 0 ∧
      State.reset.clips.channels[0] = none ∧ State.reset.clips.channels[1] = none) ∧
    (Takes .C (held 2382) ∧ 16384 - (held 2382).mem.ring - 12000 < (held 2382).mem.general ∧
      ¬(16384 - (held 2381).mem.ring - 12000 < (held 2381).mem.general) ∧ 0 < (held 1).mem.general) ∧
    (filling.dev.supply = .running ∧ (filling.link .C).inFlight = some ⟨0x3F, none⟩) := by
  unfold Takes; constructorm* _ ∧ _ <;> decide +kernel

/-- The worked case of chapter 02, 300 segments held: R = 4,003 is IN_USE; A_res = 12,000 is taken, 12,500 refused. -/
theorem test_memory_settings :
    let s : State := { State.reset with mem := { State.reset.mem with general := 300 } }
    [[0x0F, 0xA3, 0x17, 0x70], [0x07, 0xD3, 0x2E, 0xE0], [0x07, 0xD3, 0x30, 0xD4]].map (fun ps =>
      match exec (.memorySettingsSet .C ps) s with
      | .next t => ((t.link .C).inFlight.bind fun f => f.answer.map Response.status, t.mem.reserve)
      | _ => (none, 0)) = [(some .inUse, 6000), (some .ok, 12000), (some .badParam, 6000)] := by decide +kernel

/-- `s` with the generations given. -/
def programmed (g : Vector Generation 4) (s : State) : State := { s with prof := { s.prof with gens := g } }

/-- A generation written from the factory defaults that fails its check. -/
def failing : Generation := .written Config.factory (Config.factory.crc + 1)

theorem failing_fails : failing.state = .failing := by
  have ne (x : BitVec 16) : x ≠ x + 1 := fun h => by simp at h
  unfold failing Generation.state
  exact if_neg (ne _)

/-- A write under way; no generation left; the first and the last generation free; a write at its 20th boundary; reads of
0, 1, 4 and 5. -/
theorem witness_ProfilesAreProgrammed :
    let w (n : Nat) : Generation := .writing Config.factory n
    let last : State := programmed #v[failing, failing, failing, .unprogrammed] State.reset
    let writing : State := due .profileDone (programmed #v[.unprogrammed, .unprogrammed, .unprogrammed, w 20] State.reset)
    let full : State := programmed (Vector.replicate 4 failing) State.reset
    (Takes .C State.reset ∧ State.reset.dev.state = .standby ∧ State.reset.prof.gens[0] = .unprogrammed ∧
      State.reset.prof.gens[3] = .unprogrammed) ∧
    (Takes .C { writing with due := [] } ∧ (writing.prof.gens[3]).state = .writing) ∧
    (Takes .C full ∧ (full.prof.gens[0]).state = .failing ∧ (full.prof.gens[3]).state = .failing) ∧
    (Takes .C last ∧ (last.prof.gens[3]).state = .unprogrammed ∧ (last.prof.gens[2]).state = .failing ∧
      last.prof.gens[0] = .written Config.factory (Config.factory.crc + 1)) ∧
    (Found .profileDone writing ∧ writing.prof.gens[3] = w 20 ∧
      (∀ j : Fin 4, j ≠ 3 → (writing.prof.gens[j]).state ≠ .writing)) ∧
    (∀ c crc, State.reset.prof.gens[0] ≠ .written c crc) ∧
    (4 < (5 : Byte).toNat ∧ (4 : Byte).toNat = (3 : Fin 4).val + 1 ∧ (1 : Byte).toNat = (0 : Fin 4).val + 1) := by
  unfold Takes Found
  exact ⟨⟨by decide +kernel, rfl, rfl, rfl⟩, ⟨by decide +kernel, rfl⟩, ⟨by decide +kernel, failing_fails, failing_fails⟩,
    ⟨by decide +kernel, rfl, failing_fails, rfl⟩, ⟨by decide +kernel, rfl, by decide +kernel⟩, fun c crc h => (by cases h),
    by decide +kernel, rfl, rfl⟩

-- witnesses: supplies and resets

/-- No generation programmed; generation 1 VALID with a FAILING one above it, and generation 4 VALID; supplies present. -/
theorem witness_PowerUpLoadsTheProfile :
    let valid : Generation := .written Config.factory Config.factory.crc
    let low := programmed #v[valid, .unprogrammed, failing, .unprogrammed] State.reset
    let high := programmed #v[failing, failing, failing, valid] State.reset
    (∀ i : Fin 4, State.reset.prof.gens[i] = .unprogrammed) ∧ State.reset.dev.supply ≠ .failed ∧
    (low.prof.gens[0] = .written Config.factory Config.factory.crc ∧ .profileDone ∉ low.due ∧
      ∀ j : Fin 4, 0 < j → (low.prof.gens[j]).state ≠ .valid) ∧
    (high.prof.gens[3] = .written Config.factory Config.factory.crc ∧ .profileDone ∉ high.due ∧
      ∀ j : Fin 4, 3 < j → (high.prof.gens[j]).state ≠ .valid) := by
  have other {g : Generation} {a b : GenState} (h : g.state = a) (n : a ≠ b) : g.state ≠ b := h ▸ n
  refine ⟨by decide +kernel, by decide +kernel, ⟨rfl, by decide, ?_⟩, rfl, by decide, fun j h => absurd h (by omega)⟩
  intro j h
  match j with
  | 0 => exact absurd h (by decide)
  | 1 => exact other (a := .unprogrammed) rfl (by decide)
  | 2 => exact other failing_fails (by decide)
  | 3 => exact other (a := .unprogrammed) rfl (by decide)

/-- A write under way, with supplies; the part at rest, a command none of the four that reach it. -/
theorem witness_StoppedPartsAreInert :
    let s := programmed #v[.writing Config.factory 19, .unprogrammed, .unprogrammed, .unprogrammed] State.reset
    let off (p : Supply) : State := { airing with dev := { airing.dev with supply := p } }
    (.profileDone ∉ s.due ∧ s.dev.supply ≠ .failed ∧ (s.prof.gens[0]).state = .writing ∧ (s.prof.gens[1]).state ≠ .writing) ∧
    (∃ t, exec .powerOn s = .next t) ∧
    ((off .failed).dev.supply ≠ .running ∧ (off .resetLow).dev.supply ≠ .running ∧ (off .loading).dev.supply = .loading ∧
      Instr.airStop .C [] ≠ .powerUpEnd ∧ Instr.airStop .C [] ≠ .powerOn ∧
      Instr.airStop .C [] ≠ .hardwareReset ∧ Instr.airStop .C [] ≠ .powerLoss ∧ Instr.airStop .C [] ≠ .resetLineLow) :=
  ⟨by decide +kernel, ⟨_, rfl⟩, by decide +kernel⟩

/-- SOFT RESET's OK in flight, a capture under way and a profile write broken off; a link timeout left to its row. -/
theorem witness_SoftResetIsMade :
    let c : Capture := ⟨0, .pgmLive, 3⟩
    let s := answered .C 0x32 .ok .none (programmed #v[.writing Config.factory 1, failing, .unprogrammed, .unprogrammed]
      (capturing (some c) none (withClip 0 { twoSegments true false 0 with state := .capturing } airing)))
    Takes .C airing ∧ ((due .linkTimeout s).live = true ∧ (due .linkTimeout s).due = [.linkTimeout]) ∧
      (s.dev.supply = .running ∧ (s.link .C).inFlight = some ⟨0x32, some ⟨0x32, .ok, .none⟩⟩ ∧ Settled s) ∧ (s.prof.gens[0]).state = .writing ∧ (s.prof.gens[1]).state ≠ .writing ∧ s.clips.channels[0] = some c ∧
      (s.clips.playout[c.clip]).count ≠ 0 := by
  unfold Takes Settled
  refine ⟨by decide +kernel, by decide +kernel, by decide +kernel, rfl, ?_, by decide +kernel, by decide +kernel⟩
  exact (congrArg (· ≠ GenState.writing) failing_fails).mpr (by decide)

-- witnesses: the laws

/-- The reset state has what every law keeps, and a step is taken from it. -/
theorem witness_laws_at_reset : MemoryCanonical State.reset ∧ ReserveKept State.reset ∧ Numbered State.reset ∧
    OneAiring State.reset ∧ DelayBounded State.reset ∧ step State.reset = .next State.reset := by
  refine ⟨?_, ?_, fun f h => (by cases h), ?_, ?_, rfl⟩
  · unfold MemoryCanonical; decide +kernel
  · unfold ReserveKept; decide +kernel
  · unfold OneAiring; decide +kernel
  · unfold DelayBounded ExcessBounded; decide +kernel

/-- A state on air, a line in each slot, has what the laws of the lines keep. -/
theorem witness_LinesStayPlaced : LinesKept (bothSlots airing) ∧ LinesKept (oneHeld State.reset) := by
  unfold LinesKept LinesPlaced; decide +kernel

/-- A pool of two segments, one of them a clip's. -/
theorem witness_TheMemoryStaysSound :
    let s : State := { State.reset with mem := { State.reset.mem with
      ring := 16382, reserve := 1, free := [16383], held := [(16382, .playout 0)], general := 1 } }
    PoolMapped s ∧ ReserveKept s ∧ MemoryCanonical s := by
  refine ⟨⟨by decide +kernel, fun n => ?_, by decide +kernel, by decide +kernel⟩, ?_, ?_⟩
  · simp only [Config.segments, List.map_cons, List.map_nil, List.cons_append, List.nil_append, List.mem_cons,
      List.not_mem_nil, or_false]
    omega
  · unfold ReserveKept; decide +kernel
  · unfold MemoryCanonical; decide +kernel

-- witnesses: the clauses at the step

/-- `nothing`, the timed events left to their rows. -/
def leaving : InputBoundary := { nothing with leave := true }

/-- `quiet`, the timed events left to their rows. -/
def leavingOut : OutputBoundary := { quiet with leave := true }

/-- `s` with no function on any panel line. -/
def noPanel (s : State) : State :=
  { s with panel := { s.panel with settings := { s.panel.settings with lines := Vector.replicate 8 ⟨.input, true, .none⟩ } } }

/-- `s` with an alert record queued in slot 1. -/
def queued (r : AlertRecord) (s : State) : State :=
  let t := withRecord r s
  { t with alerts := { t.alerts with queue := [0] } }

/-- A TEST record takes the air at an ordinary check in IDLE alone. -/
theorem test_waits {s : State} {r : AlertRecord} {v : EngineState} (hv : v ≠ .idle) (hr : r.cls = .test)
    (ho : r.overdue = false) : NoneTakes .ordinary v (queued r s) := by
  refine .inr (.inr fun k hk x hx => ?_)
  rw [show (queued r s).alerts.queue = [0] from rfl, List.mem_singleton] at hk
  subst hk
  rw [show (queued r s).record 0 = some r by simp [queued, withRecord, State.setRecord, State.record]] at hx
  cases hx
  simp [hr, ho, hv]

/-- The one record queued takes the air. -/
theorem takes_air {s : State} {c : Check} {v : EngineState} {k : AlertSlot} {r : AlertRecord}
    (h : s.dev.state = .onAir ∧ (∀ j, ∀ x ∈ s.record j, x.phase ≠ .airing) ∧ s.alerts.queue = [k] ∧ s.record k = some r)
    (e : r.overdue = true ∨ match c with
      | .ordinary => r.cls = .immediate ∨ r.cls = .warning ∧ v ≠ .playing ∧ v ≠ .held ∨ r.cls = .test ∧ v = .idle
      | .itemOffer => r.cls ≠ .test
      | .markOffer => True
      | .airingEnd => r.cls ≠ .test) : TakesAir c v k s :=
  ⟨h.1, fun j x hx => h.2.1 j x hx, [], [], r, h.2.2.1, h.2.2.2, e, none_queued rfl _ _⟩

/-- A command in POWER_UP, in STANDBY, ON_AIR, and under an alert, that the table does not take there. -/
theorem witness_CommandsAreTaken :
    let ok (i : Instr) (l : Link) (code : Nat) (ps : List Byte) (s : State) : Prop := i.frame = some (l, code, ps) ∧
      LinkFree l s ∧ Settled s ∧ ∃ r ∈ commandTable, r.code = code ∧ l ∈ r.links
    let alerted : State := { airing with sup := { airing.sup with mode := some .alert } }
    (ok (.identify .S []) .S 0x01 [] (poweringUp State.reset) ∧ (poweringUp State.reset).dev.state = .powerUp) ∧
    (ok (.alertBegin .A []) .A 0x60 [] State.reset ∧ State.reset.dev.state = .standby) ∧
    (ok (.airStart .C []) .C 0x30 [] airing ∧ airing.dev.state = .onAir ∧ airing.sup.mode.isSome = true) ∧
    (ok (.callerTakeNext .C []) .C 0x38 [] alerted ∧ alerted.sup.mode = some .alert) := by
  unfold LinkFree Settled; constructorm* _ ∧ _ <;> decide +kernel

theorem witness_ParameterBytes : ∀ c ∈ [0x04, 0x05, 0x52, 0x53, 0x54, 0x60, 0x01, 0x63], ∃ r ∈ commandTable, r.code = c := by
  decide +kernel

/-- The longest frame of a command, and a body that is not its check byte's. -/
theorem witness_FramesAreRead :
    (Instr.alertBegin .A (List.replicate 249 0)).frame = some (.A, 0x60, List.replicate 249 0) ∧
    (List.replicate 249 (0 : Byte)).length ≤ 249 ∧ crc8 (BitVec.ofNat 8 1 :: 0x01 :: []) ≠ 0x13 := by decide +kernel

/-- R196: IDENTIFY's frame, the same with a wrong check byte, and on a busy link; a start byte that is none. -/
theorem test_frames_are_read : readFrame false .P [0xA5, 0x01, 0x01, 0x12] = some (.identify .P []) ∧
    readFrame false .P [0xA5, 0x01, 0x01, 0x13] = some (.badFrame ⟨.P, [0x01], 0x13⟩) ∧
    readFrame true .P [0xA5, 0x01, 0x01, 0x12] = some (.frameWhileBusy .P ⟨[0x01], 0x12⟩) ∧
    readFrame false .P [0xA4, 0x01, 0x01, 0x12] = none ∧ readFrame false .P [0xA5, 0x00, 0x00] = none := by decide +kernel

theorem witness_ResponsesFit : (Response.mk 1 .ok .none).result = .none ∧
    (Response.mk 0x13 .ok (.bytes (List.replicate 248 0))).result = .bytes (List.replicate 248 0) ∧
    (List.replicate 248 (0 : Byte)).length ≤ 248 := by decide +kernel

/-- A source and a clip in two contributors, a caller's line with its trim. -/
theorem witness_BlocksAreMixed :
    let s := ((withClip 0 (twoSegments false true 1) (bothSlots airing)).setReader .voiceA
      (some ⟨.playout 0, 1, false, false⟩)).setContrib .voiceA ⟨some (.clip (.playout 0)), 5, 5, none, some ⟨9, 3, .level⟩⟩
    s.live = true ∧ s.due = [] ∧ nothing.upsets = [] ∧ s.mix.alert.binding = none ∧
      (s.contrib .caller1).binding = some (.source 3) ∧
      (s.contrib (voiceContributor .A)).binding = some (.clip (.playout 0)) ∧
      s.clips.reader (voiceReader .A) = some ⟨.playout 0, 1, false, false⟩ ∧ (s.segments (.playout 0))[1]? = some 2004 := by
  constructorm* _ ∧ _ <;> decide +kernel

theorem witness_FadesStep :
    let s := noPanel (airing.setContrib .studio (sounding 0 (some ⟨0, 32768, 3, 2, .level⟩) none))
    s.live = true ∧ s.due = [] ∧ leaving.first = [] ∧ leaving.leave = true ∧ s.clips.readerA = none ∧
      s.clips.readerB = none ∧ s.clips.readerAlert = none ∧ s.clips.alertCapture = none ∧ s.alerts.tone = none ∧
      (∀ n : PanelLineNo, (s.panel.settings.lines[n]).direction = .output ∨ (s.panel.settings.lines[n]).function = .none) ∧
      (s.contrib .studio).binding ≠ none ∧ (s.contrib .voiceA).binding = none := by decide +kernel

/-- ALERT on a clip with its reader at a segment, ended, and with none. -/
theorem witness_AlertClipsSoundAlone :
    let s := (withClip 0 (twoSegments false true 1) airing).setContrib .alert
      ⟨some (.clip (.playout 0)), 32768, 32768, none, none⟩
    let at' (e : Bool) := s.setReader .alert (some ⟨.playout 0, 1, e, false⟩)
    s.live = true ∧ s.due = [] ∧ nothing.upsets = [] ∧
      s.mix.alert = ⟨some (.clip (.playout 0)), 32768, 32768, none, none⟩ ∧ s.clips.readerAlert = none ∧
      (at' false).clips.readerAlert = some ⟨.playout 0, 1, false, false⟩ ∧
      ((at' false).segments (.playout 0))[1]? = some 2004 ∧
      (at' true).clips.readerAlert = some ⟨.playout 0, 1, true, false⟩ := by
  constructorm* _ ∧ _ <;> decide +kernel

/-- A RELEASING voice without and with a reader; a voice whose item, a GAP, is ending. -/
theorem witness_VoicesFadeOut :
    let f : Fade := ⟨32768, 0, 5, 5, .out⟩
    let on (v : VoiceState) (s : State) : State :=
      due (.fadeComplete .voiceA) ((s.setVoice .A v).setContrib .voiceA (sounding 1 (some f) none))
    let clip := (withClip 0 (twoSegments false true 1) airing).setReader .voiceA (some ⟨.playout 0, 0, false, false⟩)
    let e : Entry := { playing .gap (some 9) 5 4 with ending := true }
    let s := on (.carrying 0) (cueing [e] .playing airing)
    let ok (s : State) : Prop := Found (.fadeComplete (voiceContributor .A)) s ∧
      (s.contrib (voiceContributor .A)).fade = some f ∧ f.purpose = .out ∧ f.length ≤ f.done
    (ok (on (.releasing 0) airing) ∧ (on (.releasing 0) airing).voice .A = .releasing 0 ∧
      (on (.releasing 0) airing).clips.reader (voiceReader .A) = none) ∧
    (ok (on (.releasing 0) clip) ∧
      (on (.releasing 0) clip).clips.reader (voiceReader .A) = some ⟨.playout 0, 0, false, false⟩) ∧
    (ok s ∧ s.voice .A = .carrying 0 ∧ s.carried .A = some 0 ∧ s.cue.entries[0]? = some e ∧ e.ending = true ∧
      e.kind = .gap ∧ e.segue = false ∧ s.cue.state = .playing ∧ s.cue.goPending = false ∧ s.cue.window = none ∧
      s.clips.reader (voiceReader .A) = none ∧ ∀ c v, NoneTakes c v s) := by
  unfold Found; constructorm* _ ∧ _ <;> first | exact fun _ _ => none_queued rfl _ _ | decide +kernel

theorem witness_DumpsAreCarriedOut :
    let s := delaying (some .unlimited) 960000 0 airing
    s.live = true ∧ s.due = [] ∧ quiet.upsets = [] ∧ s.delay.state ≠ .off ∧ s.delay.dump = some .unlimited ∧
      s.delay.readPos = some (2002, 479) := by decide +kernel

/-- `s` with two segments of the delay region as given. -/
def stored (a b : Segment) (s : State) : State := { s with mem := { s.mem with cells := [(0, a), (2002, b)] } }

/-- A read at the last frame of segment 2,002, with the alert in it and in the next, segment 0. -/
theorem witness_AlertsArePlayedPlain :
    let g : Segment := { Segment.silent with alertId := some 7 }
    let ok (s : State) : Prop := s.live = true ∧ s.due = [] ∧ quiet.upsets = [] ∧ 479 < 480 ∧ s.delay.state ≠ .off ∧
      s.delay.dump = none ∧ s.delay.fed = true ∧ s.delay.readPos = some (2002, 479)
    (ok (stored Segment.silent g airing) ∧
      ((stored Segment.silent g airing).mem.read (2002 % 2003)).alertId.isSome = true) ∧
    (ok (stored g Segment.silent airing) ∧
      ((stored g Segment.silent airing).mem.read ((2002 + (479 + 480) / 480) % 2003)).alertId.isSome = true) := by
  constructorm* _ ∧ _ <;> decide +kernel

theorem witness_ReadsAreInterpolated :
    let s (excess : Nat) : State := delaying none excess 0 airing
    (s 0).live = true ∧ (s 0).due = [] ∧ quiet.upsets = [] ∧ 479 < 480 ∧ (s 0).delay.state ≠ .off ∧
      (s 0).delay.dump = none ∧ (s 0).delay.fed = true ∧ (s 0).delay.readPos = some (2002, 479) ∧
      (s 0).readShape (2002, 479) = .stretch 48 ∧ (s 960001).readShape (2002, 479) = .compress 1 ∧ 48 ≤ 48 := by
  simp only [fun n => shape_of_silence (s := delaying none n 0 airing) rfl]
  constructorm* _ ∧ _ <;> decide +kernel

/-- The segment at the read position fails its check and carries an active record's id. -/
theorem witness_FailingSegmentsAreReported :
    let g : Segment := { Segment.silent with check := segmentCheck Block.silent + 1, alertId := some 7 }
    let s := withRecord (alert 7 .immediate .airing) (stored Segment.silent g airing)
    (s.live = true ∧ s.due = [] ∧ leavingOut.upsets = [] ∧ 479 < 480 ∧ leavingOut.first = [] ∧ leavingOut.leave = true ∧
      s.mem.errors ≤ 65535 ∧ s.delay.state ≠ .off ∧ s.delay.dump = none ∧ s.delay.fed = true ∧
      s.delay.readPos = some (2002, 479) ∧ (s.mem.read 2002).alertId = some 7) ∧
    segmentCheck (s.mem.read 2002).frames ≠ (s.mem.read 2002).check := by
  have ne (x : BitVec 16) : x ≠ x + 1 := fun h => by simp at h
  exact ⟨by decide +kernel, ne _⟩

/-- `s` with a pool of two segments, 16,382 held by `c`, which has it as its one segment. -/
def smallPool (c : ClipRef) (general alertCount reserve : Nat) (s : State) : State :=
  { s with mem := { s.mem with
    ring := 16382, reserve := reserve, free := [16383], held := [(16382, c)], general := general, alertCount := alertCount } }

theorem small_pool_mapped (c : ClipRef) (r : Nat) (s : State) :
    PoolMapped (smallPool c (match c with | .playout _ => 1 | .alert _ => 0)
      (match c with | .playout _ => 0 | .alert _ => 1) r s) := by
  refine ⟨by simp [smallPool], fun n => ?_, by cases c <;> rfl, by cases c <;> rfl⟩
  simp only [smallPool, Config.segments, List.map_cons, List.map_nil, List.cons_append, List.nil_append, List.mem_cons,
    List.not_mem_nil, or_false]
  omega

/-- The delay OFF and not. -/
theorem witness_FormedBlocksAreWritten :
    let off := smallPool (.playout 0) 1 0 1 State.reset
    let on := smallPool (.playout 0) 1 0 1 airing
    (off.live = true ∧ off.due = [] ∧ nothing.upsets = [] ∧ off.delay.writeHead < off.mem.ring ∧ off.delay.state = .off) ∧
    (on.live = true ∧ on.due = [] ∧ on.delay.writeHead < on.mem.ring ∧ on.delay.state ≠ .off) ∧
    ((off.delay.state = .off ↔ off.dev.state ≠ .onAir) ∧ (on.delay.state = .off ↔ on.dev.state ≠ .onAir)) ∧
    (MemoryCanonical off ∧ MemoryCanonical on) ∧ PoolMapped off ∧ PoolMapped on := by
  refine ⟨by decide +kernel, by decide +kernel, by decide +kernel, ?_, small_pool_mapped (.playout 0) 1 _,
    small_pool_mapped (.playout 0) 1 _⟩
  unfold MemoryCanonical; decide +kernel

/-- ALERT active; an entry PLAYING; a clip that fills; FILLING without it; IDLE. -/
theorem witness_FormedBlocksAreLabelled :
    let ok (s : State) : Prop := s.live = true ∧ s.due = []
    let a := (withRecord (alert 7 .immediate .airing) airing).setContrib .alert (sounding 7 none none)
    let p := streaming 3 airing
    let fill (v : VoiceState) : State := cueing [] .filling (((withClip 0 (twoSegments true true 1) airing).setReader .voiceA
      (some ⟨.playout 0, 0, false, false⟩) |>.setVoice .A v).setContrib .voiceA (sounding 1 none none))
    (ok a ∧ a.mix.alert.binding.isSome = true ∧ a.record 0 = some (alert 7 .immediate .airing) ∧
      ∀ j, ∀ x ∈ a.record j, x.phase = .airing → j = 0) ∧
    (ok p ∧ p.mix.alert.binding = none ∧ p.cue.state = .playing ∧
      p.cue.entries = [] ++ playing (.stream .s1) (some 10) 4 3 :: []) ∧
    (ok (fill .filling) ∧ (fill .filling).cue.state = .filling ∧ (fill .filling).cue.voiceA = .filling ∧
      (fill .filling).mix.voiceA.binding.isSome = true ∧
      (fill .filling).clips.readerA = some ⟨.playout 0, 0, false, false⟩) ∧
    (ok (fill .free) ∧ (fill .free).cue.voiceA ≠ .filling) ∧ ok airing ∧ airing.cue.state = .idle := by
  constructorm* _ ∧ _ <;> decide +kernel

/-- The ids 0 and 64; an EMPTY clip and a READY one. -/
theorem witness_StopsAreRefused : Takes .P State.reset ∧ (0 : Byte).toNat = 0 ∧ 63 < (64 : Byte).toNat ∧
    (63 : Byte).toNat = (62 : ClipId).val + 1 ∧ (State.reset.clips.playout[62]).state = .empty ∧
    Takes .P (withClip 62 (twoSegments true false 0) State.reset) ∧
    ((withClip 62 (twoSegments true false 0) State.reset).clips.playout[62]).state ≠ .capturing := by
  unfold Takes; constructorm* _ ∧ _ <;> decide +kernel

/-- R62: CLIP CAPTURE STOP of clips 0 and 1, the second EMPTY and recorded by no channel. -/
theorem test_stops_are_refused : ([0, 1].map fun id => match exec (.clipCaptureStop .P [id]) State.reset with
    | .next t => (t.link .P).sending.map Response.status
    | _ => none) = [some .badParam, some .notFound] := by decide +kernel

/-- One segment recorded, an alert clip's, another record PENDING in the queue, and a playout clip's, of S0 and of PGM_LIVE; room, and the reserve reached. -/
theorem witness_CapturesRecordBlocks :
    let one : Clip := ⟨.capturing, false, false, none, some 16382, 1, false, false, 0⟩
    let a : State :=
      let t := smallPool (.alert 0) 0 1 1 State.reset
      let u := (withRecord (alert 7 .test .receiving) { t with clips := { t.clips with
        alert := t.clips.alert.set 0 one, alertCapture := some 0 } }).setRecord 1 (some (alert 8 .test .pending))
      { u with alerts := { u.alerts with queue := [1] } }
    let p (reserve : Nat) (x : CaptureSource) : State :=
      let t := capturing none (some ⟨0, x, 9⟩) (smallPool (.playout 0) 1 0 reserve State.reset)
      { t with clips := { t.clips with playout := t.clips.playout.set 0 one } }
    let ok (c : ClipRef) (s : State) : Prop := s.live = true ∧ s.due = [] ∧ leaving.upsets = [] ∧ leaving.first = [] ∧
      leaving.leave = true ∧ s.mem.wf = true ∧ s.delay.writeHead < s.mem.ring ∧ s.clips.readerA = none ∧
      s.clips.readerB = none ∧ s.clips.readerAlert = none ∧ s.alerts.tone = none ∧
      ∀ k ∈ s.segments c, s.mem.holder k = .clip c
    (ok (.alert 0) a ∧ a.clips.channels = Vector.replicate 2 none ∧ a.clips.alertCapture = some 0 ∧ a.mem.free ≠ [] ∧
      a.record 0 = some (alert 7 .test .receiving) ∧ ∀ j ∈ a.alerts.queue, ∃ y ∈ a.record j, y.phase = .pending) ∧
    (∀ x ∈ [CaptureSource.source 0, .pgmLive], ok (.playout 0) (p 0 x) ∧ (p 0 x).clips.alertCapture = none ∧
      (p 0 x).clips.channels[1] = some ⟨0, x, 9⟩ ∧ (p 0 x).clips.channels[0] = none ∧
      (p 0 x).mem.general < 16384 - (p 0 x).mem.ring - (p 0 x).mem.reserve) ∧
    (ok (.playout 0) (p 1 .pgmLive) ∧ 16384 - (p 1 .pgmLive).mem.ring - 1 ≤ (p 1 .pgmLive).mem.general) ∧
    PoolMapped a ∧ PoolMapped (p 0 .pgmLive) ∧ PoolMapped (p 1 .pgmLive) := by
  refine ⟨?_, ?_, ?_, small_pool_mapped (.alert 0) 1 _, small_pool_mapped (.playout 0) 0 State.reset,
    small_pool_mapped (.playout 0) 1 State.reset⟩
  · constructorm* _ ∧ _ <;> decide +kernel
  · intro x hx
    rcases List.mem_cons.1 hx with rfl | hx
    · constructorm* _ ∧ _ <;> decide +kernel
    · rcases List.mem_singleton.1 hx with rfl
      constructorm* _ ∧ _ <;> decide +kernel
  · constructorm* _ ∧ _ <;> decide +kernel

/-- The ids 0 and 64; the last segment of clip 63 failing its check, its last 36 frames. -/
theorem witness_ClipReadFailures :
    let t := withClip 62 (twoSegments true false 0) State.reset
    let s : State := { t with mem := { t.mem with cells := [(2003, { Segment.silent with link := some 2004 }),
      (2004, { Segment.silent with check := segmentCheck Block.silent + 1 })] } }
    ((Takes .P s ∧ (0 : Byte).toNat = 0 ∧ 63 < (64 : Byte).toNat ∧ (63 : Byte).toNat = (62 : ClipId).val + 1) ∧
      ((1 : Byte).toNat * 256 + (188 : Byte).toNat + (36 : Byte).toNat ≤ 480 ∧ 1 ≤ (36 : Byte).toNat) ∧
      (s.segments (.playout 62))[1]? = some 2004 ∧ s.mem.holder 2004 = .clip (.playout 62)) ∧
    segmentCheck (s.mem.read 2004).frames ≠ (s.mem.read 2004).check := by
  have ne (x : BitVec 16) : x ≠ x + 1 := fun h => by simp at h
  refine ⟨?_, ne _⟩
  unfold Takes; constructorm* _ ∧ _ <;> decide +kernel

/-- `s` with an alert clip of one segment in slot 1, READY or CAPTURING. -/
def alertClip (st : ClipState) (s : State) : State :=
  let t := smallPool (.alert 0) 0 1 1 s
  { t with clips := { t.clips with alert := t.clips.alert.set 0 ⟨st, false, false, none, some 16382, 1, false, false, 0⟩ } }

/-- ALERT's reader at the last segment of an alert clip, which passes its check, and which fails it. -/
theorem witness_AlertReadersFollowTheChain :
    let s := (alertClip .ready (withRecord (alert 7 .warning .airing) State.reset)).setReader .alert
      (some ⟨.alert 0, 0, false, false⟩)
    let bad : State := { s with mem := { s.mem with
      cells := [(16382, { Segment.silent with check := segmentCheck Block.silent + 1 })] } }
    ((s.clips.readerAlert = some ⟨.alert 0, 0, false, false⟩ ∧ (s.segments (.alert 0))[0]? = some 16382 ∧
      s.mem.holder 16382 = .clip (.alert 0)) ∧ segmentCheck (s.mem.read 16382).frames = (s.mem.read 16382).check) ∧
    ((bad.segments (.alert 0))[0]? = some 16382 ∧ bad.mem.holder 16382 = .clip (.alert 0)) ∧
    segmentCheck (bad.mem.read 16382).frames ≠ (bad.mem.read 16382).check := by
  have ne (x : BitVec 16) : x ≠ x + 1 := fun h => by simp at h
  exact ⟨⟨by decide +kernel, rfl⟩, by decide +kernel, ne _⟩

-- witnesses: the cue engine and its alerts

/-- A record queued that an ordinary check gives the air: in ARMED with the list to be cleared, and in PLAYING to be
stopped. -/
theorem witness_NoticesAreWindowChecks :
    let r := alert 7 .warning .pending
    let a := queued r (cueing [waiting .gap (some 1) 0] .armed airing)
    let p := queued r (streaming 3 airing)
    (Takes .P a ∧ a.cue.entries ≠ [] ∧ a.record 0 = some r ∧ a.cue.state = .armed ∧
      ∀ e ∈ a.cue.entries, e.state = .waiting) ∧
    (Takes .P p ∧ p.cue.entries ≠ [] ∧ p.record 0 = some r ∧ p.cue.state = .playing) ∧
    TakesAir .ordinary .idle 0 a ∧ TakesAir .ordinary .armed 0 p := by
  refine ⟨?_, ?_, takes_air (r := alert 7 .warning .pending) (by decide +kernel) (by decide +kernel),
    takes_air (r := alert 7 .warning .pending) (by decide +kernel) (by decide +kernel)⟩ <;>
  · unfold Takes; constructorm* _ ∧ _ <;> decide +kernel

/-- `s` with an entry changed that stands first. -/
def first (f : Entry → Entry) (s : State) : State :=
  { s with cue := { s.cue with entries := match s.cue.entries with | e :: es => f e :: es | [] => [] } }

/-- `s` playing a STREAM of the fade-out given, and a STREAM of S2 waiting. -/
def withNext (fadeOut : Nat) (s : State) : State :=
  let t := streaming 3 s
  { t with cue := { t.cue with
    entries := [{ playing (.stream .s1) (some 10) fadeOut 3 with segue := true }, waiting (.stream .s2) none 0] } }

/-- Go-pending; waiting for a boundary; a fade; a fade-out of 0, a TEST record queued. -/
theorem witness_ManualSegues :
    let set (p b : Bool) (s : State) : State := { s with cue := { s.cue with goPending := p, boundaryWait := b } }
    let ok (n : Nat) (s : State) : Prop := Takes .P s ∧ Takes .C s ∧ s.cue.state = .playing ∧
      s.cue.entries = { playing (.stream .s1) (some 10) n 3 with segue := true } :: waiting (.stream .s2) none 0 :: [] ∧
      s.cue.voiceA = .carrying 0 ∧ s.cue.voiceB = .free ∧ s.mix.voiceA.binding.isSome = true ∧
      s.clips.readerA = none ∧ s.clips.readerB = none
    (ok 4 (set true true (withNext 4 airing)) ∧ (set true true (withNext 4 airing)).cue.goPending = true) ∧
    (ok 4 (set false true (withNext 4 airing)) ∧ (set false true (withNext 4 airing)).cue.boundaryWait = true ∧ 0 < 4) ∧
    (ok 4 (withNext 4 airing) ∧ (withNext 4 airing).cue.goPending = false ∧
      (withNext 4 airing).cue.boundaryWait = false) ∧
    ok 0 (withNext 0 airing) ∧ NoneTakes .itemOffer .playing (withNext 0 airing) := by
  unfold Takes; constructorm* _ ∧ _ <;> first | exact none_queued rfl _ _ | decide +kernel

/-- `s` in FALLBACK, a clip filling in VOICE A, with a list. -/
def filling (es : List Entry) (s : State) : State :=
  cueing es .filling (((inFallback s).setVoice .A .filling).setContrib .voiceA (sounding 1 none none))

theorem witness_FillsGiveWayToGo :
    let h := waiting (.stream .s2) none 0
    let s := queued (alert 7 .test .pending) (filling [h] airing)
    (Takes .P s ∧ Takes .C s ∧ s.dev.state = .onAir ∧ s.sup.mode = some .fallback ∧ s.cue.state = .filling ∧
      s.cue.voiceA = .filling ∧ s.cue.voiceB = .free ∧ s.mix.voiceA.binding.isSome = true ∧ 0 < s.sup.settings.fade ∧
      s.clips.readerB = none ∧ s.cue.entries = h :: [] ∧ h.state = .waiting ∧ h.kind = .stream .s2 ∧ h.resume = none) ∧
    NoneTakes .ordinary .playing s := by
  refine ⟨?_, test_waits (by decide) rfl rfl⟩
  unfold Takes; constructorm* _ ∧ _ <;> decide +kernel

/-- A MARK without and with its segue flag and no record queued, alone and before a STREAM; with a record queued. -/
theorem witness_MarksMakeOffers :
    let m (segue : Bool) : Entry := { waiting .mark none 0 with segue := segue }
    let h := waiting (.stream .s2) none 0
    let r := alert 7 .test .pending
    let s (segue : Bool) (rest : List Entry) : State := cueing (m segue :: rest) .armed airing
    let ok (segue : Bool) (rest : List Entry) (s : State) : Prop := Takes .P s ∧ s.cue.state = .armed ∧
      s.cue.entries = m segue :: rest ∧ (m segue).kind = .mark ∧ (m segue).state = .waiting ∧
      (m segue).successorStarted = false ∧ ∀ e ∈ rest, e.state = .waiting
    (ok false [] (s false []) ∧ ok false [h] (s false [h]) ∧ ∀ c v, NoneTakes c v (s false [])) ∧
    (ok true [h] (s true [h]) ∧ h.kind = .stream .s2 ∧ h.resume = none ∧ (s true [h]).cue.voiceA = .free ∧
      (s true [h]).clips.readerA = none ∧ ∀ c v, NoneTakes c v (s true [h])) ∧
    (ok true [h] (queued r (s true [h])) ∧ (queued r (s true [h])).record 0 = some r) ∧
    TakesAir .markOffer .armed 0 (queued r (s true [h])) := by
  refine ⟨?_, ?_, ?_, takes_air (r := alert 7 .test .pending) (by decide +kernel) (.inr trivial)⟩ <;>
  · unfold Takes; constructorm* _ ∧ _ <;> first | exact fun _ _ => none_queued rfl _ _ | decide +kernel

/-- HELD from PLAYING with a held entry, and from FILLING with an empty list. -/
theorem witness_StopInHeld :
    let held (es : List Entry) (left : EngineState) : State :=
      let t := cueing es .held airing
      { t with cue := { t.cue with held := some ⟨left, none⟩ } }
    let s := held [{ playing (.stream .s1) (some 10) 4 3 with resume := some 3 }] .playing
    (Takes .P s ∧ Takes .C s ∧ s.cue.state = .held ∧ s.cue.held = some ⟨.playing, none⟩) ∧
    (held [] .filling).cue.state = .held ∧ (held [] .filling).cue.held = some ⟨.filling, none⟩ := by
  unfold Takes; constructorm* _ ∧ _ <;> decide +kernel

/-- IDLE, HELD, and ARMED with a STREAM, at GO_EDGE line 1; an open window at a boundary. -/
theorem witness_WindowsOpen :
    let h := waiting (.stream .s2) none 0
    let s := cueing [h] .armed airing
    let w : State := noPanel { airing with cue := { airing.cue with window := some ⟨.A, 29⟩ } }
    (∀ s ∈ [airing, cueing [] .held airing], (s.panel.settings.lines[0]).function = .goEdge ∧ s.cue.window = none) ∧
    airing.cue.state = .idle ∧ (cueing [] .held airing).cue.state = .held ∧
    ((s.panel.settings.lines[0]).function = .goEdge ∧ s.cue.window = none ∧ s.cue.state = .armed ∧
      s.cue.entries = h :: [] ∧ h.state = .waiting ∧ h.kind = .stream .s2 ∧ h.resume = none ∧ s.cue.voiceA = .free ∧
      s.clips.readerA = none ∧ NoneTakes .ordinary .playing s) ∧
    (w.live = true ∧ w.due = [] ∧ leaving.first = [] ∧ leaving.leave = true ∧ w.clips.readerA = none ∧
      w.clips.readerB = none ∧ w.clips.readerAlert = none ∧ w.clips.alertCapture = none ∧ w.alerts.tone = none ∧
      ∀ n : PanelLineNo, (w.panel.settings.lines[n]).direction = .output ∨ (w.panel.settings.lines[n]).function = .none) := by
  constructorm* _ ∧ _ <;> first | exact none_queued rfl _ _ | decide +kernel

/-- A remaining length of 1 and of the fade-out, a boundary wait and none, with and without its mark. -/
theorem witness_SeguesStartSuccessors :
    let e (n : Nat) (m : Bool) : Entry :=
      { playing (.stream .s1) (some 10) 4 n with segue := true, successorStarted := m }
    let h := waiting (.stream .s2) none 0
    let s (n : Nat) (m b : Bool) : State :=
      let t := due (.endFadeStart .A) (withNext 4 airing)
      { t with cue := { t.cue with entries := [e n m, h], clock := 1, counted := 1, boundaryWait := b } }
    let ok (n : Nat) (m : Bool) (s : State) : Prop := Found (.endFadeStart .A) s ∧ s.cue.state = .playing ∧
      s.cue.entries = e n m :: h :: [] ∧ s.cue.voiceA = .carrying 0 ∧ 0 < s.cue.counted ∧ s.cue.voiceB = .free ∧
      s.mix.voiceA.binding.isSome = true ∧ s.clips.readerB = none ∧ s.cue.goPending = false
    (ok 6 false (s 6 false false) ∧ (s 6 false false).cue.boundaryWait = false ∧ 0 < 4 ∧ 10 - 6 ≤ 4) ∧
    (ok 9 false (s 9 false true) ∧ (s 9 false true).cue.boundaryWait = true ∧ 0 < 10 - 9) ∧
    (ok 9 true (s 9 true false) ∧ (e 9 true).successorStarted = true) := by
  unfold Found; constructorm* _ ∧ _ <;> decide +kernel

/-- A GAP at its limit, alone; a CLIP whose reader is at its last segment, an entry waiting behind. -/
theorem witness_ClipsAndGapsEnd :
    let g := due (.durationLimit .A) (cueing [playing .gap (some 3) 0 3] .playing (airing.setVoice .A (.carrying 0)))
    let c := playing (.clip 0) none 0 1
    let h := waiting .gap (some 1) 0
    let s := noPanel ((cueing [c, h] .playing ((withClip 0 (twoSegments false false 2) airing).setVoice .A
      (.carrying 0) |>.setReader .voiceA (some ⟨.playout 0, 1, false, false⟩))).setContrib .voiceA
      ⟨some (.clip (.playout 0)), 32768, 32768, none, none⟩)
    (g.live = true ∧ g.cue.state = .playing ∧ g.cue.entries = playing .gap (some 3) 0 3 :: [] ∧
      g.cue.voiceA = .carrying 0 ∧ g.cue.goPending = false ∧ Found (.durationLimit .A) g ∧
      g.mix.voiceA.binding = none ∧ ∀ c v, NoneTakes c v g) ∧
    (s.live = true ∧ s.cue.state = .playing ∧ s.cue.entries = c :: h :: [] ∧ s.cue.voiceA = .carrying 0 ∧
      s.cue.goPending = false ∧ s.due = [] ∧ leaving.first = [] ∧ leaving.leave = true ∧
      s.clips.readerA = some ⟨.playout 0, 1, false, false⟩ ∧ s.mix.voiceA.binding = some (.clip (.playout 0)) ∧
      (s.clips.playout[0]).loop = false ∧ (s.clips.playout[0]).count ≤ 1 + 1 ∧ s.clips.readerB = none ∧
      s.clips.readerAlert = none ∧ s.alerts.tone = none ∧ s.clips.channels = Vector.replicate 2 none ∧
      s.clips.alertCapture = none ∧ (∀ x ∈ [h], x.state = .waiting) ∧ (∀ c v, NoneTakes c v s) ∧
      ∀ j : PanelLineNo, (s.panel.settings.lines[j]).direction = .output ∨ (s.panel.settings.lines[j]).function = .none) := by
  unfold Found; constructorm* _ ∧ _ <;> first | exact fun _ _ => none_queued rfl _ _ | decide +kernel

/-- A STREAM at its limit with its segue flag, an ADVISORY record queued. -/
theorem witness_OffersAreTaken :
    let r := alert 7 .advisory .pending
    let e : Entry := { playing (.stream .s1) (some 10) 4 10 with segue := true }
    let s := due (.durationLimit .A) (queued r (first (fun _ => e) (withNext 4 airing)))
    (Found (.durationLimit .A) s ∧ s.cue.state = .playing ∧ s.cue.entries = e :: waiting (.stream .s2) none 0 :: [] ∧
      10 ≤ e.played ∧ e.released = false ∧ e.successorStarted = false ∧ s.cue.voiceA = .carrying 0 ∧
      s.cue.goPending = false ∧ s.record 0 = some r) ∧ TakesAir .itemOffer .playing 0 s := by
  refine ⟨?_, takes_air (r := alert 7 .advisory .pending) (by decide +kernel) (.inr (by decide))⟩
  unfold Found; constructorm* _ ∧ _ <;> decide +kernel

/-- A STREAM at its limit, another ending in VOICE B; with no segue flag, with one, and with the list then empty. -/
theorem witness_OffersAreTakenDuringAnEnding :
    let r := alert 7 .advisory .pending
    let e (segue : Bool) : Entry := { playing (.stream .s1) (some 10) 4 10 with segue := segue }
    let x : Entry := { playing (.stream .s2) none 4 9 with voice := some .B, ending := true }
    let h := waiting .gap (some 3) 0
    let s (segue : Bool) (rest : List Entry) : State :=
      let t := cueing (e segue :: x :: rest) .playing (queued r airing)
      due (.durationLimit .A) { t with cue := { t.cue with voiceA := .carrying 0, voiceB := .carrying 1 } }
    let ok (segue : Bool) (rest : List Entry) : Prop := Found (.durationLimit .A) (s segue rest) ∧
      (s segue rest).cue.state = .playing ∧ (s segue rest).cue.entries = e segue :: x :: rest ∧
      10 ≤ (e segue).played ∧ (e segue).released = false ∧ (e segue).voice = some .A ∧
      (s segue rest).cue.voiceA = .carrying 0 ∧ x.state = .playing ∧ x.voice = some .B ∧ x.ending = true ∧
      (s segue rest).cue.voiceB = .carrying 1 ∧ (s segue rest).record 0 = some r
    (ok false [h] ∧ ok true [h] ∧ ok false [] ∧ h.state = .waiting ∧ x.segue = false ∧
      (s false [h]).cue.goPending = false ∧ (e true).successorStarted = false) ∧
    TakesAir .itemOffer .playing 0 (s false [h]) ∧ TakesAir .itemOffer .playing 0 (s true [h]) ∧
      TakesAir .itemOffer .playing 0 (s false []) := by
  refine ⟨?_, takes_air (r := alert 7 .advisory .pending) (by decide +kernel) (.inr (by decide)),
    takes_air (r := alert 7 .advisory .pending) (by decide +kernel) (.inr (by decide)),
    takes_air (r := alert 7 .advisory .pending) (by decide +kernel) (.inr (by decide))⟩
  unfold Found; constructorm* _ ∧ _ <;> decide +kernel

-- witnesses: where the callers go

/-- `s` with the line in slot 2 being released. -/
def releasingSlot (d : Disposition) (s : State) : State :=
  let t := bothSlots s
  { t with callers := { t.callers with slots := #v[⟨some 0, none⟩, ⟨some 3, some d⟩] } }

/-- The hold queue with no line in it stands as the Caller Unit keeps it. -/
theorem queue_empty {s : State} (h : s.callers.queue = []) (n : s.callers.nextNumber < 65534) : QueueNumbered s := by
  unfold QueueNumbered QueueInOrder
  simp only [h, List.Pairwise.nil, List.not_mem_nil, false_imp_iff, implies_true, and_true, true_and]
  exact n

/-- Both slots occupied, and one of them by a line whose release is in progress. -/
theorem witness_AirStopReturnsTheLines :
    let ok (s : State) : Prop := Takes .C s ∧ s.dev.state = .onAir ∧ s.delay.alertSegs = 0 ∧
      (∀ k, ∀ r ∈ s.record k, r.phase ≠ .airing) ∧
      (∀ k, (s.slot k).occupant = none → (s.slot k).release = none) ∧ LinesKept s
    (ok (bothSlots airing) ∧ QueueNumbered (bothSlots airing)) ∧
    (ok (releasingSlot .hold airing) ∧ QueueNumbered (releasingSlot .hold airing)) := by
  unfold Takes LinesKept LinesPlaced
  constructorm* _ ∧ _ <;> first | exact queue_empty rfl (by decide +kernel) | decide +kernel

/-- R118: AIR STOP with both lines in slots, one being released: slot 1's line takes number 1, and LINE_OFF_AIR records
AIR_STOP for the release that the notice ends. -/
theorem test_air_stop_returns_the_lines : (match exec (.airStop .C []) (releasingSlot .hold airing) with
    | .next t => ((t.line 0).number, (t.line 3).number,
        (t.link .S).events.any fun p => decide (p.event = .lineOffAir 3 1 .airStop))
    | _ => (none, none, false)) = (some 1, some 2, true) := by decide +kernel

/-- A line at priority 0 admitted before a HELD one at 2, the next number 65,535. -/
theorem witness_QueuesAreRenumbered :
    let t := withLine 0 screening (oneHeld State.reset)
    let s : State := { t with callers := { t.callers with nextNumber := 65535 } }
    Takes .S s ∧ (1 : Byte).toNat = (0 : PhoneLine).val + 1 ∧ (0 : Byte).toNat ≤ 3 ∧ (s.line 0).state = .screening ∧
      0 ∉ s.callers.queue ∧ s.callers.queue.Nodup ∧ s.callers.nextNumber = 65535 ∧
      (∀ j ∈ s.callers.queue, (s.line j).number.isSome = true) ∧
      s.callers.queue.Pairwise (fun a b => (s.line a).number ≠ (s.line b).number) ∧
      QueueInOrder s.callers.lines s.callers.queue := by
  unfold Takes QueueInOrder; constructorm* _ ∧ _ <;> decide +kernel

/-- FILLING with a clip in VOICE A, E at the target, a TEST record queued and an entry waiting. -/
theorem witness_TakesLeaveFallback :
    let s := filling [waiting .gap (some 1) 0] (oneHeld (delaying none 960000 0 airing))
    Takes .C s ∧ s.dev.state = .onAir ∧ s.sup.mode = some .fallback ∧ s.callers.queue.head? = some 3 ∧
      (s.slot 0).occupant = none ∧ 480 * s.delay.target ≤ s.delay.excess ∧ s.cue.state = .filling ∧
      (∀ e ∈ s.cue.entries, e.state ≠ .playing) ∧ s.cue.voiceA = .filling ∧ s.mix.voiceA.binding.isSome = true ∧
      0 < s.sup.settings.fade ∧ NoneTakes .ordinary .armed s ∧ NoneTakes .ordinary .idle s := by
  unfold Takes; constructorm* _ ∧ _ <;> first | exact none_queued rfl _ _ | decide +kernel

/-- A release's fade all done, another line HELD at priority 2. -/
theorem witness_ReleasedLinesJoinTheQueue :
    let f : Fade := ⟨32768, 0, 25, 25, .out⟩
    let t := withLine 1 ⟨.onAir, 4096, some 1, none, none, some 1, .none⟩ (oneHeld airing)
    let u : State := { t with callers := { t.callers with
      nextNumber := 65533, slots := #v[⟨none, none⟩, ⟨some 1, some .hold⟩] } }
    let s := due (.fadeComplete .caller2) (u.setContrib .caller2 (sounding 4 (some f) none))
    (Found (.fadeComplete (slotContributor 1)) s ∧ s.slot 1 = ⟨some 1, some .hold⟩ ∧
      (s.contrib (slotContributor 1)).fade = some f ∧ f.purpose = .out ∧ f.length ≤ f.done ∧ LinesKept s) ∧
    QueueNumbered s := by
  refine ⟨?_, ?_⟩
  · unfold Found LinesKept LinesPlaced; constructorm* _ ∧ _ <;> decide +kernel
  · unfold QueueNumbered QueueInOrder
    refine ⟨by decide +kernel, by decide +kernel, fun j hj => ?_, by decide +kernel⟩
    cases List.mem_singleton.1 hj
    exact ⟨1, by decide +kernel, by decide +kernel⟩

-- witnesses: how alerts come, wait, air and end

/-- The ends of the ranges of ALERT BEGIN's fields, and one past each. -/
theorem witness_ArrivalsAreSpelled :
    let digit (b : Byte) : Prop := 0x30 ≤ b.toNat ∧ b.toNat ≤ 0x39
    let code (b : Byte) : Prop := digit b ∨ 0x41 ≤ b.toNat ∧ b.toNat ≤ 0x5A
    let areas (n : Nat) : List (List Byte) := List.replicate n (List.replicate 6 0x39)
    let good (id c areaCount valid : Nat) (o a : Byte) : Prop := id ≠ 0 ∧ code o ∧ c ≤ 3 ∧ 1 ≤ areaCount ∧
      areaCount ≤ 8 ∧ digit a ∧ 1 ≤ valid ∧ valid ≤ 1440
    (∀ x ∈ areas 8, x.length = 6) ∧ good 1 0 1 1 0x30 0x30 ∧ good 65535 3 8 1440 0x5A 0x39 ∧ good 1 3 1 1 0x39 0x39 ∧
      good 1 3 1 1 0x41 0x39 ∧ ¬good 0 0 1 1 0x30 0x30 ∧ ¬good 1 4 1 1 0x30 0x30 ∧ ¬good 1 0 0 1 0x30 0x30 ∧
      ¬good 1 0 9 1 0x30 0x30 ∧ ¬good 1 0 1 0 0x30 0x30 ∧ ¬good 1 0 1 1441 0x30 0x30 ∧ ¬good 1 0 1 1 0x2F 0x30 ∧
      ¬good 1 0 1 1 0x3A 0x30 ∧ ¬good 1 0 1 1 0x40 0x30 ∧ ¬good 1 0 1 1 0x5B 0x30 ∧ ¬good 1 0 1 1 0x30 0x3A ∧
      ¬good 1 0 1 1 0x30 0x2F := by
  constructorm* _ ∧ _ <;> decide +kernel

/-- R124, R199: a WARNING for two areas; the same with an area code that holds a letter. -/
theorem test_arrivals_are_spelled :
    let ps (last : Byte) : List Byte := [0x01, 0x02, 0x45, 0x41, 0x53, 0x54, 0x4F, 0x52, 2, 0x05, 0xA0] ++
      [0x30, 0x30, 0x31, 0x32, 0x33, 0x34] ++ [0x30, 0x30, 0x31, 0x32, 0x33, last]
    arrivalOf (ps 0x35) = some ⟨0x0102, [0x45, 0x41, 0x53], [0x54, 0x4F, 0x52], .warning,
      [[0x30, 0x30, 0x31, 0x32, 0x33, 0x34], [0x30, 0x30, 0x31, 0x32, 0x33, 0x35]], 1440⟩ ∧
    arrivalOf (ps 0x41) = none := by decide +kernel

/-- Nothing active, and a history record of the id with another origin, no alert segment being held. -/
theorem witness_TakeoversReturnTheLines :
    let old : AlertRecord := { alert 7 .test (.finished .expired) with origin := [0x57, 0x58, 0x52] }
    let s : State :=
      let t := releasingSlot .drop airing
      { t with alerts := { t.alerts with history := [old] } }
    (Takes .A s ∧ s.dev.state = .onAir ∧ 11 ≤ (arrival 3).length ∧ ((arrival 3).length - 11) % 6 = 0 ∧
      arrivalOf (arrival 3) = some (arrived .immediate) ∧ (arrived .immediate).cls = .immediate ∧
      (∀ j, ∀ r ∈ s.record j, r.phase ≠ .airing) ∧ (∀ k, (s.slot k).occupant = none → (s.slot k).release = none) ∧
      LinesKept s) ∧ AlertAccepted (arrived .immediate) 0 s ∧ QueueNumbered s := by
  refine ⟨?_, ⟨?_, by decide +kernel, by decide +kernel, by decide +kernel, rfl⟩, queue_empty rfl (by decide +kernel)⟩
  · unfold Takes LinesKept LinesPlaced; constructorm* _ ∧ _ <;> decide +kernel
  · have free : ∀ j : AlertSlot, ∀ r ∈ airing.record j,
      r.id ≠ 7 ∧ r.phase ≠ .receiving ∧ ¬(r.cutThrough = true ∧ r.phase = .airing) := by decide +kernel
    exact free

/-- Four records, a TEST record the tail of the queue; a WARNING arrives. -/
theorem witness_AlertsEvict :
    let s : State := { airing with alerts := { airing.alerts with
      records := #v[some (alert 1 .advisory .pending), some (alert 2 .advisory .pending), some (alert 3 .advisory .pending),
        some (alert 4 .test .pending)], queue := [0, 1, 2, 3] } }
    Takes .A s ∧ s.dev.state = .onAir ∧ 11 ≤ (arrival 2).length ∧ ((arrival 2).length - 11) % 6 = 0 ∧
      arrivalOf (arrival 2) = some (arrived .warning) ∧
      (∀ j, (s.record j).isSome = true ∧ ∀ x ∈ s.record j, x.id ≠ 7 ∧ x.phase ≠ .receiving ∧ x.cutThrough = false) ∧
      s.alerts.history = [] ∧ (arrived .warning).cls ≠ .immediate ∧ s.alerts.queue.getLast? = some 3 ∧
      s.record 3 = some (alert 4 .test .pending) ∧ (alert 4 .test .pending).phase = .pending ∧
      (alert 4 .test .pending).cls.rank < (arrived .warning).cls.rank ∧ s.clips.alertCapture = none ∧
      s.clips.readerAlert.map Reader.clip ≠ some (.alert 3) := by
  unfold Takes; constructorm* _ ∧ _ <;> decide +kernel

theorem witness_WindowTable : { alert 7 .test .pending with overdue := true }.overdue = true ∧
    (alert 7 .test .pending).overdue = false := by decide

/-- A record RECEIVING in slot 1 with its alert clip being captured. -/
def capturingAlert (r : AlertRecord) (s : State) : State :=
  let t := alertClip .capturing (withRecord r s)
  { t with clips := { t.clips with alertCapture := some 0 } }

/-- An IMMEDIATE record in PLAYING, a WARNING in IDLE, a TEST in IDLE. -/
theorem witness_CapturedAlertsTakeTheAir :
    let r (c : AlertClass) : AlertRecord := { alert 7 c .receiving with clip := some (0, 0) }
    let view (v : EngineState) (s : State) : State := { s with alerts := { s.alerts with view := v } }
    let ok (c : AlertClass) (s : State) : Prop := Takes .A s ∧ s.dev.state = .onAir ∧
      (0 : Byte).toNat * 256 + (7 : Byte).toNat = (r c).id ∧ (r c).id ≠ 0 ∧ s.record 0 = some (r c) ∧
      (∀ j, ∀ x ∈ s.record j, x.id = 7 → j = 0) ∧ (∀ j, ∀ x ∈ s.record j, x.phase ≠ .airing) ∧ s.alerts.queue = [] ∧
      s.clips.alertCapture = some 0 ∧ 0 < (s.clips.alert[0]).count
    ok .immediate (view .playing (capturingAlert (r .immediate) airing)) ∧
    (ok .warning (capturingAlert (r .warning) airing) ∧ (capturingAlert (r .warning) airing).alerts.view ≠ .playing ∧
      (capturingAlert (r .warning) airing).alerts.view ≠ .held) ∧
    (ok .test (capturingAlert (r .test) airing) ∧ (capturingAlert (r .test) airing).alerts.view = .idle) := by
  unfold Takes; constructorm* _ ∧ _ <;> decide +kernel

/-- A capture of no segment and one of one segment, the free list empty. -/
theorem witness_CapturesWithoutRoom :
    let r : AlertRecord := { alert 7 .advisory .receiving with clip := some (0, 0) }
    let s := receiving 0 airing
    let full : State :=
      let t := noPanel (capturingAlert r airing)
      { t with mem := { t.mem with free := [] } }
    (Takes .A s ∧ s.record 0 = some r ∧ r.phase = .receiving ∧ (∀ j, ∀ x ∈ s.record j, x.id = r.id → j = 0) ∧
      s.clips.alertCapture = some 0 ∧ (0 : Byte).toNat * 256 + (7 : Byte).toNat = r.id ∧ (s.clips.alert[0]).count = 0) ∧
    (full.record 0 = some r ∧ full.clips.alertCapture = some 0 ∧ full.live = true ∧ full.due = [] ∧ leaving.first = [] ∧
      leaving.leave = true ∧ full.mem.free = [] ∧ full.clips.channels = Vector.replicate 2 none ∧
      full.clips.readerA = none ∧ full.clips.readerB = none ∧ full.clips.readerAlert = none ∧ full.alerts.tone = none ∧
      0 < (full.clips.alert[0]).count ∧
      ∀ n : PanelLineNo, (full.panel.settings.lines[n]).direction = .output ∨
        (full.panel.settings.lines[n]).function = .none) := by
  unfold Takes; constructorm* _ ∧ _ <;> decide +kernel

/-- No air blocks and no record queued; one air block with an ADVISORY record queued in slot 2. -/
theorem witness_AiringsGiveWay :
    let r (n : Nat) : AlertRecord := { alert 7 .immediate .airing with cutThrough := true, airBlocks := n }
    let x := alert 8 .advisory .pending
    let next : State :=
      let t := (cutThrough 1 airing).setRecord 1 (some x)
      { t with alerts := { t.alerts with queue := [1] } }
    let ok (n : Nat) (s : State) : Prop := Takes .A s ∧ s.dev.state = .onAir ∧
      (0 : Byte).toNat * 256 + (7 : Byte).toNat = (r n).id ∧ (r n).id ≠ 0 ∧ s.record 0 = some (r n) ∧
      (∀ j, ∀ x ∈ s.record j, x.phase = .airing ∨ x.id = 7 → j = 0) ∧ s.sup.mode = some .alert ∧ s.cue.state = .held ∧
      s.cue.held.isSome = true ∧ s.mix.alert.binding.isSome = true
    (ok 0 (cutThrough 0 airing) ∧ (cutThrough 0 airing).alerts.queue = []) ∧
    (ok 1 next ∧ next.alerts.queue = 1 :: [] ∧ next.record 1 = some x ∧ x.cls ≠ .test ∧ 0 < (r 1).airBlocks) := by
  unfold Takes; constructorm* _ ∧ _ <;> decide +kernel

/-- A captured record AIRING: its tone at the last segment, and its message. -/
theorem witness_CapturedAiringsEnd :
    let r : AlertRecord := { alert 7 .warning .airing with clip := some (0, 1), airBlocks := 4 }
    let common (s : State) : Prop := s.live = true ∧ s.due = [] ∧ leaving.first = [] ∧ leaving.leave = true ∧
      s.mem.wf = true ∧ s.delay.writeHead < s.mem.ring ∧ s.record 0 = some r ∧
      (∀ j, ∀ x ∈ s.record j, x.phase = .airing → j = 0) ∧ s.sup.mode = some .alert ∧ s.cue.state = .held ∧
      s.cue.held.isSome = true ∧ s.clips.readerA = none ∧ s.clips.readerB = none ∧
      s.clips.channels = Vector.replicate 2 none ∧ s.clips.alertCapture = none ∧
      ∀ n : PanelLineNo, (s.panel.settings.lines[n]).direction = .output ∨ (s.panel.settings.lines[n]).function = .none
    let at' (c : ClipRef) (i : Nat) (s : State) : State := noPanel (((withRecord r (cutThrough 4 s)).setReader .alert
      (some ⟨c, i, false, false⟩)).setContrib .alert ⟨some (.clip c), 32768, 32768, none, none⟩)
    let message := at' (.alert 0) 0 (alertClip .ready airing)
    let tone : State :=
      let t := at' (.playout 0) 1 (withClip 0 (twoSegments true false 2) airing)
      { t with
        alerts := { t.alerts with tone := some (0, 5) }
        clips := { t.clips with alert := t.clips.alert.set 0 ⟨.ready, false, false, none, some 2005, 1, false, false, 0⟩ } }
    (common message ∧ (message.clip (.alert 0)).loop = false ∧ (message.clip (.alert 0)).count ≤ 0 + 1 ∧
      message.alerts.tone = none ∧ message.alerts.queue = [] ∧ (message.segments (.alert 0)).Nodup ∧
      (∀ n ∈ message.segments (.alert 0), message.mem.holder n = .clip (.alert 0)) ∧
      message.clips.readerAlert = some ⟨.alert 0, 0, false, false⟩ ∧
      message.mix.alert.binding = some (.clip (.alert 0))) ∧
    (common tone ∧ (tone.clip (.playout 0)).loop = false ∧ (tone.clip (.playout 0)).count ≤ 1 + 1 ∧
      tone.alerts.tone = some (0, 5) ∧ (tone.clips.alert[0]).state = .ready ∧
      tone.clips.readerAlert = some ⟨.playout 0, 1, false, false⟩) := by
  constructorm* _ ∧ _ <;> decide +kernel

-- witnesses: records on the link, fills, the panel and power

/-- AIRING before its first frame; CONFIRMING with its last frame sent; PENDING. -/
theorem witness_FramesAreReported :
    let c : AlertRecord := { alert 8 .test .confirming with confirm := 500 }
    let s := ((withRecord (alert 7 .immediate .airing) airing).setRecord 1 (some c)).setRecord 2 (some (alert 9 .test .pending))
    s.live = true ∧ s.due = [] ∧ leavingOut.first = [] ∧ leavingOut.leave = true ∧ s.record 3 = none ∧
      s.record 0 = some (alert 7 .immediate .airing) ∧ s.record 1 = some c ∧ s.record 2 = some (alert 9 .test .pending) := by
  decide +kernel

theorem witness_RecordsAreCounted :
    let s := noPanel (((withRecord { alert 7 .immediate .airing with age := 8640000 } airing).setRecord 1
      (some { alert 9 .test .pending with hold := 360000 })).setContrib .alert (sounding 7 none none))
    s.live = true ∧ s.due = [] ∧ leaving.first = [] ∧ leaving.leave = true ∧ s.clips.readerA = none ∧
      s.clips.readerB = none ∧ s.clips.readerAlert = none ∧ s.clips.alertCapture = none ∧ s.alerts.tone = none ∧
      s.mix.alert.binding.isSome = true ∧
      ∀ n : PanelLineNo, (s.panel.settings.lines[n]).direction = .output ∨ (s.panel.settings.lines[n]).function = .none := by
  decide +kernel

/-- AIRING with a frame sent; CONFIRMING with frames still to send, and with its last frame past the status. -/
theorem witness_StatusFramesMarkRecords :
    let a : AlertRecord := { alert 7 .immediate .airing with firstSeq := some 4, lastSeq := some 9 }
    let c (sent last : Nat) : AlertRecord :=
      { alert 7 .test .confirming with airBlocks := 2, framesSent := sent, firstSeq := some 4, lastSeq := some last }
    airing.live = true ∧ LinkSettled airing ∧ parseStatus goodStatus = some ⟨0x0102, 0, true, false⟩ ∧
    ((withRecord a airing).record 0 = some a ∧ a.firstSeq.isSome = true ∧ a.phase = .airing) ∧
    ((withRecord (c 1 9) airing).record 0 = some (c 1 9) ∧ (c 1 9).framesSent ≠ (c 1 9).airBlocks) ∧
    ((withRecord (c 2 0x0103) airing).record 0 = some (c 2 0x0103) ∧
      32768 ≤ (0x0102 + 65536 - 0x0103 % 65536) % 65536) := by
  unfold LinkSettled; constructorm* _ ∧ _ <;> decide +kernel

/-- AIRING with a frame sent and before its first, and PENDING. -/
theorem witness_DownMarksRecords :
    let a (n : Option Nat) : AlertRecord := { alert 7 .immediate .airing with firstSeq := n }
    let s (r : AlertRecord) : State := due .linkTimeout { withRecord r airing with
      tx := { airing.tx with state := .degraded, age := 200 } }
    ∀ r ∈ [a (some 4), a none, alert 7 .test .pending], Found .linkTimeout (s r) ∧ (s r).tx.state ≠ .down ∧
      (s r).tx.settings.timeout ≤ (s r).tx.age ∧ (s r).record 0 = some r ∧
      (r.phase = .airing ∨ r.phase = .receiving ∨ r.phase = .pending) := by
  unfold Found; decide +kernel

/-- PLAYING in VOICE B with a clip for the fill. -/
theorem witness_FillsStopThePlaying :
    let e : Entry := { playing (.stream .s1) (some 10) 4 3 with voice := some .B }
    let t := withClip 0 (twoSegments true true 1) airing
    let s := silentAir ((cueing [e] .playing ({ t with clips := { t.clips with fallback := some 0 } }.setVoice .B
      (.carrying 0))).setContrib .voiceB (sounding 1 none none))
    Found .silenceWindow s ∧ s.sup.mode = some .normal ∧ s.sup.settings.window ≤ s.sup.counter ∧ s.cue.state = .playing ∧
      s.clips.fallback = some 0 ∧ (s.clips.playout[0]).state = .ready ∧ s.carried .B = some 0 ∧
      s.cue.voiceB = .carrying 0 ∧ s.cue.entries[0]? = some e ∧ e.kind ≠ .gap ∧ 0 < e.fadeOut ∧
      s.mix.voiceB.binding.isSome = true ∧ NoneTakes .ordinary .filling s := by
  unfold Found; constructorm* _ ∧ _ <;> first | exact none_queued rfl _ _ | decide +kernel

/-- FALLBACK with a clip in VOICE A; an alert that remembers FALLBACK, held from FILLING. -/
theorem witness_FillsFadeOut :
    let s := filling [] airing
    let a : State :=
      let t := cutThrough 4 airing
      { t with
        cue := { t.cue with held := some ⟨.filling, some 480⟩ }
        sup := { t.sup with remembered := some .fallback } }
    (Takes .C s ∧ s.dev.state = .onAir ∧ s.mix.studio.binding = none ∧ s.sup.mode = some .fallback ∧
      s.cue.state = .filling ∧ s.cue.voiceA = .filling ∧ s.mix.voiceA.binding.isSome = true ∧ 0 < s.sup.settings.fade ∧
      (∀ e ∈ s.cue.entries, e.state ≠ .playing) ∧ NoneTakes .ordinary .armed s ∧ NoneTakes .ordinary .idle s) ∧
    (Takes .C a ∧ a.dev.state = .onAir ∧ a.mix.studio.binding = none ∧ a.sup.mode = some .alert ∧
      a.sup.remembered = some .fallback ∧ a.cue.state = .held ∧ a.cue.held = some ⟨.filling, some 480⟩) := by
  unfold Takes; constructorm* _ ∧ _ <;> first | exact none_queued rfl _ _ | decide +kernel

/-- POWER_UP while the profile is being loaded and after it; an INPUT_PULLUP line and an output line. -/
theorem witness_PullUpsFollowTheDirection :
    let loading : State := { poweringUp State.reset with dev := { (poweringUp State.reset).dev with supply := .loading } }
    (loading.dev.state = .powerUp ∧ loading.dev.supply = .loading) ∧
    ((poweringUp State.reset).dev.state = .powerUp ∧ (poweringUp State.reset).dev.supply = .running) ∧
    (State.reset.live = true ∧ (State.reset.panel.settings.lines[0]).direction = .inputPullup ∧
      (State.reset.panel.settings.lines[7]).direction ≠ .inputPullup) := by decide +kernel

/-- R171, R177: an open contact on a line with its pull-up, and on the same line configured INPUT. -/
theorem test_pull_ups : (State.reset.pinReads 0 (.opened false), (noPanel State.reset).pinReads 0 (.opened false),
    (noPanel State.reset).pinReads 0 (.opened true), (poweringUp (noPanel State.reset)).pinReads 0 (.opened false)) =
      (true, false, true, true) := by decide +kernel

/-- A level seen twice on line 1, a MIC input, the other lines without function. -/
theorem witness_RecognisedChangesAct :
    let t := noPanel State.reset
    let s := panelAt ⟨false, true, false, false, false⟩ { t with panel := { t.panel with settings := { t.panel.settings with
      lines := t.panel.settings.lines.set 0 ⟨.input, true, .mic⟩ } } }
    s.live = true ∧ s.due = [] ∧ leaving.pins[0] = .high ∧ (s.panel.settings.lines[0]).activeHigh = true ∧
      (s.panel.settings.lines[0]).direction ≠ .output ∧ (s.panel.lines[0]).seeding = false ∧
      (s.panel.lines[0]).recognised = false ∧ (s.panel.lines[0]).previous = true ∧
      (s.panel.settings.lines[0]).function = .mic ∧ s.mix.studio.binding = none ∧ leaving.first = [] ∧
      leaving.leave = true ∧ s.clips.readerA = none ∧ s.clips.readerB = none ∧ s.clips.readerAlert = none ∧
      s.clips.alertCapture = none ∧ s.alerts.tone = none ∧
      ∀ m : PanelLineNo, m ≠ 0 → (s.panel.settings.lines[m]).direction = .output ∨
        (s.panel.settings.lines[m]).function = .none := by decide +kernel

/-- A line of each function, ON_AIR and in STANDBY, with callers in the slots and none. -/
theorem witness_PanelFunctionsAct :
    let fn (f : PanelFunction) (s : State) : State :=
      { s with panel := { s.panel with settings := { s.panel.settings with lines := Vector.replicate 8 ⟨.input, true, f⟩ } } }
    (∀ f ∈ [PanelFunction.dump, .goEdge, .fader, .stop, .takeNext, .releaseCallers, .mic, .none],
      ((fn f State.reset).panel.settings.lines[7]).function = f) ∧
    (Takes .C State.reset ∧ State.reset.dev.state ≠ .onAir ∧ State.reset.delay.state = .off ∧
      (∀ k, (State.reset.slot k).occupant = none) ∧ State.reset.mix.studio.target ≤ 65535 ∧
      State.reset.mix.studioFade ≤ 500) ∧
    (Takes .C (bothSlots airing) ∧ (bothSlots airing).dev.state = .onAir ∧ (bothSlots airing).slot 1 = ⟨some 3, none⟩ ∧
      0 < (bothSlots airing).mix.slotFade[1] ∧
      ((bothSlots airing).contrib (slotContributor 1)).binding.isSome = true) := by
  unfold Takes; constructorm* _ ∧ _ <;> decide +kernel

/-- R199: the codes at the ends of the ranges, and one past them. -/
theorem witness_PanelBytes :
    let fits (d l f : Nat) : Prop := l ≤ 1 ∧ (d ≤ 1 ∧ f ≤ 7 ∨ d = 2 ∧ 0x10 ≤ f ∧ f ≤ 0x17)
    (List.replicate 25 (0 : Byte)).length = 25 ∧ fits 0 0 0 ∧ fits 1 1 7 ∧ fits 2 0 0x10 ∧ fits 2 1 0x17 ∧ ¬fits 0 2 0 ∧
      ¬fits 1 0 8 ∧ ¬fits 2 0 7 ∧ ¬fits 2 0 0x18 ∧ ¬fits 3 0 0 ∧ ¬fits 1 0 0x10 ∧ (100 : Byte).toNat ≤ 100 ∧
      ¬(101 : Byte).toNat ≤ 100 := by
  constructorm* _ ∧ _ <;> decide

/-- POWER_UP while the profile is being loaded and after it; STANDBY; without supplies. -/
theorem witness_PowerUpEnds :
    let at' (p : Supply) : State := { poweringUp State.reset with dev := { (poweringUp State.reset).dev with supply := p } }
    ((at' .loading).dev.state = .powerUp ∧ (at' .loading).dev.supply = .loading) ∧
    ((at' .running).dev.state = .powerUp ∧ (at' .running).dev.supply = .running) ∧
    State.reset.dev.state ≠ .powerUp ∧ (at' .failed).dev.supply = .failed ∧ (at' .resetLow).dev.supply = .resetLow := by
  decide +kernel

/-- R181, R195: a command before the profile is loaded is not taken up; after it, it is answered NOT_NOW. -/
theorem test_links_are_idle_while_loading :
    let at' (p : Supply) : State := { poweringUp State.reset with dev := { (poweringUp State.reset).dev with supply := p } }
    let status (s : State) : Option Status := match exec (.identify .P []) s with
      | .next t => (t.link .P).sending.map Response.status
      | _ => none
    status (at' .loading) = none ∧ status (at' .running) = some .notNow ∧
      step (at' .loading) = .next (at' .running) := by
  refine ⟨by decide +kernel, by decide +kernel, rfl⟩

/-- A write under way, a FAILING generation, and none programmed. -/
theorem witness_FactoryDefaultsAreLoaded :
    let s := programmed #v[.writing Config.factory 3, failing, .unprogrammed, .unprogrammed] State.reset
    .profileDone ∉ s.due ∧ .profileDone ∉ State.reset.due ∧ (∀ i : Fin 4, (s.prof.gens[i]).state ≠ .valid) ∧
      ∀ i : Fin 4, (State.reset.prof.gens[i]).state ≠ .valid := by
  refine ⟨by decide, by decide, fun i => ?_, by decide +kernel⟩
  match i with
  | 0 => exact (by decide : GenState.writing ≠ .valid)
  | 1 => exact (congrArg (· ≠ GenState.valid) failing_fails).mpr (by decide)
  | 2 => exact (by decide : GenState.unprogrammed ≠ .valid)
  | 3 => exact (by decide : GenState.unprogrammed ≠ .valid)

/-- R87, R89: an end fade found due for an item that the boundary has just started, none of whose blocks has been counted,
does not begin; a reported end-of-audio stands while its item is in its voice, the reader closed. -/
theorem test_due_items :
    let e : Entry := playing (.stream .s1) (some 10) 4 9
    let s (counted : Nat) : State :=
      let t := due (.endFadeStart .A) (streaming 9 airing)
      { t with cue := { t.cue with clock := 1, counted := counted } }
    let ending (n : Nat) : Option Bool := match exec (.endFadeStart .A) (s n) with
      | .next t => t.cue.entries.head?.map Entry.ending
      | _ => none
    (ending 0, ending 1) = (some false, some true) ∧ e.ending = false ∧ (s 1).clips.readerA = none ∧
      stillDue (s 1) (.endOfAudio .voiceA) = true ∧ stillDue (s 0) (.endOfAudio .voiceA) = false := by decide +kernel

-- worked cases of the control links

/-- The state after a command or an event. -/
def after (c : Instr) (s : State) : State := match exec c s with
  | .next t => t
  | _ => s

/-- Chapter 10's busy link: CUE APPEND in flight, then CUE GO and a corrupted frame; what link P sends, answer by answer. -/
theorem test_a_busy_link :
    let s := cueing (List.replicate 2 (waiting .gap (some 1) 0)) .armed State.reset
    let busy := after (.badFrame ⟨.P, [0x20], 0x00⟩) (after (.cueGo .P []) (after (.cueAppend .P gapEntry) s))
    let sent := after (.responseSent .P)
    let answer (t : State) : Option Response := (t.link .P).sending
    [answer busy, answer (sent busy), answer (sent (sent busy)), answer (sent (sent (sent busy)))] =
      [some ⟨0x18, .ok, .position 3⟩, some ⟨0x20, .busy, .none⟩, some ⟨0, .badFrame, .none⟩, none] ∧
    busy.cue.state = .armed ∧ busy.cue.entries.length = 3 := by decide +kernel

/-- Chapter 10's acknowledging with counts: QUEUE_CHANGED raised a second time, acknowledged once, then once more. -/
theorem test_acknowledging_with_counts :
    let s := State.reset.modLink .S fun p => { p with events := [] }
    let raised := raise .S (.queueChanged 2) (raise .S (.queueChanged 1) (raise .S (.lineOnAir 1 0) s))
    let acked := after (.eventsAcknowledge .S [0x31, 1, 0x33, 1]) raised
    let clear := after (.eventsAcknowledge .S [0x33, 1]) (after (.responseSent .S) acked)
    (acked.link .S).events = [⟨.queueChanged 2, 1⟩] ∧ acked.attn .S = true ∧
      (acked.link .S).sending = some ⟨0x04, .ok, .remaining [0x33]⟩ ∧ (clear.link .S).events = [] ∧
      clear.attn .S = false := by decide +kernel

-- witnesses: the engine held and released, the shape of a read, and what a boundary found of the link

/-- A CLIP held with an entry that is ending behind it; go-pending; FILLING; a list of one ending entry. -/
theorem witness_TakeoversHoldTheEngine :
    let ending : Entry := { playing (.stream .s1) none 4 3 with ending := true, segue := true, voice := some .B }
    let clip : State := cueing [playing (.clip 0) none 4 3, ending, waiting .gap (some 3) 0] .playing
      (((withClip 0 (twoSegments true true 1) airing).setReader .voiceA (some ⟨.playout 0, 1, false, false⟩)).setContrib .voiceA
        { sounding 1 none none with binding := some (.clip (.playout 0)) })
    let pending : State := { withNext 4 airing with cue := { (withNext 4 airing).cue with goPending := true } }
    let only := cueing [ending] .playing airing
    let ok (s : State) : Prop := Takes .A s ∧ s.dev.state = .onAir ∧ arrivalOf (arrival 3) = some (arrived .immediate) ∧
      (∀ j, ∀ r ∈ s.record j, r.phase ≠ .airing) ∧ s.cue.state ≠ .held
    (ok clip ∧ ok pending ∧ ok (filling [] airing) ∧ ok only) ∧
    (clip.clips.readerA = some ⟨.playout 0, 1, false, false⟩ ∧ clip.mix.voiceA.binding = some (.clip (.playout 0)) ∧
      pending.cue.goPending = true ∧ (filling [] airing).cue.state = .filling) ∧
    AlertAccepted (arrived .immediate) 0 clip ∧ AlertAccepted (arrived .immediate) 0 pending ∧
    AlertAccepted (arrived .immediate) 0 (filling [] airing) ∧ AlertAccepted (arrived .immediate) 0 only := by
  unfold Takes AlertAccepted; constructorm* _ ∧ _ <;> decide +kernel

/-- At E of 0, one sample below the target, at it and one above. -/
theorem witness_ReadsTakeTheirShape : ∀ e ∈ [0, 959999, 960000, 960001],
    let s := delaying none e 0 airing
    s.live = true ∧ s.due = [] ∧ quiet.upsets = [] ∧ 479 < 480 ∧ s.delay.state ≠ .off ∧ s.delay.dump = none ∧
      s.delay.fed = true ∧ s.delay.readPos = some (2002, 479) := by decide +kernel

/-- A CLIP and a STREAM held in the two voices; one with an entry RESERVED behind it; one RESERVED alone; FILLING with a
clip designated and without; ARMED and IDLE. -/
theorem witness_ReleasesRestartTheItems :
    let r : AlertRecord := { alert 7 .immediate .airing with cutThrough := true, airBlocks := 1 }
    let c : Entry := { playing (.clip 0) none 4 0 with resume := some 480 }
    let b : Entry := { playing (.stream .s1) (some 10) 4 3 with resume := some 3, voice := some .B }
    let f : Entry := { waiting (.stream .s2) none 0 with state := .reserved }
    let s (left : EngineState) (at' : Option Nat) (es : List Entry) : State :=
      let t := withClip 0 (twoSegments true true 1) (cutThrough 1 airing)
      { t with
        cue := { t.cue with entries := es, held := some ⟨left, at'⟩ }
        clips := { t.clips with fallback := some 0 } }
    let ok (left : EngineState) (at' : Option Nat) (s : State) : Prop := Takes .A s ∧
      (0 : Byte).toNat * 256 + (7 : Byte).toNat = r.id ∧ r.id ≠ 0 ∧ s.record 0 = some r ∧
      (∀ j, ∀ y ∈ s.record j, y.phase = .airing ∨ y.id = r.id → j = 0) ∧ s.alerts.queue = [] ∧ s.cue.state = .held ∧
      s.cue.held = some ⟨left, at'⟩ ∧ s.cue.goPending = false ∧ s.cue.voiceA = .free ∧ s.cue.voiceB = .free ∧
      s.clips.readerA = none ∧ s.clips.readerB = none ∧ s.mix.voiceA.binding = none ∧ s.mix.voiceB.binding = none
    (ok .playing none (s .playing none [c, b]) ∧ ok .playing none (s .playing none [c, f]) ∧
      ok .playing none (s .playing none [f]) ∧ ok .filling (some 480) (s .filling (some 480) []) ∧
      ok .filling none { cutThrough 1 airing with cue := (s .filling none []).cue } ∧
      ok .armed none (s .armed none [waiting .gap (some 3) 0]) ∧ ok .idle none (s .idle none [])) ∧
    (c.state = .playing ∧ c.voice = some .A ∧ b.state = .playing ∧ b.voice = some .B ∧ f.state = .reserved ∧
      f.kind ≠ .mark ∧ (cutThrough 1 airing).clips.fallback = none) ∧
    (((s .playing none []).clips.playout[0]).state = .ready ∧ c.resume.getD 0 = 480 * 1 ∧
      1 < ((s .playing none []).clips.playout[0]).count) := by
  unfold Takes; constructorm* _ ∧ _ <;> decide +kernel

/-- The link timeout and the end of a confirm window left to their rows, a record CONFIRMING. -/
theorem witness_StatusesFollowTheBoundary :
    let r : AlertRecord := { alert 7 .test .confirming with airBlocks := 2, framesSent := 2, confirm := 500 }
    let s : State := due .linkTimeout { withRecord r airing with tx := { airing.tx with state := .up, age := 200 } }
    (s.live = true ∧ parseStatus goodStatus = some ⟨0x0102, 0, true, false⟩ ∧ Found .linkTimeout s ∧ s.tx.state ≠ .down ∧
      s.tx.settings.timeout ≤ s.tx.age ∧ s.due = [.linkTimeout] ∧ s.record 0 = some r ∧ r.phase = .confirming) ∧
    Found (.confirmWindowExpiry 0) (due (.confirmWindowExpiry 0) (withRecord r airing)) ∧ r.framesSent = r.airBlocks ∧
      500 ≤ r.confirm := by
  unfold Found; constructorm* _ ∧ _ <;> decide +kernel

theorem witness_TimeoutsFollowTheBoundary :
    let s : State := due .linkTimeout { withRecord (alert 7 .test .confirming) airing with
      tx := { airing.tx with state := .up, age := 200 } }
    Reaches .C s ∧ linkSettingsOf [0x03, 0xE8, 0x41, 0x42, 0x43] = some ⟨1000, #v[0x41, 0x42, 0x43]⟩ ∧
      s.due = [.linkTimeout] ∧ s.tx.state ≠ .down ∧ s.tx.settings.timeout ≤ s.tx.age ∧ s.record 0 = some (alert 7 .test .confirming) := by
  unfold Reaches LinkFree; constructorm* _ ∧ _ <;> decide +kernel

/-- A WARNING record at its hold limit, behind a record AIRING and heading the queue; a new limit of 30,000. -/
theorem witness_HoldLimitsFollowTheBoundary :
    let w : AlertRecord := { alert 7 .warning .pending with hold := 6000 }
    let free := due (.holdLimitReached 0) (queued w airing)
    let blocked := due (.holdLimitReached 0) ((queued w airing).setRecord 1 (some (alert 8 .warning .airing)))
    let ok (s : State) : Prop := Reaches .C s ∧ s.record 0 = some w ∧
      s.alerts.settings.warningHold ≤ w.hold ∧ s.due = [.holdLimitReached 0]
    alertSettingsOf [0x75, 0x30, 0x05, 0x7E, 0x40, 0] = some ⟨30000, 360000, false⟩ ∧ w.phase = .pending ∧
    w.overdue = false ∧ w.cls = .warning ∧
    (ok free ∧ (∀ j, ∀ x ∈ free.record j, x.phase ≠ .airing) ∧ free.dev.state = .onAir ∧
      free.alerts.queue.head? = some 0) ∧ ok blocked ∧ blocked.record 1 = some (alert 8 .warning .airing) := by
  unfold Reaches LinkFree; constructorm* _ ∧ _ <;> decide +kernel

/-- The silence window reached, the engine IDLE and HELD; a new window of 12,000. -/
theorem witness_SilenceWindowsFollowTheBoundary :
    let ok (s : State) : Prop := Reaches .C s ∧ s.sup.mode = some .normal ∧
      s.sup.settings.window ≤ s.sup.counter ∧ s.due = [.silenceWindow]
    supervisionSettingsOf [0, 8, 0, 0x2E, 0xE0, 0, 100, 1] = some ⟨2048, 12000, 100, true⟩ ∧ ok (silentAir airing) ∧
    ok (silentAir (cueing [] .held airing)) ∧ (silentAir (cueing [] .held airing)).cue.state = .held := by
  unfold Reaches LinkFree; constructorm* _ ∧ _ <;> decide +kernel

/-- An open window whose count stands at the setting of 30; a new setting of 100. -/
theorem witness_CancelSettingsFollowTheBoundary :
    let bytes : List Byte := (List.replicate 8 [(0x01 : Byte), 0x00, 0x07]).flatten ++ [100]
    let s : State := { streaming 1 State.reset with
      due := [.cancelWindowClose]
      cue := { (streaming 1 State.reset).cue with window := some ⟨.A, 30⟩ } }
    Reaches .C s ∧ bytes.length = 25 ∧ panelSettingsOf bytes = some ⟨Vector.replicate 8 ⟨.input, false, .none⟩, 100⟩ ∧
      s.due = [.cancelWindowClose] ∧ s.cue.window = some ⟨.A, 30⟩ ∧ s.panel.settings.cancelWindow ≤ 30 := by
  unfold Reaches LinkFree; constructorm* _ ∧ _ <;> decide +kernel

-- the link after its timeout, a capture's count, and a record of the history

/-- R159: the boundary found the timeout, so the record is UNCONFIRMED, and the status then takes the link to UP. -/
theorem test_status_follows_the_timeout :
    let s : State := due .linkTimeout { withRecord (alert 7 .test .confirming) airing with
      tx := { airing.tx with state := .degraded, age := 200 } }
    let t := after (.statusFrame goodStatus) s
    (t.tx.state, t.tx.age, (t.record 0).isNone, t.alerts.history.map AlertRecord.phase) =
      (.up, 0, true, [.finished .unconfirmed]) := by decide +kernel

/-- R131, R146: the boundary found the record at its limit of 6,000, so it takes the air, though the limit is then raised. -/
theorem test_hold_limit_goes_before_its_change :
    let s := due (.holdLimitReached 0) (queued { alert 7 .warning .pending with hold := 6000 } airing)
    let t := after (.alertSettingsSet .C [0x75, 0x30, 0x05, 0x7E, 0x40, 0]) s
    ((t.record 0).map AlertRecord.phase, t.alerts.settings.warningHold) = (some .airing, 30000) := by decide +kernel

/-- R121: a RECEIVING record names its slot with the segments captured so far. -/
theorem test_capture_shows_its_count :
    ((countCaptured (receiving 3 airing)).record 0).map AlertRecord.clip = some (some (0, 3)) := by decide +kernel

/-- R144: a record of the history is read without its bookkeeping. -/
theorem test_history_record_is_read :
    let past : State := { airing with alerts := { airing.alerts with history := [alert 7 .test (.finished .expired)] } }
    ((after (.alertRead .A [0, 7]) past).link .A).inFlight =
      some ⟨0x62, some ⟨0x62, .ok, .finishedAlert (alert 7 .test (.finished .expired)).fields⟩⟩ := by decide +kernel

-- what the last boundary found goes before a command, a reset and a power loss

/-- A link timeout, and the end of an alert capture with a silence window, left to their rows. -/
theorem witness_CommandsFollowTheBoundary :
    let ok (s : State) : Prop := LinkFree .P s ∧ s.live = true ∧ s.due.Nodup
    (Instr.identify .P []).frame = some (.P, 0x01, []) ∧ ok (due .linkTimeout airing) ∧ Due.linkTimeout ≠ .fillAnswer ∧
    ok { airing with due := [.alertCaptureFull, .silenceWindow] } := by
  unfold LinkFree; constructorm* _ ∧ _ <;> decide +kernel

/-- `s` capturing into clip 63 on channel 2, its two segments the greatest length, the end left to its row. -/
def captureDue (s : State) : State :=
  due (.captureMaxLength 1) (capturing none (some ⟨62, .pgmLive, 2⟩)
    (withClip 62 { twoSegments true false 0 with state := .capturing } s))

theorem witness_StopsFollowTheBoundary :
    let s := captureDue State.reset
    Reaches .P s ∧ s.due = [.captureMaxLength 1] ∧ s.clips.channels[1] = some ⟨62, .pgmLive, 2⟩ ∧
      2 ≤ (s.clips.playout[62]).count ∧ (63 : Byte).toNat = (62 : ClipId).val + 1 := by
  unfold Reaches LinkFree; constructorm* _ ∧ _ <;> decide +kernel

/-- R61, R62: the boundary wrote the last segment, so the capture has ended by MAX_LENGTH and STOP finds none. -/
theorem test_stop_after_the_last_segment :
    let t := after (.clipCaptureStop .P [63]) (captureDue State.reset)
    ((t.link .P).sending.map Response.status, (t.link .P).events.map PendingEvent.event) =
      (some .notFound, [.resetDone .powerOn, .captureDone 62 2 .maxLength false]) := by decide +kernel

theorem witness_AudioEndsFollowTheBoundary :
    let s := due .alertCaptureFull (receiving 12000 airing)
    let r : AlertRecord := { alert 7 .advisory .receiving with clip := some (0, 0) }
    Reaches .A s ∧ s.due = [.alertCaptureFull] ∧ s.record 0 = some r ∧ r.phase = .receiving ∧
      s.clips.alertCapture = some 0 ∧ 12000 ≤ (s.clips.alert[0]).count ∧
      (0 : Byte).toNat * 256 + (7 : Byte).toNat = r.id ∧ r.id ≠ 0 ∧ (∀ j, ∀ x ∈ s.record j, x.id = r.id → j = 0) ∧
      r.cutThrough = false := by
  unfold Reaches LinkFree; constructorm* _ ∧ _ <;> decide +kernel

/-- R64: the boundary wrote segment 12,000, so TRUNCATED is set though ALERT AUDIO END comes before the row. -/
theorem test_audio_end_after_the_last_segment :
    let t := after (.alertAudioEnd .A [0, 7]) (due .alertCaptureFull (receiving 12000 airing))
    ((t.clips.alert[0]).truncated, (t.record 0).map AlertRecord.truncated) = (true, some true) := by decide +kernel

/-- An item of tag 1 fading in VOICE A, a STREAM at its limit in VOICE B, a MARK of tag 5 and an entry behind it, with a TEST
record queued. -/
def markReached (segue : Bool) : State :=
  let x : Entry := { playing (.stream .s2) none 4 3 with ending := true, tag := some 1 }
  let e : Entry := { playing (.stream .s1) (some 10) 4 10 with voice := some .B, segue := true }
  let m : Entry := { waiting .mark none 0 with tag := some 5, segue := segue }
  let s := (cueing [x, e, m, waiting .gap (some 1) 0] .playing airing).setContrib .voiceA
    (sounding 2 (some ⟨32768, 0, 4, 2, .out⟩) none)
  due (.durationLimit .B) (queued (alert 7 .test .pending)
    (((s.setContrib .voiceB (sounding 1 none none)).setVoice .A (.carrying 0)).setVoice .B (.carrying 0)))

theorem witness_MarksEndAfterTheirOffer : ∀ b, ∃ x e m h,
    (Found (.durationLimit .B) (markReached b) ∧ (markReached b).cue.state = .playing ∧
      (markReached b).cue.entries = [x, e, m, h] ∧ x.state = .playing ∧ x.voice = some .A ∧ x.ending = true ∧
      (markReached b).cue.voiceA = .carrying 0 ∧ e.state = .playing ∧ e.voice = some .B ∧ e.kind = .stream .s1 ∧
      e.limit = some 10 ∧ 10 ≤ e.played ∧ e.released = false ∧ e.segue = true ∧ e.successorStarted = false ∧
      (markReached b).cue.voiceB = .carrying 0 ∧ (markReached b).cue.goPending = false ∧ m.kind = .mark ∧
      m.state = .waiting ∧ m.segue = b ∧ h.state = .waiting) ∧
    NoneTakes .itemOffer .playing (markReached b) ∧ TakesAir .markOffer .playing 0 (markReached b) := by
  intro b
  refine ⟨_, _, _, _, ⟨⟨rfl, .head _⟩, rfl, rfl, rfl, rfl, rfl, rfl, rfl, rfl, rfl, rfl, by decide, rfl, rfl, rfl, rfl, rfl,
    rfl, rfl, rfl, rfl⟩, ?_, ?_⟩
  · refine .inr (.inr fun k hk r hr => ?_)
    rw [show (markReached b).alerts.queue = [0] from rfl, List.mem_singleton] at hk
    subst hk
    rw [show (markReached b).record 0 = some (alert 7 .test .pending) from rfl] at hr
    cases hr
    exact ⟨rfl, rfl⟩
  · refine takes_air (r := alert 7 .test .pending) ⟨rfl, ?_, rfl, rfl⟩ (.inr trivial)
    cases b <;> decide +kernel

/-- R91, R132: the offer is TAKEN, which ends the fading item of tag 1, and then the MARK ends: ITEM_ENDED records its tag. -/
theorem test_a_mark_ends_after_its_offer :
    let t := after (.durationLimit .B) (markReached true)
    (t.cue.state, t.cue.entries.map Entry.state, (t.link .P).events.filterMap fun q => match q.event with
      | .itemEnded tag => some (tag, q.count)
      | _ => none) = (.held, [.reserved], [(some 5, 3)]) := by decide +kernel

/-- A profile write at its 20th boundary, its end left to its row. -/
theorem witness_CompleteWritesStand :
    let s := due .profileDone (programmed #v[.unprogrammed, failing, .unprogrammed, .writing Config.factory 20] State.reset)
    Found .profileDone s ∧ s.prof.gens[3] = .writing Config.factory 20 ∧
      ∀ j : Fin 4, j ≠ 3 → (s.prof.gens[j]).state ≠ .writing := by
  refine ⟨⟨rfl, .head _⟩, rfl, fun j h => ?_⟩
  match j with
  | 0 => exact (by decide : GenState.unprogrammed ≠ .writing)
  | 1 => exact (congrArg (· ≠ GenState.writing) failing_fails).mpr (by decide)
  | 2 => exact (by decide : GenState.unprogrammed ≠ .writing)
  | 3 => exact absurd rfl h

end Sys2Proof.Tests
end

section
/-! R8: the fade arithmetic, and what the requests of fade length 0 leave in a contributor's record. -/

namespace Sys2Proof.FadeGains

open Sys2Proof.Machine Sys2Proof.Laws

-- the fade arithmetic

/-- Both formulas of R8 have this shape; the truncation towards zero never takes the step past `y`. -/
theorem truncated_step_between (x y : Int) {k m : Nat} (hkm : k ≤ m) (hm : 0 < m) :
    min x y ≤ x + ((y - x) * k).tdiv m ∧ x + ((y - x) * k).tdiv m ≤ max x y := by
  have share {d : Int} (hd : 0 ≤ d) : 0 ≤ (d * k).tdiv m ∧ (d * k).tdiv m ≤ d := by
    refine ⟨Int.tdiv_nonneg (by positivity) (by positivity), ?_⟩
    calc (d * k).tdiv m
        ≤ (d * m).tdiv m := Int.tdiv_le_tdiv (by positivity) (by gcongr)
      _ = d := Int.mul_tdiv_cancel d (by omega)
  rcases Int.le_total x y with rising | falling
  · obtain ⟨lower, upper⟩ := share (Int.sub_nonneg_of_le rising)
    omega
  · obtain ⟨lower, upper⟩ := share (Int.sub_nonneg_of_le falling)
    rw [← Int.neg_sub x y, Int.neg_mul, Int.neg_tdiv]
    omega

theorem fadeGain_zero (g0 g1 n : Nat) : fadeGain g0 g1 n 0 = g0 := by
  simp [fadeGain]

theorem fadeGain_length (g0 g1 : Nat) {n : Nat} (hn : 1 ≤ n) : fadeGain g0 g1 n n = g1 := by
  rw [fadeGain, Int.mul_tdiv_cancel _ (by omega)]
  omega

theorem fadeGain_between (g0 g1 : Nat) {n k : Nat} (hn : 1 ≤ n) (hk : k ≤ n) :
    (min g0 g1 : Int) ≤ fadeGain g0 g1 n k ∧ fadeGain g0 g1 n k ≤ (max g0 g1 : Int) :=
  truncated_step_between g0 g1 hk hn

theorem frameGain_last (f : Fade) :
    frameGain f 479 = fadeGain f.startGain f.endGain f.length (f.done + 1) := by
  have whole (a : Int) : (a * ((479 : Nat) + 1)).tdiv 480 = a := Int.mul_tdiv_cancel a (by decide)
  rw [frameGain, whole]
  omega

/-- A frame of a block lies between the block's two boundary gains. -/
theorem frameGain_between_boundaries (f : Fade) {j : Nat} (hj : j < 480) :
    let g := fadeGain f.startGain f.endGain f.length f.done
    let g' := fadeGain f.startGain f.endGain f.length (f.done + 1)
    min g g' ≤ frameGain f j ∧ frameGain f j ≤ max g g' :=
  truncated_step_between _ _ (k := j + 1) (m := 480) hj (by decide)

theorem frameGain_between (f : Fade) {j : Nat} (hn : 1 ≤ f.length) (hk : f.done < f.length) (hj : j < 480) :
    (min f.startGain f.endGain : Int) ≤ frameGain f j ∧ frameGain f j ≤ (max f.startGain f.endGain : Int) := by
  obtain ⟨lower, upper⟩ := frameGain_between_boundaries f hj
  obtain ⟨lowerHere, upperHere⟩ := fadeGain_between f.startGain f.endGain hn hk.le
  obtain ⟨lowerNext, upperNext⟩ := fadeGain_between f.startGain f.endGain hn (Nat.succ_le_of_lt hk)
  exact ⟨(le_min lowerHere lowerNext).trans lower, upper.trans (max_le upperHere upperNext)⟩

-- the requests of fade length 0

theorem startFade_of_not_waiting {x : Contrib} (hw : x.waiting = none) : x.startFade = x := by
  simp [Contrib.startFade, hw]

theorem gainAt_of_no_fade {x : Contrib} (hf : x.fade = none) (j : Nat) : x.gainAt j = x.gain := by
  simp [Contrib.gainAt, hf]

theorem gainAt_startFade_of_flat {x : Contrib} (hf : x.fade = none) (hw : x.waiting = none) (j : Nat) :
    x.startFade.gainAt j = x.gain := by
  rw [startFade_of_not_waiting hw, gainAt_of_no_fade hf]

/-- A source binding is never refused, whatever the contributor. -/
theorem activate_source_contrib (c : Contributor) (b : Source) (g fadeIn start : Nat) (s : State) :
    (activate c (.source b) g fadeIn start s).contrib c = .activated (.source b) g fadeIn := by
  simp [activate]

theorem level_zero_contrib {c : Contributor} {s : State} (g : Nat) (hactive : (s.contrib c).active = true)
    (hout : (s.contrib c).fadingOut = false) :
    (level c g 0 s).contrib c = { s.contrib c with target := g, gain := g, fade := none, waiting := none } := by
  have hactive' : { s.contrib c with target := g }.active = true := hactive
  have hout' : { s.contrib c with target := g }.fadingOut = false := hout
  simp [level, hactive', hout']

theorem cut_binding (c : Contributor) (s : State) : ((cut c s).contrib c).binding = none := by
  unfold cut
  split
  case isTrue => rw [contrib_setContrib, Contrib.inactive]
  case isFalse inactive => simpa [Contrib.active] using inactive

theorem fadeOut_zero (c : Contributor) (s : State) : fadeOut c 0 s = cut c s := by
  simp [fadeOut]

/-- Settles O9: every frame lies between its block's boundary gains, and these between the fade's ends; the requests of
length 0 leave no fade, running or waiting. -/
theorem fadeGainsStayBetweenTheirEnds : Obligations.FadeGainsStayBetweenTheirEnds := by
  constructor
  · intro g0 g1 n k j purpose hn _ _ _ hk hj
    obtain ⟨lower, upper⟩ := frameGain_between ⟨g0, g1, n, k, purpose⟩ hn hk hj
    exact ⟨fadeGain_zero g0 g1 n, fadeGain_length g0 g1 hn, rfl, rfl, frameGain_last ⟨g0, g1, n, k, purpose⟩,
      lower, upper⟩
  · intro c b g start j s flat
    have flat_of {x : Contrib} (hg : x.gain = g) (hf : x.fade = none) (hw : x.waiting = none) : flat x :=
      ⟨hg, hf, hw, (gainAt_startFade_of_flat hf hw j).trans hg⟩
    refine ⟨?_, fun hactive hout => ?_, ?_⟩
    · rw [activate_source_contrib]
      exact flat_of rfl rfl rfl
    · rw [level_zero_contrib g hactive hout]
      exact flat_of rfl rfl rfl
    · rw [fadeOut_zero]
      exact cut_binding c s

end Sys2Proof.FadeGains
end

section
/-! R184 to R186: the answer of a command that is taken and passes its checks, by what its owner replies; the numbers that
a parameter byte spells (R199). -/

namespace Sys2Proof.TakenCommands

open Sys2Proof.Machine Sys2Proof.Safety Sys2Proof.Laws

theorem command_ok {l : Link} {s t : State} (h : Takes l s) {code : Nat} {ps : List Byte} {owner : State → Reply}
    {r : Result} (hchecks : failedCheck l code ps (frameComplete l s) = none)
    (howner : owner (frameComplete l s) = .ok (frameComplete l t) r) :
    command l code ps owner s = answered l code .ok r t := by
  rw [command_taken h owner hchecks, howner, conclude_ok]

theorem command_refused {l : Link} {s : State} (h : Takes l s) {code : Nat} {ps : List Byte} {owner : State → Reply}
    {c : Status} (hchecks : failedCheck l code ps (frameComplete l s) = none)
    (howner : owner (frameComplete l s) = .refuse c) :
    command l code ps owner s = answered l code c .none s := by
  rw [command_taken h owner hchecks, howner, conclude_refuse]

theorem numberOf_val_succ {n : Nat} {b : Byte} {i : Fin n} (hb : b.toNat = i.val + 1) : numberOf n b = some i := by
  have inRange : 1 ≤ b.toNat ∧ b.toNat ≤ n := by omega
  rw [numberOf, dif_pos inRange]
  exact congrArg some (Fin.ext (by simp [hb]))

theorem numberOf_out_of_range {n : Nat} {b : Byte} (hb : b.toNat = 0 ∨ n < b.toNat) : numberOf n b = none :=
  dif_neg (by omega)

theorem lineOf_val_succ {b : Byte} {i : PhoneLine} (hb : b.toNat = i.val + 1) : lineOf b = some i :=
  numberOf_val_succ hb

theorem lineOf_out_of_range {b : Byte} (hb : b.toNat = 0 ∨ 4 < b.toNat) : lineOf b = none :=
  numberOf_out_of_range hb

theorem positionOf_in_range {b : Byte} (hpos : 1 ≤ b.toNat) (hle : b.toNat ≤ 32) : positionOf b = some b.toNat :=
  if_pos ⟨hpos, hle⟩

end Sys2Proof.TakenCommands
end

section
/-! R78, R110, R190, R193, R194: the reading commands. Their owners answer from the state once the frame is complete,
and what they read does not see the receiver. -/

namespace Sys2Proof.ReadingCommands

open Sys2Proof.Machine Sys2Proof.Safety Sys2Proof.Laws Sys2Proof.TakenCommands

-- what a page reads

theorem isSafe_eq (d : DelayState) : d.isSafe = (decide (d = .safe) || decide (d = .shrinking)) := by
  cases d <;> rfl

/-- The records counted slot by slot are those counted along the vector. -/
theorem activeAlerts_eq (s : State) : s.activeAlerts = s.alerts.records.toList.countP Option.isSome := by
  have slots : s.alerts.records.toList = alertSlots.map s.record := by
    refine List.ext_getElem (by simp [alertSlots]) fun n hn _ => ?_
    have : n < 4 := by simpa using hn
    interval_cases n <;> rfl
  rw [slots, List.countP_map]
  rfl

/-- Completing a frame leaves every page of STATUS READ as it was: no page shows a receiver. -/
theorem statusPage_frameComplete (l : Link) (page : Byte) (s : State) :
    statusPage page (frameComplete l s) = statusPage page s := by
  cases l <;> rfl

-- the commands

theorem identifyAnswers : Claims.IdentifyAnswers := by
  intro l s h
  have revision := Config.revision.isLt
  refine ⟨Config.revision.val + 1, by omega, by omega, congrArg _ (command_ok h ?_ ?_)⟩
  · exact checks_pass h [.P, .C, .S, .A] (.exactly 0) rfl (by cases l <;> rfl) rfl
  · simp [identifyOwner, frameComplete]

theorem statusRead_checks {l : Link} {s : State} (h : Takes l s) (p : Byte) :
    failedCheck l 0x02 [p] (frameComplete l s) = none :=
  checks_pass h [.P, .C, .S, .A] (.exactly 1) rfl (by cases l <;> rfl) rfl

theorem exec_statusRead {l : Link} {p : Byte} {s : State} {r : Result} (h : Takes l s) (hpage : statusPage p s = some r) :
    exec (.statusRead l [p]) s = .next (answered l 0x02 .ok r s) := by
  refine congrArg _ (command_ok h (statusRead_checks h p) ?_)
  simp [statusReadOwner, byteAt, statusPage_frameComplete, hpage]

theorem exec_statusRead_no_page {l : Link} {p : Byte} {s : State} (h : Takes l s) (hpage : statusPage p s = none) :
    exec (.statusRead l [p]) s = .next (answered l 0x02 .badParam .none s) := by
  refine congrArg _ (command_refused h (statusRead_checks h p) ?_)
  simp [statusReadOwner, byteAt, statusPage_frameComplete, hpage]

theorem statusPage_above_5 {p : Byte} (hp : 5 < p.toNat) (s : State) : statusPage p s = none := by
  obtain ⟨n, hn⟩ : ∃ n, p.toNat = n + 6 := ⟨p.toNat - 6, by omega⟩
  simp [statusPage, hn]

theorem statusReadPages : Claims.StatusReadPages := by
  intro l s h
  refine ⟨exec_statusRead h rfl, exec_statusRead h ?delay, exec_statusRead h rfl, exec_statusRead h ?programme,
    exec_statusRead h rfl, exec_statusRead h rfl, fun p hp => exec_statusRead_no_page h (statusPage_above_5 hp s)⟩
  case delay => rw [← isSafe_eq]; rfl
  case programme => rw [← activeAlerts_eq]; rfl

/-- One line of EVENTS READ (R190). -/
def eventLine (enabled : List Nat) (p : PendingEvent) : EventLine :=
  ⟨p.event.number, enabled.contains p.event.number, p.count, p.event⟩

theorem exec_eventsRead {l : Link} {s : State} (h : Takes l s) :
    exec (.eventsRead l []) s =
      .next (answered l 0x03 .ok (.events ((s.link l).events.map (eventLine (s.link l).enabled))) s) := by
  refine congrArg _ (command_ok h ?_ ?_)
  · exact checks_pass h [.P, .C, .S, .A] (.exactly 0) rfl (by cases l <;> rfl) rfl
  · simp [eventsReadOwner, frameComplete, eventLine]

theorem eventsReadReturnsThePendingEvents : Claims.EventsReadReturnsThePendingEvents := by
  intro l s h
  refine ⟨_, exec_eventsRead h, ?values, ?numbers, ?order⟩
  case values => simp [eventLine, Function.comp_def]
  case numbers => simp [eventLine]
  case order => exact fun ascending => ascending.map _ fun _ _ below => below

theorem exec_cueListRead {p : Byte} {s : State} (h : Takes .P s) (hpos : 1 ≤ p.toNat) (hle : p.toNat ≤ 32) :
    exec (.cueListRead .P [p]) s = .next (answered .P 0x1C .ok (.cueList
      ⟨s.cue.state, s.cue.entries.length, s.cue.voiceA, s.cue.voiceB, (s.cue.entries.drop (p.toNat - 1)).take 8,
        s.cue.held.map HeldRecord.stateLeft⟩) s) := by
  refine congrArg _ (command_ok h (checks_pass h [.P] (.exactly 1) rfl rfl rfl) ?_)
  simp [cueListReadOwner, byteAt, positionOf_in_range hpos hle, frameComplete]

theorem exec_queueRead {s : State} (h : Takes .S s) :
    exec (.queueRead .S []) s = .next (answered .S 0x56 .ok (.callerQueue
      ⟨s.callers.lines, s.callers.queue, s.callers.slots, s.callers.measure, s.callers.nextNumber,
        s.sup.settings.safeTake⟩) s) :=
  congrArg _ (command_ok h (checks_pass h [.S] (.exactly 0) rfl rfl rfl) rfl)

/-- Settles O2: each reading command passes its checks, and its owner replies with what the state holds. -/
theorem theDeviceIsRead : Obligations.TheDeviceIsRead :=
  ⟨identifyAnswers, statusReadPages, eventsReadReturnsThePendingEvents,
    fun _ _ h hpos hle => exec_cueListRead h hpos hle, fun _ h => exec_queueRead h⟩

end Sys2Proof.ReadingCommands
end

section
/-! R101, R102, R105: a line is connected, and a line goes down, by the state its record is in. -/

namespace Sys2Proof.TelephoneLines

open Sys2Proof.Machine Sys2Proof.Safety Sys2Proof.Laws Sys2Proof.TakenCommands

-- LINE CONNECT

theorem lineConnect_checks {s : State} (h : Takes .S s) (b : Byte) :
    failedCheck .S 0x50 [b] (frameComplete .S s) = none :=
  checks_pass h [.S] (.exactly 1) rfl rfl rfl

theorem linesConnect : Claims.LinesConnect := by
  intro b s h
  have refused {c : Status} (howner : lineConnectOwner [b] (frameComplete .S s) = .refuse c) :
      exec (.lineConnect .S [b]) s = .next (answered .S 0x50 c .none s) :=
    congrArg _ (command_refused h (lineConnect_checks h b) howner)
  refine ⟨fun outside => refused ?_, fun i hb => ⟨fun taken => refused ?_, fun free => ?_⟩⟩
  · simp [lineConnectOwner, byteAt, lineOf_out_of_range outside]
  · have taken' : ((frameComplete .S s).line i).state ≠ .free := taken
    simp [lineConnectOwner, byteAt, lineOf_val_succ hb, taken']
  · have free' : ((frameComplete .S s).line i).state = .free := free
    refine congrArg _ (command_ok h (lineConnect_checks h b) ?_)
    simp only [lineConnectOwner, byteAt, List.getD_cons_zero, lineOf_val_succ hb, free', if_true]
    rfl

-- what LINE DOWN does, by the line's state

theorem lineDown_of_free {i : PhoneLine} {s : State} (hline : (s.line i).state = .free) : lineDown i s = s := by
  simp [lineDown, hline]

theorem lineDown_of_screening {i : PhoneLine} {s : State} (hline : (s.line i).state = .screening) :
    lineDown i s = (abortMeasure i s).setLine i ((abortMeasure i s).line i).freed := by
  simp [lineDown, hline]

theorem abortMeasure_of_other {i : PhoneLine} {s : State} (hother : ∀ m, s.callers.measure = some m → m.line ≠ i) :
    abortMeasure i s = s := by
  cases hm : s.callers.measure with
  | none => simp [abortMeasure, hm]
  | some m => simp [abortMeasure, hm, hother m hm]

theorem abortMeasure_of_measured {i : PhoneLine} {m : Measure} {s : State} (hm : s.callers.measure = some m)
    (hon : m.line = i) :
    abortMeasure i s = raise .S (.measureDone i .aborted (s.line i).trim) { s with callers := { s.callers with
      lines := s.callers.lines.set i { s.line i with result := .aborted }, measure := none } } := by
  simp [abortMeasure, hm, hon, State.setLine]

theorem lineDown_of_unmeasured {i : PhoneLine} {s : State} (hline : (s.line i).state = .screening)
    (hother : ∀ m, s.callers.measure = some m → m.line ≠ i) : lineDown i s = s.setLine i (s.line i).freed := by
  rw [lineDown_of_screening hline, abortMeasure_of_other hother]

/-- The line is made FREE after its measurement is aborted, so it keeps the result ABORTED (R102, R105). -/
theorem lineDown_of_measured {i : PhoneLine} {m : Measure} {s : State} (hline : (s.line i).state = .screening)
    (hm : s.callers.measure = some m) (hon : m.line = i) :
    lineDown i s = raise .S (.measureDone i .aborted (s.line i).trim) { s with callers := { s.callers with
      lines := s.callers.lines.set i { (s.line i).freed with result := .aborted }, measure := none } } := by
  rw [lineDown_of_screening hline, abortMeasure_of_measured hm hon]
  simp [State.setLine, State.line, raise, State.modLink, State.link, LineRecord.freed]

theorem lineDown_of_held {i : PhoneLine} {s : State} (hline : (s.line i).state = .held) :
    lineDown i s = raiseQueue ((leaveQueue i s).setLine i (s.line i).freed) := by
  simp [lineDown, hline]

/-- A caller is no clip, so its CUT closes no reader. -/
theorem cut_slotContributor {k : CallerSlot} {s : State} (hbound : (s.contrib (slotContributor k)).binding.isSome = true) :
    cut (slotContributor k) s =
      s.setContrib (slotContributor k) (s.contrib (slotContributor k)).inactive := by
  have noReader : closeReaderOf (slotContributor k) s = s := by
    unfold slotContributor
    split <;> rfl
  rw [cut, noReader, Contrib.active, if_pos hbound]

/-- The line on air is cut and its slot emptied at once (R102). -/
theorem lineDown_of_onAir {i : PhoneLine} {k : CallerSlot} {s : State} (hline : (s.line i).state = .onAir)
    (hslot : (s.line i).slot = some k) (hbound : (s.contrib (slotContributor k)).binding.isSome = true) :
    lineDown i s = raise .S (.lineOffAir i k .lineDown)
      (((s.setContrib (slotContributor k) (s.contrib (slotContributor k)).inactive).setSlot k ⟨none, none⟩).setLine i
        (s.line i).freed) := by
  simp [lineDown, hline, hslot, hangUp, cut_slotContributor hbound]

-- LINE DOWN

/-- The owner works from the state once the frame is complete; its answer is added to what it leaves. -/
theorem exec_lineDown {b : Byte} {i : PhoneLine} {s t : State} (h : Takes .S s) (hb : b.toNat = i.val + 1)
    (hdown : lineDown i (frameComplete .S s) = frameComplete .S t) :
    exec (.lineDown .S [b]) s = .next (answered .S 0x51 .ok .none t) := by
  refine congrArg _ (command_ok h (checks_pass h [.S] (.exactly 1) rfl rfl rfl) ?_)
  simp only [lineDownOwner, byteAt, List.getD_cons_zero, lineOf_val_succ hb, hdown]

theorem linesGoDown : Claims.LinesGoDown := by
  intro b i s h hb
  refine ⟨fun free => ?_, fun screening other => ?_, fun m screening measured on => ?_, fun held => ?_,
    fun k onAir slot bound => ?_⟩ <;> refine exec_lineDown h hb ?_
  · exact lineDown_of_free free
  · exact lineDown_of_unmeasured screening other
  · exact lineDown_of_measured screening measured on
  · exact lineDown_of_held held
  · exact lineDown_of_onAir onAir slot bound

/-- Settles O33: the lines' two commands are their owners', and LINE DOWN is followed state by state. -/
theorem linesConnectAndGoDown : Obligations.LinesConnectAndGoDown :=
  ⟨linesConnect, linesGoDown⟩

end Sys2Proof.TelephoneLines
end

section
/-! The sample memory at work: what each of its operations keeps of laws 3 and 4 (R23, R29 to R33). -/

namespace Sys2Proof.MemoryKeeping

-- the lemmas one after the other: in one text, all at once they ask for more threads than the compile has
set_option Elab.async false

open Sys2Proof.Machine Sys2Proof.Safety Sys2Proof.Laws

/-- The pool mapped (R23, R29, R30), of a memory. -/
def Mapped (m : SampleMemory) : Prop :=
  (m.free ++ m.held.map Prod.fst).Nodup ∧
    (∀ n, n ∈ m.free ++ m.held.map Prod.fst ↔ m.ring ≤ n ∧ n < Config.segments) ∧
    m.general = m.held.countP (fun h => match h.2 with | .playout _ => true | .alert _ => false) ∧
    m.alertCount = m.held.countP fun h => match h.2 with | .playout _ => false | .alert _ => true

theorem poolMapped_iff (s : State) : PoolMapped s ↔ Mapped s.mem := Iff.rfl

/-- What every operation of a running part keeps of the memory. -/
structure MemoryKept (m m' : SampleMemory) : Prop where
  canonical : m.wf = true → m'.wf = true
  mapped : Mapped m → Mapped m'
  reserve : m.general ≤ m.pool - m.reserve → m'.general ≤ m'.pool - m'.reserve
  ring : m'.ring = m.ring

theorem MemoryKept.refl (m : SampleMemory) : MemoryKept m m := ⟨id, id, id, rfl⟩

theorem MemoryKept.trans {m m' m'' : SampleMemory} (h : MemoryKept m m') (k : MemoryKept m' m'') : MemoryKept m m'' :=
  ⟨k.canonical ∘ h.canonical, k.mapped ∘ h.mapped, k.reserve ∘ h.reserve, k.ring.trans h.ring⟩

theorem MemoryKept.foldl {α : Type} (f : SampleMemory → α → SampleMemory) (h : ∀ m a, MemoryKept m (f m a)) (as : List α)
    (m : SampleMemory) : MemoryKept m (as.foldl f m) := by
  induction as generalizing m with
  | nil => exact MemoryKept.refl m
  | cons a as ih => exact (h m a).trans (ih _)

-- what is written into segments

theorem write_kept (n : Nat) (g : Segment) (m : SampleMemory) : MemoryKept m (m.write n g) :=
  ⟨fun h => write_wf h n g, id, id, rfl⟩

theorem errors_kept (e : Nat) (m : SampleMemory) : MemoryKept m { m with errors := e } := ⟨id, id, id, rfl⟩

theorem fill_kept (m : SampleMemory) : MemoryKept m m.fill := ⟨fill_wf, id, id, rfl⟩

theorem upset_kept (us : List (Nat × Block)) (m : SampleMemory) : MemoryKept m (m.upset us) :=
  MemoryKept.foldl (fun (m : SampleMemory) (u : Nat × Block) => m.write u.1 { m.read u.1 with frames := u.2 })
    (fun m u => write_kept u.1 _ m) us m

-- the segment map

theorem holdSegment_perm (n : Nat) (c : ClipRef) (held : List (Nat × ClipRef)) :
    (holdSegment n c held).Perm ((n, c) :: held) := by
  induction held with
  | nil => exact List.Perm.refl _
  | cons d rest ih =>
    simp only [holdSegment]
    split
    · exact List.Perm.refl _
    · exact (ih.cons d).trans (List.Perm.swap _ _ _)

/-- In a map with one entry for each segment, a segment's entry is what a filter by its number takes out. -/
theorem perm_cons_filter {held : List (Nat × ClipRef)} {n : Nat} {c : ClipRef} (hnd : (held.map Prod.fst).Nodup)
    (hm : (n, c) ∈ held) : held.Perm ((n, c) :: held.filter fun h => decide (h.1 ≠ n)) := by
  have same : held.filter (fun h => decide (h.1 ≠ n)) = held.erase (n, c) := by
    rw [List.Nodup.erase_eq_filter (List.Nodup.of_map _ hnd)]
    refine List.filter_congr fun x hx => ?_
    have unique : x.1 = n → x = (n, c) := fun e => List.inj_on_of_nodup_map hnd hx hm e
    by_cases hxn : x = (n, c)
    · simp [hxn]
    · simp [hxn, mt unique hxn]
  rw [same]
  exact List.perm_cons_erase hm

theorem holder_eq_clip {m : SampleMemory} {n : Nat} {c : ClipRef} (h : m.holder n = .clip c) :
    (n, c) ∈ m.held := by
  unfold SampleMemory.holder at h
  split at h
  · cases h
  · split at h
    · rename_i k d hfind
      obtain rfl : d = c := by injection h
      have hk : k = n := by simpa using List.find?_some hfind
      exact hk ▸ List.mem_of_find?_eq_some hfind
    · cases h

theorem freeOne_kept (c : ClipRef) (n : Nat) (m : SampleMemory) : MemoryKept m (m.freeOne c n) := by
  refine ⟨fun h => freeOne_wf h c n, fun h => ?_, fun h => ?_, ?_⟩
  · obtain ⟨hnd, hin, hgen, halert⟩ := h
    unfold SampleMemory.freeOne
    split
    case isFalse => exact ⟨hnd, hin, hgen, halert⟩
    case isTrue held =>
      have entry := perm_cons_filter (List.Nodup.of_append_right hnd) (holder_eq_clip held)
      have moved : ((m.free ++ [n]) ++ (m.held.filter fun h => decide (h.1 ≠ n)).map Prod.fst).Perm
          (m.free ++ m.held.map Prod.fst) := by
        rw [List.append_assoc]
        exact List.Perm.append_left _ (entry.map Prod.fst).symm
      refine ⟨moved.nodup_iff.mpr hnd, fun k => moved.mem_iff.trans (hin k), ?_, ?_⟩
      · rw [entry.countP_eq] at hgen
        cases c <;> simp only [List.countP_cons] at hgen ⊢ <;> simp [hgen]
      · rw [entry.countP_eq] at halert
        cases c <;> simp only [List.countP_cons] at halert ⊢ <;> simp [halert]
  · unfold SampleMemory.freeOne
    split
    · cases c
      · exact (Nat.sub_le _ _).trans h
      · exact h
    · exact h
  · unfold SampleMemory.freeOne
    split <;> rfl

theorem freeAll_kept (c : ClipRef) (ns : List Nat) (m : SampleMemory) : MemoryKept m (m.freeAll c ns) :=
  MemoryKept.foldl _ (fun m n => freeOne_kept c n m) ns m

/-- An allocation takes the head of the free list (R31): the memory it leaves but for the link written in the clip's
former last segment. -/
theorem allocate_eq {m m' : SampleMemory} {c : ClipRef} {last : Option Nat} {n : Nat}
    (h : m.allocate c last = some (n, m')) :
    m.grants c = true ∧ m'.ring = m.ring ∧ m'.reserve = m.reserve ∧ m.free = n :: m'.free ∧
      m'.held = holdSegment n c m.held ∧
      m'.general = (match c with | .playout _ => m.general + 1 | .alert _ => m.general) ∧
      m'.alertCount = (match c with | .playout _ => m.alertCount | .alert _ => m.alertCount + 1) := by
  unfold SampleMemory.allocate at h
  split at h
  · rename_i hg hf
    simp only [Option.some.injEq, Prod.mk.injEq] at h
    obtain ⟨rfl, rfl⟩ := h
    refine ⟨hg, ?_, ?_, hf, rfl, ?_, ?_⟩
    · cases last
      · rfl
      · dsimp only; split <;> rfl
    · cases last
      · rfl
      · dsimp only; split <;> rfl
    · cases c <;> rfl
    · cases c <;> rfl
  · cases h

theorem allocate_kept {m m' : SampleMemory} {c : ClipRef} {last : Option Nat} {n : Nat}
    (h : m.allocate c last = some (n, m')) : MemoryKept m m' := by
  obtain ⟨grants, ring, reserve, free, held, general, alertCount⟩ := allocate_eq h
  refine ⟨fun hw => allocate_wf hw h, fun ⟨hnd, hin, hgen, halert⟩ => ?_, fun hr => ?_, ring⟩
  · have entry := holdSegment_perm n c m.held
    have moved : (m'.free ++ m'.held.map Prod.fst).Perm (m.free ++ m.held.map Prod.fst) := by
      rw [held, free]
      exact ((entry.map Prod.fst).append_left m'.free).trans List.perm_middle
    refine ⟨moved.nodup_iff.mpr hnd, fun k => ?_, ?_, ?_⟩
    · rw [moved.mem_iff, ring]
      exact hin k
    · rw [held, entry.countP_eq, general, hgen]
      cases c <;> simp
    · rw [held, entry.countP_eq, alertCount, halert]
      cases c <;> simp
  · cases c with
    | playout k =>
      have room : m.general < m.pool - m.reserve := by
        simp only [SampleMemory.grants, Bool.and_eq_true, decide_eq_true_eq] at grants
        exact grants.1
      rw [general, SampleMemory.pool, ring, reserve]
      exact room
    | alert k =>
      rw [general, SampleMemory.pool, ring, reserve]
      exact hr

-- the whole pool

/-- A pool with no holder is mapped (R29). -/
theorem mapped_of_all_free {m : SampleMemory} (hfree : m.free = List.range' m.ring (Config.segments - m.ring))
    (hheld : m.held = []) (hgen : m.general = 0) (halert : m.alertCount = 0) : Mapped m := by
  refine ⟨?_, fun n => ?_, by simp [hheld, hgen], by simp [hheld, halert]⟩
  · simpa [hfree, hheld] using List.nodup_range'
  · simp only [hfree, hheld, List.map_nil, List.append_nil, List.mem_range'_1]
    omega

theorem countP_add_countP_not {α : Type} (p q : α → Bool) (hpq : ∀ x, q x = !p x) (l : List α) :
    l.countP p + l.countP q = l.length := by
  have hq : l.countP q = l.countP fun x => !p x := List.countP_congr fun x _ => by rw [hpq]
  rw [hq]
  exact (List.length_eq_countP_add_countP p).symm ▸ by simp

/-- Law 3 follows from the map: each pool segment is counted once (R30). -/
theorem accounted_of_mapped {m : SampleMemory} (h : Mapped m) : m.free.length + m.general + m.alertCount = m.pool := by
  obtain ⟨hnd, hin, hgen, halert⟩ := h
  have all : (m.free ++ m.held.map Prod.fst).Perm (List.range' m.ring (Config.segments - m.ring)) := by
    refine (List.perm_ext_iff_of_nodup hnd List.nodup_range').mpr fun n => (hin n).trans ?_
    rw [List.mem_range'_1]
    omega
  have total : m.free.length + m.held.length = m.pool := by
    simpa [SampleMemory.pool] using all.length_eq
  have kinds := countP_add_countP_not
    (fun h : Nat × ClipRef => match h.2 with | .playout _ => true | .alert _ => false)
    (fun h => match h.2 with | .playout _ => false | .alert _ => true)
    (fun h => by obtain ⟨n, c⟩ := h; cases c <;> rfl) m.held
  omega

-- the delay region

/-- What every operation on a running part keeps but a write into the delay region: that region, too (R21). -/
structure RegionKept (m m' : SampleMemory) : Prop extends MemoryKept m m' where
  region : Mapped m → ∀ n, n < m.ring → m'.read n = m.read n

theorem RegionKept.refl (m : SampleMemory) : RegionKept m m := ⟨MemoryKept.refl m, fun _ _ _ => rfl⟩

theorem RegionKept.trans {m m' m'' : SampleMemory} (h : RegionKept m m') (k : RegionKept m' m'') : RegionKept m m'' :=
  ⟨h.toMemoryKept.trans k.toMemoryKept, fun hm n hn =>
    (k.region (h.mapped hm) n (h.ring.symm ▸ hn)).trans (h.region hm n hn)⟩

theorem errors_region (e : Nat) (m : SampleMemory) : RegionKept m { m with errors := e } :=
  ⟨errors_kept e m, fun _ _ _ => rfl⟩

theorem freeAll_region (c : ClipRef) (ns : List Nat) (m : SampleMemory) : RegionKept m (m.freeAll c ns) := by
  have freed (m : SampleMemory) (n : Nat) : RegionKept m (m.freeOne c n) := by
    refine ⟨freeOne_kept c n m, fun _ k _ => ?_⟩
    unfold SampleMemory.freeOne
    split <;> rfl
  unfold SampleMemory.freeAll
  induction ns generalizing m with
  | nil => exact RegionKept.refl m
  | cons n ns ih => exact (freed m n).trans (ih _)

/-- An allocated segment lies in the pool. -/
theorem allocate_in_pool {m m' : SampleMemory} {c : ClipRef} {last : Option Nat} {n : Nat}
    (h : m.allocate c last = some (n, m')) (hm : Mapped m) : m.ring ≤ n := by
  obtain ⟨-, -, -, free, -⟩ := allocate_eq h
  exact ((hm.2.1 n).mp (by simp [free])).1

theorem allocate_region {m m' : SampleMemory} {c : ClipRef} {last : Option Nat} {n : Nat}
    (h : m.allocate c last = some (n, m')) : RegionKept m m' := by
  refine ⟨allocate_kept h, fun _ k hk => ?_⟩
  unfold SampleMemory.allocate at h
  split at h
  · simp only [Option.some.injEq, Prod.mk.injEq] at h
    obtain ⟨-, rfl⟩ := h
    cases last with
    | none => rfl
    | some j =>
      dsimp only
      split
      · exact read_write_ne (by omega) m _
      · rfl
  · cases h

end Sys2Proof.MemoryKeeping
end

section
/-! Where the telephone lines stand (law 5; R106, R111): each operation of the Caller Unit followed line by line. -/

namespace Sys2Proof.LinePlaces

-- the lemmas one after the other: in one text, all at once they ask for more threads than the compile has
set_option Elab.async false

open Sys2Proof.Machine Sys2Proof.Safety Sys2Proof.Laws

/-- Line `i` stands where its record says: once in the queue, or among the lines `back` on their way to it, when it is HELD
and never else; and when ON_AIR in the one slot it names. -/
def PlacedLine (back : List PhoneLine) (s : State) (i : PhoneLine) : Prop :=
  (s.callers.queue ++ back).count i = (if (s.line i).state = .held then 1 else 0) ∧
    (∀ k, (s.slot k).occupant = some i ↔ (s.line i).state = .onAir ∧ (s.line i).slot = some k) ∧
    ((s.line i).state = .onAir → (s.line i).slot.isSome = true)

/-- Every line stands where its record says, those of `back` being on their way to the queue. -/
def Placed (back : List PhoneLine) (s : State) : Prop := ∀ i, PlacedLine back s i

theorem linesKept_iff (s : State) : LinesKept s ↔ Placed [] s := by
  constructor
  · rintro ⟨placed, nodup, slots⟩ i
    obtain ⟨queued, aired⟩ := placed i
    refine ⟨?_, slots i, fun onAir => ?_⟩
    · simp [nodup.count, queued]
    · obtain ⟨k, hk⟩ := aired.mpr onAir
      simp [((slots i k).mp hk).2]
  · intro h
    have counted (i : PhoneLine) : s.callers.queue.count i = if (s.line i).state = .held then 1 else 0 := by
      simpa using (h i).1
    refine ⟨fun i => ⟨?_, ?_, fun onAir => ?_⟩, List.nodup_iff_count_le_one.mpr fun i => ?_, fun i => (h i).2.1⟩
    · rw [← List.count_pos_iff, counted i]
      split <;> simp [*]
    · rintro ⟨k, hk⟩
      exact (((h i).2.1 k).mp hk).1
    · obtain ⟨k, hk⟩ := Option.isSome_iff_exists.mp ((h i).2.2 onAir)
      exact ⟨k, ((h i).2.1 k).mpr ⟨onAir, hk⟩⟩
    · rw [counted i]
      split <;> omega

@[simp] theorem queue_setLine (i : PhoneLine) (x : LineRecord) (s : State) :
    (s.setLine i x).callers.queue = s.callers.queue := rfl

@[simp] theorem queue_setSlot (k : CallerSlot) (x : SlotRecord) (s : State) :
    (s.setSlot k x).callers.queue = s.callers.queue := rfl

/-- A change that keeps every line's state and slot, the lines queued or on their way, and the occupants. -/
theorem Placed.of_same {back back' : List PhoneLine} {s t : State} (h : Placed back s)
    (hline : ∀ i, (t.line i).state = (s.line i).state ∧ (t.line i).slot = (s.line i).slot)
    (hqueue : (t.callers.queue ++ back').Perm (s.callers.queue ++ back))
    (hslot : ∀ k, (t.slot k).occupant = (s.slot k).occupant) : Placed back' t := by
  intro i
  obtain ⟨hstate, hname⟩ := hline i
  unfold PlacedLine
  simp only [hqueue.count_eq, hslot, hstate, hname]
  exact h i

theorem Placed.of_callers {back : List PhoneLine} {s t : State} (h : Placed back s) (hc : t.callers = s.callers) :
    Placed back t :=
  h.of_same (fun i => by simp [State.line, hc]) (by rw [hc]) fun k => by simp [State.slot, hc]

/-- A change of line `i` alone, which again stands where its record says. -/
theorem Placed.of_line {back back' : List PhoneLine} {s t : State} (i : PhoneLine) (h : Placed back s)
    (hline : ∀ j, j ≠ i → t.line j = s.line j)
    (hqueue : ∀ j, j ≠ i → (t.callers.queue ++ back').count j = (s.callers.queue ++ back).count j)
    (hslot : ∀ j, j ≠ i → ∀ k, (t.slot k).occupant = some j ↔ (s.slot k).occupant = some j)
    (hi : PlacedLine back' t i) : Placed back' t := by
  intro j
  by_cases hj : j = i
  · exact hj ▸ hi
  · unfold PlacedLine
    simp only [hline j hj, hqueue j hj, hslot j hj]
    exact h j

-- the queue

theorem placeInQueue_perm (ls : Vector LineRecord 4) (x : PhoneLine) (q : List PhoneLine) :
    (placeInQueue ls x q).Perm (x :: q) := by
  induction q with
  | nil => exact List.Perm.refl _
  | cons y ys ih =>
    simp only [placeInQueue]
    split
    · exact List.Perm.refl _
    · exact (ih.cons y).trans (List.Perm.swap _ _ _)

@[simp] theorem line_placeLine (i j : PhoneLine) (s : State) : (placeLine i s).line j = s.line j := rfl

@[simp] theorem slot_placeLine (i : PhoneLine) (k : CallerSlot) (s : State) : (placeLine i s).slot k = s.slot k := rfl

/-- A line on its way is placed in the queue. -/
theorem placeLine_placed {i : PhoneLine} {back : List PhoneLine} {s : State} (h : Placed (i :: back) s) :
    Placed back (placeLine i s) :=
  h.of_same (fun _ => ⟨rfl, rfl⟩) (((placeInQueue_perm _ i _).append_right back).trans List.perm_middle.symm) fun _ => rfl

theorem renumber_line (c : Callers) (base : Nat) (i : PhoneLine) :
    ((c.renumber base).lines[i]).state = (c.lines[i]).state ∧ ((c.renumber base).lines[i]).slot = (c.lines[i]).slot := by
  simp only [Callers.renumber, Fin.getElem_fin, Vector.getElem_ofFn]
  split <;> exact ⟨rfl, rfl⟩

theorem setLine_same_placed {i : PhoneLine} {x : LineRecord} {back : List PhoneLine} {s : State} (h : Placed back s)
    (hstate : x.state = (s.line i).state) (hslot : x.slot = (s.line i).slot) : Placed back (s.setLine i x) := by
  refine h.of_same (fun j => ?_) (List.Perm.refl _) fun _ => rfl
  by_cases hj : j = i
  · subst hj; simp [hstate, hslot]
  · simp [hj]

theorem renumber_placed {base : Nat} {back : List PhoneLine} {s : State} (h : Placed back s) :
    Placed back { s with callers := s.callers.renumber base } :=
  h.of_same (renumber_line s.callers base) (List.Perm.refl _) fun _ => rfl

theorem giveNumber_placed {i : PhoneLine} {back : List PhoneLine} {s : State} (h : Placed back s) :
    Placed back (giveNumber i s) := by
  have numbered (n : Nat) (t : State) (ht : Placed back t) : Placed back { t with callers := { t.callers with
      lines := t.callers.lines.set i { t.callers.lines[i] with number := some n }, nextNumber := n + 1 } } :=
    (setLine_same_placed ht (x := { t.line i with number := some n }) rfl rfl).of_same (fun _ => ⟨rfl, rfl⟩)
      (List.Perm.refl _) fun _ => rfl
  unfold giveNumber
  split
  · exact numbered _ { s with callers := s.callers.renumber 0 } (renumber_placed h)
  · exact numbered _ s h

theorem joinQueue_placed {i : PhoneLine} {back : List PhoneLine} {s : State} (h : Placed (i :: back) s) :
    Placed back (joinQueue i s) :=
  placeLine_placed (giveNumber_placed h)

@[simp] theorem slot_giveNumber (i : PhoneLine) (k : CallerSlot) (s : State) : (giveNumber i s).slot k = s.slot k := by
  unfold giveNumber
  split <;> rfl

@[simp] theorem slot_joinQueue (i : PhoneLine) (k : CallerSlot) (s : State) : (joinQueue i s).slot k = s.slot k := by
  simp [joinQueue]

@[simp] theorem slot_setLine (i : PhoneLine) (x : LineRecord) (k : CallerSlot) (s : State) :
    (s.setLine i x).slot k = s.slot k := rfl

@[simp] theorem line_setSlot (k : CallerSlot) (x : SlotRecord) (i : PhoneLine) (s : State) :
    (s.setSlot k x).line i = s.line i := rfl

theorem count_leaveQueue_same (i : PhoneLine) (s : State) : (leaveQueue i s).callers.queue.count i = 0 :=
  List.count_eq_zero.mpr fun h => by simp [leaveQueue] at h

theorem count_leaveQueue_ne {i j : PhoneLine} (h : j ≠ i) (s : State) :
    (leaveQueue i s).callers.queue.count j = s.callers.queue.count j :=
  List.count_filter (by simpa using h)

/-- A line HELD leaves the queue for a state that is neither HELD nor ON_AIR. -/
theorem dequeue_placed {i : PhoneLine} {x : LineRecord} {s : State} (h : Placed [] s) (hs : (s.line i).state = .held)
    (hheld : x.state ≠ .held) (hair : x.state ≠ .onAir) : Placed [] ((leaveQueue i s).setLine i x) := by
  have noSlot (k : CallerSlot) : (s.slot k).occupant ≠ some i := fun hk => by
    simpa [hs] using (((h i).2.1 k).mp hk).1
  refine h.of_line i (fun j hj => by rw [line_setLine_ne hj]; rfl) (fun j hj => ?_) (fun _ _ _ => Iff.rfl) ⟨?_, ?_, ?_⟩
  · simpa using count_leaveQueue_ne hj s
  · simpa [hheld] using count_leaveQueue_same i s
  · intro k
    rw [line_setLine, slot_setLine]
    simp only [hair, false_and, iff_false]
    exact noSlot k
  · simp [hair]

/-- A line taken up or put down away from the queue and the slots; when HELD it is on its way to the queue. -/
theorem setLine_placed {i : PhoneLine} {x : LineRecord} {s : State} (h : Placed [] s)
    (hs : (s.line i).state ≠ .held) (hsa : (s.line i).state ≠ .onAir) (hair : x.state ≠ .onAir) :
    Placed (if x.state = .held then [i] else []) (s.setLine i x) := by
  have away : s.callers.queue.count i = 0 := by simpa [hs] using (h i).1
  refine h.of_line i (fun j hj => by rw [line_setLine_ne hj]) (fun j hj => ?_) (fun _ _ _ => Iff.rfl) ⟨?_, ?_, ?_⟩
  · split <;> simp [Ne.symm hj]
  · rw [line_setLine, List.count_append, queue_setLine, away]
    split <;> simp
  · intro k
    simpa [hair, hsa] using (h i).2.1 k
  · simp [hair]

-- the slots

/-- The occupants read after one slot's record is replaced. -/
theorem occupant_setSlot (k j : CallerSlot) (x : SlotRecord) (s : State) :
    ((s.setSlot k x).slot j).occupant = if j = k then x.occupant else (s.slot j).occupant := by
  by_cases hj : j = k
  · subst hj; simp
  · simp [hj]

/-- A slot's disposition is set; its occupant stays. -/
theorem setSlot_same_placed {k : CallerSlot} {x : SlotRecord} {back : List PhoneLine} {s : State} (h : Placed back s)
    (hocc : x.occupant = (s.slot k).occupant) : Placed back (s.setSlot k x) := by
  refine h.of_same (fun _ => ⟨rfl, rfl⟩) (List.Perm.refl _) fun j => ?_
  rw [occupant_setSlot]
  split
  · subst_vars; exact hocc
  · rfl

/-- The line in a slot leaves it; when HELD it is on its way to the queue. -/
theorem vacate_placed {i : PhoneLine} {k : CallerSlot} {x : LineRecord} {back : List PhoneLine} {s : State}
    (h : Placed back s) (hk : (s.slot k).occupant = some i) (hair : x.state ≠ .onAir) :
    Placed (if x.state = .held then i :: back else back) ((s.setSlot k ⟨none, none⟩).setLine i x) := by
  obtain ⟨onAir, slot⟩ := ((h i).2.1 k).mp hk
  have away : (s.callers.queue ++ back).count i = 0 := by simpa [onAir] using (h i).1
  refine h.of_line i (fun j hj => by rw [line_setLine_ne hj]; rfl) (fun j hj => ?_) (fun j hj m => ?_) ⟨?_, ?_, ?_⟩
  · split <;> simp [Ne.symm hj]
  · rw [slot_setLine, occupant_setSlot]
    split
    · subst_vars; simp [hk, Ne.symm hj]
    · rfl
  · rw [List.count_append] at away
    rw [line_setLine, List.count_append, queue_setLine, queue_setSlot]
    split
    · rw [List.count_cons_self]; omega
    · exact away
  · intro m
    rw [line_setLine, slot_setLine, occupant_setSlot]
    simp only [hair, false_and, iff_false]
    split
    · simp
    · rename_i hm
      intro hi
      have : some m = some k := (((h i).2.1 m).mp hi).2.symm.trans slot
      exact hm (Option.some.inj this)
  · simp [hair]

/-- A HELD line enters a free slot. -/
theorem enter_placed {i : PhoneLine} {k : CallerSlot} {x : LineRecord} {s : State} (h : Placed [] s)
    (hs : (s.line i).state = .held) (hfree : (s.slot k).occupant = none) (hx : x.state = .onAir) (hk : x.slot = some k) :
    Placed [] (((leaveQueue i s).setLine i x).setSlot k ⟨some i, none⟩) := by
  have noSlot (m : CallerSlot) : (s.slot m).occupant ≠ some i := fun hm => by
    simpa [hs] using (((h i).2.1 m).mp hm).1
  refine h.of_line i (fun j hj => by rw [line_setSlot, line_setLine_ne hj]; rfl) (fun j hj => ?_) (fun j hj m => ?_)
    ⟨?_, fun m => ?_, ?_⟩
  · simpa using count_leaveQueue_ne hj s
  · rw [occupant_setSlot]
    split
    · subst_vars; simp [hfree, Ne.symm hj]
    · rfl
  · simpa [hx] using count_leaveQueue_same i s
  · rw [occupant_setSlot, line_setSlot, line_setLine]
    split
    · subst_vars; simp [hx, hk]
    · rename_i hm
      simp only [hx, hk, true_and, Option.some.injEq, Ne.symm hm, iff_false]
      exact noSlot m
  · simp [hk]

end Sys2Proof.LinePlaces
end

section
/-! What no part of a command or event breaks: laws 1, 3, 4, 5, 8, 11 and 13, said once of each change of a state's parts. -/

namespace Sys2Proof.LawKeeping

-- the lemmas one after the other: in one text, all at once they ask for more threads than the compile has
set_option Elab.async false

open Sys2Proof.Machine Sys2Proof.Safety Sys2Proof.Laws Sys2Proof.MemoryKeeping Sys2Proof.LinePlaces

/-- A take is to be refused NOT_SAFE (R112): the safe-take policy is on and E < E_t. -/
def HeldBack (s : State) : Prop := s.sup.settings.safeTake = true ∧ s.delay.excess < s.delay.targetSamples

/-- From `s` to `t` every law of the device that `s` shows is kept, the delay region and the Delay Unit stay but for a dump asked
for, and no line enters a caller slot, or, when `takes` allows it, none against the safe-take policy. -/
structure Lawful (takes : Bool) (s t : State) : Prop where
  memory : RegionKept s.mem t.mem
  delay : { t.delay with dump := s.delay.dump } = s.delay
  idle : s.dev.state ≠ .onAir → s.delay.state = .off → t.delay = s.delay
  device : t.dev.state = s.dev.state
  policy : t.sup.settings.safeTake = s.sup.settings.safeTake
  numbered : Numbered s → Numbered t
  airing : OneAiring s → OneAiring t
  placed : LinesKept s → LinesKept t
  entered : ∀ k i, (t.slot k).occupant = some i → (s.slot k).occupant = some i ∨ takes = true ∧ ¬HeldBack s

variable {b : Bool} {s t u : State}

theorem Lawful.excess (h : Lawful b s t) : t.delay.excess = s.delay.excess := (congrArg Delay.excess h.delay :)

theorem Lawful.target (h : Lawful b s t) : t.delay.target = s.delay.target := (congrArg Delay.target h.delay :)

theorem Lawful.delayState (h : Lawful b s t) : t.delay.state = s.delay.state := (congrArg Delay.state h.delay :)

theorem Lawful.heldBack (h : Lawful b s t) : HeldBack t ↔ HeldBack s := by
  simp only [HeldBack, Delay.targetSamples, h.excess, h.target, h.policy]

theorem Lawful.trans (h : Lawful b s t) (k : Lawful b t u) : Lawful b s u where
  memory := h.memory.trans k.memory
  delay := by
    have first := congrArg (fun d : Delay => { d with dump := s.delay.dump }) k.delay
    exact first.trans h.delay
  idle off hs := by
    have same := h.idle off hs
    exact (k.idle (h.device ▸ off) (same ▸ hs)).trans same
  device := k.device.trans h.device
  policy := k.policy.trans h.policy
  numbered := k.numbered ∘ h.numbered
  airing := k.airing ∘ h.airing
  placed := k.placed ∘ h.placed
  entered j i hu := (k.entered j i hu).elim (h.entered j i) fun ⟨hb, hn⟩ => .inr ⟨hb, mt h.heldBack.mpr hn⟩

/-- What enters no slot may stand where takes are allowed. -/
theorem Lawful.withTakes (h : Lawful false s t) : Lawful b s t :=
  { h with entered := fun k i ht => (h.entered k i ht).imp_right fun hb => absurd hb.1 (by decide) }

-- one part changed

theorem slots_same (h : t.callers = s.callers) (k : CallerSlot) (i : PhoneLine) (ht : (t.slot k).occupant = some i) :
    (s.slot k).occupant = some i := by
  rwa [State.slot, h] at ht

theorem numbered_same (h : t.tx.frame = s.tx.frame) (hs : t.tx.seq = s.tx.seq) : Numbered s → Numbered t := by
  simp only [Numbered, h, hs, imp_self]

/-- No record comes to be AIRING. -/
theorem oneAiring_of_fewer (h : ∀ k, t.inPhase .airing k = true → s.inPhase .airing k = true) : OneAiring s → OneAiring t :=
  fun one j k hj hk => one j k (h j hj) (h k hk)

theorem airing_same (h : t.alerts.records = s.alerts.records) : OneAiring s → OneAiring t :=
  oneAiring_of_fewer fun k hk => by rwa [State.inPhase, State.record, h] at hk

theorem linesKept_same (h : t.callers = s.callers) : LinesKept s → LinesKept t := fun hs =>
  (linesKept_iff t).mpr (((linesKept_iff s).mp hs).of_callers h)

/-- The parts of which no law speaks; of the device its run and state stay. -/
abbrev quietParts : List Part :=
  [.answers, .dev, .inputs, .mix, .formed, .clips, .cue, .panel, .prof, .links, .port, .air, .due, .pending]

theorem quiet {ps : List Part} (q : Touches ps s t) (hs : ps ⊆ quietParts := by decide) : Lawful b s t := by
  have q := q.mono hs
  have hmem : t.mem = s.mem := q .mem (by decide)
  have hdelay : t.delay = s.delay := q .delay (by decide)
  have hruns : (t.dev.supply, t.dev.state) = (s.dev.supply, s.dev.state) := q .runs (by decide)
  have hsup : t.sup = s.sup := q .sup (by decide)
  have htx : t.tx = s.tx := q .tx (by decide)
  have hcallers : t.callers = s.callers := q .callers (by decide)
  have halerts : t.alerts = s.alerts := q .alerts (by decide)
  exact {
    memory := hmem ▸ RegionKept.refl s.mem
    delay := by rw [hdelay]
    idle := fun _ _ => hdelay
    device := congrArg Prod.snd hruns
    policy := by rw [hsup]
    numbered := numbered_same (by rw [htx]) (by rw [htx])
    airing := airing_same (by rw [halerts])
    placed := linesKept_same hcallers
    entered := fun k i hk => .inl (slots_same hcallers k i hk) }

theorem Lawful.refl (b : Bool) (s : State) : Lawful b s s := quiet (Touches.refl [] s)

theorem Lawful.foldl {α : Type} (f : State → α → State) (h : ∀ s a, Lawful b s (f s a)) (as : List α) :
    ∀ s, Lawful b s (as.foldl f s) := by
  induction as with
  | nil => exact fun s => Lawful.refl b s
  | cons a as ih => exact fun s => (h s a).trans (ih (f s a))

theorem lawful_mem {m : SampleMemory} (h : RegionKept s.mem m) : Lawful b s { s with mem := m } :=
  { Lawful.refl b s with memory := h }

/-- A dump is asked for while the delay is not OFF, or on the air (R51, R52). -/
theorem lawful_dump {d : Option DumpStep} (h : s.dev.state = .onAir ∨ s.delay.state ≠ .off) :
    Lawful b s { s with delay := { s.delay with dump := d } } :=
  { Lawful.refl b s with
    delay := rfl
    idle := fun off hs => absurd h (not_or.mpr ⟨off, not_not.mpr hs⟩) }

/-- The Air Supervisor changes, not its settings. -/
theorem lawful_sup {m r : Option AirMode} {n : Nat} {a : Option FillAnswer} (s : State) :
    Lawful b s { s with sup := ⟨m, r, n, s.sup.settings, a⟩ } :=
  { Lawful.refl b s with }

theorem lawful_tx {x : TxLink} (h : x.frame = s.tx.frame) (hs : x.seq = s.tx.seq) : Lawful b s { s with tx := x } :=
  { Lawful.refl b s with numbered := numbered_same h hs }

theorem lawful_alerts {a : Alerts} (h : OneAiring s → OneAiring { s with alerts := a }) :
    Lawful b s { s with alerts := a } :=
  { Lawful.refl b s with airing := h }

/-- The callers' records change, and nothing else of which a law speaks. -/
theorem lawful_callers {ps : List Part} (q : Touches ps s t) (hp : Placed [] s → Placed [] t)
    (he : ∀ k i, (t.slot k).occupant = some i → (s.slot k).occupant = some i ∨ b = true ∧ ¬HeldBack s)
    (hs : ps ⊆ .callers :: quietParts := by decide) : Lawful b s t := by
  have q := q.mono hs
  have hmem : t.mem = s.mem := q .mem (by decide)
  have hdelay : t.delay = s.delay := q .delay (by decide)
  have hruns : (t.dev.supply, t.dev.state) = (s.dev.supply, s.dev.state) := q .runs (by decide)
  have hsup : t.sup = s.sup := q .sup (by decide)
  have htx : t.tx = s.tx := q .tx (by decide)
  have halerts : t.alerts = s.alerts := q .alerts (by decide)
  exact {
    memory := hmem ▸ RegionKept.refl s.mem
    delay := by rw [hdelay]
    idle := fun _ _ => hdelay
    device := congrArg Prod.snd hruns
    policy := by rw [hsup]
    numbered := numbered_same (by rw [htx]) (by rw [htx])
    airing := airing_same (by rw [halerts])
    placed := fun h => (linesKept_iff t).mpr (hp ((linesKept_iff s).mp h))
    entered := he }

-- the memory and the delay

theorem emptyClip_lawful (c : ClipRef) (s : State) : Lawful b s (emptyClip c s) :=
  (lawful_mem (freeAll_region c _ s.mem)).trans (quiet (modClip_touches c _ _))

theorem appendBlock_lawful {c : ClipRef} {x : Block} {peak : Nat} (h : appendBlock c x peak s = some t) :
    Lawful b s t := by
  unfold appendBlock at h
  split at h
  · cases h
  · rename_i n m ha
    cases h
    have written (g : Segment) : RegionKept s.mem (m.write n g) :=
      ⟨(allocate_kept ha).trans (write_kept n g m), fun hm k hk =>
        (read_write_ne (by have := allocate_in_pool ha hm; omega) m g).trans ((allocate_region ha).region hm k hk)⟩
    exact (lawful_mem (written _)).trans (quiet (modClip_touches c _ _))

theorem forcedDump_lawful (h : s.dev.state = .onAir) : Lawful b s (forcedDump s) := by
  unfold forcedDump
  split
  · exact Lawful.refl b s
  · exact lawful_dump (.inl h)

-- the callers

/-- The occupant a change of slot `k` leaves, when it puts no line into it. -/
theorem occupant_of_setSlot {k j : CallerSlot} {x : SlotRecord} {i : PhoneLine} {s : State}
    (hx : x.occupant = none ∨ x.occupant = (s.slot k).occupant) (h : ((s.setSlot k x).slot j).occupant = some i) :
    (s.slot j).occupant = some i := by
  rw [occupant_setSlot] at h
  split at h
  · subst_vars
    rcases hx with hx | hx
    · rw [hx] at h; cases h
    · rw [← hx, h]
  · exact h

theorem placed_raise {back : List PhoneLine} {s : State} {l : Link} {e : Event} (h : Placed back s) :
    Placed back (raise l e s) :=
  h.of_callers rfl

theorem raiseQueue_quiet (s : State) : Lawful b s (raiseQueue s) := quiet (raise_touches .S _ s)

/-- An ended release puts its line, and no other, where its disposition says (R115). -/
theorem settleRelease_placed {back : List PhoneLine} {cause : OffAirCause} {k : CallerSlot} {s : State} (h : Placed back s) :
    Placed back (settleRelease cause k s) := by
  unfold settleRelease
  split
  · rename_i i d hk
    have hocc : (s.slot k).occupant = some i := by rw [hk]
    cases d with
    | drop => exact placed_raise (vacate_placed h hocc (x := (s.line i).freed) (by simp [LineRecord.freed]))
    | hold =>
      exact placed_raise (joinQueue_placed
        (vacate_placed h hocc (x := { s.line i with state := .held, slot := none }) (by simp)))
  · exact h

theorem settleRelease_occupant {cause : OffAirCause} {k j : CallerSlot} {i : PhoneLine} {s : State}
    (h : ((settleRelease cause k s).slot j).occupant = some i) : (s.slot j).occupant = some i := by
  unfold settleRelease at h
  split at h
  · rename_i l d hk
    refine occupant_of_setSlot (x := ⟨none, none⟩) (.inl rfl) ?_ (k := k)
    cases d
    · have h : ((joinQueue l ((s.setSlot k ⟨none, none⟩).setLine l
        { s.line l with state := .held, slot := none })).slot j).occupant = some i := h
      rwa [slot_joinQueue, slot_setLine] at h
    · exact h
  · exact h

theorem settleRelease_lawful (cause : OffAirCause) (k : CallerSlot) (s : State) :
    Lawful b s (settleRelease cause k s) :=
  lawful_callers (settleRelease_touches cause k s) settleRelease_placed fun _ _ h => .inl (settleRelease_occupant h)

theorem endRelease_lawful (k : CallerSlot) (s : State) : Lawful b s (endRelease k s) := by
  unfold endRelease
  dsimp only
  split
  · exact settleRelease_lawful _ k s
  · exact (settleRelease_lawful _ k s).trans (raiseQueue_quiet _)

theorem setSlot_lawful {k : CallerSlot} {x : SlotRecord} {s : State} (h : x.occupant = (s.slot k).occupant) :
    Lawful b s (s.setSlot k x) :=
  lawful_callers (setSlot_touches k x s) (fun hp => setSlot_same_placed hp h) fun _ _ hi =>
    .inl (occupant_of_setSlot (.inr h) hi)

theorem releaseSlot_lawful (k : CallerSlot) (d : Disposition) (s : State) : Lawful b s (releaseSlot k d s) := by
  unfold releaseSlot
  split
  · rename_i i _ hk
    exact setSlot_lawful (by rw [hk])
  · rename_i i hk
    have faded (n : Nat) : Lawful b s (fadeOut (slotContributor k) n (s.setSlot k ⟨some i, some d⟩)) :=
      (setSlot_lawful (by rw [hk])).trans (quiet (fadeOut_touches _ n _))
    dsimp only
    split
    · exact (faded _).trans (endRelease_lawful k _)
    · exact faded _
  · exact Lawful.refl b s

/-- A take that is not refused puts its HELD line into the free slot (R112, R113). -/
theorem enterSlot_lawful {i : PhoneLine} {k : CallerSlot} {s : State} (hr : takeRefusal s = none)
    (hk : s.freeSlot = some k) (hi : (s.line i).state = .held ∨ i ∈ s.callers.queue) :
    Lawful true s (enterSlot i k s) := by
  have hfree : (s.slot k).occupant = none := by
    unfold State.freeSlot at hk
    split at hk
    · rename_i h0
      cases hk
      exact Option.isNone_iff_eq_none.mp h0
    · split at hk
      · rename_i h1
        cases hk
        exact Option.isNone_iff_eq_none.mp h1
      · cases hk
  have safe : ¬HeldBack s := by
    rintro ⟨policy, short⟩
    have refused : (s.sup.settings.safeTake && decide (s.delay.excess < s.delay.targetSamples)) = true := by
      simp [policy, short]
    unfold takeRefusal at hr
    simp only [refused, if_true, hk, Option.isNone_some] at hr
    split at hr <;> simp at hr
  refine lawful_callers (enterSlot_touches i k s) (fun hp => ?_) fun j l hl => ?_
  · have held : (s.line i).state = .held := hi.elim id ((((linesKept_iff s).mpr hp).1 i).1.mp)
    exact (enter_placed hp held hfree (x := { s.line i with state := .onAir, slot := some k, number := none }) rfl
      rfl).of_callers (activate_touches _ _ _ _ _ _ .callers (by decide))
  · exact .inr ⟨rfl, safe⟩

/-- The line that a takeover or AIR STOP puts back from a slot into the queue: one with no release in progress. -/
def returning : SlotRecord → List PhoneLine
  | ⟨some i, none⟩ => [i]
  | _ => []

theorem linesToReturn_eq (s : State) : s.linesToReturn = returning (s.slot 0) ++ returning (s.slot 1) := by
  have each (x : SlotRecord) : (match x with | ⟨some i, none⟩ => some i | _ => none).toList = returning x := by
    obtain ⟨_ | i, _ | d⟩ := x <;> rfl
  rw [State.linesToReturn, List.filterMap_eq_flatMap_toList]
  simp only [List.flatMap_cons, List.flatMap_nil, List.append_nil]
  exact congrArg₂ _ (each _) (each _)

/-- A line cut off at a takeover or AIR STOP is on its way to the queue (R117, R118). -/
theorem returnLine_placed {back : List PhoneLine} {cause : OffAirCause} {k : CallerSlot} {s : State} (h : Placed back s) :
    Placed (returning (s.slot k) ++ back) (returnLine cause k s) := by
  unfold returnLine
  split
  · rename_i i hk
    have hc : (cut (slotContributor k) s).callers = s.callers := cut_touches _ s .callers (by decide)
    have hocc : ((cut (slotContributor k) s).slot k).occupant = some i := by rw [State.slot, hc, ← State.slot, hk]
    have moved := vacate_placed (h.of_callers hc) hocc (x := { s.line i with state := .held, slot := none }) (by simp)
    rw [if_pos rfl] at moved
    rw [hk]
    exact placed_raise moved
  · rename_i hk
    have none_back : returning (s.slot k) = [] := by
      unfold returning
      split
      · rename_i i hi
        exact absurd hi (hk i)
      · rfl
    rw [none_back]
    exact h

theorem returnLine_occupant {cause : OffAirCause} {k j : CallerSlot} {i : PhoneLine} {s : State}
    (h : ((returnLine cause k s).slot j).occupant = some i) : (s.slot j).occupant = some i := by
  unfold returnLine at h
  split at h
  · have hc : (cut (slotContributor k) s).callers = s.callers := cut_touches _ s .callers (by decide)
    exact slots_same hc j i (occupant_of_setSlot (x := ⟨none, none⟩) (.inl rfl) h)
  · exact h

theorem returnLine_other {cause : OffAirCause} {k j : CallerSlot} (hj : j ≠ k) (s : State) :
    (returnLine cause k s).slot j = s.slot j := by
  unfold returnLine
  split
  · have hc : (cut (slotContributor k) s).callers = s.callers := cut_touches _ s .callers (by decide)
    exact (slot_setSlot_ne hj _ _).trans (by rw [State.slot, hc, ← State.slot])
  · rfl

theorem placeLines_placed (back : List PhoneLine) : ∀ {s : State}, Placed back s →
    Placed [] (back.foldl (fun t i => placeLine i t) s) := by
  induction back with
  | nil => exact fun h => h
  | cons i back ih => exact fun h => ih (placeLine_placed h)

theorem numberLines_placed {back : List PhoneLine} (ns : List (PhoneLine × Nat)) : ∀ {s : State}, Placed back s →
    Placed back (ns.foldl (fun (t : State) x => t.setLine x.1 { t.line x.1 with number := some (x.2 + 1) }) s) := by
  induction ns with
  | nil => exact fun h => h
  | cons n ns ih => exact fun h => ih (setLine_same_placed h rfl rfl)

/-- Every line on its way is placed in the queue (R117). -/
theorem requeueReturned_placed {back : List PhoneLine} {s : State} (h : Placed back s) :
    Placed [] (requeueReturned back s) := by
  unfold requeueReturned
  split
  · rename_i he
    exact List.isEmpty_iff.mp he ▸ h
  · exact placeLines_placed back (numberLines_placed _ (renumber_placed h))

theorem requeueReturned_slots (back : List PhoneLine) (s : State) :
    (requeueReturned back s).callers.slots = s.callers.slots := by
  have numbered (ns : List (PhoneLine × Nat)) : ∀ t : State, (ns.foldl (fun (t : State) x =>
      t.setLine x.1 { t.line x.1 with number := some (x.2 + 1) }) t).callers.slots = t.callers.slots := by
    induction ns with
    | nil => exact fun _ => rfl
    | cons n ns ih => exact fun t => ih _
  have placed (is : List PhoneLine) : ∀ t : State,
      (is.foldl (fun t i => placeLine i t) t).callers.slots = t.callers.slots := by
    induction is with
    | nil => exact fun _ => rfl
    | cons i is ih => exact fun t => ih _
  unfold requeueReturned
  split
  · rfl
  · exact (placed back _).trans (numbered _ _)

theorem cutRelease_lawful (cause : OffAirCause) (k : CallerSlot) (s : State) : Lawful b s (cutRelease cause k s) := by
  unfold cutRelease
  split
  · exact (quiet (cut_touches _ s)).trans (settleRelease_lawful _ k _)
  · exact Lawful.refl b s

/-- Both slots are emptied, their lines put back into the queue (R117, R118). -/
theorem emptySlots_lawful (cause : OffAirCause) (s : State) : Lawful b s (emptySlots cause s) := by
  have returned : Lawful b s (requeueReturned s.linesToReturn (returnLine cause 1 (returnLine cause 0 s))) := by
    refine lawful_callers (((returnLine_touches cause 0 s).trans (returnLine_touches cause 1 _)).and
      (requeueReturned_touches _ _)) (fun hp => ?_) fun k i h => .inl ?_
    · have both := returnLine_placed (cause := cause) (k := 1) (returnLine_placed (cause := cause) (k := 0) hp)
      rw [returnLine_other (by decide), List.append_nil] at both
      refine requeueReturned_placed ?_
      rw [linesToReturn_eq]
      exact both.of_same (fun _ => ⟨rfl, rfl⟩) (List.perm_append_comm.append_left _) fun _ => rfl
    · have h : ((returnLine cause 1 (returnLine cause 0 s)).slot k).occupant = some i := by
        rwa [State.slot, requeueReturned_slots] at h
      exact returnLine_occupant (returnLine_occupant h)
  have emptied := (returned.trans (cutRelease_lawful cause 0 _)).trans (cutRelease_lawful cause 1 _)
  unfold emptySlots
  dsimp only
  split
  · exact emptied
  · exact emptied.trans (raiseQueue_quiet _)

-- the measurement

theorem setLine_same_lawful {i : PhoneLine} {x : LineRecord} {s : State} (hstate : x.state = (s.line i).state)
    (hslot : x.slot = (s.line i).slot) : Lawful b s (s.setLine i x) :=
  lawful_callers (setLine_touches i x s) (fun hp => setLine_same_placed hp hstate hslot) fun _ _ h => .inl h

theorem measure_lawful (m : Option Measure) (s : State) :
    Lawful b s { s with callers := { s.callers with measure := m } } :=
  lawful_callers (callers_touches _ s) (fun hp => hp.of_same (fun _ => ⟨rfl, rfl⟩) (List.Perm.refl _) fun _ => rfl)
    fun _ _ h => .inl h

/-- A measurement ends with a line's result and trim. -/
theorem judged_lawful (i : PhoneLine) (r : MeasureResult) (trim : Nat) (s : State) :
    let t := s.setLine i { s.line i with result := r, trim := trim }
    Lawful b s (raise .S (.measureDone i r trim) { t with callers := { t.callers with measure := none } }) :=
  ((setLine_same_lawful (x := { s.line i with result := r, trim := trim }) rfl rfl).trans (measure_lawful none _)).trans
    (quiet (raise_touches _ _ _))

theorem abortMeasure_lawful (i : PhoneLine) (s : State) : Lawful b s (abortMeasure i s) := by
  unfold abortMeasure
  split
  · split
    · exact judged_lawful _ _ _ s
    · exact Lawful.refl b s
  · exact Lawful.refl b s

theorem measureDone_lawful (s : State) : Lawful b s (measureDone s) := by
  unfold measureDone
  split
  · split
    · exact judged_lawful _ _ _ s
    · exact Lawful.refl b s
  · exact Lawful.refl b s

theorem countMeasure_lawful (s : State) : Lawful b s (countMeasure s) := by
  unfold countMeasure
  split
  · exact measure_lawful _ s
  · exact Lawful.refl b s

end Sys2Proof.LawKeeping
end

section
/-! The Cue Engine and the takeover of the air break no law of the device. -/

namespace Sys2Proof.LawKeeping

-- the lemmas one after the other: in one text, all at once they ask for more threads than the compile has
set_option Elab.async false

open Sys2Proof.Machine Sys2Proof.Safety Sys2Proof.Laws

variable {b : Bool} {s t : State}

-- the alert records

/-- The Alert Controller changes, not its records. -/
theorem alerts_quiet {q : List AlertSlot} {h : List AlertRecord} {v : EngineState} {l : LinkHealth} {c : AlertSettings}
    {n : Option (ClipId × Nat)} (s : State) :
    Lawful b s { s with alerts := ⟨s.alerts.records, q, h, v, l, c, n⟩ } :=
  lawful_alerts (airing_same rfl)

theorem airing_none_iff (s : State) : s.airing = none ↔ ∀ k, s.inPhase .airing k = false := by
  simp only [State.airing, List.find?_eq_none, Bool.not_eq_true]
  exact ⟨fun h k => h k (by fin_cases k <;> simp [alertSlots]), fun h k _ => h k⟩

theorem inPhase_setRecord (k j : AlertSlot) (r : Option AlertRecord) (p : AlertPhase) (s : State) :
    (s.setRecord k r).inPhase p j = if j = k then r.any fun r => decide (r.phase = p) else s.inPhase p j := by
  by_cases h : j = k
  · subst h
    cases r <;> simp [State.inPhase]
  · simp [State.inPhase, h]

/-- A record that is not AIRING takes a slot's place. -/
theorem setRecord_lawful {k : AlertSlot} {r : Option AlertRecord} {s : State} (h : ∀ x ∈ r, x.phase ≠ .airing) :
    Lawful b s (s.setRecord k r) := by
  refine lawful_alerts (oneAiring_of_fewer fun j hj => ?_)
  have hj : (s.setRecord k r).inPhase .airing j = true := hj
  rw [inPhase_setRecord] at hj
  split at hj
  · cases r with
    | none => cases hj
    | some x => exact absurd (by simpa using hj) (h x rfl)
  · exact hj

/-- The record in slot `k` changed, not its phase. -/
theorem keepPhase_lawful {k : AlertSlot} {r x : AlertRecord} {s : State} (hr : s.record k = some r)
    (hx : x.phase = r.phase) : Lawful b s (s.setRecord k (some x)) := by
  refine lawful_alerts (oneAiring_of_fewer fun j changed => ?_)
  have airs : (s.setRecord k (some x)).inPhase .airing j = true := changed
  rw [inPhase_setRecord] at airs
  split at airs
  · rename_i same
    simpa [State.inPhase, same, hr, hx] using airs
  · exact airs

/-- Every record changed, none in its phase. -/
theorem records_lawful {f : AlertSlot → AlertRecord → AlertRecord} (hf : ∀ k r, (f k r).phase = r.phase) {a : Alerts}
    (ha : a.records = Vector.ofFn fun k : Fin 4 => s.alerts.records[k].map (f k)) :
    Lawful b s { s with alerts := a } := by
  refine lawful_alerts (oneAiring_of_fewer fun k hk => ?_)
  unfold State.inPhase State.record at hk ⊢
  simp only [ha, Fin.getElem_fin, Vector.getElem_ofFn] at hk
  simp only [Fin.getElem_fin]
  cases hr : s.alerts.records[k.val] <;> simp_all

theorem mapRecords_lawful {p : AlertRecord → Bool} {f : AlertRecord → AlertRecord} (hf : ∀ r, (f r).phase = r.phase)
    (s : State) : Lawful b s (s.mapRecords p f) :=
  records_lawful (f := fun _ r => if p r then f r else r) (fun _ r => by split <;> simp [hf]) rfl

theorem markDamaged_lawful (p : AlertSlot → AlertRecord → Bool) (s : State) : Lawful b s (markDamaged p s) :=
  records_lawful (f := fun k r => if p k r then { r with damaged := true } else r) (fun _ r => by split <;> rfl) rfl

/-- A record takes the air that is free, or that it has (R133). -/
theorem airs_lawful {k : AlertSlot} {r : AlertRecord} {s : State} (h : s.airing = none ∨ s.inPhase .airing k = true) :
    Lawful b s (s.setRecord k (some r)) := by
  refine lawful_alerts fun one => ?_
  have only (j : AlertSlot) (hj : (s.setRecord k (some r)).inPhase .airing j = true) : j = k := by
    by_contra hne
    rw [inPhase_setRecord, if_neg hne] at hj
    rcases h with free | airs
    · simp [(airing_none_iff s).mp free j] at hj
    · exact hne (one j k hj airs)
  exact fun i j hi hj => (only i hi).trans (only j hj).symm

-- taking the air

theorem takeoverAir_lawful (s : State) : Lawful b s (takeoverAir s) := by
  unfold takeoverAir
  split
  · exact Lawful.refl b s
  · exact (lawful_sup _).trans (quiet (reportFallback_touches _))
  · exact Lawful.refl b s

theorem releaseAirMode_lawful (s : State) : Lawful b s (releaseAirMode s) := by
  unfold releaseAirMode
  split
  · exact (lawful_sup _).trans (quiet (reportFallback_touches _))
  · exact Lawful.refl b s

theorem holdEngine_lawful (offer : Option Bool) (s : State) : Lawful b s (holdEngine offer s) := by
  unfold holdEngine
  split
  · exact Lawful.refl b s
  · have held (c : Cue) (v : EngineState) (t : State) :
        Lawful b t (raise .P .engineHeld { t with cue := c, alerts := { t.alerts with view := v } }) :=
      ((quiet (cue_touches c t)).trans (alerts_quiet _)).trans (quiet (raise_touches _ _ _))
    exact ((quiet (cutVoices_touches s)).trans (Lawful.foldl _ (fun t e => quiet (itemEnded_touches e t)) _ _)).trans
      ((quiet (setEntries_touches _ _)).trans (held _ _ _))

theorem bindAlert_lawful (k : AlertSlot) (r : AlertRecord) (s : State) : Lawful b s (bindAlert k r s) := by
  unfold bindAlert
  split
  · exact quiet (activate_touches _ _ _ _ _ s)
  · split
    · exact (alerts_quiet _).trans (quiet (activate_touches _ _ _ _ _ _))
    · exact quiet (activate_touches _ _ _ _ _ s)

/-- A takeover of the air that is free, or that the record has, breaks no law (R133). -/
theorem takeover_lawful {k : AlertSlot} (offer : Option Bool) {s : State}
    (onAir : s.dev.state = .onAir) (h : s.airing = none ∨ s.inPhase .airing k = true) : Lawful b s (takeover k offer s) := by
  unfold takeover
  split
  · exact Lawful.refl b s
  · rename_i r _
    have airs : Lawful b s (({ s with alerts := { s.alerts with queue := s.alerts.queue.filter (· ≠ k), tone := none } }
        : State).setRecord k (some { r with phase := .airing })) := (alerts_quiet _).trans (airs_lawful h)
    have told (t : State) : Lawful b t (raise .C (.alertOnAir r.id r.cls) (raiseAlertState k t)) :=
      (quiet (raiseAlertState_touches k t)).trans (quiet (raise_touches _ _ _))
    have noticed (t : State) : Lawful b t (emptySlots .alert (holdEngine offer (takeoverAir t))) :=
      ((takeoverAir_lawful t).trans (holdEngine_lawful offer _)).trans (emptySlots_lawful .alert _)
    have bound (t : State) : Lawful b t
        ((workOutWait (bindAlert k r t)).report fun x => { x with alertActive := true }) :=
      ((bindAlert_lawful k r t).trans (quiet (workOutWait_touches _))).trans (quiet (report_touches _ _))
    dsimp only
    refine Lawful.trans ?_ (bound _)
    split
    · have held := (airs.trans (told _)).trans (noticed _)
      exact held.trans (forcedDump_lawful (held.device.trans onAir))
    · exact (airs.trans (told _)).trans (noticed _)

/-- A window check gives the air to a record only on the air, when that is free (R130). -/
theorem free_of_windowTaker {c : Check} {k : AlertSlot} {s : State} (h : windowTaker c s = some k) :
    s.dev.state = .onAir ∧ s.airing = none := by
  unfold windowTaker at h
  split at h
  · rename_i free
    simp only [Bool.and_eq_true, Option.isNone_iff_eq_none] at free
    exact ⟨by simpa [State.onAir] using free.1, free.2⟩
  · cases h

theorem taken_lawful {c : Check} {k : AlertSlot} {s : State} (h : windowTaker c s = some k) (offer : Option Bool) :
    Lawful b s (takeover k offer s) :=
  takeover_lawful offer (free_of_windowTaker h).1 (.inl (free_of_windowTaker h).2)

theorem windowCheck_lawful (c : Check) (s : State) : Lawful b s (windowCheck c s) := by
  unfold windowCheck
  split
  · rename_i hk
    exact taken_lawful hk none
  · exact Lawful.refl b s

theorem enterEngine_lawful (was st : EngineState) (s : State) : Lawful b s (enterEngine was st s) := by
  unfold enterEngine
  dsimp only
  split
  · exact quiet (cue_touches _ s)
  · refine Lawful.trans ?_ (windowCheck_lawful _ _)
    exact (quiet (cue_touches { s.cue with state := st } s)).trans (alerts_quiet _)

-- starting and ending items

theorem leaveVoice_lawful (v : Voice) (s : State) : Lawful b s (leaveVoice v s) := by
  unfold leaveVoice
  split
  · exact Lawful.refl b s
  · split
    · exact Lawful.refl b s
    · exact ((quiet (cut_touches _ s)).trans (quiet (setVoice_touches v _ _))).trans
        (((quiet (itemEnded_touches _ _)).trans (quiet (setEntries_touches _ _))).trans
          (quiet (closeWindowOf_touches v _)))

theorem startIn_lawful (p : Entry → Bool) (v : Voice) (s : State) : Lawful b s (startIn p v s) := by
  unfold startIn
  split
  · exact Lawful.refl b s
  · exact ((quiet (soundEntry_touches _ v s)).trans (quiet (setVoice_touches v _ _))).trans (quiet (cue_touches _ _))

theorem takeVoice_lawful (v : Voice) (s : State) : Lawful b s (takeVoice v s) := by
  unfold takeVoice
  split
  · exact leaveVoice_lawful v s
  · exact Lawful.refl b s

theorem leaveMark_lawful (p : Entry → Bool) (s : State) : Lawful b s (leaveMark p s) :=
  (quiet (cue_touches _ s)).trans (quiet (setEntries_touches _ _))

theorem startEntry_lawful (fuel : Nat) (p : Entry → Bool) (s : State) : Lawful b s (startEntry fuel p s) := by
  induction fuel generalizing p s with
  | zero => unfold startEntry; exact Lawful.refl b s
  | succ n ih =>
    unfold startEntry
    split
    · exact Lawful.refl b s
    · exact Lawful.refl b s
    · rename_i m e hn he
      cases hn
      dsimp only
      split
      · split
        · rename_i hk
          exact ((leaveMark_lawful p s).trans (taken_lawful hk _)).trans (quiet (itemEnded_touches e _))
        · split
          · exact ((leaveMark_lawful p s).trans (quiet (itemEnded_touches e _))).trans (ih _ _)
          · exact (leaveMark_lawful p s).trans (quiet (itemEnded_touches e _))
      · split
        · exact (takeVoice_lawful _ s).trans (startIn_lawful _ _ _)
        · exact Lawful.refl b s

theorem startHead_lawful (s : State) : Lawful b s (startHead s) := startEntry_lawful _ _ s

theorem settleFrom_lawful (was : EngineState) (s : State) : Lawful b s (settleFrom was s) := by
  unfold settleFrom
  split
  · exact Lawful.refl b s
  · dsimp only
    split
    · exact enterEngine_lawful _ _ s
    · exact (quiet (cue_touches _ s)).trans (enterEngine_lawful _ _ _)

theorem endItem_lawful (v : Voice) (s : State) : Lawful b s (endItem v s) := by
  unfold endItem
  split
  · exact Lawful.refl b s
  · dsimp only
    split
    · rename_i hk
      exact (leaveVoice_lawful v s).trans (taken_lawful hk _)
    · split
      · exact (leaveVoice_lawful v s).trans (startHead_lawful _)
      · exact leaveVoice_lawful v s

theorem itemEnd_lawful (v : Voice) (s : State) : Lawful b s (itemEnd v s) :=
  (endItem_lawful v s).trans (settleFrom_lawful _ _)

theorem releaseVoice_lawful (v : Voice) (n : Nat) (s : State) : Lawful b s (releaseVoice v n s) :=
  (quiet (fadeOut_touches _ n s)).trans (quiet (setVoice_touches v _ _))

theorem stopVoice_lawful (v : Voice) (s : State) : Lawful b s (stopVoice v s) := by
  unfold stopVoice
  split
  · exact Lawful.refl b s
  · split
    · exact Lawful.refl b s
    · split
      · exact quiet (setVoice_touches v _ s)
      · exact releaseVoice_lawful v _ s

theorem stopEntries_lawful (s : State) : Lawful b s (stopEntries s) :=
  ((stopVoice_lawful .A s).trans (stopVoice_lawful .B _)).trans (quiet (cue_touches _ _))

-- fills and the fallback

theorem fadeFill_lawful (s : State) : Lawful b s (fadeFill s) := by
  unfold fadeFill
  dsimp only
  split
  · exact (releaseVoice_lawful .A _ s).trans (quiet (cue_touches _ _))
  · exact quiet (cue_touches _ s)

theorem fillEnd_lawful (s : State) : Lawful b s (fillEnd s) := by
  unfold fillEnd
  split
  · exact (fadeFill_lawful s).trans (settleFrom_lawful _ _)
  · split
    · exact quiet (cue_touches _ s)
    · exact Lawful.refl b s
  · exact Lawful.refl b s

theorem endFallback_lawful (cause : LeftCause) (s : State) : Lawful b s (endFallback cause s) := by
  unfold endFallback
  split
  · have left : Lawful b s (raise .C (.fallbackLeft cause) (reportFallback
        { s with sup := { s.sup with mode := some .normal, counter := 0 } })) :=
      ((lawful_sup _).trans (quiet (reportFallback_touches _))).trans (quiet (raise_touches _ _ _))
    dsimp only
    split
    · exact left
    · exact left.trans (fillEnd_lawful _)
  · split
    · exact ((lawful_sup _).trans (quiet (raise_touches _ _ _))).trans (fillEnd_lawful _)
    · exact Lawful.refl b s
  · exact Lawful.refl b s

theorem fillNotice_lawful (s : State) : Lawful b s (fillNotice s).1 := by
  unfold fillNotice
  split
  · exact Lawful.refl b s
  · dsimp only
    split
    · exact (((stopEntries_lawful s).trans (quiet (activate_touches _ _ _ _ _ _))).trans
        (quiet (setVoice_touches .A _ _))).trans (enterEngine_lawful _ _ _)
    · exact (stopEntries_lawful s).trans (enterEngine_lawful _ _ _)

-- GO, STOP, STREAM RELEASE and the end of a hold

/-- What an owner's reply leaves, when it takes the command. -/
def ReplyLawful (b : Bool) (s : State) : Reply → Prop
  | .ok t _ => Lawful b s t
  | .refuse _ => True
  | .later t => Lawful b s t

theorem manualSegue_lawful (s : State) : Lawful b s (manualSegue s) := by
  have head (c : Prop) [Decidable c] (t : State) (ht : Lawful b s t) : Lawful b s (if c then t else startHead t) := by
    split
    · exact ht
    · exact ht.trans (startHead_lawful t)
  unfold manualSegue
  split
  · exact Lawful.refl b s
  · split
    · split
      · exact quiet (cue_touches _ s)
      · exact startHead_lawful s
    · refine head _ _ ?_
      split
      · split
        · exact (quiet (cue_touches _ s)).trans (endItem_lawful _ _)
        · exact (quiet (cue_touches _ s)).trans (quiet (fadeOut_touches _ _ _))
      · exact quiet (cue_touches _ s)

theorem goCue_lawful (s : State) : ReplyLawful b s (goCue s) := by
  unfold goCue
  split
  · trivial
  · trivial
  · exact (startHead_lawful s).trans (settleFrom_lawful _ _)
  · split
    · exact (manualSegue_lawful s).trans (settleFrom_lawful _ _)
    · trivial
  · split
    · exact (((fadeFill_lawful s).trans (endFallback_lawful _ _)).trans (startHead_lawful _)).trans
        (settleFrom_lawful _ _)
    · trivial

theorem stopCue_lawful (s : State) : Lawful b s (stopCue s) := by
  unfold stopCue
  split
  · exact (stopEntries_lawful s).trans (settleFrom_lawful _ _)
  · split
    · exact quiet (cue_touches _ s)
    · exact Lawful.refl b s
  · exact Lawful.refl b s

theorem airStopCue_lawful (s : State) : Lawful b s (airStopCue s) := by
  unfold airStopCue
  split
  · exact fillEnd_lawful s
  · exact stopCue_lawful s
  · exact Lawful.refl b s

theorem releaseStream_lawful (src : StreamSource) (s : State) : ReplyLawful b s (releaseStream src s) := by
  unfold releaseStream
  split
  · trivial
  · split
    · exact (quiet (itemEnded_touches _ s)).trans (quiet (setEntries_touches _ _))
    · split
      · trivial
      · have faded (c : Cue) (k : Contributor) (n : Nat) : Lawful b s (fadeOut k n { s with cue := c }) :=
          (quiet (cue_touches c s)).trans (quiet (fadeOut_touches _ _ _))
        refine Lawful.trans ?_ (settleFrom_lawful _ _)
        split
        · exact (quiet (cue_touches _ s)).trans (endItem_lawful _ _)
        · dsimp only
          split
          · exact (faded _ _ _).trans (startHead_lawful _)
          · exact faded _ _ _

theorem restartHeld_lawful (s : State) : Lawful b s (restartHeld s) := by
  refine Lawful.foldl _ (fun t e => ?_) _ s
  split
  · exact startIn_lawful _ _ t
  · exact Lawful.refl b t

theorem releaseEngine_lawful (s : State) : Lawful b s (releaseEngine s) := by
  unfold releaseEngine
  split
  · have resumed (c : Cue) : Lawful b s (raise .P .engineResumed { s with cue := c }) :=
      (quiet (cue_touches c s)).trans (quiet (raise_touches _ _ _))
    dsimp only
    split
    · split
      · exact (((resumed _).trans (quiet (activate_touches _ _ _ _ _ _))).trans
          (quiet (setVoice_touches .A _ _))).trans (enterEngine_lawful _ _ _)
      · exact (resumed _).trans (enterEngine_lawful _ _ _)
    · exact (((resumed _).trans (restartHeld_lawful _)).trans (startEntry_lawful _ _ _)).trans (settleFrom_lawful _ _)
  · exact Lawful.refl b s

-- what the voices' readers, fades and limits do

theorem voiceEndOfAudio_lawful (v : Voice) (s : State) : Lawful b s (voiceEndOfAudio v s) := by
  unfold voiceEndOfAudio
  split
  · exact itemEnd_lawful v s
  · exact (quiet (cut_touches _ s)).trans (quiet (setVoice_touches v _ _))
  · split
    · exact quiet (activate_touches _ _ _ _ _ s)
    · exact Lawful.refl b s
  · exact Lawful.refl b s

theorem voiceFadedOut_lawful (v : Voice) (s : State) : Lawful b s (voiceFadedOut v s) := by
  unfold voiceFadedOut
  split
  · exact quiet (setVoice_touches v _ s)
  · split
    · exact itemEnd_lawful v s
    · exact Lawful.refl b s
  · exact Lawful.refl b s

theorem beginEnd_lawful (v : Voice) (s : State) : Lawful b s (beginEnd v s) := by
  unfold beginEnd
  split
  · split
    · have faded (c : Cue) (k : Contributor) (n : Nat) : Lawful b s (fadeOut k n { s with cue := c }) :=
        (quiet (cue_touches c s)).trans (quiet (fadeOut_touches _ _ _))
      refine Lawful.trans ?_ (settleFrom_lawful _ _)
      dsimp only
      split
      · exact (faded _ _ _).trans (startHead_lawful _)
      · exact faded _ _ _
    · exact Lawful.refl b s
  · exact Lawful.refl b s

theorem endAtLimit_lawful (v : Voice) (s : State) : Lawful b s (endAtLimit v s) := by
  unfold endAtLimit
  split
  · exact itemEnd_lawful v s
  · exact Lawful.refl b s

theorem goEdge_lawful (s : State) : ReplyLawful b s (goEdge s) := by
  unfold goEdge
  split
  · exact (((quiet (cut_touches _ s)).trans (quiet (setVoice_touches _ _ _))).trans (quiet (cue_touches _ _))).trans
      (settleFrom_lawful _ _)
  · have went := goCue_lawful (b := b) s
    split
    · rename_i t r ht
      rw [ht] at went
      have went : Lawful b s t := went
      split
      · split
        · exact went
        · exact went.trans (quiet (cue_touches _ t))
      · exact went
    · exact went

end Sys2Proof.LawKeeping
end

section
/-! The Alert Controller, the link unit, the Mix Engine, the captures and the due events break no law of the device. -/

namespace Sys2Proof.LawKeeping

-- the lemmas one after the other: in one text, all at once they ask for more threads than the compile has
set_option Elab.async false

open Sys2Proof.Machine Sys2Proof.Safety Sys2Proof.Laws Sys2Proof.MemoryKeeping

variable {b : Bool} {s t : State}

-- the Alert Controller

theorem discardAlertClip_lawful (k : AlertSlot) (s : State) : Lawful b s (discardAlertClip k s) := by
  have ended (c : Prop) [Decidable c] : Lawful b s
      (if c then { s with clips := { s.clips with alertCapture := none } } else s) := by
    split
    · exact quiet (clips_touches _ s)
    · exact Lawful.refl b s
  unfold discardAlertClip
  dsimp only
  refine Lawful.trans ?_ (emptyClip_lawful _ _)
  split
  · split
    · exact (ended _).trans (quiet (setReader_touches _ _ _))
    · exact ended _
  · exact ended _

theorem finish_lawful (k : AlertSlot) (o : AlertOutcome) (s : State) : Lawful b s (finish k o s) := by
  unfold finish
  split
  · exact Lawful.refl b s
  · have left : Lawful b s (s.setRecord k none) := setRecord_lawful (by simp)
    exact ((left.trans (alerts_quiet _)).trans (quiet (raise_touches _ _ _))).trans (quiet (workOutWait_touches _))

theorem releaseAir_lawful (s : State) : Lawful b s (releaseAir s) :=
  (((releaseAirMode_lawful s).trans (quiet (report_touches _ _))).trans (quiet (workOutWait_touches _))).trans
    (releaseEngine_lawful _)

theorem afterAiring_lawful (s : State) : Lawful b s (afterAiring s) := by
  unfold afterAiring
  split
  · rename_i hj
    exact taken_lawful hj none
  · exact releaseAir_lawful s

theorem stopAlertAudio_lawful (k : AlertSlot) (r : AlertRecord) (s : State) : Lawful b s (stopAlertAudio k r s) := by
  have stopped : Lawful b s (cut .alert { s with alerts := { s.alerts with tone := none } }) :=
    (alerts_quiet _).trans (quiet (cut_touches _ _))
  unfold stopAlertAudio
  dsimp only
  split
  · exact stopped
  · exact stopped.trans (discardAlertClip_lawful k _)

/-- A record changed within its slot, and out of the air at most. -/
theorem changeRecord_lawful {k : AlertSlot} {f : AlertRecord → AlertRecord} (hf : ∀ r, (f r).phase ≠ .airing) (s : State) :
    Lawful b s (s.modRecord k f) := by
  refine setRecord_lawful fun x hx => ?_
  obtain ⟨r, -, rfl⟩ := Option.map_eq_some_iff.mp hx
  exact hf r

theorem endAiring_lawful (k : AlertSlot) (cancelled : Bool) (s : State) : Lawful b s (endAiring k cancelled s) := by
  unfold endAiring
  split
  · exact Lawful.refl b s
  · rename_i r _
    have off : Lawful b s (raise .C (.alertOffAir r.id cancelled) (stopAlertAudio k r s)) :=
      (stopAlertAudio_lawful k r s).trans (quiet (raise_touches _ _ _))
    have confirming (t : State) : Lawful b t
        (raiseAlertState k (t.modRecord k fun x => { x with phase := .confirming })) :=
      (changeRecord_lawful (by simp) t).trans (quiet (raiseAlertState_touches k _))
    dsimp only
    refine Lawful.trans ?_ (afterAiring_lawful _)
    split
    · exact off.trans (finish_lawful k _ _)
    · split
      · exact (off.trans (confirming _)).trans (finish_lawful k _ _)
      · exact off.trans (confirming _)

theorem captureEnded_lawful (k : AlertSlot) (n : Nat) (truncated : Bool) (s : State) :
    Lawful b s (captureEnded k n truncated s) := by
  unfold captureEnded
  split
  · exact Lawful.refl b s
  · rename_i r hr
    split
    · refine Lawful.trans ?_ (finish_lawful k _ _)
      exact keepPhase_lawful hr rfl
    · refine Lawful.trans ?_ (windowCheck_lawful _ _)
      exact (((setRecord_lawful (by simp)).trans (alerts_quiet _)).trans (quiet (raiseAlertState_touches k _))).trans
        (quiet (workOutWait_touches _))

theorem startAlertCapture_lawful (k : AlertSlot) (s : State) : Lawful b s (startAlertCapture k s) := by
  unfold startAlertCapture
  split
  · exact Lawful.refl b s
  · exact ((emptyClip_lawful _ s).trans (quiet (modClip_touches _ _ _))).trans (quiet (clips_touches _ _))

theorem endAlertCapture_lawful (truncated : Bool) (s : State) : Lawful b s (endAlertCapture truncated s) := by
  unfold endAlertCapture
  split
  · exact Lawful.refl b s
  · exact ((quiet (clips_touches _ s)).trans (quiet (modClip_touches _ _ _))).trans (captureEnded_lawful _ _ _ _)

theorem countCaptured_lawful (s : State) : Lawful b s (countCaptured s) := by
  unfold countCaptured
  split
  · rename_i k _
    unfold State.modRecord
    cases hr : s.record k with
    | none => exact setRecord_lawful (by simp)
    | some r => exact keepPhase_lawful hr rfl
  · exact Lawful.refl b s

theorem alertCaptureFull_lawful (s : State) : Lawful b s (alertCaptureFull s) := by
  unfold alertCaptureFull
  split
  · split
    · exact endAlertCapture_lawful true s
    · exact Lawful.refl b s
  · exact Lawful.refl b s

theorem expire_lawful (k : AlertSlot) (s : State) : Lawful b s (expire k s) := by
  unfold expire
  split
  · split
    · exact (discardAlertClip_lawful k s).trans (finish_lawful k _ _)
    · exact Lawful.refl b s
  · exact Lawful.refl b s

theorem becomeOverdue_lawful (k : AlertSlot) (s : State) : Lawful b s (becomeOverdue k s) := by
  unfold becomeOverdue
  split
  · rename_i r hr
    split
    · refine Lawful.trans ?_ (windowCheck_lawful _ _)
      exact keepPhase_lawful hr rfl
    · exact Lawful.refl b s
  · exact Lawful.refl b s

theorem liveLimit_lawful (s : State) : Lawful b s (liveLimit s) := by
  unfold liveLimit
  split
  · split
    · rename_i r hr
      split
      · refine Lawful.trans ?_ (endAiring_lawful _ _ _)
        exact keepPhase_lawful hr rfl
      · exact Lawful.refl b s
    · exact Lawful.refl b s
  · exact Lawful.refl b s

theorem cancelRecord_lawful (k : AlertSlot) (s : State) : Lawful b s (cancelRecord k s) := by
  unfold cancelRecord
  split
  · exact Lawful.refl b s
  · split
    · exact endAiring_lawful k true s
    · exact finish_lawful k _ s
    · exact (discardAlertClip_lawful k s).trans (finish_lawful k _ _)

theorem airStopAlerts_lawful (s : State) : Lawful b s (airStopAlerts s) := by
  refine Lawful.foldl _ (fun t k => ?_) _ s
  split
  · split
    · exact cancelRecord_lawful k t
    · exact Lawful.refl b t
  · exact Lawful.refl b t

theorem alertEndOfAudio_lawful (s : State) : Lawful b s (alertEndOfAudio s) := by
  unfold alertEndOfAudio
  split
  · exact Lawful.refl b s
  · split
    · exact (alerts_quiet _).trans (quiet (activate_touches _ _ _ _ _ _))
    · exact endAiring_lawful _ _ s

theorem endConfirmWindow_lawful (k : AlertSlot) (s : State) : Lawful b s (endConfirmWindow k s) := by
  unfold endConfirmWindow
  split
  · split
    · exact finish_lawful k _ s
    · exact Lawful.refl b s
  · exact Lawful.refl b s

theorem countAlerts_lawful (f : Formed) (s : State) : Lawful b s (countAlerts f s) := by
  have played (t : State) (x : Option (ClipId × Nat)) : Lawful b t { t with alerts := { t.alerts with tone := x } } :=
    alerts_quiet t
  unfold countAlerts
  refine Lawful.trans (mapRecords_lawful (fun r => ?_) s) (played _ _)
  rfl

-- the Transmitter Link Unit

theorem statusReport_lawful (st : TxStatus) (s : State) : Lawful b s (statusReport st s) := by
  unfold statusReport
  refine Lawful.trans ?_ (Lawful.foldl _ (fun t k => ?_) _ _)
  · split
    · exact mapRecords_lawful (by simp) s
    · exact Lawful.refl b s
  · split
    · split
      · exact finish_lawful k _ t
      · exact Lawful.refl b t
    · exact Lawful.refl b t

theorem linkReport_lawful (l : LinkHealth) (s : State) : Lawful b s (linkReport l s) := by
  have told : Lawful b s { s with alerts := { s.alerts with lastLink := l } } := alerts_quiet s
  unfold linkReport
  dsimp only
  split
  · refine (told.trans (mapRecords_lawful (by simp) _)).trans (Lawful.foldl _ (fun t k => ?_) _ _)
    split
    · exact finish_lawful k _ t
    · exact Lawful.refl b t
  · exact told

/-- The link's account changes, not its frames. -/
theorem tx_lawful {h : List Sent} {st : LinkHealth} {a r n : Nat} {x : Option TxStatus} {m : Option Nat} {c : LinkSettings}
    (s : State) : Lawful b s { s with tx := ⟨s.tx.seq, h, st, a, x, m, r, n, c, s.tx.frame⟩ } :=
  lawful_tx rfl rfl

theorem changeLink_lawful (l : LinkHealth) (s : State) : Lawful b s (changeLink l s) := by
  unfold changeLink
  split
  · exact Lawful.refl b s
  · exact (((tx_lawful _).trans (quiet (raise_touches _ _ _))).trans (quiet (raise_touches _ _ _))).trans
      ((linkReport_lawful l _).trans (quiet (report_touches _ _)))

theorem takeStatus_lawful (st : TxStatus) (s : State) : Lawful b s (takeStatus st s) := by
  unfold takeStatus
  dsimp only
  refine Lawful.trans ?_ ((changeLink_lawful _ _).trans (statusReport_lawful st _))
  split
  · exact (tx_lawful _).trans (quiet (raise_touches _ _ _))
  · exact tx_lawful s

/-- Each frame sent is numbered one after the frame before it (R152). -/
theorem sendFrame_lawful (s : State) : Lawful b s (sendFrame s) := by
  have sent (t : State) : Lawful b t { t with tx := { t.tx with
      frame := some s.linkFrame
      seq := (s.tx.seq + 1) % 65536
      history := joinHistory s.tx.history ⟨s.tx.seq, s.air.peak, s.air.alertId.isSome, s.air.lines⟩ } } :=
    { Lawful.refl b t with numbered := fun _ f hf => by cases hf; rfl }
  unfold sendFrame
  dsimp only
  refine Lawful.trans ?_ (sent _)
  split
  · unfold frameReport
    refine mapRecords_lawful (fun r => ?_) s
    rfl
  · exact Lawful.refl b s

-- the readers and the Mix Engine

theorem clipFetchFailed_lawful (n : Nat) (s : State) : Lawful b s (clipFetchFailed n s) := by
  have counted : Lawful b s { s with mem := { s.mem with errors := countUp 65535 s.mem.errors } } :=
    lawful_mem (errors_region _ _)
  have damaged (c : ClipRef) := (counted.trans (quiet (modClip_touches c (fun r => { r with damaged := true }) _))).trans
    (quiet (raise_touches .P (.clipMemoryError c n) _))
  unfold clipFetchFailed
  dsimp only
  split
  · split
    · exact (damaged _).trans (markDamaged_lawful _ _)
    · exact damaged _
  · exact counted

theorem fetchClip_lawful (n : Nat) (s : State) : Lawful b s (fetchClip n s).2 := by
  unfold fetchClip
  dsimp only
  split
  · exact Lawful.refl b s
  · exact clipFetchFailed_lawful n s

theorem readBlock_lawful (r : ReaderOf) (s : State) : Lawful b s (readBlock r s).2 := by
  unfold readBlock
  split
  · exact Lawful.refl b s
  · split
    · exact Lawful.refl b s
    · have handed (f : Block × State) (x : Option Reader) (h : Lawful b s f.2) : Lawful b s (f.2.setReader r x) :=
        h.trans (quiet (setReader_touches r x _))
      have fetched (o : Option Nat) : Lawful b s
          (match o with | some n => ((fetchClip n s).1.frames, (fetchClip n s).2) | none => (Block.silent, s)).2 := by
        split
        · exact fetchClip_lawful _ s
        · exact Lawful.refl b s
      dsimp only
      split
      · exact (handed _ _ (fetched _)).trans (quiet (due_touches _ _))
      · exact handed _ _ (fetched _)

theorem contributorBlock_lawful (c : Contributor) (r : ReaderOf) (s : State) :
    Lawful b s (contributorBlock c r s).2 := by
  unfold contributorBlock
  split
  · exact readBlock_lawful r s
  · exact Lawful.refl b s

theorem formBlock_lawful (s : State) : Lawful b s (formBlock s) := by
  have mixed (m : Mix) (t : State) : Touches [.mix] t { t with mix := m } := by
    intro p hp; cases p <;> first | rfl | exact absurd (by decide) hp
  have formed (m : Mix) (f : Option Formed) (t : State) : Touches [.mix, .formed] t { t with mix := m, formed := f } := by
    intro p hp; cases p <;> first | rfl | exact absurd (by decide) hp
  exact ((((quiet (mixed _ s)).trans (contributorBlock_lawful _ _ _)).trans (contributorBlock_lawful _ _ _)).trans
    (contributorBlock_lawful _ _ _)).trans (quiet (formed _ _ _))

theorem completeFade_lawful (c : Contributor) (s : State) : Lawful b s (completeFade c s) := by
  unfold completeFade
  dsimp only
  split
  · split
    · split
      · exact quiet (setContrib_touches _ _ s)
      · have out : Lawful b s ((closeReaderOf c s).setContrib c (s.contrib c).inactive) :=
          (quiet (closeReaderOf_touches c s)).trans (quiet (setContrib_touches c _ _))
        refine out.trans ?_
        unfold fadedOut
        split
        · exact voiceFadedOut_lawful _ _
        · exact voiceFadedOut_lawful _ _
        · exact endRelease_lawful _ _
        · exact endRelease_lawful _ _
        · exact Lawful.refl b _
    · exact Lawful.refl b s
  · exact Lawful.refl b s

theorem studioSwitch_lawful (on : Bool) (g n : Nat) (s : State) : Lawful b s (studioSwitch on g n s) := by
  have switched : Lawful b s ((switchStudio on g n s).report fun r =>
      { r with micLive := (switchStudio on g n s).studioOn }) :=
    (quiet (switchStudio_touches on g n s)).trans (quiet (report_touches _ _))
  unfold studioSwitch
  dsimp only
  split
  · exact switched.trans (endFallback_lawful _ _)
  · exact switched

-- the captures

theorem captureInto_lawful (c : Capturer) (s : State) : Lawful b s (captureInto c s) := by
  have appended (c : ClipRef) (x : Block) (n : Nat) (u : State) (hu : Lawful b s u) :
      Lawful b s ((appendBlock c x n s).getD u) := by
    cases h : appendBlock c x n s with
    | none => exact hu
    | some t => exact appendBlock_lawful h
  unfold captureInto
  split
  · split
    · exact Lawful.refl b s
    · exact appended _ _ _ _ (quiet (endCapture_touches _ _ s))
  · split
    · exact Lawful.refl b s
    · exact appended _ _ _ _ (quiet (due_touches _ s))

theorem runCaptures_lawful (named : List Capturer) (s : State) : Lawful b s (runCaptures named s) :=
  Lawful.foldl _ (fun t c => captureInto_lawful c t) _ s

-- takes and panel actions

theorem takeLine_lawful {i : PhoneLine} {s : State} (hr : takeRefusal s = none)
    (hi : (s.line i).state = .held ∨ i ∈ s.callers.queue) : Lawful true s (takeLine i s) := by
  unfold takeLine
  split
  · rename_i k hk
    exact (enterSlot_lawful hr hk hi).trans (endFallback_lawful _ _)
  · exact Lawful.refl _ s

theorem takeNext_lawful (s : State) : ReplyLawful true s (takeNext s) := by
  unfold takeNext
  split
  · trivial
  · rename_i hr
    split
    · rename_i i hi
      exact takeLine_lawful hr (.inr (List.mem_of_mem_head? hi))
    · trivial

theorem releaseCallers_lawful (s : State) : ReplyLawful b s (releaseCallers s) := by
  unfold releaseCallers
  split
  · exact (releaseSlot_lawful 0 .hold s).trans (releaseSlot_lawful 1 .hold _)
  · trivial

theorem operatorDump_lawful (s : State) : ReplyLawful b s (operatorDump s) := by
  unfold operatorDump
  split
  · trivial
  · rename_i taken
    exact lawful_dump (.inr fun off => taken (.inl off))

theorem panelOwner_lawful (f : PanelFunction) (on : Bool) (s : State) : ReplyLawful true s (panelOwner f on s) := by
  unfold panelOwner
  split
  · exact operatorDump_lawful s
  · exact goEdge_lawful s
  · exact goCue_lawful s
  · exact stopCue_lawful s
  · exact stopCue_lawful s
  · exact takeNext_lawful s
  · exact releaseCallers_lawful s
  · exact studioSwitch_lawful _ _ _ s
  · exact Lawful.refl _ s

theorem panelAction_lawful (n : PanelLineNo) (on : Bool) (s : State) : Lawful true s (panelAction n on s) := by
  have owned := panelOwner_lawful (s.panelConfig n).function on s
  unfold panelAction
  split
  · rename_i t r ht
    rw [ht] at owned
    exact owned
  · exact quiet (raise_touches _ _ s)
  · rename_i t ht
    rw [ht] at owned
    exact owned

-- the due events

theorem beginFallback_lawful (s : State) : Lawful b s (beginFallback s) := by
  have noticed (t : State) (a : Option FillAnswer) (d : List Due) :
      Lawful b t { t with sup := { t.sup with answer := a }, due := d } :=
    (lawful_sup (a := a) t).trans (quiet (due_touches d _))
  exact (fillNotice_lawful s).trans (noticed _ _ _)

theorem enterFallback_lawful (s : State) : Lawful b s (enterFallback s) := by
  unfold enterFallback
  split
  · exact (lawful_sup _).trans (quiet (reportFallback_touches _))
  · exact lawful_sup s
  · exact Lawful.refl b s

theorem takeFillAnswer_lawful (s : State) : Lawful b s (takeFillAnswer s) := by
  have answered : Lawful b s (enterFallback { s with sup := { s.sup with answer := none } }) :=
    (lawful_sup s).trans (enterFallback_lawful _)
  unfold takeFillAnswer
  dsimp only
  split
  · exact (answered.trans (quiet (raise_touches _ _ _))).trans (quiet (raise_touches _ _ _))
  · exact (answered.trans (quiet (raise_touches _ _ _))).trans (quiet (raise_touches _ _ _))
  · exact lawful_sup s

/-- The event is one in which a line may enter a caller slot: a panel line's action (R174). -/
def mayTake : Due → Bool
  | .panelAction _ _ => true
  | _ => false

theorem happen_lawful (d : Due) (s : State) : Lawful (mayTake d) s (happen d s) := by
  cases d with
  | endOfAudio r =>
    cases r
    · exact voiceEndOfAudio_lawful .A s
    · exact voiceEndOfAudio_lawful .B s
    · exact alertEndOfAudio_lawful s
  | alertNoSegment => exact endAlertCapture_lawful true s
  | panelAction n on => exact panelAction_lawful n on s
  | fadeComplete c => exact completeFade_lawful c s
  | measureDone => exact measureDone_lawful s
  | captureMaxLength ch => exact quiet (endCapture_touches ch .maxLength s)
  | alertCaptureFull => exact alertCaptureFull_lawful s
  | liveAlertLimit => exact liveLimit_lawful s
  | durationLimit v => exact endAtLimit_lawful v s
  | endFadeStart v => exact beginEnd_lawful v s
  | cancelWindowClose => exact quiet (closeWindow_touches s)
  | alertExpiry k => exact expire_lawful k s
  | holdLimitReached k => exact becomeOverdue_lawful k s
  | confirmWindowExpiry k => exact endConfirmWindow_lawful k s
  | silenceWindow => exact beginFallback_lawful s
  | fillAnswer => exact takeFillAnswer_lawful s
  | profileDone => exact quiet (endWrite_touches s)
  | clockRestored => exact quiet (restoreClock_touches s)
  | statusAgeLimit => exact changeLink_lawful .degraded s
  | linkTimeout => exact changeLink_lawful .down s

theorem take_lawful (d : Due) (s : State) : Lawful (mayTake d) s (take d s) := by
  have struck : Lawful (mayTake d) s { s with due := s.due.erase d } := quiet (due_touches _ s)
  unfold take
  split
  · dsimp only
    split
    · exact struck.trans (happen_lawful d _)
    · exact struck
  · exact Lawful.refl _ s

theorem takeEach_lawful (ds : List Due) (s : State) : Lawful true s (takeEach ds s) := by
  refine Lawful.foldl _ (fun t d => ?_) ds s
  cases h : mayTake d
  · exact (h ▸ take_lawful d t).withTakes
  · exact h ▸ take_lawful d t

theorem settleFound_lawful (s : State) : Lawful true s (settleFound s) := by
  unfold settleFound
  split
  · exact takeEach_lawful _ s
  · exact Lawful.refl _ s

theorem takeRow_lawful (d : Due) (s : State) : Lawful (mayTake d) s (takeRow d s) := by
  unfold takeRow
  split
  · exact take_lawful d s
  · exact Lawful.refl _ s

end Sys2Proof.LawKeeping
end

section
/-! Every command and event keeps the laws of the device: the owners of the commands, the boundaries and the resets, each
by what it changes. -/

namespace Sys2Proof.LawKeeping

-- the lemmas one after the other: in one text, all at once they ask for more threads than the compile has
set_option Elab.async false

open Sys2Proof.Machine Sys2Proof.Safety Sys2Proof.Laws Sys2Proof.MemoryKeeping Sys2Proof.LinePlaces

variable {b : Bool} {s t u : State}

/-- Every law that `s` shows, `t` shows: all but law 1, which a change of the device state or the delay has to meet anew. -/
structure Steady (s t : State) : Prop where
  canonical : MemoryCanonical s → MemoryCanonical t
  mapped : PoolMapped s → PoolMapped t
  reserve : ReserveKept s → ReserveKept t
  numbered : Numbered s → Numbered t
  airing : OneAiring s → OneAiring t
  placed : LinesKept s → LinesKept t

/-- Every law of the device that `s` shows, `t` shows. -/
structure Keeps (s t : State) : Prop extends Steady s t where
  bounded : DelayBounded s → DelayBounded t

/-- From `s` to `t` every law is kept, and while the safe-take policy holds takes back no line enters a slot. -/
structure Sound (s t : State) : Prop extends Keeps s t where
  entered : HeldBack s → ∀ k i, (t.slot k).occupant = some i → (s.slot k).occupant = some i

theorem Steady.trans (h : Steady s t) (k : Steady t u) : Steady s u :=
  ⟨k.canonical ∘ h.canonical, k.mapped ∘ h.mapped, k.reserve ∘ h.reserve, k.numbered ∘ h.numbered,
    k.airing ∘ h.airing, k.placed ∘ h.placed⟩

theorem Keeps.trans (h : Keeps s t) (k : Keeps t u) : Keeps s u :=
  ⟨h.toSteady.trans k.toSteady, k.bounded ∘ h.bounded⟩

/-- From `s` to `t` every law is kept, E, E_t and the safe-take policy stay, and no line enters a slot against it. -/
structure Firm (s t : State) : Prop extends Sound s t where
  heldBack : HeldBack t ↔ HeldBack s

theorem Lawful.keeps (h : Lawful b s t) : Keeps s t where
  canonical := h.memory.canonical
  mapped := h.memory.mapped
  reserve := h.memory.reserve
  bounded := by
    simp only [DelayBounded, ExcessBounded, h.excess, h.target, h.delayState, h.device, h.memory.ring]
    exact id
  numbered := h.numbered
  airing := h.airing
  placed := h.placed

theorem Lawful.sound (h : Lawful b s t) : Sound s t :=
  { h.keeps with entered := fun back k i ht => (h.entered k i ht).resolve_right fun hn => hn.2 back }

theorem Lawful.firm (h : Lawful b s t) : Firm s t := { h.sound with heldBack := h.heldBack }

theorem Firm.trans (h : Firm s t) (k : Firm t u) : Firm s u where
  toKeeps := h.toKeeps.trans k.toKeeps
  entered back j i hu := h.entered back j i (k.entered (h.heldBack.mpr back) j i hu)
  heldBack := k.heldBack.trans h.heldBack

theorem Lawful.andSound (h : Lawful b s t) (k : Sound t u) : Sound s u :=
  { h.keeps.trans k.toKeeps with entered := fun back j i hu => h.sound.entered back j i (k.entered (h.heldBack.mpr back) j i hu) }

/-- What enters no slot may follow. -/
theorem Sound.andCalm (h : Sound s t) (k : Lawful false t u) : Sound s u :=
  { h.toKeeps.trans k.keeps with
    entered := fun back j i hu => h.entered back j i ((k.entered j i hu).resolve_right fun hn => absurd hn.1 (by decide)) }

theorem Keeps.sound (h : Keeps s t) (hc : t.callers = s.callers) : Sound s t :=
  { h with entered := fun _ k i hk => slots_same hc k i hk }

/-- The parts of which law 1 alone speaks, and no law. -/
abbrev steadyParts : List Part := .runs :: .delay :: .sup :: quietParts

theorem steady {ps : List Part} (q : Touches ps s t) (hs : ps ⊆ steadyParts := by decide) : Steady s t := by
  have q := q.mono hs
  have hmem : t.mem = s.mem := q .mem (by decide)
  have htx : t.tx = s.tx := q .tx (by decide)
  have hcallers : t.callers = s.callers := q .callers (by decide)
  have halerts : t.alerts = s.alerts := q .alerts (by decide)
  have kept : MemoryKept s.mem t.mem := hmem ▸ MemoryKept.refl s.mem
  exact ⟨kept.canonical, kept.mapped, kept.reserve, numbered_same (by rw [htx]) (by rw [htx]),
    airing_same (by rw [halerts]), linesKept_same hcallers⟩

-- the delay where it is worked out anew

/-- E and T within their bounds, E = 0 unless the device is ON_AIR: the delay state is still to be worked out. -/
def Bounded (s : State) : Prop :=
  ExcessBounded s ∧ s.delay.target ≤ s.mem.ring - 3 ∧ (s.dev.state ≠ .onAir → s.delay.excess = 0)

theorem bounded_of_delayBounded (h : DelayBounded s) : Bounded s :=
  ⟨h.1, h.2.1, fun off => (h.2.2 off).1⟩

theorem bounded_same (hm : t.mem.ring = s.mem.ring) (he : t.delay.excess = s.delay.excess)
    (ht : t.delay.target = s.delay.target) (hd : t.dev.state = s.dev.state) (h : Bounded s) : Bounded t := by
  simpa only [Bounded, ExcessBounded, hm, he, ht, hd] using h

theorem workOutDelay_delay (s : State) : (workOutDelay s).delay =
    { s.delay with state := delayStateOf s.onAir s.delay.excess s.delay.targetSamples } := by
  unfold workOutDelay
  dsimp only
  split <;> rfl

theorem workOutDelay_bounded (h : Bounded s) : DelayBounded (workOutDelay s) := by
  obtain ⟨excess, target, off⟩ := h
  have hmem : (workOutDelay s).mem = s.mem := workOutDelay_touches s .mem (by decide)
  have hruns : ((workOutDelay s).dev.supply, (workOutDelay s).dev.state) = (s.dev.supply, s.dev.state) :=
    workOutDelay_touches s .runs (by decide)
  have hdev : (workOutDelay s).dev.state = s.dev.state := congrArg Prod.snd hruns
  refine ⟨?_, ?_, fun hs => ⟨?_, ?_⟩⟩
  · simpa only [ExcessBounded, hmem, workOutDelay_delay] using excess
  · simpa only [hmem, workOutDelay_delay] using target
  · rw [hdev] at hs
    simpa only [workOutDelay_delay] using off hs
  · rw [hdev] at hs
    simp [workOutDelay_delay, delayStateOf, State.onAir, hs]

theorem workOutDelay_steady (s : State) : Steady s (workOutDelay s) := steady (workOutDelay_touches s)

-- the read side

/-- A read approaches the target and never passes it, so that E stays within its bound (R46). -/
theorem chooseShape_excess_le (c : DelaySettings) (e et : Nat) (suspended : Bool) (peak : Nat) :
    (chooseShape c e et suspended peak).excessAfter e ≤ max e et := by
  unfold chooseShape
  split
  · exact le_max_left e et
  · split
    · dsimp only
      split
      · exact le_max_left e et
      · simp only [Shape.excessAfter]
        omega
    · split
      · dsimp only
        split
        · exact le_max_left e et
        · simp only [Shape.excessAfter]
          omega
      · exact le_max_left e et

theorem delayFetchFailed_lawful (n : Nat) (g : Segment) (s : State) : Lawful b s (delayFetchFailed n g s) := by
  have told : Lawful b s (raise .C (.delayMemoryError n)
      { s with mem := { s.mem with errors := countUp 65535 s.mem.errors } }) :=
    (lawful_mem (errors_region _ _)).trans (quiet (raise_touches _ _ _))
  unfold delayFetchFailed
  dsimp only
  split
  · exact told.trans (markDamaged_lawful _ _)
  · exact told

theorem reportFetches_lawful (seg n : Nat) (s : State) : Lawful b s (reportFetches seg n s) := by
  refine Lawful.foldl _ (fun t i => ?_) _ s
  dsimp only
  split
  · exact Lawful.refl b t
  · exact delayFetchFailed_lawful _ _ t

theorem readDelay_steady (pos : Nat × Nat) (s : State) : Steady s (readDelay pos s) := by
  have read (a : AirBlock) (d : Delay) (t : State) : Touches [.air, .delay] t { t with air := a, delay := d } := by
    intro p hp; cases p <;> first | rfl | exact absurd (by decide) hp
  exact (reportFetches_lawful (b := false) _ _ s).keeps.toSteady.trans (steady (read _ _ _))

theorem readDelay_bounded (pos : Nat × Nat) (h : Bounded s) (hair : s.dev.state = .onAir) :
    Bounded (readDelay pos s) := by
  obtain ⟨excess, target, -⟩ := h
  have fetched := reportFetches_lawful (b := false) pos.1 ((pos.2 + (s.readShape pos).consumed) / 480 + 1) s
  have within : (s.readShape pos).excessAfter s.delay.excess ≤ 480 * (s.mem.ring - 3) :=
    (chooseShape_excess_le _ _ _ _ _).trans (max_le excess (Nat.mul_le_mul_left 480 target))
  refine ⟨?_, ?_, fun off => absurd (fetched.device.trans hair) off⟩
  · show (s.readShape pos).excessAfter s.delay.excess ≤ 480 * ((reportFetches _ _ s).mem.ring - 3)
    rw [fetched.memory.ring]
    exact within
  · show s.delay.target ≤ (reportFetches _ _ s).mem.ring - 3
    rw [fetched.memory.ring]
    exact target

/-- A dump only lowers E (R53). -/
theorem carryOutDump_delay (s : State) :
    (carryOutDump s).delay.excess ≤ s.delay.excess ∧ (carryOutDump s).delay.target = s.delay.target := by
  unfold carryOutDump
  split
  · dsimp only
    split <;> exact ⟨Nat.sub_le _ _, rfl⟩
  · exact ⟨le_refl _, rfl⟩

theorem carryOutDump_bounded (h : Bounded s) : Bounded (carryOutDump s) := by
  obtain ⟨excess, target, off⟩ := h
  obtain ⟨less, same⟩ := carryOutDump_delay s
  have hmem : (carryOutDump s).mem = s.mem := carryOutDump_touches s .mem (by decide)
  have hruns : ((carryOutDump s).dev.supply, (carryOutDump s).dev.state) = (s.dev.supply, s.dev.state) :=
    carryOutDump_touches s .runs (by decide)
  have hdev : (carryOutDump s).dev.state = s.dev.state := congrArg Prod.snd hruns
  refine ⟨?_, ?_, fun hs => ?_⟩
  · rw [ExcessBounded, hmem]
    exact less.trans excess
  · rw [hmem, same]
    exact target
  · exact Nat.le_zero.mp (less.trans_eq (off (hdev ▸ hs)))

theorem outputDelay_keeps (s : State) : Keeps s (outputDelay s) := by
  unfold outputDelay
  split
  · exact (quiet (b := false) (air_touches _ s)).keeps
  · rename_i running
    have onAir (h : DelayBounded s) : s.dev.state = .onAir := by
      by_contra off
      exact running (h.2.2 off).2
    have dumped : Steady s (carryOutDump s) := steady (carryOutDump_touches s)
    have silent (t : State) : Lawful false t { t with air := .silent } := quiet (air_touches _ t)
    have silenced : Steady s (workOutDelay { carryOutDump s with air := .silent }) :=
      (dumped.trans (silent _).keeps.toSteady).trans (workOutDelay_steady _)
    have silentBounded (h : DelayBounded s) : DelayBounded (workOutDelay { carryOutDump s with air := .silent }) :=
      workOutDelay_bounded (bounded_same rfl rfl rfl rfl (carryOutDump_bounded (bounded_of_delayBounded h)))
    dsimp only
    split
    · split
      · rename_i pos _
        have hruns : ((carryOutDump s).dev.supply, (carryOutDump s).dev.state) = (s.dev.supply, s.dev.state) :=
          carryOutDump_touches s .runs (by decide)
        exact ⟨(dumped.trans (readDelay_steady _ _)).trans (workOutDelay_steady _), fun h => workOutDelay_bounded
          (readDelay_bounded pos (carryOutDump_bounded (bounded_of_delayBounded h))
            ((congrArg Prod.snd hruns).trans (onAir h)))⟩
      · exact ⟨silenced, silentBounded⟩
    · exact ⟨silenced, silentBounded⟩

-- the boundaries

theorem memory_firm {m : SampleMemory} (h : MemoryKept s.mem m) : Firm s { s with mem := m } where
  canonical := h.canonical
  mapped := h.mapped
  reserve := h.reserve
  bounded := by
    simp only [DelayBounded, ExcessBounded, h.ring]
    exact id
  numbered := id
  airing := id
  placed := id
  entered _ _ _ hk := hk
  heldBack := Iff.rfl

/-- A block written changes the write head, the count of alert segments and the mark that one has been written (R44). -/
theorem written_firm (head segs : Nat) (fed : Bool) (s : State) :
    Firm s { s with delay := { s.delay with writeHead := head, alertSegs := segs, fed := fed } } where
  canonical := id
  mapped := id
  reserve := id
  bounded := id
  numbered := id
  airing := id
  placed := id
  entered _ _ _ hk := hk
  heldBack := Iff.rfl

theorem writeDelay_firm (f : Formed) (s : State) : Firm s (writeDelay f s) := by
  unfold writeDelay
  split
  · exact (Lawful.refl false s).firm
  · exact (memory_firm (write_kept _ _ s.mem)).trans (written_firm _ _ _ _)

theorem applyUpsets_firm (us : List (Nat × Block)) (s : State) : Firm s (applyUpsets us s) :=
  memory_firm (upset_kept us s.mem)

theorem useFormed_firm (s : State) : Firm s (useFormed s) := by
  unfold useFormed
  split
  · exact (writeDelay_firm _ s).trans (countAlerts_lawful (b := false) _ _).firm
  · exact (Lawful.refl false s).firm

/-- What an input block boundary does until the block formed is used. -/
theorem formed_lawful (env : InputBoundary) (s : State) :
    Lawful b s (formBlock (countReturn env.clock (completeInputs env.bus s))) :=
  ((quiet (completeInputs_touches _ s)).trans (quiet (countReturn_touches _ _))).trans (formBlock_lawful _)

/-- What an input block boundary does once the block formed has been used. -/
theorem recorded_lawful (env : InputBoundary) (s : State) : Lawful b s
    (countProfile (countWindow (countPlayed (countMeasure (countCaptured (runCaptures env.captures s)))))) := by
  have measured : Lawful b s (countMeasure (countCaptured (runCaptures env.captures s))) :=
    ((runCaptures_lawful _ s).trans (countCaptured_lawful _)).trans (countMeasure_lawful _)
  have counted (t : State) : Lawful b t (countProfile (countWindow (countPlayed t))) :=
    ((quiet (countPlayed_touches t)).trans (quiet (countWindow_touches _))).trans (quiet (prof_touches _ _))
  exact measured.trans (counted _)

theorem inputWork_firm (env : InputBoundary) (s : State) : Firm s (inputWork env s) :=
  (((applyUpsets_firm env.upsets s).trans (formed_lawful (b := false) env _).firm).trans (useFormed_firm _)).trans
    (recorded_lawful (b := false) env _).firm

theorem settleDue_lawful (first : List Due) (leave : Bool) (s : State) : Lawful true s (settleDue first leave s) :=
  (takeEach_lawful first s).trans (takeEach_lawful _ _)

/-- What an input block boundary does once its work is done: the events it finds, the panel's samples among them. -/
theorem found_lawful (env : InputBoundary) (s : State) : Lawful true s
    (settleDue env.first env.leave (samplePanels env.pins (findToneEnd (findDue inputDue s)))) :=
  ((quiet (findDue_touches _ s)).trans ((quiet (findToneEnd_touches _)).trans (quiet (samplePanels_touches _ _)))).trans
    (settleDue_lawful _ _ _)

theorem inputBoundary_firm (env : InputBoundary) (s : State) : Firm s (inputBoundary env s) := by
  unfold inputBoundary
  split
  · exact ((takeEach_lawful _ s).firm.trans (inputWork_firm env _)).trans (found_lawful env _).firm
  · exact (Lawful.refl false s).firm

theorem countSilence_lawful (s : State) : Lawful b s (countSilence s) := by
  unfold countSilence
  split
  · exact lawful_sup s
  · exact Lawful.refl b s

theorem outputWork_keeps (env : OutputBoundary) (s : State) : Keeps s (outputWork env s) := by
  have counted (t : State) : Lawful false t (countConfirm (countAge t)) := by
    refine (tx_lawful t).trans (mapRecords_lawful (fun r => ?_) _)
    rfl
  have sent (t : State) : Lawful false t (countSilence (sendOutputs (sendFrame t))) :=
    ((sendFrame_lawful t).trans (quiet (port_touches _ _))).trans (countSilence_lawful _)
  exact ((applyUpsets_firm _ s).toKeeps.trans (outputDelay_keeps _)).trans ((counted _).trans (sent _)).keeps

theorem outputBoundary_keeps (env : OutputBoundary) (s : State) : Keeps s (outputBoundary env s) := by
  unfold outputBoundary
  split
  · exact ((takeEach_lawful _ s).keeps.trans (outputWork_keeps env _)).trans
      ((quiet (b := true) (findDue_touches _ _)).trans (settleDue_lawful _ _ _)).keeps
  · exact (Lawful.refl false s).keeps

-- the resets and the stops

theorem allFree_callers (h : t.callers = .initial) : Placed [] t := by
  intro i
  have line : t.line i = ⟨.free, 4096, none, none, none, none, .none⟩ := by simp [State.line, h, Callers.initial]
  have slot (k : CallerSlot) : t.slot k = ⟨none, none⟩ := by simp [State.slot, h, Callers.initial]
  refine ⟨?_, fun k => ?_, ?_⟩
  · simp [h, Callers.initial, line]
  · simp [slot, line]
  · simp [line]

theorem noRecord_airing (h : ∀ k, t.record k = none) : OneAiring t := fun j _ hj => by
  simp [State.inPhase, h j] at hj

/-- A reset leaves no line in a slot. -/
theorem initial_entered (h : t.callers = .initial) (k : CallerSlot) (i : PhoneLine) : (t.slot k).occupant ≠ some i := by
  simp [State.slot, h, Callers.initial]

/-- The device state after power-on or a hardware reset begins with every law kept (R200). -/
theorem beginPowerUp_sound (k : ResetKind) (s : State) : Sound s (beginPowerUp k s) := by
  have begun (t : State) (hm : ∃ r a, t.mem = .initial r a) (hd : ∃ n c, t.delay = .initial n c)
      (hn : t.delay.target ≤ t.mem.ring - 3) (hx : t.tx.frame = none) (hc : t.callers = .initial)
      (ha : ∀ j, t.record j = none) : Sound s t := by
    obtain ⟨r, a, hm⟩ := hm
    obtain ⟨n, c, hd⟩ := hd
    exact {
      canonical := fun _ => by rw [MemoryCanonical, hm]; rfl
      mapped := fun _ => (poolMapped_iff t).mpr (by rw [hm]; exact mapped_of_all_free rfl rfl rfl rfl)
      reserve := fun _ => by rw [ReserveKept, hm]; exact Nat.zero_le _
      bounded := fun _ => by
        refine ⟨?_, hn, fun _ => ?_⟩
        · rw [ExcessBounded, hd]; exact Nat.zero_le _
        · rw [hd]; exact ⟨rfl, rfl⟩
      numbered := fun _ f hf => by rw [hx] at hf; cases hf
      airing := fun _ => noRecord_airing ha
      placed := fun _ => (linesKept_iff t).mpr (allFree_callers hc)
      entered := fun _ j i hi => absurd hi (initial_entered hc j i) }
  have fallback (t : State) (ht : Sound s t) : Sound s (raiseFallback t) := by
    unfold raiseFallback
    split
    · split
      · exact ht.andCalm (quiet (raise_touches _ _ t))
      · exact ht
    · exact ht
  unfold beginPowerUp
  refine fallback _ (begun _ ⟨_, _, rfl⟩ ⟨_, _, rfl⟩ ?_ rfl rfl fun j => ?_)
  · exact Nat.min_le_right _ _
  · simp [State.record, Alerts.initial]

theorem softResetClips_lawful (s : State) : Lawful b s (softResetClips s) :=
  ((((quiet (settleCapture_touches 0 false s)).trans (quiet (settleCapture_touches 1 false _))).trans
    (Lawful.foldl _ (fun u k => emptyClip_lawful (.alert k) u) _ _)).trans (quiet (clips_touches _ _)))

theorem raiseResetDone_quiet (k : ResetKind) (s : State) : Lawful b s (raiseResetDone k s) :=
  quiet (raiseResetDone_touches k s)

/-- SOFT RESET keeps the memory, the target and the frames' numbers, and sets the rest back (R203). -/
theorem softReset_sound (s : State) : Sound s (softReset s) := by
  have clips := softResetClips_lawful (b := false) s
  unfold softReset
  refine clips.andSound (Sound.andCalm ?_ (raiseResetDone_quiet _ _))
  exact {
    canonical := id
    mapped := id
    reserve := id
    bounded := fun h => ⟨Nat.zero_le _, h.2.1, fun _ => ⟨rfl, rfl⟩⟩
    numbered := id
    airing := fun _ => noRecord_airing fun j => by simp [State.record, Alerts.initial]
    placed := fun _ => (linesKept_iff _).mpr (allFree_callers rfl)
    entered := fun _ j i hi => absurd hi (initial_entered rfl j i) }

/-- The supply changes, the device state does not. -/
theorem supply_lawful (x : Supply) (s : State) : Lawful b s { s with dev := { s.dev with supply := x } } :=
  { Lawful.refl b s with }

theorem stopAll_lawful (s : State) : Lawful b s (stopAll s) :=
  { Lawful.refl b s with numbered := fun _ f hf => by cases hf }

theorem profileLoaded_lawful (s : State) : Lawful b s (profileLoaded s) := by
  unfold profileLoaded
  split
  · exact supply_lawful _ s
  · exact Lawful.refl b s

theorem endPowerUp_sound (s : State) : Sound s (endPowerUp s) := by
  unfold endPowerUp
  dsimp only
  split
  · rename_i starts
    have stood (t : State) (ht : t.dev.state = .powerUp) :
        Sound t { t with dev := { t.dev with state := .standby } } :=
      { Lawful.sound (Lawful.refl false t) with
        bounded := fun h => ⟨h.1, h.2.1, fun _ => h.2.2 (by rw [ht]; decide)⟩ }
    exact (profileLoaded_lawful (b := false) s).andSound ((stood _ starts.2).andCalm (raiseResetDone_quiet _ _))
  · exact (Lawful.refl false s).sound

end Sys2Proof.LawKeeping
end

section
/-! The laws of the device through every command and event (laws 1, 3, 4, 5, 8, 11, 13): the owners of the commands, one by
one, and the statements. -/

namespace Sys2Proof.LawKeeping

-- the lemmas one after the other: in one text, all at once they ask for more threads than the compile has
set_option Elab.async false

open Sys2Proof.Machine Sys2Proof.Safety Sys2Proof.Laws Sys2Proof.MemoryKeeping Sys2Proof.LinePlaces

variable {b : Bool} {s t u : State}

/-- What an owner's reply leaves keeps the laws, when it takes the command. -/
def ReplySound (s : State) : Reply → Prop
  | .ok t _ => Sound s t
  | .refuse _ => True
  | .later t => Sound s t

theorem ReplyLawful.sound {r : Reply} (h : ReplyLawful b s r) : ReplySound s r := by
  cases r
  · exact Lawful.sound h
  · trivial
  · exact Lawful.sound h

/-- A command keeps the laws when its owner does, the checks of R186 passed. -/
theorem command_sound {l : Link} {code : Nat} {ps : List Byte} {owner : State → Reply} (s : State)
    (h : ∀ t, failedCheck l code ps t = none → ReplySound t (owner t)) : Sound s (command l code ps owner s) := by
  have complete (t : State) : Lawful false t (frameComplete l t) := quiet (modLink_touches l _ t)
  have answer (st : Status) (r : Result) (t : State) : Lawful false t (respond l code st r t) :=
    quiet (respond_touches l code st r t)
  have ready : Lawful true s (frameComplete l (settleFound s)) := (settleFound_lawful s).trans (complete _).withTakes
  unfold command
  split
  · split
    · exact ((complete s).trans (quiet (modLink_touches l _ _))).sound
    · dsimp only
      split
      · exact (ready.trans (answer _ _ _).withTakes).sound
      · rename_i passed
        have owned := h _ passed
        unfold conclude
        split
        · rename_i t r hr
          rw [hr] at owned
          exact ready.andSound (Sound.andCalm owned (answer _ _ _))
        · exact (ready.trans (answer _ _ _).withTakes).sound
        · rename_i t hr
          rw [hr] at owned
          exact ready.andSound (Sound.andCalm owned (quiet (modLink_touches l _ t)))
  · exact (Lawful.refl false s).sound

theorem command_lawful {l : Link} {code : Nat} {ps : List Byte} {owner : State → Reply} (s : State)
    (h : ∀ t, ReplyLawful true t (owner t)) : Sound s (command l code ps owner s) :=
  command_sound s fun t _ => (h t).sound

-- the owners of links P, C, S and A

theorem eventsAcknowledgeOwner_lawful (l : Link) (ps : List Byte) (s : State) :
    ReplyLawful b s (eventsAcknowledgeOwner l ps s) := by
  unfold eventsAcknowledgeOwner
  split
  · refine Lawful.foldl _ (fun t (x : Nat × Nat) => ?_) _ s
    unfold acknowledge
    dsimp only
    split
    · exact (quiet (modLink_touches l _ t)).trans (quiet (panel_touches _ _))
    · exact quiet (modLink_touches l _ t)
  · trivial

theorem eventMaskSetOwner_lawful (l : Link) (ps : List Byte) (s : State) :
    ReplyLawful b s (eventMaskSetOwner l ps s) := by
  unfold eventMaskSetOwner
  split
  · exact quiet (modLink_touches l _ s)
  · trivial

theorem statusReadOwner_lawful (ps : List Byte) (s : State) : ReplyLawful b s (statusReadOwner ps s) := by
  unfold statusReadOwner
  split
  · exact Lawful.refl b s
  · trivial

theorem captureStartOwner_lawful (ps : List Byte) (s : State) : ReplyLawful b s (captureStartOwner ps s) := by
  unfold captureStartOwner
  split
  · trivial
  · split
    · trivial
    · split
      · trivial
      · exact (quiet (clips_touches _ s)).trans (quiet (modClip_touches _ _ _))

theorem captureStopOwner_lawful (ps : List Byte) (s : State) : ReplyLawful b s (captureStopOwner ps s) := by
  unfold captureStopOwner
  split
  · trivial
  · split
    · trivial
    · split
      · trivial
      · exact quiet (endCapture_touches _ _ s)

theorem clipDeleteOwner_lawful (ps : List Byte) (s : State) : ReplyLawful b s (clipDeleteOwner ps s) := by
  unfold clipDeleteOwner
  split
  · trivial
  · dsimp only
    split
    · trivial
    · split
      · trivial
      · split
        · trivial
        · exact emptyClip_lawful _ s

theorem clipReadOwner_lawful (ps : List Byte) (s : State) : ReplyLawful b s (clipReadOwner ps s) := by
  unfold clipReadOwner
  split
  · trivial
  · dsimp only
    split
    · trivial
    · split
      · exact Lawful.refl b s
      · split
        · trivial
        · exact fetchClip_lawful _ s

theorem clipRoleSetOwner_lawful (ps : List Byte) (s : State) : ReplyLawful b s (clipRoleSetOwner ps s) := by
  have use (up : Bool) (n : Option ClipId) (t : State) : Lawful b t (useOptional up n t) := by
    unfold useOptional
    split
    · exact quiet (useClip_touches _ _ t)
    · exact Lawful.refl b t
  unfold clipRoleSetOwner
  split
  · split
    · exact ((use _ _ s).trans (use _ _ _)).trans (quiet (clips_touches _ _))
    · trivial
  · trivial

theorem makeClaim_quiet (e : Entry) (s : State) : Lawful b s (makeClaim e s) := by
  unfold makeClaim
  split
  · exact quiet (useClip_touches _ _ s)
  · exact Lawful.refl b s

theorem joinList_lawful (i : Nat) (e : Entry) (s : State) : Lawful b s (joinList i e s) :=
  ((makeClaim_quiet e s).trans (quiet (setEntries_touches _ _))).trans (settleFrom_lawful _ _)

theorem cueAppendOwner_lawful (ps : List Byte) (s : State) : ReplyLawful b s (cueAppendOwner ps s) := by
  unfold cueAppendOwner
  split
  · trivial
  · split
    · trivial
    · split
      · trivial
      · split
        · trivial
        · exact joinList_lawful _ _ s

theorem cueInsertOwner_lawful (ps : List Byte) (s : State) : ReplyLawful b s (cueInsertOwner ps s) := by
  unfold cueInsertOwner
  split
  · split
    · trivial
    · split
      · trivial
      · split
        · trivial
        · split
          · trivial
          · split
            · trivial
            · exact joinList_lawful _ _ s
  · trivial

theorem cueRemoveOwner_lawful (ps : List Byte) (s : State) : ReplyLawful b s (cueRemoveOwner ps s) := by
  unfold cueRemoveOwner
  split
  · trivial
  · split
    · trivial
    · split
      · exact ((quiet (releaseClaim_touches _ s)).trans (quiet (setEntries_touches _ _))).trans (settleFrom_lawful _ _)
      · trivial

theorem cueClearOwner_lawful (s : State) : ReplyLawful b s (cueClearOwner s) :=
  ((Lawful.foldl _ (fun t e => quiet (releaseClaim_touches e t)) _ s).trans (quiet (setEntries_touches _ _))).trans
    (settleFrom_lawful _ _)

theorem cueListReadOwner_lawful (ps : List Byte) (s : State) : ReplyLawful b s (cueListReadOwner ps s) := by
  unfold cueListReadOwner
  split
  · trivial
  · exact Lawful.refl b s

theorem streamReleaseOwner_lawful (ps : List Byte) (s : State) : ReplyLawful b s (streamReleaseOwner ps s) := by
  unfold streamReleaseOwner
  split
  · trivial
  · exact releaseStream_lawful _ s

theorem delaySettingsSetOwner_sound (ps : List Byte) (s : State) : ReplySound s (delaySettingsSetOwner ps s) := by
  unfold delaySettingsSetOwner
  split
  · exact Keeps.sound ⟨steady (delay_touches _ s), id⟩ rfl
  · trivial

theorem mix_quiet (m : Mix) (s : State) : Lawful b s { s with mix := m } :=
  quiet (ps := [.mix]) fun p hp => by cases p <;> first | rfl | exact absurd (by decide) hp

theorem studioSetOwner_lawful (ps : List Byte) (s : State) : ReplyLawful b s (studioSetOwner ps s) := by
  unfold studioSetOwner
  split
  · exact (mix_quiet _ s).trans (studioSwitch_lawful _ _ _ _)
  · trivial

theorem slotGainSetOwner_lawful (ps : List Byte) (s : State) : ReplyLawful b s (slotGainSetOwner ps s) := by
  unfold slotGainSetOwner
  split
  · exact (mix_quiet _ s).trans (quiet (level_touches _ _ _ _))
  · trivial

theorem takeLineOwner_lawful (ps : List Byte) (s : State) : ReplyLawful true s (takeLineOwner ps s) := by
  unfold takeLineOwner
  split
  · trivial
  · split
    · trivial
    · rename_i hr
      split
      · rename_i held
        exact takeLine_lawful hr (.inl held)
      · trivial

theorem callerReleaseOwner_lawful (ps : List Byte) (s : State) : ReplyLawful b s (callerReleaseOwner ps s) := by
  unfold callerReleaseOwner
  split
  · split
    · exact releaseSlot_lawful _ _ s
    · trivial
  · trivial

theorem lineConnectOwner_lawful (ps : List Byte) (s : State) : ReplyLawful b s (lineConnectOwner ps s) := by
  unfold lineConnectOwner
  split
  · trivial
  · rename_i i _
    split
    · rename_i free
      exact lawful_callers (setLine_touches i .connected s)
        (fun hp => setLine_placed hp (x := .connected) (by simp [free]) (by simp [free]) (by decide)) fun _ _ h => .inl h
    · trivial

/-- A HELD line put out of the queue. -/
theorem dequeue_lawful {i : PhoneLine} {x : LineRecord} (hs : (s.line i).state = .held) (hheld : x.state ≠ .held)
    (hair : x.state ≠ .onAir) : Lawful b s (raiseQueue ((leaveQueue i s).setLine i x)) := by
  refine Lawful.trans ?_ (raiseQueue_quiet _)
  exact lawful_callers ((leaveQueue_touches i s).trans (setLine_touches i x _))
    (fun hp => dequeue_placed hp hs hheld hair) fun _ _ h => .inl h

theorem abortMeasure_line (i : PhoneLine) (s : State) : ((abortMeasure i s).line i).state = (s.line i).state := by
  unfold abortMeasure
  split
  · split
    · show ((s.setLine i { s.line i with result := .aborted }).line i).state = _
      simp
    · rfl
  · rfl

theorem lineDown_lawful (i : PhoneLine) (s : State) : Lawful b s (lineDown i s) := by
  unfold lineDown
  split
  · exact Lawful.refl b s
  · rename_i screening
    have line := (abortMeasure_line i s).trans screening
    refine (abortMeasure_lawful i s).trans ?_
    exact lawful_callers (setLine_touches i _ _) (fun hp =>
      setLine_placed hp (x := ((abortMeasure i s).line i).freed) (by simp [line]) (by simp [line]) (by simp [LineRecord.freed]))
      fun _ _ h => .inl h
  · rename_i held
    exact dequeue_lawful held (by simp [LineRecord.freed]) (by simp [LineRecord.freed])
  · rename_i k onAir slot
    have hc : (cut (slotContributor k) s).callers = s.callers := cut_touches _ s .callers (by decide)
    unfold hangUp
    refine Lawful.trans ?_ (quiet (raise_touches _ _ _))
    refine (quiet (cut_touches (slotContributor k) s)).trans (lawful_callers
      ((setSlot_touches k _ _).trans ((setLine_touches i _ _).mono (by decide))) (fun hp => ?_) fun j l h => .inl ?_)
    · have line : (cut (slotContributor k) s).line i = s.line i := by rw [State.line, hc, ← State.line]
      refine vacate_placed hp (((hp i).2.1 k).mpr ?_) (x := (s.line i).freed) (by simp [LineRecord.freed])
      rw [line]
      exact ⟨onAir, slot⟩
    · exact occupant_of_setSlot (x := ⟨none, none⟩) (.inl rfl) h
  · rename_i onAir slot
    refine lawful_callers (setLine_touches i _ s) (fun hp => ?_) fun _ _ h => .inl h
    have named := (hp i).2.2 onAir
    rw [slot] at named
    cases named

theorem lineDownOwner_lawful (ps : List Byte) (s : State) : ReplyLawful b s (lineDownOwner ps s) := by
  unfold lineDownOwner
  split
  · trivial
  · exact lineDown_lawful _ s

theorem lineMeasureOwner_lawful (ps : List Byte) (s : State) : ReplyLawful b s (lineMeasureOwner ps s) := by
  unfold lineMeasureOwner
  split
  · trivial
  · split
    · trivial
    · split
      · trivial
      · exact measure_lawful _ s

/-- A SCREENING line becomes HELD and joins the queue (R107). -/
theorem admitLine_lawful {i : PhoneLine} (priority : Nat) (tag : Option (List Byte)) {s : State}
    (hs : (s.line i).state = .screening) : Lawful b s (admitLine i priority tag s) := by
  have line := (abortMeasure_line i s).trans hs
  unfold admitLine
  refine ((abortMeasure_lawful i s).trans ?_).trans (raiseQueue_quiet _)
  refine lawful_callers ((setLine_touches i _ _).trans (joinQueue_touches i _)) (fun hp => ?_) fun k l h => .inl ?_
  · exact joinQueue_placed (setLine_placed hp (x := { (abortMeasure i s).line i with
      state := .held, priority := some priority, tag := tag }) (by simp [line]) (by simp [line]) (by simp))
  · rwa [slot_joinQueue] at h

theorem callerAdmitOwner_lawful (ps : List Byte) (s : State) : ReplyLawful b s (callerAdmitOwner ps s) := by
  unfold callerAdmitOwner
  split
  · trivial
  · split
    · trivial
    · rename_i screening
      exact admitLine_lawful _ _ screening
    · trivial

/-- A HELD line leaves its place in the queue and is placed again (R108). -/
theorem replace_placed {i : PhoneLine} {s : State} (h : Placed [] s) (hs : (s.line i).state = .held) :
    Placed [] (placeLine i (leaveQueue i s)) := by
  have once : s.callers.queue.count i = 1 := by simpa [hs] using (h i).1
  refine placeLine_placed (h.of_line i (fun _ _ => rfl) (fun j hj => ?_) (fun _ _ _ => Iff.rfl) ⟨?_, (h i).2⟩)
  · rw [List.count_append, List.count_append, count_leaveQueue_ne hj]
    simp [Ne.symm hj]
  · rw [List.count_append, count_leaveQueue_same]
    show _ = if (s.line i).state = .held then 1 else 0
    simp [hs]

theorem updateCaller_lawful {i : PhoneLine} (priority : Nat) (tag : Option (List Byte)) {s : State}
    (hs : (s.line i).state = .held) : Lawful b s (updateCaller i priority tag s) := by
  have placed : Lawful b s (placeLine i (leaveQueue i
      (s.setLine i { s.line i with priority := some priority, tag := tag }))) :=
    lawful_callers (((setLine_touches i _ s).trans (leaveQueue_touches i _)).trans (placeLine_touches i _))
      (fun hp => replace_placed (setLine_same_placed hp rfl rfl) (by simp [hs])) fun _ _ h => .inl h
  unfold updateCaller
  dsimp only
  split
  · exact placed
  · exact placed.trans (raiseQueue_quiet _)

theorem callerUpdateOwner_lawful (ps : List Byte) (s : State) : ReplyLawful b s (callerUpdateOwner ps s) := by
  unfold callerUpdateOwner
  split
  · trivial
  · split
    · rename_i held
      exact updateCaller_lawful _ _ held
    · trivial

theorem callerWithdrawOwner_lawful (ps : List Byte) (s : State) : ReplyLawful b s (callerWithdrawOwner ps s) := by
  unfold callerWithdrawOwner
  split
  · trivial
  · split
    · rename_i held
      exact dequeue_lawful held (by simp) (by simp)
    · trivial

theorem makeRoom_lawful (c : AlertClass) (s : State) : Lawful b s (makeRoom c s) := by
  unfold makeRoom
  split
  · exact Lawful.refl b s
  · split
    · exact (discardAlertClip_lawful _ s).trans (finish_lawful _ _ _)
    · exact Lawful.refl b s

/-- An arrival takes the air only when no record is AIRING (R126). -/
theorem arrive_lawful (a : Arrival) (k : AlertSlot) {s : State} (onAir : s.dev.state = .onAir) :
    ReplyLawful b s (arrive a k s) := by
  unfold arrive
  show Lawful b s _
  split
  · rename_i through
    have free : s.airing = none := by
      simp only [Bool.and_eq_true, Option.isNone_iff_eq_none] at through
      exact through.2
    have arrived (r : AlertRecord) : Lawful b s (raiseAlertState k (s.setRecord k (some r))) :=
      (airs_lawful (.inl free)).trans (quiet (raiseAlertState_touches k _))
    refine (arrived _).trans (takeover_lawful none ((arrived _).device.trans onAir) (.inr ?_))
    have told (t : State) : (raiseAlertState k t).inPhase .airing k = t.inPhase .airing k := by
      have same : (raiseAlertState k t).alerts = t.alerts := raiseAlertState_touches k t .alerts (by decide)
      rw [State.inPhase, State.record, same, ← State.record, ← State.inPhase]
    rw [told, inPhase_setRecord, if_pos rfl]
    simp [Arrival.record, through]
  · rename_i captured
    refine (setRecord_lawful ?_).trans ((quiet (raiseAlertState_touches k _)).trans (startAlertCapture_lawful k _))
    rintro x ⟨⟩
    simp [Arrival.record, captured]

theorem alertBeginOwner_lawful (ps : List Byte) (s : State) : ReplyLawful b s (alertBeginOwner ps s) := by
  unfold alertBeginOwner
  split
  · trivial
  · rename_i off
    have onAir : s.dev.state = .onAir := by simpa [State.onAir] using off
    split
    · trivial
    · split
      · trivial
      · rename_i a _ _ _
        have room := makeRoom_lawful (b := b) a.cls s
        dsimp only
        split
        · exact room.trans (arrive_lawful a _ (room.device.trans onAir))
        · trivial

theorem alertAudioEndOwner_lawful (ps : List Byte) (s : State) : ReplyLawful b s (alertAudioEndOwner ps s) := by
  unfold alertAudioEndOwner
  split
  · trivial
  · split
    · rename_i k _
      show Lawful b s (alertAudioEnd k s)
      unfold alertAudioEnd
      split
      · split
        · exact endAlertCapture_lawful _ s
        · exact endAiring_lawful _ _ s
        · exact Lawful.refl b s
      · exact Lawful.refl b s
    · trivial

theorem alertCancelOwner_lawful (l : Link) (ps : List Byte) (s : State) : ReplyLawful b s (alertCancelOwner l ps s) := by
  unfold alertCancelOwner
  split
  · trivial
  · split
    · trivial
    · split
      · trivial
      · exact cancelRecord_lawful _ s

theorem alertReadOwner_lawful (ps : List Byte) (s : State) : ReplyLawful b s (alertReadOwner ps s) := by
  unfold alertReadOwner
  dsimp only
  split
  · exact Lawful.refl b s
  · split
    · exact Lawful.refl b s
    · split
      · exact Lawful.refl b s
      · trivial

theorem alertHistoryReadOwner_lawful (ps : List Byte) (s : State) : ReplyLawful b s (alertHistoryReadOwner ps s) := by
  unfold alertHistoryReadOwner
  dsimp only
  split
  · trivial
  · split
    · exact Lawful.refl b s
    · split
      · exact Lawful.refl b s
      · trivial

theorem alertSettingsSetOwner_lawful (ps : List Byte) (s : State) : ReplyLawful b s (alertSettingsSetOwner ps s) := by
  unfold alertSettingsSetOwner
  split
  · exact alerts_quiet s
  · trivial

theorem panelConfigureOwner_lawful (ps : List Byte) (s : State) : ReplyLawful b s (panelConfigureOwner ps s) := by
  unfold panelConfigureOwner
  split
  · exact (quiet (panel_touches _ s)).trans (quiet (modLink_touches .C _ _))
  · trivial

theorem panelOutputSetOwner_lawful (ps : List Byte) (s : State) : ReplyLawful b s (panelOutputSetOwner ps s) := by
  unfold panelOutputSetOwner
  split
  · split
    · exact quiet (panel_touches _ s)
    · trivial
  · trivial

theorem linkSettingsSetOwner_lawful (ps : List Byte) (s : State) : ReplyLawful b s (linkSettingsSetOwner ps s) := by
  unfold linkSettingsSetOwner
  split
  · exact tx_lawful s
  · trivial

theorem profileProgramOwner_lawful (ps : List Byte) (s : State) : ReplyLawful b s (profileProgramOwner ps s) := by
  unfold profileProgramOwner
  split
  · trivial
  · split
    · trivial
    · split
      · trivial
      · exact quiet (prof_touches _ s)

theorem profileReadOwner_lawful (ps : List Byte) (s : State) : ReplyLawful b s (profileReadOwner ps s) := by
  unfold profileReadOwner
  dsimp only
  split
  · exact Lawful.refl b s
  · split
    · split
      · exact Lawful.refl b s
      · trivial
    · trivial

-- the owners that change what the laws speak of

/-- Going on air sets E to 0, so that it is within any bound (R42). -/
theorem airStart_sound (s : State) : Sound s (airStart s) := by
  unfold airStart startDelay
  refine Sound.andCalm (Keeps.sound ?_ ?_) (quiet (report_touches _ _))
  · have written := (memory_firm
      (write_kept ((s.delay.writeHead + s.mem.ring - 1) % s.mem.ring) .silent s.mem)).toSteady
    have rest (d : Delay) (v : Device) (x : Supervisor) (m : SampleMemory) : Touches [.runs, .dev, .delay, .sup]
        ({ s with mem := m } : State) { s with mem := m, delay := d, dev := v, sup := x } := by
      intro p hp; cases p <;> first | rfl | exact absurd (by decide) hp
    exact ⟨(written.trans (steady (rest _ _ _ _))).trans (workOutDelay_steady _), fun h =>
      workOutDelay_bounded ⟨Nat.zero_le _, h.2.1, fun _ => rfl⟩⟩
  · exact workOutDelay_touches _ .callers (by decide)

theorem delayTargetSetOwner_sound (ps : List Byte) (s : State) : ReplySound s (delayTargetSetOwner ps s) := by
  refine Keeps.sound ⟨(steady (delay_touches _ s)).trans (workOutDelay_steady _), fun h => workOutDelay_bounded ?_⟩ ?_
  · exact ⟨h.1, Nat.min_le_right _ _, fun off => (h.2.2 off).1⟩
  · exact workOutDelay_touches _ .callers (by decide)

/-- The Air Supervisor takes the AIR STOP notice; its settings stay (R164). -/
theorem endAirMode_lawful (s : State) : Lawful b s (endAirMode s) := by
  have ended : Lawful b s (reportFallback { s with sup := { s.sup with mode := none, remembered := none, counter := 0 } }) :=
    (lawful_sup s).trans (quiet (reportFallback_touches _))
  unfold endAirMode
  dsimp only
  split
  · exact ended.trans (quiet (raise_touches _ _ _))
  · exact ended

/-- What stands once every block has taken the AIR STOP notice, the Delay Unit last (R43). -/
theorem stopDelay_sound {s v : State} (d : Device) (h : Lawful false { s with dev := d } v) : Sound s (stopDelay v) := by
  have moved := (steady (dev_touches d s)).trans h.keeps.toSteady
  have stopped (e : Delay) := (steady (delay_touches e v)).trans (workOutDelay_steady _)
  unfold stopDelay
  refine { moved.trans (stopped _) with bounded := fun hb => workOutDelay_bounded ⟨Nat.zero_le _, ?_, fun _ => rfl⟩, entered := ?_ }
  · exact (h.target.trans_le hb.2.1).trans_eq (congrArg (· - 3) h.memory.ring).symm
  · intro back k i hk
    have same := workOutDelay_touches { v with delay := { v.delay with readPos := none, excess := 0, alertSegs := 0, dump := none, fed := false } } .callers (by decide)
    have hk := slots_same same k i hk
    exact (h.entered k i hk).resolve_right fun hn => absurd hn.1 (by decide)

/-- Leaving the air sets E to 0 once every block has taken the notice (R43, R202). -/
theorem airStop_sound (s : State) : Sound s (airStop s) := by
  have noticed (t : State) : Lawful false t (endAirMode (airStopAlerts (emptySlots .airStop (airStopCue t)))) :=
    (((airStopCue_lawful t).trans (emptySlots_lawful _ _)).trans (airStopAlerts_lawful _)).trans (endAirMode_lawful _)
  unfold airStop
  exact Sound.andCalm (stopDelay_sound _ (noticed _)) (quiet (report_touches _ _))

theorem airStopOwner_sound (s : State) : ReplySound s (airStopOwner s) := by
  unfold airStopOwner
  split
  · trivial
  · exact airStop_sound s

theorem supervisionSetOwner_sound (ps : List Byte) (s : State) : ReplySound s (supervisionSetOwner ps s) := by
  unfold supervisionSetOwner
  split
  · exact Keeps.sound ⟨steady (sup_touches _ s), id⟩ rfl
  · trivial

/-- MEMORY SETTINGS SET is taken in STANDBY alone (R187), so that E is 0 when R changes. -/
theorem standby_of_memorySettings {l : Link} {ps : List Byte} {s : State} (h : failedCheck l 0x3F ps s = none) :
    s.dev.state = .standby := by
  have row : commandTable.find? (fun r => decide (r.code = 0x3F)) =
      some ⟨0x3F, [.C], true, false, false, false, .exactly 4⟩ := rfl
  rw [failedCheck, row] at h
  dsimp only at h
  split at h
  · cases h
  · split at h
    · cases h
    · rename_i taken
      cases hd : s.dev.state with
      | standby => rfl
      | powerUp => simp [CommandRow.taken, hd] at taken
      | onAir =>
        rcases hm : s.sup.mode with _ | _ | _ | _ <;> simp [CommandRow.taken, hd, hm] at taken

theorem memorySettingsSetOwner_sound {ps : List Byte} {s : State} (hd : s.dev.state = .standby) :
    ReplySound s (memorySettingsSetOwner ps s) := by
  have off (h : DelayBounded s) := h.2.2 (by rw [hd]; decide)
  unfold memorySettingsSetOwner
  dsimp only
  split
  · trivial
  · split
    · trivial
    · rename_i free
      split
      · rename_i same
        refine Keeps.sound ⟨⟨id, id, fun _ => ?_, id, id, id⟩, id⟩ rfl
        rw [memoryInUse, if_pos same] at free
        have fits : s.mem.general ≤ s.mem.pool - u16At ps 2 := by simpa using free
        exact fits
      · refine Keeps.sound ⟨⟨id, fun _ => mapped_of_all_free rfl rfl rfl rfl, fun _ => Nat.zero_le _, id, id, id⟩, ?_⟩ rfl
        intro h
        refine ⟨?_, Nat.min_le_right _ _, fun _ => off h⟩
        show s.delay.excess ≤ _
        rw [(off h).1]
        exact Nat.zero_le _

end Sys2Proof.LawKeeping
end

section
/-! Every command and event keeps the laws, and so does every step: laws 1, 3, 4, 5, 8, 11 and 13. -/

namespace Sys2Proof.LawKeeping

-- the lemmas one after the other: in one text, all at once they ask for more threads than the compile has
set_option Elab.async false

open Sys2Proof.Machine Sys2Proof.Safety Sys2Proof.Laws Sys2Proof.MemoryKeeping Sys2Proof.LinePlaces

variable {b : Bool} {s t u : State}

theorem Lawful.andBoth (h : Lawful b s t) (k : Sound t u) (f : Link) (g : LinkPort → LinkPort) : Sound s (u.modLink f g) :=
  h.andSound (Sound.andCalm k (quiet (modLink_touches f g u)))

-- frames and responses

theorem badFrame_lawful (l : Link) (body : List Byte) (check : Byte) (s : State) : Lawful b s (badFrame l body check s) := by
  have complete : Lawful b s (frameComplete l s) := quiet (modLink_touches l _ s)
  unfold badFrame
  split
  · dsimp only
    split
    · exact complete.trans (quiet (modLink_touches l _ _))
    · exact complete.trans (quiet (respond_touches l _ _ _ _))
  · exact Lawful.refl b s

theorem frameWhileBusy_lawful (l : Link) (body : List Byte) (check : Byte) (s : State) :
    Lawful b s (frameWhileBusy l body check s) := by
  unfold frameWhileBusy
  split
  · exact (quiet (modLink_touches l _ s)).trans (quiet (modLink_touches l _ _))
  · exact Lawful.refl b s

theorem frameAbandoned_lawful (l : Link) (bs : List Byte) (cause : AbandonCause) (s : State) :
    Lawful b s (frameAbandoned l bs cause s) := by
  unfold frameAbandoned
  split
  · exact quiet (modLink_touches l _ s)
  · exact Lawful.refl b s

theorem softResetTaken_sound (s : State) : Sound s ((softReset (settleFound s)).modLink .C LinkPort.sent) :=
  (settleFound_lawful s).andBoth (softReset_sound _) .C _

theorem responseSent_sound (l : Link) (s : State) : Sound s (responseSent l s) := by
  unfold responseSent
  split
  · split
    · exact softResetTaken_sound s
    · exact (quiet (b := false) (modLink_touches l _ s)).sound
  · exact (Lawful.refl false s).sound

theorem softResetMade_sound (s : State) : Sound s (softResetMade s) := by
  unfold softResetMade
  split
  · exact softResetTaken_sound s
  · exact (Lawful.refl false s).sound

theorem silentFillComplete_sound (s : State) : Sound s (silentFillComplete s) := by
  unfold silentFillComplete
  split
  · exact (memory_firm (fill_kept s.mem)).toSound.andCalm (quiet (respond_touches _ _ _ _ _))
  · exact (Lawful.refl false s).sound

-- supplies, resets, clocks and status frames

theorem device_lawful {d : Device} {p : ProfileStore} {t : State} (h : d.state = t.dev.state) :
    Lawful b t { t with dev := d, prof := p } :=
  { Lawful.refl b t with device := h }

theorem loseClock_lawful (arrived : Nat) (s : State) : Lawful b s (loseClock arrived s) := by
  unfold loseClock
  split
  · exact (quiet (clock_touches .internal 0 (min arrived 480) s)).trans (quiet (raise_touches _ _ _))
  · exact Lawful.refl b s

theorem countBadStatus_lawful (s : State) : Lawful b s (countBadStatus s) := tx_lawful s

theorem receiveStatus_lawful (bytes : Vector Byte 8) (s : State) : Lawful true s (receiveStatus bytes s) := by
  unfold receiveStatus
  split
  · split
    · exact (takeEach_lawful linkDue s).trans (takeStatus_lawful _ _)
    · exact countBadStatus_lawful s
  · exact Lawful.refl _ s

theorem receiveInvalidStatus_lawful (bytes : List Byte) (s : State) : Lawful b s (receiveInvalidStatus bytes s) := by
  unfold receiveInvalidStatus
  split
  · split
    · split
      · exact Lawful.refl b s
      · exact countBadStatus_lawful s
    · split
      · exact countBadStatus_lawful s
      · exact Lawful.refl b s
  · exact Lawful.refl b s

theorem settleWrite_lawful (s : State) : Lawful false s (settleWrite s) := takeRow_lawful .profileDone s

theorem powerLoss_sound (s : State) : Sound s (stopAll { settleWrite s with dev := { s.dev with supply := .failed } }) :=
  have settled := settleWrite_lawful s
  have failed := device_lawful (b := false) (d := { s.dev with supply := .failed }) (p := (settleWrite s).prof) settled.device.symm
  ((settled.trans failed).trans (stopAll_lawful _)).sound

theorem resetLineLow_sound (s : State) : Sound s (if s.dev.supply = .failed then s
    else
      let t := settleWrite s
      stopAll { t with dev := { t.dev with supply := .resetLow }, prof := t.prof.broken }) := by
  split
  · exact (Lawful.refl false s).sound
  · have low := device_lawful (b := false) (t := settleWrite s) (d := { (settleWrite s).dev with supply := .resetLow })
      (p := (settleWrite s).prof.broken) rfl
    exact (((settleWrite_lawful s).trans low).trans (stopAll_lawful _)).sound

theorem hardwareReset_sound (s : State) :
    Sound s (if s.dev.supply = .failed then s else beginPowerUp .hardware (settleWrite s)) := by
  split
  · exact (Lawful.refl false s).sound
  · exact (settleWrite_lawful s).andSound (beginPowerUp_sound _ _)

theorem unknownCommand_sound (l : Link) (code : Byte) (ps : List Byte) (s : State) :
    Sound s (if commandTable.any fun r => decide (r.code = code.toNat) then s
      else command l code.toNat ps (fun _ => .refuse .unknownCommand) s) := by
  split
  · exact (Lawful.refl false s).sound
  · exact command_sound s fun _ _ => trivial

-- every command and event

/-- Every command and event but an output block boundary keeps the laws, and lets no line enter a slot that the safe-take
policy holds back. -/
theorem exec_sound (c : Instr) (s t : State) (h : exec c s = .next t) (hc : ∀ env, c ≠ .outputBlockBoundary env) :
    Sound s t := by
  have row (d : Due) : Sound s (takeRow d s) := (takeRow_lawful d s).sound
  cases c <;> obtain rfl := Host.Outcome.next.inj h
  case outputBlockBoundary env => exact absurd rfl (hc env)
  case identify l ps => exact command_lawful s fun t => Lawful.refl true t
  case statusRead l ps => exact command_lawful s (statusReadOwner_lawful ps)
  case eventsRead l ps => exact command_lawful s fun t => Lawful.refl true t
  case eventsAcknowledge l ps => exact command_lawful s (eventsAcknowledgeOwner_lawful l ps)
  case eventMaskSet l ps => exact command_lawful s (eventMaskSetOwner_lawful l ps)
  case clipCaptureStart l ps => exact command_lawful s (captureStartOwner_lawful ps)
  case clipCaptureStop l ps => exact command_lawful s (captureStopOwner_lawful ps)
  case clipDelete l ps => exact command_lawful s (clipDeleteOwner_lawful ps)
  case clipRead l ps => exact command_lawful s (clipReadOwner_lawful ps)
  case clipRoleSet l ps => exact command_lawful s (clipRoleSetOwner_lawful ps)
  case cueAppend l ps => exact command_lawful s (cueAppendOwner_lawful ps)
  case cueInsert l ps => exact command_lawful s (cueInsertOwner_lawful ps)
  case cueRemove l ps => exact command_lawful s (cueRemoveOwner_lawful ps)
  case cueClear l ps => exact command_lawful s cueClearOwner_lawful
  case cueListRead l ps => exact command_lawful s (cueListReadOwner_lawful ps)
  case streamRelease l ps => exact command_lawful s (streamReleaseOwner_lawful ps)
  case cueGo l ps => exact command_lawful s goCue_lawful
  case cueStop l ps => exact command_lawful s stopCue_lawful
  case airStart l ps => exact command_sound s fun t _ => airStart_sound t
  case airStop l ps => exact command_sound s fun t _ => airStopOwner_sound t
  case softReset l ps => exact command_lawful s fun t => Lawful.refl true t
  case delayTargetSet l ps => exact command_sound s fun t _ => delayTargetSetOwner_sound ps t
  case dump l ps => exact command_lawful s operatorDump_lawful
  case delaySettingsSet l ps => exact command_sound s fun t _ => delaySettingsSetOwner_sound ps t
  case studioSet l ps => exact command_lawful s (studioSetOwner_lawful ps)
  case slotGainSet l ps => exact command_lawful s (slotGainSetOwner_lawful ps)
  case callerTakeNext l ps => exact command_lawful s takeNext_lawful
  case callerTakeLine l ps => exact command_lawful s (takeLineOwner_lawful ps)
  case callerRelease l ps => exact command_lawful s (callerReleaseOwner_lawful ps)
  case alertSettingsSet l ps => exact command_lawful s (alertSettingsSetOwner_lawful ps)
  case supervisionSet l ps => exact command_sound s fun t _ => supervisionSetOwner_sound ps t
  case panelConfigure l ps => exact command_lawful s (panelConfigureOwner_lawful ps)
  case panelOutputSet l ps => exact command_lawful s (panelOutputSetOwner_lawful ps)
  case memorySettingsSet l ps =>
    exact command_sound s fun t passed => memorySettingsSetOwner_sound (standby_of_memorySettings passed)
  case linkSettingsSet l ps => exact command_lawful s (linkSettingsSetOwner_lawful ps)
  case profileProgram l ps => exact command_lawful s (profileProgramOwner_lawful ps)
  case profileRead l ps => exact command_lawful s (profileReadOwner_lawful ps)
  case alertCancel l ps => exact command_lawful s (alertCancelOwner_lawful l ps)
  case lineConnect l ps => exact command_lawful s (lineConnectOwner_lawful ps)
  case lineDown l ps => exact command_lawful s (lineDownOwner_lawful ps)
  case lineMeasure l ps => exact command_lawful s (lineMeasureOwner_lawful ps)
  case callerAdmit l ps => exact command_lawful s (callerAdmitOwner_lawful ps)
  case callerUpdate l ps => exact command_lawful s (callerUpdateOwner_lawful ps)
  case callerWithdraw l ps => exact command_lawful s (callerWithdrawOwner_lawful ps)
  case queueRead l ps => exact command_lawful s fun t => Lawful.refl true t
  case alertBegin l ps => exact command_lawful s (alertBeginOwner_lawful ps)
  case alertAudioEnd l ps => exact command_lawful s (alertAudioEndOwner_lawful ps)
  case alertRead l ps => exact command_lawful s (alertReadOwner_lawful ps)
  case alertHistoryRead l ps => exact command_lawful s (alertHistoryReadOwner_lawful ps)
  case unknownCommand l code ps => exact unknownCommand_sound l code ps s
  case badFrame f => exact (badFrame_lawful (b := false) _ _ _ s).sound
  case frameWhileBusy l frame => exact (frameWhileBusy_lawful (b := false) l _ _ s).sound
  case frameAbandoned l bytes cause => exact (frameAbandoned_lawful (b := false) l bytes cause s).sound
  case responseSent l => exact responseSent_sound l s
  case softResetMade => exact softResetMade_sound s
  case silentFillComplete => exact silentFillComplete_sound s
  case powerOn => exact (settleWrite_lawful s).andSound (beginPowerUp_sound _ _)
  case hardwareReset => exact hardwareReset_sound s
  case powerUpEnd => exact endPowerUp_sound s
  case inputBlockBoundary env => exact (inputBoundary_firm env s).toSound
  case clockLost arrived => exact ((takeRow_lawful .clockRestored s).trans (loseClock_lawful arrived _)).sound
  case clockRestored => exact row _
  case statusFrame bytes => exact (receiveStatus_lawful bytes s).sound
  case invalidStatusFrame bytes => exact (receiveInvalidStatus_lawful (b := false) bytes s).sound
  case statusAgeLimit => exact row _
  case linkTimeout => exact row _
  case fadeComplete c => exact row _
  case measureDone => exact row _
  case captureMaxLength ch => exact row _
  case alertCaptureFull => exact row _
  case liveAlertLimit => exact row _
  case durationLimit v => exact row _
  case endFadeStart v => exact row _
  case cancelWindowClose => exact row _
  case alertExpiry k => exact row _
  case holdLimitReached k => exact row _
  case confirmWindowExpiry k => exact row _
  case silenceWindow => exact row _
  case fillAnswer => exact row _
  case profileDone => exact row _
  case powerLoss => exact powerLoss_sound s
  case resetLineLow => exact resetLineLow_sound s

theorem exec_keeps (c : Instr) (s t : State) (h : exec c s = .next t) : Keeps s t := by
  by_cases output : ∃ env, c = .outputBlockBoundary env
  · obtain ⟨env, rfl⟩ := output
    obtain rfl := Host.Outcome.next.inj h
    exact outputBoundary_keeps env s
  · exact (exec_sound c s t h fun env hc => output ⟨env, hc⟩).toKeeps

theorem step_keeps (h : step s = .next t) : Keeps s t := by
  unfold step at h
  split at h
  · obtain rfl := Host.Outcome.next.inj h
    exact (profileLoaded_lawful (b := false) s).keeps
  · rename_i rest _
    have taken : Keeps s { s with pending := rest } := { Lawful.keeps (Lawful.refl false s) with }
    exact taken.trans (exec_keeps _ _ _ h)

-- law 8 at an output block boundary: the events it finds are no panel actions

/-- Only the silence window's event makes another event wait: the answer to the fill notice (R166). -/
theorem happen_due {d : Due} (h : d ≠ .silenceWindow) (s : State) : (happen d s).due = s.due := by
  cases d with
  | endOfAudio r =>
    cases r
    · exact voiceEndOfAudio_touches .A s .due (by decide)
    · exact voiceEndOfAudio_touches .B s .due (by decide)
    · exact alertEndOfAudio_touches s .due (by decide)
  | alertNoSegment => exact endAlertCapture_touches true s .due (by decide)
  | panelAction n on => exact panelAction_touches n on s .due (by decide)
  | fadeComplete c => exact completeFade_touches c s .due (by decide)
  | measureDone => exact measureDone_touches s .due (by decide)
  | captureMaxLength ch => exact endCapture_touches ch .maxLength s .due (by decide)
  | alertCaptureFull => exact alertCaptureFull_touches s .due (by decide)
  | liveAlertLimit => exact liveLimit_touches s .due (by decide)
  | durationLimit v => exact endAtLimit_touches v s .due (by decide)
  | endFadeStart v => exact beginEnd_touches v s .due (by decide)
  | cancelWindowClose => exact closeWindow_touches s .due (by decide)
  | alertExpiry k => exact expire_touches k s .due (by decide)
  | holdLimitReached k => exact becomeOverdue_touches k s .due (by decide)
  | confirmWindowExpiry k => exact endConfirmWindow_touches k s .due (by decide)
  | silenceWindow => exact absurd rfl h
  | fillAnswer => exact takeFillAnswer_touches s .due (by decide)
  | profileDone => exact endWrite_touches s .due (by decide)
  | clockRestored => exact restoreClock_touches s .due (by decide)
  | statusAgeLimit => exact changeLink_touches .degraded s .due (by decide)
  | linkTimeout => exact changeLink_touches .down s .due (by decide)

theorem silenceWindow_due (s : State) : (happen .silenceWindow s).due = s.due ++ [.fillAnswer] := by
  have same : (fillNotice s).1.due = s.due := fillNotice_touches s .due (by decide)
  exact congrArg (· ++ [Due.fillAnswer]) same

/-- An event that happens leaves those that wait, and may add the answer to a fill notice. -/
theorem mem_happen_due {d e : Due} (h : e ∈ (happen d s).due) : e ∈ s.due ∨ e = .fillAnswer := by
  by_cases hd : d = .silenceWindow
  · subst hd
    rw [silenceWindow_due] at h
    simpa using h
  · exact .inl (happen_due hd s ▸ h)

theorem mem_take_due {d e : Due} (h : e ∈ (take d s).due) : e ∈ s.due ∨ e = .fillAnswer := by
  unfold take at h
  split at h
  · dsimp only at h
    split at h
    · exact (mem_happen_due h).imp_left List.mem_of_mem_erase
    · exact .inl (List.mem_of_mem_erase h)
  · exact .inl h

/-- No panel action waits to be taken. -/
def NoAction (s : State) : Prop := ∀ d ∈ s.due, mayTake d = false

theorem take_noAction (d : Due) (h : NoAction s) : NoAction (take d s) := fun e he =>
  (mem_take_due he).elim (h e) fun eq => eq ▸ rfl

theorem take_calm (d : Due) (h : NoAction s) : Lawful false s (take d s) := by
  by_cases hd : d ∈ s.due
  · exact h d hd ▸ take_lawful d s
  · rw [take_not_due hd]
    exact Lawful.refl false s

theorem takeEach_calm (ds : List Due) (h : NoAction s) : Lawful false s (takeEach ds s) ∧ NoAction (takeEach ds s) := by
  induction ds generalizing s with
  | nil => exact ⟨Lawful.refl false s, h⟩
  | cons d ds ih =>
    obtain ⟨rest, left⟩ := ih (take_noAction d h)
    exact ⟨(take_calm d h).trans rest, left⟩

/-- What an output block boundary does before the events it finds leaves the callers and the waiting events. -/
theorem outputWork_calm (env : OutputBoundary) (s : State) :
    Touches [.port, .air, .mem, .delay, .alerts, .links, .panel, .tx, .sup] s (outputWork env s) :=
  (((((((Touches.refl _ s).and (memory_touches _ s)).and (outputDelay_touches _)).and (tx_touches _ _)).and
    (mapRecords_touches _ _ _)).and (sendFrame_touches _)).and (port_touches _ _)).and (countSilence_touches _)

/-- With nothing left from before, an output block boundary lets no line enter a caller slot. -/
theorem outputBoundary_entered (env : OutputBoundary) (hs : s.due = []) (k : CallerSlot) (i : PhoneLine)
    (h : ((outputBoundary env s).slot k).occupant = some i) : (s.slot k).occupant = some i := by
  unfold outputBoundary at h
  split at h
  · rw [takeEach_not_due fun d _ hd => by simp [hs] at hd] at h
    have none : NoAction (findDue outputDue (outputWork env s)) := fun d hd => by
      have same : (outputWork env s).due = s.due := outputWork_calm env s .due (by decide)
      rw [findDue, same, hs] at hd
      exact (by decide : ∀ d ∈ outputDue, mayTake d = false) d (List.mem_of_mem_filter (by simpa using hd))
    obtain ⟨first, left⟩ := takeEach_calm env.first none
    have taken : Lawful false _ (settleDue env.first env.leave _) := first.trans (takeEach_calm _ left).1
    have before := (taken.entered k i h).resolve_right fun hn => absurd hn.1 (by decide)
    exact slots_same (outputWork_calm env s .callers (by decide)) k i before
  · exact h

-- the statements

/-- Settles O38: every command and event but an output block boundary is `Sound`, and that boundary takes no caller. -/
theorem noTakeBeforeTheDelayIsSafe : Obligations.NoTakeBeforeTheDelayIsSafe := by
  intro c s t policy short settled h k i hk
  by_cases output : ∃ env, c = .outputBlockBoundary env
  · obtain ⟨env, rfl⟩ := output
    obtain rfl := Host.Outcome.next.inj h
    exact outputBoundary_entered env (settled.resolve_right fun hc => hc env rfl) k i hk
  · exact (exec_sound c s t h fun env hc => output ⟨env, hc⟩).entered ⟨policy, short⟩ k i hk

/-- Settles O55. -/
theorem theMemoryStaysSound : Obligations.TheMemoryStaysSound :=
  ⟨fun _ _ h hs => (step_keeps hs).canonical h, fun _ _ h hs => (step_keeps hs).mapped h,
    fun s h => accounted_of_mapped ((poolMapped_iff s).mp h), fun _ _ h hs => (step_keeps hs).reserve h⟩

/-- Settles O56. -/
theorem theDelayStaysBounded : Obligations.TheDelayStaysBounded := fun _ _ h hs => (step_keeps hs).bounded h

/-- Settles O57. -/
theorem linkFramesStayNumbered : Obligations.LinkFramesStayNumbered := fun _ _ h hs => (step_keeps hs).numbered h

/-- Settles O58. -/
theorem oneAlertAirs : Obligations.OneAlertAirs := fun _ _ h hs => (step_keeps hs).airing h

/-- Settles O59. -/
theorem linesStayPlaced : Obligations.LinesStayPlaced := fun _ _ h hs => (step_keeps hs).placed h

/-- Settles O60: the pool is all free, no line or record is there, and no frame has been sent. -/
theorem resetKeepsTheLaws : Obligations.ResetKeepsTheLaws := by
  refine ⟨rfl, mapped_of_all_free rfl rfl rfl rfl, Nat.zero_le _, ⟨Nat.zero_le _, ?_, fun _ => ⟨rfl, rfl⟩⟩, ?_, ?_, ?_⟩
  · decide
  · intro f hf
    cases hf
  · exact noRecord_airing fun j => by simp [State.record, State.reset, Alerts.initial]
  · exact (linesKept_iff _).mpr (allFree_callers rfl)

end Sys2Proof.LawKeeping
end

section
/-! Frames and events of the control links: what a frame of any command is answered, what a boundary's events left to their
rows mean for it, the receiver, and the event sets (R182 to R192, R196, R199). -/

namespace Sys2Proof.LinkFrames

-- the lemmas one after the other: in one text, all at once they ask for more threads than the compile has
set_option Elab.async false

open Sys2Proof.Machine Sys2Proof.Safety Sys2Proof.Laws Sys2Proof.LawKeeping

-- the step

/-- Settles O1. -/
theorem stepTakesTheFront : Obligations.StepTakesTheFront := by
  refine ⟨fun _ _ _ => rfl, fun s => congrArg Host.Outcome.next ?_⟩
  show profileLoaded _ = _
  unfold profileLoaded
  dsimp only
  split <;> rfl

-- a frame and its owner

/-- A frame of a command runs `command` with the command's owner, whatever the state. -/
theorem frame_owner {i : Instr} {l : Link} {code : Nat} {ps : List Byte} (h : i.frame = some (l, code, ps)) :
    ∃ owner, ∀ s, exec i s = .next (command l code ps owner s) := by
  cases i
  case unknownCommand l c ps =>
    by_cases unknown : commandTable.any fun r => decide (r.code = c.toNat)
    · exact absurd ((if_pos unknown).symm.trans h) (by simp)
    · replace h := (if_neg unknown).symm.trans h
      obtain ⟨rfl, rfl, rfl⟩ := by simpa using h
      exact ⟨_, fun s => congrArg Host.Outcome.next (if_neg unknown)⟩
  all_goals first
    | (obtain ⟨rfl, rfl, rfl⟩ := by simpa [Instr.frame] using h
       exact ⟨_, fun _ => rfl⟩)
    | cases h

theorem failedCheck_frameComplete (l k : Link) (code : Nat) (ps : List Byte) (s : State) :
    failedCheck l code ps (frameComplete k s) = failedCheck l code ps s := by
  cases k <;> rfl

theorem not_busy_of_free {l : Link} {s : State} (h : LinkFree l s) : (s.link l).busy = false := by
  simp [LinkPort.busy, h.2.1, h.2.2]

/-- On a free link, with nothing left from the last boundary, a frame is judged on the state as it is. -/
theorem command_judged {l : Link} {s : State} (free : LinkFree l s) (settled : Settled s) {code : Nat} {ps : List Byte}
    (owner : State → Reply) : command l code ps owner s = match failedCheck l code ps s with
      | some st => answered l code st .none s
      | none => conclude l code (frameComplete l s) (owner (frameComplete l s)) := by
  have fails (st : Status) : respond l code st .none (frameComplete l s) = answered l code st .none s :=
    conclude_refuse l code s st
  simp only [command, State.running, free.1, not_busy_of_free free, settleFound_settled settled,
    failedCheck_frameComplete, decide_true, if_true, Bool.false_eq_true, if_false, fails] <;>
    cases failedCheck l code ps s <;> rfl

theorem command_failed {l : Link} {s : State} (free : LinkFree l s) (settled : Settled s) {code : Nat} {ps : List Byte}
    {owner : State → Reply} {st : Status} (h : failedCheck l code ps s = some st) :
    command l code ps owner s = answered l code st .none s := by
  rw [command_judged free settled, h]

-- the availability table (R186, R187, R199)

theorem find_row {r : CommandRow} (hr : r ∈ commandTable) :
    commandTable.find? (fun x => decide (x.code = r.code)) = some r :=
  (by decide : ∀ r ∈ commandTable, commandTable.find? (fun x => decide (x.code = r.code)) = some r) r hr

theorem failedCheck_no_row {l : Link} {code : Nat} {ps : List Byte} {s : State} (h : ∀ r ∈ commandTable, r.code ≠ code) :
    failedCheck l code ps s = some .unknownCommand := by
  have none : commandTable.find? (fun r => decide (r.code = code)) = none :=
    List.find?_eq_none.mpr fun r hr => by simpa using h r hr
  rw [failedCheck, none]

theorem failedCheck_row {l : Link} {ps : List Byte} {s : State} {r : CommandRow} (hr : r ∈ commandTable) :
    failedCheck l r.code ps s = if !r.links.contains l then some .notPermitted
      else if !r.taken s then some .notNow
      else if !r.params.admits ps.length then some .badParam
      else none := by
  rw [failedCheck, find_row hr]

theorem unknownCommandsAreAnswered : Claims.UnknownCommandsAreAnswered := by
  intro l code ps s free settled h
  have unknown : ¬(commandTable.any fun r => decide (r.code = code.toNat)) := by simpa using h
  exact congrArg Host.Outcome.next ((if_neg unknown).trans (command_failed free settled (failedCheck_no_row h)))

theorem failedChecksAreAnswered : Claims.FailedChecksAreAnswered := by
  intro i l code ps s hf free settled
  obtain ⟨owner, hi⟩ := frame_owner hf
  have fails {st : Status} (h : failedCheck l code ps s = some st) : exec i s = .next (answered l code st .none s) :=
    (hi s).trans (congrArg Host.Outcome.next (command_failed free settled h))
  refine ⟨fun h => fails (failedCheck_no_row h), ?_⟩
  rintro r hr rfl
  refine ⟨fun link => fails ?_, fun link taken => fails ?_, fun link taken bytes => fails ?_⟩
  · simp [failedCheck_row hr, link]
  · simp [failedCheck_row hr, link, taken]
  · simp [failedCheck_row hr, link, taken, bytes]

theorem availabilityTable : Claims.AvailabilityTable := by
  unfold Claims.AvailabilityTable
  decide

theorem taken_iff (r : CommandRow) (s : State) : r.taken s = true ↔
    s.dev.state = .standby ∧ r.standby = true ∨ s.dev.state = .onAir ∧
      (s.sup.mode = some .normal ∧ r.normal = true ∨ s.sup.mode = some .alert ∧ r.alert = true ∨
        s.sup.mode = some .fallback ∧ r.fallback = true) := by
  unfold CommandRow.taken
  split <;> simp_all

theorem not_taken_in_powerUp {s : State} (h : s.dev.state = .powerUp) (r : CommandRow) : r.taken s = false := by
  simp [CommandRow.taken, h]

theorem commandsAreTaken : Claims.CommandsAreTaken := by
  refine ⟨fun r _ s => taken_iff r s, ?_⟩
  rintro i l code ps s hf free settled ⟨r, hr, rfl, link⟩ refused
  obtain ⟨-, -, standby, normal, alert, fallback⟩ := availabilityTable
  refine ((failedChecksAreAnswered i l r.code ps s hf free settled).2 r hr rfl).2.1 link ?_
  rw [← Bool.not_eq_true, taken_iff]
  rcases refused with up | ⟨stands, code⟩ | ⟨airs, mode, code⟩ | ⟨airs, mode, code⟩
  · simp [up]
  · simp [stands, (standby r hr).mpr code]
  · have two : r.alert = false := (alert r hr).mpr (by simp only [List.mem_cons] at code ⊢; tauto)
    simp [airs, (normal r hr).mpr code, two, (fallback r hr).mpr code]
  · have one : r.alert = false := (alert r hr).mpr (by simp only [List.mem_cons] at code ⊢; tauto)
    simp [airs, mode, one]

theorem parameterBytes : Claims.ParameterBytes := by
  intro r hr n
  simp only [commandTable, sharedRows, playoutRows, consoleRows, screenerRows, List.cons_append, List.nil_append,
    List.mem_cons, List.not_mem_nil, or_false] at hr
  rcases hr with rfl | rfl | rfl | rfl | rfl | rfl | rfl | rfl | rfl | rfl | rfl | rfl | rfl | rfl | rfl | rfl | rfl | rfl |
    rfl | rfl | rfl | rfl | rfl | rfl | rfl | rfl | rfl | rfl | rfl | rfl | rfl | rfl | rfl | rfl | rfl | rfl | rfl | rfl |
    rfl | rfl | rfl | rfl | rfl | rfl | rfl | rfl | rfl | rfl | rfl <;>
    simp [always, ParamBytes.admits, and_assoc]

-- what a command finds taken (R61, R64, R131, R159, R165, R186)

theorem mem_foundOrder {d : Due} (h : d ≠ .fillAnswer) : d ∈ foundOrder := by
  cases d
  case fillAnswer => exact absurd rfl h
  case endOfAudio r => cases r <;> decide
  case panelAction n on => cases on <;> revert n <;> decide
  case fadeComplete c => cases c <;> decide
  case captureMaxLength ch => revert ch; decide
  case durationLimit v => cases v <;> decide
  case endFadeStart v => cases v <;> decide
  case alertExpiry k => revert k; decide
  case holdLimitReached k => revert k; decide
  case confirmWindowExpiry k => revert k; decide
  all_goals decide

/-- An event taken is no longer due, when it waited once, nor does any other come to wait but an answer to a fill notice. -/
theorem not_due_take {d e : Due} {s : State} (he : e ≠ .fillAnswer) (once : s.due.count e ≤ 1) :
    (take d s).due.count e ≤ s.due.count e ∧ (d = e → e ∉ (take d s).due) := by
  have happened (t : State) : (happen d t).due.count e = t.due.count e := by
    by_cases hd : d = .silenceWindow
    · subst hd
      rw [silenceWindow_due, List.count_append, List.count_singleton]
      simp [Ne.symm he]
    · rw [happen_due hd]
  have erased : (take d s).due.count e ≤ (s.due.erase d).count e := by
    unfold take
    split
    · dsimp only
      split
      · exact (happened _).le
      · exact le_rfl
    · rename_i absent
      rw [List.erase_of_not_mem (by simpa using absent)]
  refine ⟨erased.trans (List.erase_sublist.count_le e), ?_⟩
  rintro rfl
  rw [List.count_erase_self] at erased
  exact List.count_eq_zero.mp (by omega)

theorem count_takeEach {e : Due} (he : e ≠ .fillAnswer) (ds : List Due) : ∀ {s : State}, s.due.count e ≤ 1 →
    (takeEach ds s).due.count e ≤ s.due.count e ∧ (e ∈ ds → e ∉ (takeEach ds s).due) := by
  induction ds with
  | nil => exact fun _ => ⟨le_rfl, fun h => by cases h⟩
  | cons d ds ih =>
    intro s once
    obtain ⟨fewer, gone⟩ := not_due_take (d := d) he once
    obtain ⟨fewest, rest⟩ := ih (fewer.trans once)
    refine ⟨fewest.trans fewer, fun h => ?_⟩
    rcases List.mem_cons.mp h with rfl | h
    · have none := List.count_eq_zero.mpr (gone rfl)
      exact List.count_eq_zero.mp (Nat.le_zero.mp (none ▸ fewest))
    · exact rest h

/-- What a boundary left, each event once, is taken before a command: only the answer to a fill notice may still wait. -/
theorem settled_settleFound {s : State} (live : s.live = true) (once : s.due.Nodup) : Settled (settleFound s) := by
  intro d hd
  by_contra other
  unfold settleFound at hd
  split at hd
  · exact (count_takeEach other foundOrder (List.nodup_iff_count_le_one.mp once d)).2 (mem_foundOrder other) hd
  · rename_i nothing
    have empty : s.due = [] := by simpa [live] using nothing
    simp [empty] at hd

/-- Of one event found, taking all that a boundary finds is taking that event. -/
theorem settleFound_single {d : Due} {s : State} (live : s.live = true) (hd : d ≠ .fillAnswer) (hs : s.due = [d]) :
    settleFound s = take d s := by
  have settled : ∀ e ∈ (take d s).due, e = .fillAnswer := by
    intro e he
    by_contra other
    obtain ⟨-, gone⟩ := not_due_take (d := d) (s := s) other (hs ▸ List.count_le_length (l := [d]))
    rcases mem_take_due he with h | h
    · exact gone (by simpa [hs, eq_comm] using h) he
    · exact other h
  have after : ∀ ds : List Due, .fillAnswer ∉ ds → takeEach ds (take d s) = take d s := fun ds h =>
    takeEach_not_due fun e he hdue => h (settled e hdue ▸ he)
  have each : ∀ ds : List Due, d ∈ ds → .fillAnswer ∉ ds → takeEach ds s = take d s := by
    intro ds
    induction ds with
    | nil => exact fun h => by cases h
    | cons e ds ih =>
      intro h none
      rw [List.mem_cons, not_or] at none
      by_cases he : e = d
      · subst he
        exact after ds none.2
      · have skipped : take e s = s := take_not_due (by simp [hs, he])
        have later : d ∈ ds := (List.mem_cons.mp h).resolve_left (Ne.symm he)
        show takeEach ds (take e s) = _
        rw [skipped]
        exact ih later none.2
  have found : (s.live && !s.due.isEmpty) = true := by simp [live, hs]
  rw [settleFound, if_pos found]
  exact each foundOrder (mem_foundOrder hd) (by decide)

/-- A command finds what the last boundary left taken, so that it does the same when that was taken before. -/
theorem command_settles {l : Link} {s : State} (free : LinkFree l s) (settled : Settled (settleFound s)) (code : Nat)
    (ps : List Byte) (owner : State → Reply) : command l code ps owner s = command l code ps owner (settleFound s) := by
  obtain ⟨supply, -, kept⟩ := settleFound_keeps s
  have busy : ((settleFound s).link l).busy = (s.link l).busy := by
    have same : ((settleFound s).link l).inFlight = (s.link l).inFlight ∧ ((settleFound s).link l).owed = (s.link l).owed := by
      cases l <;> simp_all [answers, State.link, Links.get]
    simp [LinkPort.busy, same]
  simp only [command, State.running, supply, busy, settleFound_settled settled]
  simp only [not_busy_of_free free, free.1, decide_true, if_true, Bool.false_eq_true, if_false]

theorem commandsFollowTheBoundary : Claims.CommandsFollowTheBoundary := by
  intro i l code ps s hf free live once
  obtain ⟨owner, hi⟩ := frame_owner hf
  have settled := settled_settleFound live once
  have follows : exec i s = exec i (settleFound s) := by
    rw [hi, hi, command_settles free settled]
  exact ⟨settled, follows, fun d hs hd => settleFound_single live hd hs ▸ follows⟩

/-- Settles O5. -/
theorem checksOfEveryCommand : Obligations.ChecksOfEveryCommand :=
  ⟨availabilityTable, unknownCommandsAreAnswered, failedChecksAreAnswered, commandsAreTaken, parameterBytes,
    commandsFollowTheBoundary⟩

/-- Settles O6: an answer other than OK is a failed check's or a refusal's, and both leave the owner's work undone. -/
theorem refusedCommandsChangeNothing : Obligations.RefusedCommandsChangeNothing := by
  intro i l code ps s t r hf free settled ht answer refused
  obtain ⟨owner, hi⟩ := frame_owner hf
  obtain rfl := Host.Outcome.next.inj ((hi s).symm.trans ht)
  rw [command_judged free settled] at answer ⊢
  split at answer
  · simp only [answered, link_modLink, Option.some.injEq, InFlight.mk.injEq, true_and] at answer
    obtain rfl := answer
    exact ⟨rfl, rfl⟩
  · generalize owner (frameComplete l s) = reply at answer ⊢
    cases reply with
    | ok u x =>
      simp only [conclude, respond, link_modLink, Option.some.injEq, InFlight.mk.injEq, true_and] at answer
      obtain rfl := answer
      exact absurd rfl refused
    | refuse st =>
      simp only [conclude_refuse, answered, link_modLink, Option.some.injEq, InFlight.mk.injEq, true_and] at answer
      obtain rfl := answer
      exact ⟨rfl, conclude_refuse l code s st⟩
    | later u => simp [conclude, delayAnswer] at answer

-- how frames are read and answered (R183 to R185, R196)

theorem badFrameIsAnswered : Claims.BadFrameIsAnswered := by
  intro l body check s running inFlight owed nonempty fits fails
  have free : ((frameComplete l s).link l).busy = false := by simp [LinkPort.busy, frameComplete, inFlight, owed]
  have judged : (s.running && bodyFits body && !framePasses body check) = true := by
    simp [State.running, running, bodyFits, nonempty, fits, framePasses, show crc8 (byte body.length :: body) ≠ check from fails]
  refine congrArg Host.Outcome.next ?_
  rw [badFrame, if_pos judged]
  simp only [free, Bool.false_eq_true, if_false]
  exact conclude_refuse l 0 s .badFrame

/-- A frame completed on a busy link is owed an answer or counted as a fault (R184). -/
theorem modLink_owe (l : Link) (x : Owed) (s : State) : (frameComplete l s).modLink l (fun p => p.owe x) = s.modLink l fun p =>
    if p.owed.length < 8 then { p with receiver := .hunting, owed := p.owed ++ [x] }
    else { p with receiver := .hunting, faults := min 65535 (p.faults + 1) } := by
  rw [frameComplete, modLink_modLink]
  refine congrArg (s.modLink l) (funext fun p => ?_)
  unfold LinkPort.owe LinkPort.faulted countUp
  rfl

theorem frameWhileBusy_owed {l : Link} {c : Byte} {ps : List Byte} {check : Byte} {s : State}
    (running : s.dev.supply = .running) (busy : (s.link l).busy = true) (fits : ps.length ≤ 249) :
    frameWhileBusy l (c :: ps) check s = (frameComplete l s).modLink l fun p => p.owe (owedFor (c :: ps) check) := by
  have taken : (s.running && bodyFits (c :: ps) && (s.link l).busy) = true := by
    simp only [State.running, running, bodyFits, busy, List.length_cons, decide_true, Bool.true_and, Bool.and_true,
      Bool.and_eq_true, decide_eq_true_eq]
    omega
  rw [frameWhileBusy, if_pos taken]

theorem framesOfABusyLinkAreOwed : Claims.FramesOfABusyLinkAreOwed := by
  intro l c ps check s running waits fits passes
  have busy : (s.link l).busy = true := by
    simpa [LinkPort.busy] using waits
  have owed := frameWhileBusy_owed (c := c) (check := check) running busy fits
  have passed : framePasses (c :: ps) check = decide passes := rfl
  refine ⟨congrArg Host.Outcome.next ?_, fun fails => congrArg Host.Outcome.next ?_, fun i ok hf => ?_⟩
  · rw [owed, modLink_owe, owedFor, passed]
    simp only [decide_eq_true_eq, List.headD_cons]
  · have failed : owedFor (c :: ps) check = .badFrame := by simp [owedFor, passed, fails]
    have judged : (s.running && bodyFits (c :: ps) && !framePasses (c :: ps) check) = true := by
      simp only [State.running, running, bodyFits, passed, fails, List.length_cons, decide_true, decide_false, Bool.true_and,
        Bool.not_false, Bool.and_true, Bool.and_eq_true, decide_eq_true_eq]
      omega
    have still : ((frameComplete l s).link l).busy = true := by simpa [frameComplete, LinkPort.busy] using busy
    simp only [owed, failed, badFrame, judged, still, if_true]
  · obtain ⟨owner, hi⟩ := frame_owner hf
    have good : owedFor (c :: ps) check = .command c.toNat := by simp [owedFor, passed, ok]
    refine (hi s).trans (congrArg Host.Outcome.next ?_)
    simp only [owed, good, command, State.running, running, busy, decide_true, if_true]

theorem sentResponsesFreeTheLink : Claims.SentResponsesFreeTheLink := by
  intro l s running
  have sent (g : LinkPort → LinkPort) (reset : (decide (l = .C) && s.softResetAnswered) = false)
      (h : (s.link l).sent = g (s.link l)) : exec (.responseSent l) s = .next (s.modLink l g) := by
    refine congrArg Host.Outcome.next ?_
    rw [responseSent, if_pos (by simp [State.running, running]), reset]
    simp only [Bool.false_eq_true, if_false, State.modLink, h]
  refine ⟨fun f hf answered other => sent _ ?_ ?_, fun none => sent _ ?_ ?_⟩
  · by_cases hl : l = .C
    · subst hl
      simp [State.softResetAnswered, hf, other rfl]
    · simp [hl]
  · simp [LinkPort.sent, hf, answered]
  · by_cases hl : l = .C
    · subst hl
      simp [State.softResetAnswered, none]
    · simp [hl]
  · simp [LinkPort.sent, none]

theorem readFrame_whole {isBusy : Bool} {l : Link} {c : Byte} {ps : List Byte} {check : Byte} (fits : ps.length ≤ 249) :
    readFrame isBusy l (0xA5 :: BitVec.ofNat 8 (ps.length + 1) :: c :: ps ++ [check]) =
      some (frameRead isBusy l (c :: ps) check) := by
  have len : (BitVec.ofNat 8 (ps.length + 1)).toNat = ps.length + 1 := by
    rw [BitVec.toNat_ofNat]
    omega
  have whole : (0xA5 : Byte) = 0xA5 ∧ 1 ≤ ps.length + 1 ∧ ps.length + 1 ≤ 250 ∧
      (c :: (ps ++ [check])).length = ps.length + 1 + 1 := ⟨rfl, by omega, by omega, by simp⟩
  have body : (c :: (ps ++ [check])).take (ps.length + 1) = c :: ps := by simp
  have last : (c :: (ps ++ [check])).getD (ps.length + 1) 0 = check := by simp
  show readFrame isBusy l (0xA5 :: BitVec.ofNat 8 (ps.length + 1) :: (c :: (ps ++ [check]))) = _
  rw [readFrame, len, if_pos whole, body, last]

/-- The body of a command's frame is its code and its parameters (R196). -/
theorem commandOf_frame {i : Instr} {l : Link} {code : Nat} {ps : List Byte} (h : i.frame = some (l, code, ps)) :
    commandOf l (BitVec.ofNat 8 code) ps = i := by
  cases i
  case unknownCommand k c qs =>
    by_cases unknown : commandTable.any fun r => decide (r.code = c.toNat)
    · exact absurd ((if_pos unknown).symm.trans h) (by simp)
    · obtain ⟨rfl, rfl, rfl⟩ := by simpa using (if_neg unknown).symm.trans h
      rw [BitVec.ofNat_toNat, BitVec.setWidth_eq]
      unfold commandOf
      split
      case h_50 => rfl
      all_goals
        rename_i row
        rw [row] at unknown
        exact absurd (by decide) unknown
  all_goals first
    | (obtain ⟨rfl, rfl, rfl⟩ := by simpa [Instr.frame] using h
       rfl)
    | cases h

theorem framesAreRead : Claims.FramesAreRead := by
  refine ⟨fun _ => rfl, by decide, fun i l code ps hf fits => ?_, fun l c ps check fits => ⟨?_, fun fails => ?_⟩⟩
  · have bytes : frameOf (BitVec.ofNat 8 code :: ps) = 0xA5 :: BitVec.ofNat 8 (ps.length + 1) :: BitVec.ofNat 8 code :: ps ++
        [crc8 (byte (BitVec.ofNat 8 code :: ps).length :: BitVec.ofNat 8 code :: ps)] := rfl
    rw [bytes, readFrame_whole fits]
    simp only [frameRead, framePasses, decide_true, if_true, Bool.false_eq_true, if_false, List.headD_cons, List.tail_cons,
      commandOf_frame hf]
  · exact readFrame_whole fits
  · have failed : framePasses (c :: ps) check = false := decide_eq_false fails
    rw [readFrame_whole fits, frameRead, failed]
    rfl

theorem responsesFit : Claims.ResponsesFit := by
  refine ⟨fun r => ⟨r.result.data, rfl, ?_, fun h => ?_, fun bs h short => ?_⟩, by decide⟩
  · have short : r.result.data.length ≤ 248 := List.length_take_le _ _
    omega
  · rw [h]
    rfl
  · rw [h]
    exact List.take_of_length_le short

/-- Settles O7. -/
theorem oneCommandAtATime : Obligations.OneCommandAtATime :=
  ⟨badFrameIsAnswered, framesOfABusyLinkAreOwed, sentResponsesFreeTheLink, framesAreRead, responsesFit⟩

-- the receiver (R182)

theorem bytes_append (r : Receiver) (as bs : List Byte) : r.bytes (as ++ bs) = (r.bytes as).bind fun x => x.bytes bs := by
  have gone (bs : List Byte) : bs.foldl (fun (x : Option Receiver) b => x.bind fun r => r.byte b) none = none := by
    induction bs with
    | nil => rfl
    | cons b bs ih => exact ih
  unfold Receiver.bytes
  rw [List.foldl_append]
  cases as.foldl (fun (x : Option Receiver) b => x.bind fun r => r.byte b) (some r) with
  | none => exact gone bs
  | some x => rfl

theorem bytes_cons {r x : Receiver} {b : Byte} (h : r.byte b = some x) (bs : List Byte) : r.bytes (b :: bs) = x.bytes bs := by
  simp [Receiver.bytes, h]

/-- The bytes of a body are counted up to its length. -/
theorem bytes_body {n : Nat} (body : List Byte) : ∀ {got : Nat}, got + body.length ≤ n →
    (Receiver.body n got).bytes body = some (.body n (got + body.length)) := by
  induction body with
  | nil => exact fun _ => rfl
  | cons b body ih =>
    intro got fits
    rw [List.length_cons] at fits
    have counted : (Receiver.body n got).byte b = some (.body n (got + 1)) := by
      rw [Receiver.byte, if_pos (by omega)]
    rw [bytes_cons counted, ih (by omega), List.length_cons]
    congr 2
    omega

theorem hunting_byte (b : Byte) : Receiver.hunting.byte b = some (if b = 0xA5 then .length else .hunting) := rfl

theorem bytes_of_frame {n : Nat} {body : List Byte} (hn : 1 ≤ n) (fits : n ≤ 250) (hbody : body.length = n) :
    Receiver.hunting.bytes ([0xA5, BitVec.ofNat 8 n] ++ body) = some (.body n n) := by
  have len : (BitVec.ofNat 8 n).toNat = n := by
    rw [BitVec.toNat_ofNat]
    omega
  have length : Receiver.length.byte (BitVec.ofNat 8 n) = some (.body n 0) := by
    rw [Receiver.byte, len, if_pos ⟨hn, fits⟩]
  show Receiver.hunting.bytes (0xA5 :: BitVec.ofNat 8 n :: body) = _
  rw [bytes_cons (hunting_byte 0xA5), if_pos rfl, bytes_cons length, bytes_body body (by omega), hbody, Nat.zero_add]

/-- What an abandonment makes of the link, the bytes before it taken. -/
theorem frameAbandoned_taken {l : Link} {bs : List Byte} {cause : AbandonCause} {r : Receiver} {s : State}
    (running : s.dev.supply = .running) (h : (s.link l).receiver.bytes bs = some r) :
    frameAbandoned l bs cause s = s.modLink l fun p =>
      if (r.abandon cause).2 then { p with receiver := (r.abandon cause).1, faults := min 65535 (p.faults + 1) }
      else { p with receiver := (r.abandon cause).1 } := by
  rw [frameAbandoned, if_pos (by simp [State.running, running])]
  simp only [State.modLink, h]
  rfl

/-- Settles O8. -/
theorem abandonedFramesAreCounted : Obligations.AbandonedFramesAreCounted := by
  refine ⟨fun n body check hn fits hbody => ⟨bytes_of_frame hn fits hbody, ?_⟩, fun l bs r b s running taken => ?_⟩
  · rw [Receiver.byte, if_neg (lt_irrefl n)]
  · have row (cause : AbandonCause) : exec (.frameAbandoned l bs cause) s = .next (s.modLink l fun p =>
        if (r.abandon cause).2 then { p with receiver := (r.abandon cause).1, faults := min 65535 (p.faults + 1) }
        else { p with receiver := (r.abandon cause).1 }) :=
      congrArg Host.Outcome.next (frameAbandoned_taken running taken)
    refine ⟨fun receiving => ⟨?_, ?_⟩, fun atLength bad => ?_, fun hunting => ⟨?_, ?_⟩⟩
    · simp [row, Receiver.abandon, receiving, hunting_byte]
    · simp [row, Receiver.abandon, receiving]
    · have fails : r.byte b = none := by
        rw [atLength, Receiver.byte, if_neg (by omega)]
      simp [row, Receiver.abandon, fails]
    · simp [row, Receiver.abandon, hunting]
    · simp [row, Receiver.abandon, hunting, hunting_byte]

end Sys2Proof.LinkFrames
end

section
/-! The event sets of the control links: raising an event, ATTN, EVENTS ACKNOWLEDGE and EVENT MASK SET (R173, R188, R189, R191,
R192). -/

namespace Sys2Proof.LinkEvents

-- the lemmas one after the other: in one text, all at once they ask for more threads than the compile has
set_option Elab.async false

open Sys2Proof.Machine Sys2Proof.Safety Sys2Proof.Laws Sys2Proof.TakenCommands

-- raising an event (R188)

theorem mem_addEvent_other {e : Event} {p : PendingEvent} (h : p.event.number ≠ e.number) (ps : List PendingEvent) :
    p ∈ addEvent e ps ↔ p ∈ ps := by
  have new (c : Nat) : p ≠ ⟨e, c⟩ := fun hp => h (by rw [hp])
  induction ps with
  | nil => simp [addEvent, new]
  | cons q ps ih =>
    unfold addEvent
    split
    · rename_i same
      have other : p ≠ q := fun hp => h (hp ▸ same)
      simp [new, other]
    · split
      · simp [new]
      · simp [ih]

theorem addEvent_ascending (e : Event) {ps : List PendingEvent} (h : Ascending ps) : Ascending (addEvent e ps) := by
  induction ps with
  | nil => exact List.pairwise_singleton _ _
  | cons q ps ih =>
    obtain ⟨first, rest⟩ := List.pairwise_cons.mp h
    unfold addEvent
    split
    · rename_i same
      exact List.pairwise_cons.mpr ⟨fun p hp => same ▸ first p hp, rest⟩
    · rename_i other
      split
      · rename_i below
        exact List.pairwise_cons.mpr ⟨fun p hp => (List.mem_cons.mp hp).elim (fun hq => hq ▸ below)
          fun hp => below.trans (first p hp), h⟩
      · rename_i above
        refine List.pairwise_cons.mpr ⟨fun p hp => ?_, ih rest⟩
        by_cases same : p.event.number = e.number
        · rw [same]
          omega
        · exact first p ((mem_addEvent_other same ps).mp hp)

/-- The event is pending, its count risen from what it had, which in a set in order is at its place. -/
theorem addEvent_count (e : Event) {ps : List PendingEvent} (h : Ascending ps) : ∃ p ∈ addEvent e ps, p.event = e ∧
    ((∀ q ∈ ps, q.event.number ≠ e.number) → p.count = 1) ∧
    ∀ q ∈ ps, q.event.number = e.number → p.count = min 255 (q.count + 1) := by
  induction ps with
  | nil => exact ⟨⟨e, 1⟩, by simp [addEvent], rfl, fun _ => rfl, fun q hq => by cases hq⟩
  | cons q ps ih =>
    obtain ⟨first, rest⟩ := List.pairwise_cons.mp h
    unfold addEvent
    split
    · rename_i same
      refine ⟨⟨e, countUp 255 q.count⟩, List.mem_cons_self, rfl, fun other => absurd same (other q List.mem_cons_self), ?_⟩
      intro x hx hn
      rcases List.mem_cons.mp hx with rfl | hx
      · rfl
      · have := first x hx
        omega
    · rename_i other
      split
      · rename_i below
        refine ⟨⟨e, 1⟩, List.mem_cons_self, rfl, fun _ => rfl, fun x hx hn => ?_⟩
        rcases List.mem_cons.mp hx with rfl | hx
        · exact absurd hn other
        · have := first x hx
          omega
      · obtain ⟨p, hp, he, new, old⟩ := ih rest
        refine ⟨p, List.mem_cons_of_mem _ hp, he, fun none => new fun x hx => none x (List.mem_cons_of_mem _ hx), ?_⟩
        intro x hx hn
        rcases List.mem_cons.mp hx with rfl | hx
        · exact absurd hn other
        · exact old x hx hn

theorem raisingAnEvent : Claims.RaisingAnEvent := by
  intro l e s ascending es
  have raised : es = addEvent e (s.link l).events := by simp [es, raise]
  rw [raised]
  exact ⟨addEvent_ascending e ascending, fun p other => mem_addEvent_other other _, addEvent_count e ascending,
    fun k other => link_modLink_ne other _ s⟩

theorem attnFollowsThePendingEvents : Claims.AttnFollowsThePendingEvents := by
  intro l s running
  refine ⟨fun up => ?_, fun out => ?_⟩
  · simp [State.attn, State.live, up]
  · simp [State.attn, State.live, running, out]

/-- Settles O3. -/
theorem eventsArePendingAndSignalled : Obligations.EventsArePendingAndSignalled :=
  ⟨raisingAnEvent, attnFollowsThePendingEvents⟩

-- EVENTS ACKNOWLEDGE (R191, R173)

/-- What one pair leaves of a pending event (R191). -/
def acknowledged (n c : Nat) (p : PendingEvent) : Option PendingEvent :=
  if p.event.number ≠ n then some p
  else if c = 0 ∨ p.count ≤ c then none
  else some { p with count := p.count - c }

theorem acknowledged_other {n : Nat} {p : PendingEvent} (h : p.event.number ≠ n) (c : Nat) : acknowledged n c p = some p :=
  if_pos h

theorem acknowledged_same {n : Nat} {p : PendingEvent} (h : p.event.number = n) (c : Nat) : acknowledged n c p =
    if c = 0 ∨ p.count ≤ c then none else some { p with count := p.count - c } :=
  if_neg (not_not.mpr h)

/-- One pair applied to a set in order, event by event. -/
theorem acknowledgeOne_eq (n c : Nat) {ps : List PendingEvent} (h : Ascending ps) :
    acknowledgeOne n c ps = ps.filterMap (acknowledged n c) := by
  have others (qs : List PendingEvent) (hq : ∀ q ∈ qs, q.event.number ≠ n) : qs.filterMap (acknowledged n c) = qs := by
    induction qs with
    | nil => rfl
    | cons q qs ih =>
      rw [List.filterMap_cons_some (acknowledged_other (hq q List.mem_cons_self) c),
        ih fun x hx => hq x (List.mem_cons_of_mem _ hx)]
  induction ps with
  | nil => rfl
  | cons q ps ih =>
    obtain ⟨first, rest⟩ := List.pairwise_cons.mp h
    unfold acknowledgeOne
    by_cases same : q.event.number = n
    · have left := others ps fun x hx hn => by
        have := first x hx
        omega
      rw [if_pos same, List.filterMap_cons, acknowledged_same same, left]
      by_cases clears : c = 0 ∨ q.count ≤ c
      · simp only [clears, if_true]
      · simp only [clears, if_false]
    · rw [if_neg same, List.filterMap_cons_some (acknowledged_other same c), ih rest]

theorem eventsAcknowledge_checks {l : Link} {s : State} (h : Takes l s) (n c : Byte) :
    failedCheck l 0x04 [n, c] (frameComplete l s) = none :=
  checks_pass h [.P, .C, .S, .A] .pairs rfl (by cases l <;> rfl) (show ParamBytes.pairs.admits 2 = true from rfl)

/-- The pair clears the pending flags of the panel: it has cleared PANEL_INPUT on link C (R173). -/
def ClearsFlags (l : Link) (n c : Nat) (s : State) : Prop :=
  l = .C ∧ n = 0x20 ∧ (∃ p ∈ (s.link .C).events, p.event.number = 0x20) ∧
    ∀ p ∈ acknowledgeOne n c (s.link .C).events, p.event.number ≠ 0x20

theorem pendingEvent_isSome (s : State) (l : Link) (n : Nat) :
    (s.pendingEvent l n).isSome = true ↔ ∃ p ∈ (s.link l).events, p.event.number = n := by
  simp [State.pendingEvent, List.find?_isSome]

theorem pendingEvent_isNone (s : State) (l : Link) (n : Nat) :
    (s.pendingEvent l n).isNone = true ↔ ∀ p ∈ (s.link l).events, p.event.number ≠ n := by
  simp [State.pendingEvent, List.find?_eq_none]

/-- What one pair makes of the state: the events of the link, and the pending flags of the panel. -/
theorem acknowledge_cases (l : Link) (n c : Nat) (s : State) :
    (ClearsFlags l n c s ∧ acknowledge l n c s =
      clearPanelFlags (s.modLink l fun p => { p with events := acknowledgeOne n c p.events })) ∨
    (¬ClearsFlags l n c s ∧ acknowledge l n c s = s.modLink l fun p => { p with events := acknowledgeOne n c p.events }) := by
  have cleared : ClearsFlags l n c s ↔ l = .C ∧ n = panelInputNumber ∧ (s.pendingEvent .C n).isSome = true ∧
      ((s.modLink l fun p => { p with events := acknowledgeOne n c p.events }).pendingEvent .C n).isNone = true := by
    rw [pendingEvent_isSome, pendingEvent_isNone, ClearsFlags]
    constructor
    · rintro ⟨rfl, rfl, some, none⟩
      exact ⟨rfl, rfl, some, by simpa [panelInputNumber] using none⟩
    · rintro ⟨rfl, rfl, some, none⟩
      exact ⟨rfl, rfl, some, by simpa [panelInputNumber] using none⟩
  by_cases h : ClearsFlags l n c s
  · exact .inl ⟨h, if_pos (cleared.mp h)⟩
  · exact .inr ⟨h, if_neg fun hc => h (cleared.mpr hc)⟩

@[simp] theorem clearPanelFlags_link (l : Link) (s : State) : (clearPanelFlags s).link l = s.link l := rfl

@[simp] theorem clearPanelFlags_links (s : State) : (clearPanelFlags s).links = s.links := rfl

theorem clearPanelFlags_frameComplete (l : Link) (s : State) :
    clearPanelFlags (frameComplete l s) = frameComplete l (clearPanelFlags s) := by
  cases l <;> rfl

theorem acknowledge_frameComplete (l : Link) (n c : Nat) (s : State) :
    acknowledge l n c (frameComplete l s) = frameComplete l (acknowledge l n c s) := by
  have events (k : Link) : ((frameComplete l s).link k).events = (s.link k).events := by
    by_cases h : k = l
    · subst h
      simp [frameComplete]
    · simp [frameComplete, h]
  have moved : (frameComplete l s).modLink l (fun p => { p with events := acknowledgeOne n c p.events }) =
      frameComplete l (s.modLink l fun p => { p with events := acknowledgeOne n c p.events }) := by
    simp [frameComplete]
  have same : ClearsFlags l n c (frameComplete l s) ↔ ClearsFlags l n c s := by simp only [ClearsFlags, events]
  rcases acknowledge_cases l n c (frameComplete l s) with ⟨hc, h⟩ | ⟨hc, h⟩ <;>
    rcases acknowledge_cases l n c s with ⟨kc, k⟩ | ⟨kc, k⟩
  · rw [h, k, moved, clearPanelFlags_frameComplete]
  · exact absurd (same.mp hc) kc
  · exact absurd (same.mpr kc) hc
  · rw [h, k, moved]

/-- EVENTS ACKNOWLEDGE of one pair, taken. -/
theorem exec_eventsAcknowledge {l : Link} {n c : Byte} {s : State} (h : Takes l s) (hn : n.toNat ∈ linkEvents l) :
    exec (.eventsAcknowledge l [n, c]) s = .next (answered l 0x04 .ok
      (.remaining ((acknowledgeOne n.toNat c.toNat (s.link l).events).map fun p => p.event.number))
      (acknowledge l n.toNat c.toNat s)) := by
  have left : ((acknowledge l n.toNat c.toNat s).link l).events = acknowledgeOne n.toNat c.toNat (s.link l).events := by
    rcases acknowledge_cases l n.toNat c.toNat s with ⟨-, e⟩ | ⟨-, e⟩
    · rw [e, clearPanelFlags_link, link_modLink]
    · rw [e, link_modLink]
  refine congrArg Host.Outcome.next (command_ok h (eventsAcknowledge_checks h n c) ?_)
  have all : ((ackPairs [n, c]).all fun x => (linkEvents l).contains x.1) = true := by simpa [ackPairs] using hn
  rw [eventsAcknowledgeOwner, if_pos all]
  simp only [ackPairs, List.foldl_cons, List.foldl_nil, acknowledge_frameComplete]
  simp only [frameComplete, link_modLink, left]

theorem acknowledge_links (l : Link) (n c : Nat) (s : State) : (acknowledge l n c s).links =
    (s.modLink l fun p => { p with events := acknowledgeOne n c p.events }).links := by
  rcases acknowledge_cases l n c s with ⟨-, e⟩ | ⟨-, e⟩
  · rw [e, clearPanelFlags_links]
  · rw [e]

theorem acknowledge_line (l : Link) (n c : Nat) (s : State) (i : Fin 8) : (acknowledge l n c s).panel.lines[i] =
    { s.panel.lines[i] with flag := if l = .C ∧ n = 0x20 ∧ (∃ p ∈ (s.link .C).events, p.event.number = 0x20) ∧
      (∀ p ∈ ((acknowledge l n c s).link .C).events, p.event.number ≠ 0x20) then false else s.panel.lines[i].flag } := by
  have left (hl : l = .C) : ((acknowledge l n c s).link .C).events = acknowledgeOne n c (s.link .C).events := by
    subst hl
    rw [State.link, acknowledge_links, ← State.link, link_modLink]
  have clears : (l = .C ∧ n = 0x20 ∧ (∃ p ∈ (s.link .C).events, p.event.number = 0x20) ∧
      ∀ p ∈ ((acknowledge l n c s).link .C).events, p.event.number ≠ 0x20) ↔ ClearsFlags l n c s :=
    and_congr_right fun hl => by rw [left hl]
  rcases acknowledge_cases l n c s with ⟨hc, e⟩ | ⟨hc, e⟩
  · rw [if_pos (clears.mpr hc), e]
    simp [clearPanelFlags, State.modLink]
  · rw [if_neg (mt clears.mp hc), e]
    rfl

/-- One pair changes nothing but the links and the panel's lines. -/
theorem acknowledge_rest (l : Link) (n c : Nat) (s : State) :
    { acknowledge l n c s with links := s.links, panel := { (acknowledge l n c s).panel with lines := s.panel.lines } } = s := by
  rcases acknowledge_cases l n c s with ⟨-, e⟩ | ⟨-, e⟩
  · rw [e]
    rfl
  · rw [e]
    rfl

theorem answered_links {l : Link} {code : Nat} {st : Status} {r : Result} {s t : State} (h : t.links = s.links) :
    (answered l code st r t).links = (answered l code st r s).links := by
  simp only [answered, State.modLink, State.link, h]

theorem link_answered_events (k l : Link) (code : Nat) (st : Status) (r : Result) (s : State) :
    ((answered l code st r s).link k).events = (s.link k).events := by
  cases k <;> cases l <;> rfl

theorem acknowledgingAnEvent : Claims.AcknowledgingAnEvent := by
  intro l n c s h
  refine ⟨fun other => ?_, fun own ascending => ⟨_, exec_eventsAcknowledge h own, ⟨_, rfl, ?_⟩, fun i => ?_, ?_⟩⟩
  · refine congrArg Host.Outcome.next (command_refused h (eventsAcknowledge_checks h n c) ?_)
    exact if_neg (by simpa [ackPairs] using other)
  · have filtered := acknowledgeOne_eq n.toNat c.toNat ascending
    refine (congrArg State.links (congrArg (answered l 0x04 .ok · _) ?_)).trans (answered_links ?_)
    · rw [filtered]
      rfl
    · rw [acknowledge_links]
      simp only [State.modLink, filtered]
      rfl
  · rw [link_answered_events]
    exact acknowledge_line l n.toNat c.toNat s i
  · exact acknowledge_rest l n.toNat c.toNat s

-- EVENT MASK SET (R192)

theorem eventMaskSet_checks {l : Link} {s : State} {ps : List Byte} (h : Takes l s) (fits : ps.length ≤ 25) :
    failedCheck l 0x05 ps (frameComplete l s) = none :=
  checks_pass h [.P, .C, .S, .A] (.upTo 25) rfl (by cases l <;> rfl) (decide_eq_true fits)

/-- EVENT MASK SET, taken. -/
theorem exec_eventMaskSet {l : Link} {s : State} {ps : List Byte} (h : Takes l s) (fits : ps.length ≤ 25)
    (own : ∀ b ∈ ps, b.toNat ∈ linkEvents l) : exec (.eventMaskSet l ps) s = .next (answered l 0x05 .ok .none
      (s.modLink l fun p => { p with
        enabled := (linkEvents l).filter fun n => ps.any fun b => decide (b.toNat = n) })) := by
  refine congrArg Host.Outcome.next (command_ok h (eventMaskSet_checks h fits) ?_)
  rw [eventMaskSetOwner, if_pos (by simpa using own)]
  simp [frameComplete]

theorem settingTheEventMask : Claims.SettingTheEventMask := by
  intro l ps s h fits
  refine ⟨fun own => ⟨_, exec_eventMaskSet h fits own, fun n => ?_, ?_⟩, fun other => ?_⟩
  · simp [answered]
  · simp [answered]
  · refine congrArg Host.Outcome.next (command_refused h (eventMaskSet_checks h fits) ?_)
    exact if_neg (by simpa using other)

/-- Settles O4. -/
theorem eventsAreAcknowledgedAndMasked : Obligations.EventsAreAcknowledgedAndMasked :=
  ⟨acknowledgingAnEvent, settingTheEventMask⟩

end Sys2Proof.LinkEvents
end

section
/-! The boundaries taken apart: what an output and an input block boundary do with nothing left from before, and what the events
they find leave as it is. -/

namespace Sys2Proof.Boundaries

-- the lemmas one after the other: in one text, all at once they ask for more threads than the compile has
set_option Elab.async false

open Sys2Proof.Machine Sys2Proof.Safety Sys2Proof.Laws Sys2Proof.LawKeeping

theorem live_same {s t : State} (h : (t.dev.supply, t.dev.state) = (s.dev.supply, s.dev.state)) : t.live = s.live := by
  obtain ⟨supply, state⟩ := Prod.mk.inj h
  simp only [State.live, supply, state]

theorem applyUpsets_none (s : State) : applyUpsets [] s = s := rfl

theorem takeEach_nothing {s : State} (h : s.due = []) (ds : List Due) : takeEach ds s = s :=
  takeEach_not_due fun _ _ hd => by simp [h] at hd

/-- What an output block boundary counts and sends after the Delay Unit's work. -/
def outputCounted (s : State) : State := countSilence (sendOutputs (sendFrame (countConfirm (countAge s))))

/-- What an output block boundary does after the Delay Unit's work, the events it finds among it. -/
def outputRest (env : OutputBoundary) (s : State) : State :=
  settleDue env.first env.leave (findDue outputDue (outputCounted s))

/-- An output block boundary with nothing left from before, and no upset. -/
theorem exec_outputBoundary {env : OutputBoundary} {s : State} (live : s.live = true) (due : s.due = [])
    (upsets : env.upsets = []) : exec (.outputBlockBoundary env) s = .next (outputRest env (outputDelay s)) := by
  refine congrArg Host.Outcome.next ?_
  rw [outputBoundary, if_pos live, takeEach_nothing due, outputWork, upsets, applyUpsets_none]
  rfl

theorem outputCounted_touches (s : State) : Touches [.tx, .alerts, .port, .sup] s (outputCounted s) :=
  (((((Touches.refl _ s).and (tx_touches _ _)).and (mapRecords_touches _ _ _)).and (sendFrame_touches _)).and
    (port_touches _ _)).and (countSilence_touches _)

theorem outputCounted_lawful (s : State) : Lawful false s (outputCounted s) := by
  have counted : Lawful false s (countConfirm (countAge s)) := by
    refine (tx_lawful s).trans (mapRecords_lawful (fun r => ?_) _)
    rfl
  exact ((counted.trans (sendFrame_lawful _)).trans (quiet (port_touches _ _))).trans (countSilence_lawful _)

theorem outputRest_lawful (env : OutputBoundary) (s : State) : Lawful true s (outputRest env s) :=
  ((outputCounted_lawful s).withTakes.trans (quiet (findDue_touches _ _))).trans (settleDue_lawful _ _ _)

theorem outputRest_air (env : OutputBoundary) (s : State) : (outputRest env s).air = s.air := by
  have settled (t : State) : Touches dueParts t (settleDue env.first env.leave (findDue outputDue t)) :=
    ((Touches.refl dueParts t).and (findDue_touches outputDue t)).trans (settleDue_touches _ _ _)
  have found : (outputRest env s).air = (outputCounted s).air := settled _ .air (by decide)
  exact found.trans (outputCounted_touches s .air (by decide))

/-- Left to their rows, the events found change nothing: none of them is one that has no row. -/
theorem settleDue_left {s : State} (h : ∀ d ∈ s.due, d ∉ reportsDue ++ actionsDue) : settleDue [] true s = s :=
  takeEach_not_due fun d hd hs => h d hs hd

/-- An output block boundary whose events are left to their rows, with nothing left from before. -/
theorem outputRest_left {env : OutputBoundary} {s : State} (due : s.due = []) (first : env.first = []) (leave : env.leave = true) :
    outputRest env s = findDue outputDue (outputCounted s) := by
  have same : (outputCounted s).due = s.due := outputCounted_touches s .due (by decide)
  rw [outputRest, first, leave]
  refine settleDue_left fun d hd => ?_
  rw [findDue, same, due] at hd
  exact (by decide : ∀ d ∈ outputDue, d ∉ reportsDue ++ actionsDue) d (List.mem_of_mem_filter (by simpa using hd))

/-- What an input block boundary does once its blocks are complete: the mix, the uses of the block formed, captures, counts. -/
def inputRest (env : InputBoundary) (s : State) : State :=
  countProfile (countWindow (countPlayed (countMeasure (countCaptured (runCaptures env.captures (useFormed s))))))

/-- The state in which an input block boundary has the sources' blocks complete. -/
def completed (env : InputBoundary) (s : State) : State := countReturn env.clock (completeInputs env.bus s)

/-- What an input block boundary finds and takes. -/
def inputEvents (env : InputBoundary) (s : State) : State :=
  settleDue env.first env.leave (samplePanels env.pins (findToneEnd (findDue inputDue s)))

theorem exec_inputBoundary {env : InputBoundary} {s : State} (live : s.live = true) (due : s.due = []) :
    exec (.inputBlockBoundary env) s =
      .next (inputEvents env (inputRest env (formBlock (completed env (applyUpsets env.upsets s))))) := by
  refine congrArg Host.Outcome.next ?_
  rw [inputBoundary, if_pos live, takeEach_nothing due]
  rfl

end Sys2Proof.Boundaries
end

section
/-! The Delay Unit (chapter 03): its commands, dumps, the shape of a read, the reads of an output block boundary. -/

namespace Sys2Proof.DelayReads

-- the lemmas one after the other: in one text, all at once they ask for more threads than the compile has
set_option Elab.async false

open Sys2Proof.Machine Sys2Proof.Safety Sys2Proof.Laws Sys2Proof.LawKeeping Sys2Proof.Boundaries Sys2Proof.TakenCommands
  Sys2Proof.LinkEvents

-- the shape of a read (R46)

theorem rangeValue_le {c : DelaySettings} (h1 : c.s1 ≤ 48) (h2 : c.s2 ≤ 48) (h3 : c.s3 ≤ 48) (h4 : c.s4 ≤ 48) (d : Nat) :
    rangeValue c d ≤ 48 := by
  unfold rangeValue
  split
  · exact h1
  · split
    · exact h2
    · split
      · exact h3
      · exact h4

/-- Settles O18. -/
theorem readShapesApproachTheTarget : Obligations.ReadShapesApproachTheTarget := by
  intro c e et peak ab bc h1 h2 h3 h4 value doubled
  have table (d : Nat) : value d = rangeValue c d := by
    simp only [value, rangeValue]
    have := h1
    split_ifs <;> first | rfl | omega
  have small (d : Nat) : value d ≤ 48 := table d ▸ rangeValue_le h1 h2 h3 h4 d
  refine ⟨rfl, fun below zero => ?_, fun below some => ⟨?_, ?_⟩, fun above zero => ?_, fun above some => ?_, fun same => ?_⟩
  · rw [table] at zero
    simp [chooseShape, below, zero]
  · simp only [doubled, table] at some ⊢
    simp [chooseShape, below, some]
  · have := small (et - e)
    simp only [doubled]
    split_ifs <;> omega
  · simp [chooseShape, not_lt.mpr above.le, above, zero]
  · have one : min c.q (e - et) ≠ 0 := by omega
    simp [chooseShape, not_lt.mpr above.le, above, one]
  · simp [chooseShape, same]

-- DELAY TARGET SET, DELAY SETTINGS SET and DUMP (R39, R51, R54)

theorem workOutDelay_eq (s : State) : workOutDelay s =
    let st := delayStateOf s.onAir s.delay.excess s.delay.targetSamples
    if st.isSafe = s.delay.state.isSafe then { s with delay := { s.delay with state := st } }
    else (raise .C (.delaySafeChanged st.isSafe) { s with delay := { s.delay with state := st } }).report
      fun r => { r with delaySafe := st.isSafe } := rfl

theorem isSafe_eq (d : DelayState) : d.isSafe = (decide (d = .safe) || decide (d = .shrinking)) := by
  cases d <;> rfl

theorem delayStateOf_eq (s : State) (e et : Nat) : delayStateOf s.onAir e et =
    if s.dev.state ≠ .onAir then .off else if e < et then .building else if e = et then .safe else .shrinking := by
  by_cases h : s.dev.state = .onAir <;> simp [delayStateOf, State.onAir, h]

/-- The delay state worked out, DELAY SAFE as R40 defines it. -/
theorem workOutDelay_of {s : State} {st : DelayState}
    (h : delayStateOf s.onAir s.delay.excess s.delay.targetSamples = st) : workOutDelay s =
      let now := decide (st = .safe) || decide (st = .shrinking)
      if now = (decide (s.delay.state = .safe) || decide (s.delay.state = .shrinking)) then
        { s with delay := { s.delay with state := st } }
      else raise .C (.delaySafeChanged now) { s with
        delay := { s.delay with state := st }
        panel := { s.panel with reports := { s.panel.reports with delaySafe := now } } } := by
  subst h
  rw [workOutDelay_eq]
  simp only [isSafe_eq]
  rfl

theorem workOutDelay_frameComplete (l : Link) (s : State) :
    workOutDelay (frameComplete l s) = frameComplete l (workOutDelay s) := by
  have raised (e : Event) (d : Delay) :
      raise .C e { frameComplete l s with delay := d } = frameComplete l (raise .C e { s with delay := d }) :=
    raise_frameComplete .C l e { s with delay := d }
  rw [workOutDelay_eq, workOutDelay_eq]
  have same : (frameComplete l s).delay = s.delay := rfl
  have onAir : (frameComplete l s).onAir = s.onAir := rfl
  simp only [same, onAir]
  split
  · cases l <;> rfl
  · rw [raised]
    rfl

theorem delayTargetSetTakesTheTarget : Claims.DelayTargetSetTakesTheTarget := by
  intro hi lo s h target state safeBefore safeNow t
  have checks : failedCheck .C 0x33 [hi, lo] (frameComplete .C s) = none :=
    checks_pass h [.C] (.exactly 2) rfl rfl rfl
  have moved : workOutDelay { s with delay := { s.delay with target := target } } = if safeNow = safeBefore then t
      else raise .C (.delaySafeChanged safeNow)
        { t with panel := { t.panel with reports := { t.panel.reports with delaySafe := safeNow } } } :=
    workOutDelay_of (delayStateOf_eq _ _ _)
  rw [← moved]
  exact congrArg Host.Outcome.next (command_ok h checks (congrArg (Reply.ok · (.target target))
    (workOutDelay_frameComplete .C { s with delay := { s.delay with target := target } })))

theorem delaySettingsSet_checks {ps : List Byte} {s : State} (h : Takes .C s) (hl : ps.length = 16) :
    failedCheck .C 0x35 ps (frameComplete .C s) = none :=
  checks_pass h [.C] (.exactly 16) rfl rfl (decide_eq_true hl)

theorem delaySettingsSetTakesThemAll : Claims.DelaySettingsSetTakesThemAll := by
  intro a1 a0 b1 b0 c1 c0 s1 s2 s3 s4 q t2 t1 t0 d1 d0 s h bA bB bC quiet dumpStep ps taken good
  have spelled : delaySettingsOf ps = if good then some taken else none := rfl
  refine ⟨fun fits => congrArg Host.Outcome.next (command_ok h (delaySettingsSet_checks h rfl) (t :=
    { s with delay := { s.delay with settings := taken } }) ?_),
    fun bad => congrArg Host.Outcome.next (command_refused h (delaySettingsSet_checks h rfl) ?_)⟩
  · rw [delaySettingsSetOwner, spelled, if_pos fits]
    rfl
  · rw [delaySettingsSetOwner, spelled, if_neg bad]

/-- DUMP is taken ON_AIR, in every air mode (R187). -/
theorem dump_checks {s : State} (h : Takes .C s) (onAir : s.dev.state = .onAir) :
    failedCheck .C 0x34 [] (frameComplete .C s) = none := by
  obtain ⟨-, st, -⟩ := h
  rcases st with st | ⟨-, mode⟩
  · simp [onAir] at st
  · obtain ⟨m, hm⟩ := Option.isSome_iff_exists.mp mode
    have row : commandTable.find? (fun r => decide (r.code = 0x34)) =
        some ⟨0x34, [.C], false, true, true, true, .exactly 0⟩ := rfl
    rw [failedCheck, row]
    cases m <;> simp [CommandRow.taken, frameComplete, State.modLink, onAir, hm, ParamBytes.admits]

theorem dumpBecomesPending : Claims.DumpBecomesPending := by
  intro s h onAir
  refine ⟨fun off => congrArg Host.Outcome.next (command_refused h (dump_checks h onAir) (if_pos off)), fun running noAlerts => ?_⟩
  have taken : ¬(s.delay.state = .off ∨ 0 < s.delay.alertSegs) := by simp [running, noAlerts]
  have asked : exec (.dump .C []) s = .next (answered .C 0x34 .ok .none { s with delay := { s.delay with
      dump := some (joinDump s.delay.dump (.blocks s.delay.settings.dumpStep)) } }) :=
    congrArg Host.Outcome.next (command_ok h (dump_checks h onAir) (if_neg taken))
  rw [asked]
  rcases s.delay.dump with _ | _ | _ <;> rfl

/-- Settles O16. -/
theorem delayCommands : Obligations.DelayCommands :=
  ⟨delayTargetSetTakesTheTarget, delaySettingsSetTakesThemAll, dumpBecomesPending⟩

-- dumps (R53, law 6)

/-- The stored segment `i` places after the read position's is tagged with an alert and not yet read. -/
def AlertAhead (s : State) (seg i : Nat) : Prop :=
  i < (s.delay.writeHead + s.mem.ring - seg) % s.mem.ring ∧ (s.mem.read ((seg + i) % s.mem.ring)).alertId.isSome = true

/-- L, when it is finite, is the distance of an alert segment, and none stands nearer; else none stands ahead (R53). -/
theorem samplesToAlert_cases (s : State) (seg off : Nat) :
    (samplesToAlert s.mem s.delay.writeHead (seg, off) = none ∧ ∀ i, ¬AlertAhead s seg i) ∨
    ∃ i, samplesToAlert s.mem s.delay.writeHead (seg, off) = some (480 * i - off) ∧ AlertAhead s seg i ∧
      ∀ j, AlertAhead s seg j → i ≤ j := by
  unfold samplesToAlert
  cases hf : (List.range ((s.delay.writeHead + s.mem.ring - seg) % s.mem.ring)).find? fun i =>
      (s.mem.ringSegment seg i).alertId.isSome with
  | none =>
    refine .inl ⟨rfl, fun i ⟨near, tagged⟩ => ?_⟩
    exact absurd tagged (List.find?_eq_none.mp hf i (List.mem_range.mpr near))
  | some i =>
    obtain ⟨near, tagged, before⟩ := List.find?_range_eq_some.mp hf
    refine .inr ⟨i, rfl, ⟨List.mem_range.mp tagged, near⟩, fun j ⟨_, other⟩ => ?_⟩
    by_contra below
    exact absurd other (by simpa [SampleMemory.ringSegment] using before j (not_le.mp below))

theorem dumpAmount_spec (step : DumpStep) (seg off : Nat) (s : State) :
    let n := dumpAmount step s.delay.excess (samplesToAlert s.mem s.delay.writeHead (seg, off))
    n ≤ s.delay.excess ∧ (∀ k, step = .blocks k → n ≤ 480 * k) ∧ (∀ i, AlertAhead s seg i → n ≤ 480 * i - off) ∧
      (n = s.delay.excess ∨ (∃ k, step = .blocks k ∧ n = 480 * k) ∨ ∃ i, AlertAhead s seg i ∧ n = 480 * i - off) := by
  intro n
  rcases samplesToAlert_cases s seg off with ⟨far, nothing⟩ | ⟨i, near, ahead, first⟩
  · cases step with
    | blocks k =>
      have hn : n = min (480 * k) s.delay.excess := by simp only [n, dumpAmount, far]
      refine ⟨by omega, ?_, fun i hi => absurd hi (nothing i), ?_⟩
      · rintro _ ⟨⟩
        omega
      · rcases le_total (480 * k) s.delay.excess with le | le
        · exact .inr (.inl ⟨k, rfl, by omega⟩)
        · exact .inl (by omega)
    | unlimited =>
      have hn : n = s.delay.excess := by simp only [n, dumpAmount, far]
      exact ⟨hn.le, fun k hk => (by cases hk), fun i hi => absurd hi (nothing i), .inl hn⟩
  · have within (j : Nat) (hj : AlertAhead s seg j) : 480 * i - off ≤ 480 * j - off := by
      have := first j hj
      omega
    cases step with
    | blocks k =>
      have hn : n = min (min (480 * k) s.delay.excess) (480 * i - off) := by simp only [n, dumpAmount, near]
      refine ⟨by omega, ?_, fun j hj => ?_, ?_⟩
      · rintro _ ⟨⟩
        omega
      · have := within j hj
        omega
      · rcases min_choice (min (480 * k) s.delay.excess) (480 * i - off) with e | e
        · rcases min_choice (480 * k) s.delay.excess with e' | e'
          · exact .inr (.inl ⟨k, rfl, by omega⟩)
          · exact .inl (by omega)
        · exact .inr (.inr ⟨i, ahead, by omega⟩)
    | unlimited =>
      have hn : n = min s.delay.excess (480 * i - off) := by simp only [n, dumpAmount, near]
      refine ⟨by omega, fun k hk => (by cases hk), fun j hj => ?_, ?_⟩
      · have := within j hj
        omega
      · rcases min_choice s.delay.excess (480 * i - off) with e | e
        · exact .inl (by omega)
        · exact .inr (.inr ⟨i, ahead, by omega⟩)

theorem carryOutDump_pending {step : DumpStep} {pos : Nat × Nat} {s : State} (hd : s.delay.dump = some step)
    (hp : s.delay.readPos = some pos) : carryOutDump s =
      let n := dumpAmount step s.delay.excess (samplesToAlert s.mem s.delay.writeHead pos)
      (if n = 0 then id else raise .C (.delayDumped n)) { s with delay := { s.delay with
        dump := none, excess := s.delay.excess - n, readPos := some (advance s.mem.ring pos n) } } := by
  unfold carryOutDump
  rw [hd, hp]
  dsimp only
  split <;> rfl

theorem carryOutDump_none {s : State} (hd : s.delay.dump = none) : carryOutDump s = s := by
  unfold carryOutDump
  rw [hd]
  dsimp only
  rw [← hd]

theorem dumpsStopAtAnAlert_amount : Claims.DumpsStopAtAnAlert := by
  intro step seg off s hd hp within
  obtain ⟨excess, blocks, ahead, least⟩ := dumpAmount_spec step seg off s
  refine ⟨_, excess, blocks, fun i near tagged => ahead i ⟨near, tagged⟩, ?_, carryOutDump_pending hd hp⟩
  exact least.imp_right (Or.imp_right fun ⟨i, ⟨near, tagged⟩, hn⟩ => ⟨i, near, tagged, hn⟩)

/-- With a dump pending, the Delay Unit's work at an output block boundary is what follows from the state the dump leaves. -/
theorem outputDelay_carryOutDump {step : DumpStep} {pos : Nat × Nat} {s : State} (hd : s.delay.dump = some step)
    (hp : s.delay.readPos = some pos) (running : s.delay.state ≠ .off) : outputDelay (carryOutDump s) = outputDelay s := by
  have left : (carryOutDump s).delay.state = s.delay.state ∧ (carryOutDump s).delay.dump = none := by
    rw [carryOutDump_pending hd hp]
    dsimp only
    split <;> exact ⟨rfl, rfl⟩
  unfold outputDelay
  rw [if_neg running, if_neg (left.1.symm ▸ running), carryOutDump_none left.2]

theorem dumpsAreCarriedOut : Claims.DumpsAreCarriedOut := by
  intro env step pos s live due upsets running hd hp
  have touched := carryOutDump_touches s
  have due' : (carryOutDump s).due = s.due := touched .due (by decide)
  have live' : (carryOutDump s).live = true := (live_same (touched .runs (by decide))).trans live
  rw [exec_outputBoundary live due upsets, exec_outputBoundary live' (due'.trans due) upsets,
    outputDelay_carryOutDump hd hp running]

/-- Settles O17. -/
theorem dumpsStopAtAnAlert : Obligations.DumpsStopAtAnAlert := ⟨dumpsStopAtAnAlert_amount, dumpsAreCarriedOut⟩

-- the read of an output block boundary (R46 to R50)

/-- The Delay Unit's work with nothing to dump, programme in the delay and a read position. -/
theorem outputDelay_read {pos : Nat × Nat} {s : State} (running : s.delay.state ≠ .off) (hd : s.delay.dump = none)
    (fed : s.delay.fed = true) (hp : s.delay.readPos = some pos) : outputDelay s = workOutDelay (readDelay pos s) := by
  unfold outputDelay
  rw [if_neg running, carryOutDump_none hd]
  simp only [fed, if_true, hp]

/-- What an output block boundary with a read at `pos` makes of the Delay Unit and of AIR. -/
structure ReadAt (pos : Nat × Nat) (s t : State) : Prop where
  excess : t.delay.excess = (s.readShape pos).excessAfter s.delay.excess
  readPos : t.delay.readPos = some (advance s.mem.ring pos (s.readShape pos).consumed)
  alertSegs : t.delay.alertSegs = s.delay.alertSegs - s.mem.alertsIn pos.1 ((pos.2 + (s.readShape pos).consumed) / 480)
  air : t.air = s.airBlock pos (s.readShape pos).consumed

theorem readAt_boundary {env : OutputBoundary} {pos : Nat × Nat} {s : State} (live : s.live = true) (due : s.due = [])
    (upsets : env.upsets = []) (running : s.delay.state ≠ .off) (hd : s.delay.dump = none) (fed : s.delay.fed = true)
    (hp : s.delay.readPos = some pos) : ∃ t, exec (.outputBlockBoundary env) s = .next t ∧ ReadAt pos s t := by
  refine ⟨_, exec_outputBoundary live due upsets, ?_⟩
  rw [outputDelay_read running hd fed hp]
  have rest := (outputRest_lawful env (workOutDelay (readDelay pos s))).delay
  have worked := workOutDelay_delay (readDelay pos s)
  have air : (workOutDelay (readDelay pos s)).air = (readDelay pos s).air := workOutDelay_touches _ .air (by decide)
  refine ⟨?_, ?_, ?_, ?_⟩
  · exact (congrArg Delay.excess rest :).trans (congrArg Delay.excess worked)
  · exact (congrArg Delay.readPos rest :).trans (congrArg Delay.readPos worked)
  · exact (congrArg Delay.alertSegs rest :).trans (congrArg Delay.alertSegs worked)
  · exact (outputRest_air env _).trans air

theorem eachReadMovesTheReadPosition : Claims.EachReadMovesTheReadPosition := by
  intro env seg off s live due upsets running hd fed hp
  obtain ⟨t, ht, excess, readPos, alertSegs, -⟩ := readAt_boundary live due upsets running hd fed hp
  refine ⟨t, ht, fun n hn => ?_, fun n hn => ?_, fun hn => ?_, alertSegs⟩
  · exact ⟨by rw [excess, hn]; rfl, by rw [readPos, hn]; rfl⟩
  · exact ⟨by rw [excess, hn]; rfl, by rw [readPos, hn]; rfl⟩
  · exact ⟨by rw [excess, hn]; rfl, by rw [readPos, hn]; rfl⟩

/-- The shape of a read in the words of R46 and R48. -/
theorem readShape_eq {seg off : Nat} {s : State} (within : off < 480) : s.readShape (seg, off) =
    let at0 := s.mem.read (seg % s.mem.ring)
    let at480 := s.mem.read ((seg + (off + 480) / 480) % s.mem.ring)
    chooseShape s.delay.settings s.delay.excess (480 * s.delay.target) (at0.alertId.isSome || at480.alertId.isSome)
      (if segmentCheck at0.frames = at0.check then at0.peak else 0) := by
  have peak (g : Segment) : g.received.peak = if segmentCheck g.frames = g.check then g.peak else 0 := by
    unfold Segment.received Segment.passes
    by_cases h : segmentCheck g.frames = g.check <;> simp [h]
  simp only [State.readShape, suspended, SampleMemory.ringSegment, peak, Nat.add_zero]
  rfl

theorem readsTakeTheirShape : Claims.ReadsTakeTheirShape := by
  intro env seg off s live due upsets within running hd fed hp at0 at480 peak shape size
  have same : s.readShape (seg, off) = shape := readShape_eq within
  obtain ⟨t, ht, excess, readPos, -, -⟩ := readAt_boundary live due upsets running hd fed hp
  refine ⟨same, t, ht, ?_, ?_⟩
  · rw [excess, same]
    cases shape <;> rfl
  · rw [readPos, same]
    simp only [size]
    cases shape <;> rfl

theorem alertsArePlayedPlain : Claims.AlertsArePlayedPlain := by
  intro env seg off s live due upsets within running hd fed hp tagged
  have plain : s.readShape (seg, off) = .plain := by
    have suspends : ((s.mem.read (seg % s.mem.ring)).alertId.isSome ||
        (s.mem.read ((seg + (off + 480) / 480) % s.mem.ring)).alertId.isSome) = true := by simpa using tagged
    rw [readShape_eq within]
    simp only [suspends]
    rfl
  obtain ⟨t, ht, excess, readPos, -, air⟩ := readAt_boundary live due upsets running hd fed hp
  refine ⟨plain, t, ht, ?_, ?_, ?_⟩
  · rw [excess, plain]
    rfl
  · rw [readPos, plain]
    have back : (off + 480) % 480 = off := by omega
    simp only [advance, Shape.consumed, back]
  · rw [air]
    rfl

-- the frames of an AIR block (R48, R49, law 2)

/-- The stored frame `j` places after the read position, silent in a segment that fails its check (R48). -/
def storedFrame (s : State) (seg off j : Nat) : Frame :=
  let g := s.mem.read ((seg + (off + j) / 480) % s.mem.ring)
  if segmentCheck g.frames = g.check then (g.frames)[(off + j) % 480]'(Nat.mod_lt _ (by decide)) else Frame.silent

theorem received_frame (g : Segment) {j : Nat} (hj : j < 480) :
    (g.received.frames)[j]'hj = if segmentCheck g.frames = g.check then (g.frames)[j]'hj else Frame.silent := by
  unfold Segment.received Segment.passes
  by_cases h : segmentCheck g.frames = g.check
  · simp [h]
  · simp [h, Block.silent]

/-- The frames a read draws from are the stored ones, up to the last it needs. -/
theorem sampleAt_stored {s : State} {seg off n j : Nat} (hj : j ≤ n) :
    sampleAt ((List.range ((off + n) / 480 + 1)).map fun i => (s.mem.ringSegment seg i).received) off j =
      storedFrame s seg off j := by
  have within : (off + j) / 480 < (off + n) / 480 + 1 := Nat.lt_succ_of_le (Nat.div_le_div_right (by omega))
  have fetched : ((List.range ((off + n) / 480 + 1)).map fun i => (s.mem.ringSegment seg i).received).getD
      ((off + j) / 480) Segment.silent = (s.mem.ringSegment seg ((off + j) / 480)).received := by
    simp [List.getD, within]
  unfold sampleAt
  simp only [fetched]
  exact received_frame _ _

/-- A value drawn between two samples `f` parts in 256 of the way lies between them. -/
theorem drawn_between (a b : Int) {f : Nat} (hf : f ≤ 256) :
    min a b ≤ a + ((b - a) * f).fdiv 256 ∧ a + ((b - a) * f).fdiv 256 ≤ max a b := by
  rw [Int.fdiv_eq_ediv_of_nonneg _ (by decide)]
  have f0 : (0 : Int) ≤ f := Int.natCast_nonneg f
  have f1 : (f : Int) ≤ 256 := by exact_mod_cast hf
  rcases le_total a b with hab | hab
  · have low : 0 ≤ (b - a) * f := mul_nonneg (by omega) f0
    have high : (b - a) * f ≤ (b - a) * 256 := mul_le_mul_of_nonneg_left f1 (by omega)
    omega
  · have low : (b - a) * 256 ≤ (b - a) * f := mul_le_mul_of_nonpos_left f1 (by omega)
    have high : (b - a) * f ≤ 0 := mul_nonpos_of_nonpos_of_nonneg (by omega) f0
    omega

theorem sample_toInt_bounds (x : Sample) : -8388608 ≤ x.toInt ∧ x.toInt ≤ 8388607 := by
  have low := BitVec.le_toInt x
  have high := BitVec.toInt_lt (x := x)
  simp only [show (24 - 1 : Nat) = 23 from rfl] at low high
  omega

/-- A value within the range of samples is the sample it is made into. -/
theorem toInt_ofInt_sample {y : Int} (low : -8388608 ≤ y) (high : y ≤ 8388607) : (BitVec.ofInt 24 y).toInt = y := by
  rw [BitVec.toInt_ofInt]
  have : (2 : Nat) ^ 24 = 16777216 := by decide
  rw [this, Int.bmod_eq_of_le] <;> omega

/-- One sample of an AIR block, drawn between its two stored ones. -/
theorem interpolate_drawn {a : Nat → Int} (ha : ∀ j, -8388608 ≤ a j ∧ a j ≤ 8388607) {n k : Nat} :
    let i := k * n / 480
    let f := 256 * (k * n - 480 * i) / 480
    (BitVec.ofInt 24 (interpolate a n k)).toInt = a i + ((a (i + 1) - a i) * f).fdiv 256 ∧
      min (a i) (a (i + 1)) ≤ (BitVec.ofInt 24 (interpolate a n k)).toInt ∧
      (BitVec.ofInt 24 (interpolate a n k)).toInt ≤ max (a i) (a (i + 1)) := by
  intro i f
  have part : f ≤ 256 := by
    simp only [f, i]
    omega
  have value : interpolate a n k = a i + ((a (i + 1) - a i) * f).fdiv 256 := by
    rw [Int.fdiv_eq_ediv_of_nonneg _ (by decide)]
    rfl
  obtain ⟨low, high⟩ := drawn_between (a i) (a (i + 1)) part
  have bi := ha i
  have bj := ha (i + 1)
  have exact_ : (BitVec.ofInt 24 (interpolate a n k)).toInt = interpolate a n k := by
    rw [value]
    exact toInt_ofInt_sample (by omega) (by omega)
  rw [exact_, value]
  exact ⟨rfl, low, high⟩

/-- The frame `k` of an AIR block. -/
theorem airBlock_frame {s : State} {seg off n : Nat} (k : Fin 480) : ((s.airBlock (seg, off) n).frames)[k] =
    let run := (List.range ((off + n) / 480 + 1)).map fun i => (s.mem.ringSegment seg i).received
    ⟨BitVec.ofInt 24 (interpolate (fun j => (sampleAt run off j).left.toInt) n k),
      BitVec.ofInt 24 (interpolate (fun j => (sampleAt run off j).right.toInt) n k)⟩ := by
  simp [State.airBlock, interpolateBlock]

theorem interpolate_congr {a b : Nat → Int} {n k : Nat} (h : ∀ j, j ≤ k * n / 480 + 1 → a j = b j) :
    interpolate a n k = interpolate b n k := by
  simp only [interpolate, h _ (Nat.le_succ _), h _ le_rfl]

/-- Each frame of an AIR block is drawn from stored frames, which the read reaches. -/
theorem airBlock_stored {s : State} {seg off n : Nat} (k : Fin 480) (hn : 0 < n) :
    k.val * n / 480 + 1 ≤ n ∧
      ((s.airBlock (seg, off) n).frames)[k] =
        ⟨BitVec.ofInt 24 (interpolate (fun j => (storedFrame s seg off j).left.toInt) n k),
          BitVec.ofInt 24 (interpolate (fun j => (storedFrame s seg off j).right.toInt) n k)⟩ := by
  have reach : k.val * n / 480 + 1 ≤ n := by
    have hk := k.isLt
    have : k.val * n / 480 < n := Nat.div_lt_of_lt_mul (Nat.mul_lt_mul_of_pos_right hk hn)
    omega
  refine ⟨reach, (airBlock_frame k).trans ?_⟩
  have left := interpolate_congr (n := n) (k := k) (a := fun j => (sampleAt ((List.range ((off + n) / 480 + 1)).map
    fun i => (s.mem.ringSegment seg i).received) off j).left.toInt) (b := fun j => (storedFrame s seg off j).left.toInt)
    fun j hj => by rw [sampleAt_stored (hj.trans reach)]
  have right := interpolate_congr (n := n) (k := k) (a := fun j => (sampleAt ((List.range ((off + n) / 480 + 1)).map
    fun i => (s.mem.ringSegment seg i).received) off j).right.toInt) (b := fun j => (storedFrame s seg off j).right.toInt)
    fun j hj => by rw [sampleAt_stored (hj.trans reach)]
  dsimp only
  rw [left, right]

theorem readsAreInterpolated : Claims.ReadsAreInterpolated := by
  intro env seg off s live due upsets within running hd fed hp stretch compress
  obtain ⟨t, ht, -, -, -, air⟩ := readAt_boundary live due upsets running hd fed hp
  refine ⟨t, ht, ?_⟩
  intro size stored k i f drawn
  have hsize : (s.readShape (seg, off)).consumed = size := by
    simp only [size]
    cases s.readShape (seg, off) <;> rfl
  have positive : 0 < size := by
    rw [← hsize]
    cases hs : s.readShape (seg, off) with
    | stretch n =>
      have := stretch n hs
      simp only [Shape.consumed]
      omega
    | compress n => exact Nat.add_pos_left (by decide) n
    | plain => exact (by decide : 0 < 480)
  have frame : (t.air.frames)[k] = ((s.airBlock (seg, off) size).frames)[k] := by rw [air, hsize]
  obtain ⟨reach, made⟩ := airBlock_stored (s := s) (seg := seg) (off := off) k positive
  rw [frame, made]
  exact ⟨reach, interpolate_drawn (a := fun j => (storedFrame s seg off j).left.toInt) fun j => sample_toInt_bounds _,
    interpolate_drawn (a := fun j => (storedFrame s seg off j).right.toInt) fun j => sample_toInt_bounds _⟩

/-- A plain read takes each sample as it is stored. -/
theorem interpolate_plain (a : Nat → Int) (k : Nat) : interpolate a 480 k = a k := by
  have i : k * 480 / 480 = k := Nat.mul_div_cancel k (by decide)
  have r : k * 480 - 480 * k = 0 := by omega
  simp [interpolate, i, r]

theorem plainReadsPassTheProgramme : Claims.PlainReadsPassTheProgramme := by
  intro env seg off s live due upsets within running hd fed hp plain
  obtain ⟨t, ht, -, -, -, air⟩ := readAt_boundary live due upsets running hd fed hp
  have read : t.air = s.airBlock (seg, off) 480 := by rw [air, plain]; rfl
  refine ⟨t, ht, fun k => ?_, ?_, ?_, ?_, ?_⟩
  · have frame : (t.air.frames)[k] = ((s.airBlock (seg, off) 480).frames)[k] := by rw [read]
    rw [frame, (airBlock_stored k (by decide)).2, interpolate_plain, interpolate_plain, BitVec.ofInt_toInt,
      BitVec.ofInt_toInt]
    rfl
  · simp [read, State.airBlock, SampleMemory.ringSegment]
  · simp [read, State.airBlock, SampleMemory.ringSegment]
  · simp [read, State.airBlock, SampleMemory.ringSegment]
  · simp only [read, State.airBlock]

-- segments that fail their check (R26, R27, R48, R135)

/-- The segment fetched `i` places after segment `seg` fails its check. -/
def fails (s : State) (seg i : Nat) : Bool := !(s.mem.ringSegment seg i).passes

theorem fails_eq (s : State) (seg i : Nat) : fails s seg i =
    decide (segmentCheck (s.mem.read ((seg + i) % s.mem.ring)).frames ≠ (s.mem.read ((seg + i) % s.mem.ring)).check) := by
  unfold fails Segment.passes SampleMemory.ringSegment
  exact (decide_not ..).symm

/-- What the fetches so far have done: `fs` are the segments fetched from segment `seg` on, in their order. -/
structure Fetched (seg : Nat) (fs : List Nat) (s t : State) : Prop where
  mem : t.mem = { s.mem with errors := min 65535 (s.mem.errors + fs.countP (fails s seg)) }
  raised : ∀ i, (fs.filter (fails s seg)).getLast? = some i →
    ∃ p ∈ (t.link .C).events, p.event = .delayMemoryError ((seg + i) % s.mem.ring)
  damaged : ∀ k : AlertSlot, t.record k = (s.record k).map fun r => { r with
    damaged := r.damaged || fs.any fun i => fails s seg i && decide ((s.mem.ringSegment seg i).alertId = some r.id) }

theorem mem_addEvent_self (e : Event) (ps : List PendingEvent) : ∃ p ∈ addEvent e ps, p.event = e := by
  induction ps with
  | nil => exact ⟨_, List.mem_singleton_self _, rfl⟩
  | cons q ps ih =>
    unfold addEvent
    split
    · exact ⟨_, List.mem_cons_self, rfl⟩
    · split
      · exact ⟨_, List.mem_cons_self, rfl⟩
      · obtain ⟨p, hp, he⟩ := ih
        exact ⟨p, List.mem_cons_of_mem _ hp, he⟩

/-- An event raised is pending. -/
theorem raised_pending (l : Link) (e : Event) (s : State) : ∃ p ∈ ((raise l e s).link l).events, p.event = e := by
  rw [raise, link_modLink]
  exact mem_addEvent_self e _

/-- Raising an event leaves every other that is pending. -/
theorem pending_raise {l : Link} {e : Event} {p : PendingEvent} {s : State} (h : p ∈ (s.link l).events)
    (other : p.event.number ≠ e.number) : p ∈ ((raise l e s).link l).events := by
  rw [raise, link_modLink]
  exact (mem_addEvent_other other _).mpr h

theorem record_markDamaged (q : AlertSlot → AlertRecord → Bool) (s : State) (k : AlertSlot) :
    (markDamaged q s).record k = (s.record k).map fun r => if q k r then { r with damaged := true } else r := by
  simp [markDamaged, State.record]

theorem record_raise (l : Link) (e : Event) (s : State) (k : AlertSlot) : (raise l e s).record k = s.record k := rfl

/-- A failing fetch counts, raises and marks (R27). -/
theorem record_delayFetchFailed (n : Nat) (g : Segment) (s : State) (k : AlertSlot) :
    (delayFetchFailed n g s).record k = (s.record k).map fun r =>
      { r with damaged := r.damaged || decide (g.alertId = some r.id) } := by
  unfold delayFetchFailed
  cases ha : g.alertId with
  | none => simp [State.record, raise]
  | some a =>
    dsimp only
    rw [record_markDamaged, record_raise]
    refine congrArg (fun f => Option.map f (s.record k)) (funext fun r => ?_)
    by_cases same : r.id = a
    · simp [same]
    · simp [same, Ne.symm same]

theorem mem_delayFetchFailed (n : Nat) (g : Segment) (s : State) :
    (delayFetchFailed n g s).mem = { s.mem with errors := min 65535 (s.mem.errors + 1) } := by
  unfold delayFetchFailed
  dsimp only
  split <;> rfl

theorem raised_delayFetchFailed (n : Nat) (g : Segment) (s : State) :
    ∃ p ∈ ((delayFetchFailed n g s).link .C).events, p.event = .delayMemoryError n := by
  unfold delayFetchFailed
  dsimp only
  split <;> exact raised_pending .C (.delayMemoryError n) { s with mem := { s.mem with errors := countUp 65535 s.mem.errors } }

theorem reportFetches_succ (seg n : Nat) (s : State) : reportFetches seg (n + 1) s =
    if (s.mem.ringSegment seg n).passes then reportFetches seg n s
    else delayFetchFailed ((seg + n) % s.mem.ring) (s.mem.ringSegment seg n) (reportFetches seg n s) := by
  unfold reportFetches
  rw [List.range_succ, List.foldl_append]
  rfl

theorem fetched_reportFetches (seg : Nat) {s : State} (counted : s.mem.errors ≤ 65535) (n : Nat) :
    Fetched seg (List.range n) s (reportFetches seg n s) := by
  induction n with
  | zero =>
    refine ⟨?_, fun i hi => (by cases hi), fun k => ?_⟩
    · show s.mem = _
      rw [List.range_zero, List.countP_nil, Nat.add_zero, Nat.min_eq_right counted]
    · show s.record k = _
      simp
  | succ n ih =>
    rw [reportFetches_succ]
    obtain ⟨mem, raised, damaged⟩ := ih
    generalize reportFetches seg n s = t at mem raised damaged ⊢
    split
    · rename_i passes
      have good : fails s seg n = false := by simp [fails, passes]
      refine ⟨?_, ?_, fun k => ?_⟩
      · simpa [List.range_succ, good] using mem
      · simpa [List.range_succ, good] using raised
      · simpa [List.range_succ, good] using damaged k
    · rename_i bad
      have failing : fails s seg n = true := by simpa [fails] using bad
      refine ⟨?_, fun i hi => ?_, fun k => ?_⟩
      · rw [mem_delayFetchFailed, mem]
        simp only [List.range_succ, List.countP_append, List.countP_cons, List.countP_nil, failing, if_true]
        congr 1
        omega
      · have last : i = n := by
          simpa [List.range_succ, failing, eq_comm] using hi
        rw [last]
        exact raised_delayFetchFailed _ _ t
      · rw [record_delayFetchFailed, damaged k, Option.map_map]
        refine congrArg (fun f => Option.map f (s.record k)) (funext fun r => ?_)
        simp [List.range_succ, failing, Bool.or_assoc]

theorem record_mapRecords (q : AlertRecord → Bool) (f : AlertRecord → AlertRecord) (s : State) (k : AlertSlot) :
    (s.mapRecords q f).record k = (s.record k).map fun r => if q r then f r else r := by
  simp [State.mapRecords, State.record]

/-- The frame sent is reported to the records it carries the id of (R154). -/
theorem record_sendFrame (s : State) (k : AlertSlot) : (sendFrame s).record k = match s.air.alertId with
    | some id => (s.record k).map fun r =>
      if decide (r.id = id) && r.onLink then r.framed s.tx.seq s.alerts.lastLink else r
    | none => s.record k := by
  unfold sendFrame
  cases s.air.alertId with
  | none => rfl
  | some id => exact record_mapRecords _ _ s k

/-- The records of a state in which an output block boundary has counted and sent. -/
theorem record_outputCounted (s : State) (k : AlertSlot) :
    (outputCounted s).record k = (sendFrame (countConfirm (countAge s))).record k := by
  have same : (outputCounted s).alerts = (sendFrame (countConfirm (countAge s))).alerts :=
    countSilence_touches _ .alerts (by decide)
  rw [State.record, same, ← State.record]

/-- What an output block boundary counts and sends marks no record DAMAGED. -/
theorem damaged_outputCounted (s : State) (k : AlertSlot) :
    ((outputCounted s).record k).map AlertRecord.damaged = (s.record k).map AlertRecord.damaged := by
  have confirmed : ((countConfirm (countAge s)).record k).map AlertRecord.damaged = (s.record k).map AlertRecord.damaged := by
    rw [countConfirm, record_mapRecords, Option.map_map]
    refine congrArg (fun g => Option.map g (s.record k)) (funext fun r => ?_)
    rw [Function.comp_apply]
    split <;> rfl
  rw [record_outputCounted, record_sendFrame, ← confirmed]
  split
  · rw [Option.map_map]
    refine congrArg (fun g => Option.map g ((countConfirm (countAge s)).record k)) (funext fun r => ?_)
    rw [Function.comp_apply]
    split <;> rfl
  · rfl

/-- The delay state worked out raises DELAY_SAFE_CHANGED alone. -/
theorem pending_workOutDelay {p : PendingEvent} {s : State} (other : p.event.number ≠ (Event.delaySafeChanged true).number)
    (h : p ∈ (s.link .C).events) : p ∈ ((workOutDelay s).link .C).events := by
  rw [workOutDelay_of rfl]
  dsimp only
  split
  · exact h
  · refine pending_raise ?_ ?_
    · exact h
    · exact other

theorem failingSegmentsAreReported : Claims.FailingSegmentsAreReported := by
  intro env seg off s live due upsets within first leave counted running hd fed hp
  obtain ⟨mem, raised, damaged⟩ := fetched_reportFetches seg counted ((off + (s.readShape (seg, off)).consumed) / 480 + 1)
  have waiting : (outputDelay s).due = s.due := outputDelay_touches s .due (by decide)
  refine ⟨_, exec_outputBoundary live due upsets, ?_⟩
  rw [outputRest_left (waiting.trans due) first leave, outputDelay_read running hd fed hp]
  intro number failing fetched
  have same : failing = fails s seg := funext fun i => (fails_eq s seg i).symm
  rw [same]
  have worked := workOutDelay_touches (readDelay (seg, off) s)
  have counts := outputCounted_touches (workOutDelay (readDelay (seg, off) s))
  refine ⟨?_, fun i hi => ?_, fun k => ?_⟩
  · have counted : (outputCounted (workOutDelay (readDelay (seg, off) s))).mem = (workOutDelay (readDelay (seg, off) s)).mem :=
      counts .mem (by decide)
    have read : (workOutDelay (readDelay (seg, off) s)).mem = (readDelay (seg, off) s).mem := worked .mem (by decide)
    exact (counted.trans read).trans mem
  · obtain ⟨p, hp, he⟩ := raised i hi
    have links : (outputCounted (workOutDelay (readDelay (seg, off) s))).links = (workOutDelay (readDelay (seg, off) s)).links :=
      counts .links (by decide)
    have found : (findDue outputDue (outputCounted (workOutDelay (readDelay (seg, off) s)))).link .C =
        (workOutDelay (readDelay (seg, off) s)).link .C := congrArg (Links.get · .C) links
    exact ⟨p, found ▸ pending_workOutDelay (by rw [he]; exact (by decide : (0x24 : Nat) ≠ 0x22)) hp, he⟩
  · have records : (workOutDelay (readDelay (seg, off) s)).alerts = (readDelay (seg, off) s).alerts :=
      worked .alerts (by decide)
    have found : (findDue outputDue (outputCounted (workOutDelay (readDelay (seg, off) s)))).record k =
      (outputCounted (workOutDelay (readDelay (seg, off) s))).record k := rfl
    have read : (workOutDelay (readDelay (seg, off) s)).record k = (readDelay (seg, off) s).record k := by
      rw [State.record, records, ← State.record]
    have fetchedRecord : (readDelay (seg, off) s).record k = _ := damaged k
    rw [found, damaged_outputCounted, read, fetchedRecord, Option.map_map]
    rfl

/-- Settles O19. -/
theorem readsOfTheDelay : Obligations.ReadsOfTheDelay :=
  ⟨eachReadMovesTheReadPosition, readsTakeTheirShape, plainReadsPassTheProgramme, alertsArePlayedPlain, readsAreInterpolated,
    failingSegmentsAreReported⟩

end Sys2Proof.DelayReads
end

section
/-! R16, R18: STUDIO SET and SLOT GAIN SET. Both act on one contributor record, whose new value is worked out case by case. -/

namespace Sys2Proof.ConsoleLevels

-- one thread: the check compiles under a limit on the process
set_option Elab.async false

open Sys2Proof.Machine Sys2Proof.Safety Sys2Proof.Laws Sys2Proof.TakenCommands Sys2Proof.FadeGains

/-- An OUT fade runs or waits, in the words of R16 and R18. -/
theorem fadingOut_iff (x : Contrib) : x.fadingOut = true ↔
    (∃ f, x.fade = some f ∧ f.purpose = .out) ∨ ∃ f, x.waiting = some f ∧ f.purpose = .out := by
  rcases x with ⟨b, g, n, _ | f, _ | w⟩ <;> simp [Contrib.fadingOut]

/-- Out of FALLBACK, and under an alert that remembers another mode, a notice that would end FALLBACK ends nothing. -/
theorem endFallback_outside {s : State} (normal : s.sup.mode ≠ some .fallback)
    (remembered : ¬(s.sup.mode = some .alert ∧ s.sup.remembered = some .fallback)) (cause : LeftCause) :
    endFallback cause s = s := by
  unfold endFallback
  split
  · next h => exact absurd h normal
  · next h k => exact absurd ⟨h, k⟩ remembered
  · rfl

/-- With no OUT fade running, a LEVEL fade that waits leaves the contributor on. -/
theorem told_of_level {x : Contrib} (on : x.binding.isSome = true) (still : x.fadingOut = false) {g : Nat} (n : Nat) :
    let y : Contrib := { x with target := g, waiting := some ⟨g, n, .level⟩ }
    (y.active && !y.fadingOut) = true := by
  rcases x with ⟨b, t, gain, _ | f, w⟩ <;> simp_all [Contrib.active, Contrib.fadingOut]

theorem length_zero_iff (n : Nat) : min 500 n = 0 ↔ n = 0 := by omega

section
variable {s : State} {g n : Nat}

theorem switchStudio_on_inactive (off : s.mix.studio.binding = none) : switchStudio true g n s =
    s.setContrib .studio ⟨some (.source 0), g, if min 500 n = 0 then g else 0, none,
      if min 500 n = 0 then none else some ⟨g, min 500 n, .level⟩⟩ := by
  have inactive : s.mix.studio.active = false := by simp [Contrib.active, off]
  rw [switchStudio, if_pos rfl, inactive]
  by_cases hn : n = 0
  · simp [activate, closeReaderOf, contributorReader, Contrib.activated, hn]
  · simp [activate, closeReaderOf, contributorReader, Contrib.activated, hn, min_comm]

theorem switchStudio_on_flat (on : s.mix.studio.binding.isSome = true) (flat : min 500 n = 0) : switchStudio true g n s =
    s.setContrib .studio { s.mix.studio with target := g, gain := g, fade := none, waiting := none } := by
  have active : s.mix.studio.active = true := on
  have zero : n = 0 := (length_zero_iff n).mp flat
  rw [switchStudio, if_pos rfl, active, zero]
  cases out : s.mix.studio.fadingOut
  · have out' : ({ s.mix.studio with target := g } : Contrib).fadingOut = false := out
    have active' : ({ s.mix.studio with target := g } : Contrib).active = true := on
    simp [level, State.contrib, Mix.get, out', active']
  · simp

theorem switchStudio_on_level (on : s.mix.studio.binding.isSome = true) (fades : min 500 n ≠ 0)
    (out : s.mix.studio.fadingOut = false) : switchStudio true g n s =
    s.setContrib .studio { s.mix.studio with target := g, waiting := some ⟨g, min 500 n, .level⟩ } := by
  have active : s.mix.studio.active = true := on
  have nonzero : n ≠ 0 := fun h => fades ((length_zero_iff n).mpr h)
  have out' : ({ s.mix.studio with target := g } : Contrib).fadingOut = false := out
  have active' : ({ s.mix.studio with target := g } : Contrib).active = true := on
  rw [switchStudio, if_pos rfl, active, out]
  simp [level, State.contrib, Mix.get, out', active', nonzero, min_comm]

theorem switchStudio_on_turn (on : s.mix.studio.binding.isSome = true) (fades : min 500 n ≠ 0)
    (out : s.mix.studio.fadingOut = true) : switchStudio true g n s =
    s.setContrib .studio { s.mix.studio with target := g, fade := none, waiting := some ⟨g, min 500 n, .level⟩ } := by
  have active : s.mix.studio.active = true := on
  have nonzero : n ≠ 0 := fun h => fades ((length_zero_iff n).mpr h)
  rw [switchStudio, if_pos rfl, active, out]
  simp [nonzero, min_comm]

theorem switchStudio_off_inactive (off : s.mix.studio.binding = none) : switchStudio false g n s =
    s.setContrib .studio { s.mix.studio with target := g } := by
  have inactive : s.mix.studio.active = false := by simp [Contrib.active, off]
  have inactive' : ({ s.mix.studio with target := g } : Contrib).active = false := inactive
  simp [switchStudio, inactive, level, State.contrib, Mix.get, inactive']

theorem switchStudio_off_cut (on : s.mix.studio.binding.isSome = true) (flat : min 500 n = 0) : switchStudio false g n s =
    s.setContrib .studio ⟨none, g, 0, none, none⟩ := by
  have active : s.mix.studio.active = true := on
  have active' : ({ s.mix.studio with target := g } : Contrib).active = true := on
  have zero : n = 0 := (length_zero_iff n).mp flat
  rw [switchStudio, if_neg (by decide), active, if_pos rfl, zero, fadeOut_zero, cut, contrib_setContrib, active', if_pos rfl]
  rfl

theorem switchStudio_off_fade (on : s.mix.studio.binding.isSome = true) (fades : min 500 n ≠ 0) : switchStudio false g n s =
    s.setContrib .studio { s.mix.studio with target := g, waiting := some ⟨0, min 500 n, .out⟩ } := by
  have active : s.mix.studio.active = true := on
  have active' : ({ s.mix.studio with target := g } : Contrib).active = true := on
  have nonzero : n ≠ 0 := fun h => fades ((length_zero_iff n).mpr h)
  rw [switchStudio, if_neg (by decide), active, if_pos rfl, fadeOut, if_neg nonzero, contrib_setContrib, active', if_pos rfl,
    min_comm]
  rfl

end

theorem studioSet_checks {s : State} (h : Takes .C s) (ps : List Byte) (five : ps.length = 5) :
    failedCheck .C 0x36 ps (frameComplete .C s) = none :=
  checks_pass h [.C] (.exactly 5) rfl rfl (decide_eq_true five)

/-- Where FALLBACK is not ended, STUDIO's switch replaces STUDIO's record and reports MIC_LIVE. -/
theorem studioSwitch_quiet {on : Bool} {g n : Nat} {y : Contrib} {s : State} (normal : s.sup.mode ≠ some .fallback)
    (remembered : ¬(s.sup.mode = some .alert ∧ s.sup.remembered = some .fallback))
    (hy : switchStudio on g n s = s.setContrib .studio y) (live : (y.active && !y.fadingOut) = on) :
    studioSwitch on g n s = (s.setContrib .studio y).report fun r => { r with micLive := on } := by
  have told : (s.setContrib .studio y).studioOn = on := live
  rw [studioSwitch, hy]
  simp only [told]
  split
  · exact endFallback_outside (by exact normal) (by exact remembered) _
  · rfl

theorem exec_studioSet {sw g1 g0 f1 f0 : Byte} {s : State} {on : Bool} {y : Contrib} (h : Takes .C s)
    (normal : s.sup.mode ≠ some .fallback) (remembered : ¬(s.sup.mode = some .alert ∧ s.sup.remembered = some .fallback))
    (hsw : switchOf sw = some on)
    (hy : ∀ t : State, t.mix.studio = s.mix.studio → switchStudio on (u16 g1 g0) (u16 f1 f0) t = t.setContrib .studio y)
    (live : (y.active && !y.fadingOut) = on) :
    exec (.studioSet .C [sw, g1, g0, f1, f0]) s = .next (answered .C 0x36 .ok .none { s with
      mix := { s.mix with studio := y, studioFade := min 500 (u16 f1 f0) }
      panel := { s.panel with reports := { s.panel.reports with micLive := on } } }) := by
  refine congrArg _ (command_ok h (studioSet_checks h _ rfl) ?_)
  have parsed : studioSetOwner [sw, g1, g0, f1, f0] (frameComplete .C s) =
      .ok (studioSet on (u16 g1 g0) (u16 f1 f0) (frameComplete .C s)) .none := by
    simp only [studioSetOwner, byteAt, List.getD_cons_zero, hsw]
    rfl
  rw [parsed, studioSet, min_comm, studioSwitch_quiet (by exact normal) (by exact remembered) (hy _ (by rfl)) live]
  rfl

theorem studioSetTable : Claims.StudioSetTable := by
  intro sw g1 g0 f1 f0 s h normal remembered x g n fadingOut after
  have out_iff : x.fadingOut = true ↔ fadingOut := fadingOut_iff x
  have off_told {y : Contrib} (off : y.binding = none) : (y.active && !y.fadingOut) = false := by simp [Contrib.active, off]
  refine ⟨fun one off => ?_, fun one on flat => ?_, fun one on fades out => ?_, fun one on fades out => ?_, fun zero off => ?_,
    fun zero on flat => ?_, fun zero on fades => ?_, fun nonzero nonone => ?_⟩
  · refine exec_studioSet h normal remembered (on := true) (by rw [one]; rfl)
      (fun t ht => switchStudio_on_inactive (by rw [ht]; exact off)) ?_
    by_cases hn : n = 0
    · rw [if_pos hn, if_pos hn]; rfl
    · rw [if_neg hn, if_neg hn]; rfl
  · refine exec_studioSet h normal remembered (on := true) (by rw [one]; rfl)
      (fun t ht => ?_) ?_ (y := { x with target := g, gain := g, fade := none, waiting := none })
    · exact (switchStudio_on_flat (by rw [ht]; exact on) flat).trans (by rw [ht]; rfl)
    · simp [Contrib.active, Contrib.fadingOut, on]
  · have still : x.fadingOut = false := Bool.eq_false_iff.mpr fun k => out (out_iff.mp k)
    refine exec_studioSet h normal remembered (on := true) (by rw [one]; rfl)
      (fun t ht => ?_) ?_ (y := { x with target := g, waiting := some ⟨g, n, .level⟩ })
    · exact (switchStudio_on_level (by rw [ht]; exact on) fades (by rw [ht]; exact still)).trans (by rw [ht]; rfl)
    · exact told_of_level on still _
  · refine exec_studioSet h normal remembered (on := true) (by rw [one]; rfl)
      (fun t ht => ?_) ?_ (y := { x with target := g, fade := none, waiting := some ⟨g, n, .level⟩ })
    · exact (switchStudio_on_turn (by rw [ht]; exact on) fades (by rw [ht]; exact out_iff.mpr out)).trans (by rw [ht]; rfl)
    · simp [Contrib.active, Contrib.fadingOut, on]
  · refine exec_studioSet h normal remembered (on := false) (by rw [zero]; rfl)
      (fun t ht => ?_) (off_told off) (y := { x with target := g })
    exact (switchStudio_off_inactive (by rw [ht]; exact off)).trans (by rw [ht]; rfl)
  · exact exec_studioSet h normal remembered (on := false) (by rw [zero]; rfl)
      (fun t ht => switchStudio_off_cut (by rw [ht]; exact on) flat) (off_told rfl) (y := ⟨none, g, 0, none, none⟩)
  · refine exec_studioSet h normal remembered (on := false) (by rw [zero]; rfl)
      (fun t ht => ?_) ?_ (y := { x with target := g, waiting := some ⟨0, n, .out⟩ })
    · exact (switchStudio_off_fade (by rw [ht]; exact on) fades).trans (by rw [ht]; rfl)
    · simp [Contrib.fadingOut]
  · refine congrArg _ (command_refused h (studioSet_checks h _ rfl) ?_)
    have nothing : switchOf sw = none := by
      rw [switchOf, if_neg nonzero, if_neg nonone]
    simp only [studioSetOwner, byteAt, List.getD_cons_zero, nothing]

-- SLOT GAIN SET

theorem slotGainSet_checks {s : State} (h : Takes .C s) (ps : List Byte) (five : ps.length = 5) :
    failedCheck .C 0x37 ps (frameComplete .C s) = none :=
  checks_pass h [.C] (.exactly 5) rfl rfl (decide_eq_true five)

theorem slotOf_val_succ {b : Byte} {k : CallerSlot} (hb : b.toNat = k.val + 1) : slotOf b = some k := numberOf_val_succ hb

theorem exec_slotGainSet {slot g1 g0 f1 f0 : Byte} {k : CallerSlot} {s : State} {y : Contrib} (h : Takes .C s)
    (hb : slot.toNat = k.val + 1)
    (hy : ∀ t : State, t.contrib (slotContributor k) = s.contrib (slotContributor k) →
      level (slotContributor k) (u16 g1 g0) (u16 f1 f0) t = t.setContrib (slotContributor k) y) :
    exec (.slotGainSet .C [slot, g1, g0, f1, f0]) s = .next (answered .C 0x37 .ok .none
      ({ s with mix := { s.mix with slotFade := s.mix.slotFade.set k (min 500 (u16 f1 f0)) } }.setContrib
        (slotContributor k) y)) := by
  refine congrArg _ (command_ok h (slotGainSet_checks h _ rfl) ?_)
  have parsed : slotGainSetOwner [slot, g1, g0, f1, f0] (frameComplete .C s) =
      .ok (setSlotGain k (u16 g1 g0) (u16 f1 f0) (frameComplete .C s)) .none := by
    simp only [slotGainSetOwner, byteAt, List.getD_cons_zero, slotOf_val_succ hb]
    rfl
  have kept (fade : Vector Nat 2) : ({ frameComplete .C s with mix := { (frameComplete .C s).mix with slotFade := fade } } :
      State).contrib (slotContributor k) = s.contrib (slotContributor k) := by
    unfold slotContributor
    split <;> rfl
  rw [parsed, setSlotGain, min_comm, hy _ (kept _)]
  rfl

theorem slotGainSetLevels : Claims.SlotGainSetLevels := by
  intro slot g1 g0 f1 f0 s h g n
  refine ⟨fun notOne notTwo => congrArg _ (command_refused h (slotGainSet_checks h _ rfl) ?_), fun k hk => ?_⟩
  · have none_named : slotOf slot = none := by
      have one : slot.toNat ≠ 1 := fun e => notOne (BitVec.eq_of_toNat_eq e)
      have two : slot.toNat ≠ 2 := fun e => notTwo (BitVec.eq_of_toNat_eq e)
      exact numberOf_out_of_range (by omega)
    simp only [slotGainSetOwner, byteAt, List.getD_cons_zero, none_named]
  intro x after out
  have out_iff : x.fadingOut = true ↔ out := fadingOut_iff x
  refine ⟨fun idle => exec_slotGainSet h hk fun t ht => ?_, fun on still flat => exec_slotGainSet h hk fun t ht => ?_,
    fun on still fades => exec_slotGainSet h hk fun t ht => ?_⟩
  · have stays : (!({ x with target := g } : Contrib).active || ({ x with target := g } : Contrib).fadingOut) = true := by
      rcases idle with off | fading
      · have off' : ({ x with target := g } : Contrib).active = false := by simp [Contrib.active, off]
        simp [off']
      · have fading' : ({ x with target := g } : Contrib).fadingOut = true := out_iff.mpr fading
        simp [fading']
    rw [level, ht]
    exact congrArg _ (if_pos stays)
  all_goals
    have moves : ¬(!({ x with target := g } : Contrib).active || ({ x with target := g } : Contrib).fadingOut) = true := by
      have on' : ({ x with target := g } : Contrib).active = true := on
      have still' : ({ x with target := g } : Contrib).fadingOut = false := Bool.eq_false_iff.mpr fun e => still (out_iff.mp e)
      simp [on', still']
    rw [level, ht]
  · exact congrArg _ ((if_neg moves).trans (if_pos ((length_zero_iff _).mp flat)))
  · exact congrArg _ ((if_neg moves).trans ((if_neg fun e => fades ((length_zero_iff _).mpr e)).trans (by rw [min_comm]; rfl)))

/-- Settles O15. -/
theorem consoleLevels : Obligations.ConsoleLevels := ⟨studioSetTable, slotGainSetLevels⟩

end Sys2Proof.ConsoleLevels
end

section
/-! R31, R33, law 10: what an allocation takes from the pool and what a free request gives back. -/

namespace Sys2Proof.PoolRequests

-- one thread: the check compiles under a limit on the process
set_option Elab.async false

open Sys2Proof.Machine Sys2Proof.Safety Sys2Proof.Laws Sys2Proof.MemoryKeeping

-- the segment map

theorem find_holdSegment_new {n : Nat} {c : ClipRef} {held : List (Nat × ClipRef)} (fresh : ∀ h ∈ held, h.1 ≠ n) :
    (holdSegment n c held).find? (·.1 = n) = some (n, c) := by
  induction held with
  | nil => simp [holdSegment]
  | cons d rest ih =>
    have other : d.1 ≠ n := fresh d List.mem_cons_self
    simp only [holdSegment]
    split
    · simp
    · rw [List.find?_cons_of_neg (by simpa using other)]
      exact ih fun h hh => fresh h (List.mem_cons_of_mem _ hh)

theorem find_holdSegment_other {n k : Nat} (hk : k ≠ n) (c : ClipRef) (held : List (Nat × ClipRef)) :
    (holdSegment n c held).find? (·.1 = k) = held.find? (·.1 = k) := by
  induction held with
  | nil => simp [holdSegment, Ne.symm hk]
  | cons d rest ih =>
    simp only [holdSegment]
    split
    · rw [List.find?_cons_of_neg (by simpa using Ne.symm hk)]
    · by_cases hd : d.1 = k
      · rw [List.find?_cons_of_pos (by simpa using hd), List.find?_cons_of_pos (by simpa using hd)]
      · rw [List.find?_cons_of_neg (by simpa using hd), List.find?_cons_of_neg (by simpa using hd)]
        exact ih

theorem holder_of_find {m m' : SampleMemory} {k : Nat} (ring : m'.ring = m.ring)
    (h : m'.held.find? (·.1 = k) = m.held.find? (·.1 = k)) : m'.holder k = m.holder k := by
  rw [SampleMemory.holder, SampleMemory.holder, ring, h]

theorem holder_of_entry {m : SampleMemory} {n : Nat} {c : ClipRef} (inPool : m.ring ≤ n)
    (h : m.held.find? (·.1 = n) = some (n, c)) : m.holder n = .clip c := by
  rw [SampleMemory.holder, if_neg (by omega), h]

theorem ring_le_of_holder {m : SampleMemory} {n : Nat} {c : ClipRef} (h : m.holder n = .clip c) : m.ring ≤ n := by
  by_contra low
  rw [SampleMemory.holder, if_pos (by omega)] at h
  cases h

-- allocation

/-- The memory in which the clip's former last segment links to the new one. -/
def linkTo (last : Option Nat) (n : Nat) (m : SampleMemory) : SampleMemory :=
  match last with
  | some k => if m.ring ≤ k ∧ k < Config.segments then m.write k { m.read k with link := some n } else m
  | none => m

theorem linkTo_kept (last : Option Nat) (n : Nat) (m : SampleMemory) :
    ({ linkTo last n m with cells := m.cells } : SampleMemory) = m := by
  unfold linkTo
  split
  · split <;> rfl
  · rfl

theorem linkTo_read {m : SampleMemory} (wf : m.wf = true) (last : Option Nat) (n k : Nat) : (linkTo last n m).read k =
    if last = some k ∧ m.ring ≤ k ∧ k < 16384 then { m.read k with link := some n } else m.read k := by
  cases last with
  | none => rw [if_neg (by simp)]; rfl
  | some j =>
    simp only [linkTo, Option.some.injEq]
    by_cases inPool : m.ring ≤ j ∧ j < Config.segments
    · rw [if_pos inPool]
      by_cases hk : k = j
      · rw [hk, read_write_same wf, if_pos ⟨rfl, inPool⟩]
      · rw [read_write_ne hk, if_neg fun h => hk h.1.symm]
    · rw [if_neg inPool, if_neg]
      rintro ⟨rfl, h⟩
      exact inPool h

theorem allocate_granted {c : ClipRef} {n : Nat} {rest : List Nat} {m : SampleMemory} (last : Option Nat) :
    m.grants c = true → m.free = n :: rest → m.allocate c last = some (n, { linkTo last n m with
      free := rest
      held := holdSegment n c m.held
      general := match c with | .playout _ => m.general + 1 | .alert _ => m.general
      alertCount := match c with | .playout _ => m.alertCount | .alert _ => m.alertCount + 1 }) := by
  intro grants free
  simp only [SampleMemory.allocate, grants, free]
  cases c <;> rfl

theorem allocate_refused {c : ClipRef} {m : SampleMemory} (last : Option Nat) (refused : m.grants c = false) :
    m.allocate c last = none := by
  simp [SampleMemory.allocate, refused]

theorem grants_iff (c : ClipRef) (m : SampleMemory) : m.grants c = true ↔
    m.free ≠ [] ∧ ∀ n, c = .playout n → m.general < 16384 - m.ring - m.reserve := by
  cases c with
  | playout n =>
    have below : m.general < m.pool - m.reserve ↔ m.general < 16384 - m.ring - m.reserve := Iff.rfl
    simp [SampleMemory.grants, below, and_comm]
  | alert k => simp [SampleMemory.grants]

/-- Settles O23. -/
theorem allocationsKeepTheReserve : Obligations.AllocationsKeepTheReserve := by
  intro c last m wf room
  refine ⟨fun none_left => allocate_refused last (Bool.eq_false_iff.mpr fun h => none_left ((grants_iff c m).mp h)),
    fun n rest free hroom => ⟨_, allocate_granted last ((grants_iff c m).mpr hroom) free, ?_⟩⟩
  have kept := linkTo_kept last n m
  have granted := allocate_granted last ((grants_iff c m).mpr hroom) free
  have ring : (linkTo last n m).ring = m.ring := (congrArg SampleMemory.ring kept :)
  have reserve : (linkTo last n m).reserve = m.reserve := (congrArg SampleMemory.reserve kept :)
  refine ⟨rfl, ring, reserve, (congrArg SampleMemory.errors kept :), allocate_wf wf granted, ?_, ?_, linkTo_read wf last n, ?_⟩
  · rintro k rfl
    have below := hroom.2 k rfl
    refine ⟨rfl, rfl, ?_⟩
    dsimp only
    omega
  · rintro k rfl
    exact ⟨rfl, rfl⟩
  · intro fresh inPool
    exact ⟨holder_of_entry (ring.trans_le inPool) (find_holdSegment_new fresh),
      fun k hk => holder_of_find ring (find_holdSegment_other hk c m.held)⟩

-- freeing

theorem holder_freeOne {c : ClipRef} {n : Nat} {m : SampleMemory} (held : m.holder n = .clip c) (k : Nat) :
    (m.freeOne c n).holder k = if k = n then .free else m.holder k := by
  unfold SampleMemory.freeOne
  rw [if_pos held]
  by_cases hk : k = n
  · have inPool := ring_le_of_holder held
    have gone : (m.held.filter fun h => decide (h.1 ≠ n)).find? (·.1 = k) = none := by
      rw [List.find?_eq_none]
      intro x hx
      have other := of_decide_eq_true (List.mem_filter.mp hx).2
      simpa [hk] using other
    rw [if_pos hk, SampleMemory.holder, if_neg (by dsimp only; omega), gone]
  · rw [if_neg hk]
    refine holder_of_find rfl ?_
    rw [List.find?_filter]
    refine congrArg (List.find? · m.held) (funext fun x => ?_)
    by_cases hx : x.1 = k <;> simp [hx, hk]

/-- The segments of a playout clip, each held once by it, are freed in order (R33). -/
theorem freeAll_held {n : ClipId} (ns : List Nat) : ∀ {m : SampleMemory}, ns.Nodup → (∀ k ∈ ns, m.holder k = .clip (.playout n)) →
    (m.freeAll (.playout n) ns).free = m.free ++ ns ∧ (m.freeAll (.playout n) ns).general = m.general - ns.length ∧
      (∀ k, (m.freeAll (.playout n) ns).holder k = if k ∈ ns then .free else m.holder k) ∧
      ({ m.freeAll (.playout n) ns with free := m.free, general := m.general, held := m.held } : SampleMemory) = m := by
  induction ns with
  | nil => intro m _ _; exact ⟨(List.append_nil _).symm, rfl, fun _ => by simp [SampleMemory.freeAll], rfl⟩
  | cons a rest ih =>
    intro m once held
    obtain ⟨fresh, onceRest⟩ := List.nodup_cons.mp once
    have heldA := held a List.mem_cons_self
    have heldRest (k : Nat) (hk : k ∈ rest) : (m.freeOne (.playout n) a).holder k = .clip (.playout n) := by
      have other : k ≠ a := by rintro rfl; exact fresh hk
      rw [holder_freeOne heldA, if_neg other]
      exact held k (List.mem_cons_of_mem _ hk)
    have one : m.freeOne (.playout n) a = { m with
        free := m.free ++ [a], held := m.held.filter fun h => decide (h.1 ≠ a), general := m.general - 1 } := by
      unfold SampleMemory.freeOne
      rw [if_pos heldA]
    have split : m.freeAll (.playout n) (a :: rest) = (m.freeOne (.playout n) a).freeAll (.playout n) rest := rfl
    obtain ⟨free, general, holder, same⟩ := ih onceRest heldRest
    rw [split]
    refine ⟨?_, ?_, fun k => ?_, ?_⟩
    · rw [free, one]; simp
    · rw [general, one, List.length_cons]; dsimp only; omega
    · rw [holder k, holder_freeOne heldA]
      by_cases hk : k ∈ rest <;> by_cases ha : k = a <;> simp [hk, ha]
    · rw [one] at same ⊢
      have fields := congrArg (fun x : SampleMemory => { x with free := m.free, general := m.general, held := m.held }) same
      exact fields

end Sys2Proof.PoolRequests
end

section
/-! R65 to R72: CLIP DELETE, CLIP ROLE SET, CLIP READ, and the readers of clips. -/

namespace Sys2Proof.ClipCommands

set_option Elab.async false

open Sys2Proof.Machine Sys2Proof.Safety Sys2Proof.Laws Sys2Proof.TakenCommands Sys2Proof.PoolRequests

theorem clipIdOf_val_succ {b : Byte} {n : ClipId} (hb : b.toNat = n.val + 1) : clipIdOf b = some n := numberOf_val_succ hb

theorem clipIdOf_out_of_range {b : Byte} (hb : b.toNat = 0 ∨ 63 < b.toNat) : clipIdOf b = none := numberOf_out_of_range hb

-- CLIP DELETE

theorem clipDelete_checks {s : State} (h : Takes .P s) (id : Byte) : failedCheck .P 0x12 [id] (frameComplete .P s) = none :=
  checks_pass h [.P] (.exactly 1) rfl rfl rfl

theorem clipsAreDeleted : Claims.ClipsAreDeleted := by
  intro id s h
  refine ⟨fun outside => congrArg _ (command_refused h (clipDelete_checks h id) ?_), fun n hn => ?_⟩
  · simp only [clipDeleteOwner, byteAt, List.getD_cons_zero, clipIdOf_out_of_range outside]
  intro c emptied guarded
  have parsed : clipDeleteOwner [id] (frameComplete .P s) = if c.isProtected && s.onAir then .refuse .notNow
      else if c.state = .empty then .refuse .notFound
      else if c.state = .capturing ∨ 0 < c.uses then .refuse .inUse
      else .ok (emptyClip (.playout n) (frameComplete .P s)) .none := by
    simp only [clipDeleteOwner, byteAt, List.getD_cons_zero, clipIdOf_val_succ hn]
    rfl
  have guarded_iff : (c.isProtected && s.onAir) = true ↔ guarded := by simp [guarded, State.onAir]
  refine ⟨fun g => congrArg _ (command_refused h (clipDelete_checks h id) ?_),
    fun g empty => congrArg _ (command_refused h (clipDelete_checks h id) ?_),
    fun g busy => congrArg _ (command_refused h (clipDelete_checks h id) ?_), fun g ready unused once held => ?_⟩
  · rw [parsed, if_pos (guarded_iff.mpr g)]
  · rw [parsed, if_neg (mt guarded_iff.mp g), if_pos empty]
  · have notEmpty : c.state ≠ .empty := by rcases busy with e | ⟨e, -⟩ <;> simp [e]
    rw [parsed, if_neg (mt guarded_iff.mp g), if_neg notEmpty, if_pos (busy.imp_right And.right)]
  · obtain ⟨free, general, holder, same⟩ := freeAll_held _ once held
    refine ⟨_, congrArg _ (command_ok h (clipDelete_checks h id) ?_), free, general, holder, same⟩
    rw [parsed, if_neg (mt guarded_iff.mp g), if_neg (by simp [ready]), if_neg (by simp [ready, unused])]
    rfl

-- CLIP ROLE SET

theorem clipRoleSet_checks {s : State} (h : Takes .P s) (ps : List Byte) (two : ps.length = 2) :
    failedCheck .P 0x14 ps (frameComplete .P s) = none :=
  checks_pass h [.P] (.exactly 2) rfl rfl (decide_eq_true two)

/-- The use counts once one clip has lost a use and another gained one; a clip that is none is left out. -/
theorem useOptional_playout (before n : Option ClipId) (s : State) : useOptional true n (useOptional false before s) =
    { s with clips := { s.clips with playout := Vector.ofFn fun i : Fin 63 => { s.clips.playout[i] with
      uses := (s.clips.playout[i]).uses - (if before = some i then 1 else 0) + (if n = some i then 1 else 0) } } } := by
  have one (up : Bool) (x : Option ClipId) (t : State) : useOptional up x t = { t with clips := { t.clips with
      playout := Vector.ofFn fun i : Fin 63 => { t.clips.playout[i] with
        uses := if x = some i then (if up then (t.clips.playout[i]).uses + 1 else (t.clips.playout[i]).uses - 1)
          else (t.clips.playout[i]).uses } } } := by
    cases x with
    | none =>
      have same : t.clips.playout = Vector.ofFn fun i : Fin 63 => t.clips.playout[i] := by
        ext i hi <;> simp
      simp only [useOptional, reduceCtorEq, if_false]
      exact congrArg (fun v => { t with clips := { t.clips with playout := v } }) same
    | some j =>
      simp only [useOptional, useClip, State.modClip, Option.some.injEq]
      refine congrArg (fun v => { t with clips := { t.clips with playout := v } }) (Vector.ext fun i hi => ?_)
      by_cases hij : j.val = i
      · subst hij
        simp
      · have hij' : j ≠ ⟨i, hi⟩ := fun e => hij (congrArg Fin.val e)
        simp [hij, hij']
  rw [one, one]
  refine congrArg (fun v => { s with clips := { s.clips with playout := v } }) (Vector.ext fun i hi => ?_)
  by_cases hb : before = some ⟨i, hi⟩ <;> by_cases hx : n = some ⟨i, hi⟩ <;> simp [hb, hx]

theorem exec_clipRoleSet {role id : Byte} {r : Role} {n : Option ClipId} {s : State} (h : Takes .P s) (hr : roleOf role = some r)
    (hn : optionalClipOf id = some n) (fits : s.mayDesignate n = true) :
    exec (.clipRoleSet .P [role, id]) s = .next (answered .P 0x14 .ok .none { s with
      clips := ({ s.clips with playout := Vector.ofFn fun i : Fin 63 => { s.clips.playout[i] with
        uses := (s.clips.playout[i]).uses - (if s.clips.role r = some i then 1 else 0) + (if n = some i then 1 else 0) } } :
          ClipStore).setRole r n }) := by
  refine congrArg _ (command_ok h (clipRoleSet_checks h _ rfl) ?_)
  have fits' : (frameComplete .P s).mayDesignate n = true := fits
  have parsed : clipRoleSetOwner [role, id] (frameComplete .P s) = .ok (designate r n (frameComplete .P s)) .none := by
    simp only [clipRoleSetOwner, byteAt, List.getD_cons_zero, List.getD_cons_succ, hr, hn, fits', if_true]
  rw [parsed, designate, useOptional_playout]
  rfl

theorem roleOf_none {role : Byte} (h : 1 < role.toNat) : roleOf role = none := by
  have zero : role ≠ 0 := fun e => by simp [e] at h
  have one : role ≠ 1 := fun e => by simp [e] at h
  rw [roleOf, if_neg zero, if_neg one]

theorem rolesAreSet : Claims.RolesAreSet := by
  intro role id s h fits counted
  have designated {n : Option ClipId} (hn : fits n) : optionalClipOf id = some n ∧ s.mayDesignate n = true := by
    cases n with
    | none => exact ⟨if_pos hn, rfl⟩
    | some i =>
      obtain ⟨hi, ready, guarded⟩ := hn
      have named : id ≠ 0 := fun e => by simp [e] at hi
      refine ⟨(if_neg named).trans (by rw [clipIdOf_val_succ hi]; rfl), ?_⟩
      exact Bool.and_eq_true_iff.mpr ⟨decide_eq_true ready, guarded⟩
  refine ⟨fun n hn hr => ?_, fun n hn hr => ?_, fun bad => congrArg _ (command_refused h (clipRoleSet_checks h _ rfl) ?_)⟩
  · exact exec_clipRoleSet h (r := .fallback) (by rw [hr]; rfl) (designated hn).1 (designated hn).2
  · exact exec_clipRoleSet h (r := .tone) (by rw [hr]; rfl) (designated hn).1 (designated hn).2
  · simp only [clipRoleSetOwner, byteAt, List.getD_cons_zero, List.getD_cons_succ]
    split
    · next r n hr hn =>
      rcases bad with outside | unfit
      · rw [roleOf_none outside] at hr
        cases hr
      · refine if_neg fun may => unfit n ?_
        by_cases zero : id = 0
        · rw [optionalClipOf, if_pos (by exact zero)] at hn
          obtain rfl : none = n := by injection hn
          exact zero
        · rw [optionalClipOf, if_neg (by exact zero)] at hn
          obtain ⟨i, hi, rfl⟩ := Option.map_eq_some_iff.mp hn
          simp only [State.mayDesignate, Bool.and_eq_true, decide_eq_true_eq] at may
          refine ⟨?_, may.1, may.2⟩
          unfold clipIdOf numberOf at hi
          split at hi
          · simp only [Option.some.injEq] at hi
            rw [← hi]
            dsimp only
            omega
          · cases hi
    · rfl

/-- Settles O25. -/
theorem clipsAreDeletedAndDesignated : Obligations.ClipsAreDeletedAndDesignated := ⟨clipsAreDeleted, rolesAreSet⟩

end Sys2Proof.ClipCommands
end

section
/-! R66 to R68, R72, R135, R198: CLIP READ and the clip readers, which fetch through the same check. -/

namespace Sys2Proof.ClipReading

-- one thread: the check compiles under a limit on the process
set_option Elab.async false

open Sys2Proof.Machine Sys2Proof.Safety Sys2Proof.Laws Sys2Proof.TakenCommands Sys2Proof.ClipCommands

-- the checked fetch

theorem passes_iff (g : Segment) : g.passes = true ↔ segmentCheck g.frames = g.check := decide_eq_true_iff

theorem received_passes {g : Segment} (h : g.passes = true) : g.received = g := if_pos h

theorem received_fails {g : Segment} (h : g.passes = false) : g.received = { g with frames := Block.silent, peak := 0 } :=
  if_neg (by simp [h])

theorem fetchClip_passes {n : Nat} {s : State} (h : (s.mem.read n).passes = true) : fetchClip n s = (s.mem.read n, s) := by
  rw [fetchClip, received_passes h, if_pos h]

/-- A failing segment of a playout clip (R26, R68). -/
def playoutFailed (n : ClipId) (k : Nat) (s : State) : State :=
  raise .P (.clipMemoryError (.playout n) k) { s with
    mem := { s.mem with errors := min 65535 (s.mem.errors + 1) }
    clips := { s.clips with playout := s.clips.playout.set n { s.clips.playout[n] with damaged := true } } }

theorem playoutFailed_frameComplete (n : ClipId) (k : Nat) (s : State) :
    playoutFailed n k (frameComplete .P s) = frameComplete .P (playoutFailed n k s) :=
  raise_frameComplete .P .P _ { s with
    mem := { s.mem with errors := min 65535 (s.mem.errors + 1) }
    clips := { s.clips with playout := s.clips.playout.set n { s.clips.playout[n] with damaged := true } } }

theorem clipFetchFailed_playout {n : ClipId} {k : Nat} {s : State} (held : s.mem.holder k = .clip (.playout n)) :
    clipFetchFailed k s = playoutFailed n k s := by
  simp only [clipFetchFailed, held]
  rfl

/-- A failing segment of an alert clip, whose record becomes DAMAGED too (R68, R135). -/
def alertClipFailed (n : AlertSlot) (k : Nat) (s : State) : State :=
  raise .P (.clipMemoryError (.alert n) k) { s with
    mem := { s.mem with errors := min 65535 (s.mem.errors + 1) }
    clips := { s.clips with alert := s.clips.alert.set n { s.clips.alert[n] with damaged := true } }
    alerts := { s.alerts with
      records := s.alerts.records.set n ((s.alerts.records[n]).map fun r => { r with damaged := true }) } }

theorem clipFetchFailed_alert {n : AlertSlot} {k : Nat} {s : State} (held : s.mem.holder k = .clip (.alert n)) :
    clipFetchFailed k s = alertClipFailed n k s := by
  have marked : (Vector.ofFn fun i : Fin 4 => (s.alerts.records[i]).map fun r =>
      if decide (i = n) then { r with damaged := true } else r) =
      s.alerts.records.set n ((s.alerts.records[n]).map fun r => { r with damaged := true }) := by
    refine Vector.ext fun i hi => ?_
    by_cases h : n.val = i
    · subst h
      simp
    · have other : (⟨i, hi⟩ : Fin 4) ≠ n := fun e => h (congrArg Fin.val e).symm
      simp [h, other]
  simp only [clipFetchFailed, held, alertClipFailed, ← marked]
  rfl

theorem fetchClip_fails {n : Nat} {s t : State} (h : (s.mem.read n).passes = false) (failed : clipFetchFailed n s = t) :
    fetchClip n s = ({ s.mem.read n with frames := Block.silent, peak := 0 }, t) := by
  rw [fetchClip, received_fails h, if_neg (by simp [h]), failed]

-- CLIP READ

theorem clipRead_checks {s : State} (h : Takes .P s) (ps : List Byte) (six : ps.length = 6) :
    failedCheck .P 0x13 ps (frameComplete .P s) = none :=
  checks_pass h [.P] (.exactly 6) rfl rfl (decide_eq_true six)

section
variable {id o1 o0 f1 f0 count : Byte} {n : ClipId} {s : State}

theorem clipReadOwner_eq (hid : id.toNat = n.val + 1) : clipReadOwner [id, o1, o0, f1, f0, count] s =
    if 480 ≤ u16 f1 f0 ∨ 36 < count.toNat ∨ 480 < u16 f1 f0 + count.toNat then .refuse .badParam
    else if count.toNat = 0 then .ok s (.bytes (clipPart s n))
    else match (s.segments (.playout n))[u16 o1 o0]? with
      | none => .refuse .notFound
      | some k => .ok (fetchClip k s).2 (.bytes (clipPart (fetchClip k s).2 n ++
          segmentPart (s.mem.read k) (u16 o1 o0) k (s.clip (.playout n)).count (u16 f1 f0) count.toNat)) := by
  simp only [clipReadOwner, byteAt, List.getD_cons_zero, List.getD_cons_succ, clipIdOf_val_succ hid]
  rfl

/-- A clip record's bytes, as R198 lays them out, with its DAMAGED mark given. -/
theorem clipPart_eq (hid : id.toNat = n.val + 1) (damaged : Nat)
    (marked : (if (s.clips.playout[n]).damaged then 8 else 0) = damaged) :
    clipPart s n = [id, BitVec.ofNat 8 (match (s.clips.playout[n]).state with | .empty => 0 | .capturing => 1 | .ready => 2),
      BitVec.ofNat 8 ((if (s.clips.playout[n]).isProtected then 1 else 0) + (if (s.clips.playout[n]).loop then 2 else 0) +
        (if (s.clips.playout[n]).truncated then 4 else 0) + damaged)] ++ be16Opt (s.clips.playout[n]).tag ++
      be24 (480 * (s.clips.playout[n]).count) ++ be16 (s.clips.playout[n]).count ++
      [BitVec.ofNat 8 (s.clips.playout[n]).uses, BitVec.ofNat 8 ((if decide (s.clips.fallback = some n) then 1 else 0) +
        (if decide (s.clips.tone = some n) then 2 else 0))] ++ be16 ((s.clips.playout[n]).first.getD 0xFFFF) := by
  have named : byte (n.val + 1) = id := by rw [← hid]; exact BitVec.ofNat_toNat 8 id
  have coded : (s.clips.playout[n]).state.code =
      BitVec.ofNat 8 (match (s.clips.playout[n]).state with | .empty => 0 | .capturing => 1 | .ready => 2) := by
    cases (s.clips.playout[n]).state <;> rfl
  have clip : s.clip (.playout n) = s.clips.playout[n] := rfl
  simp only [clipPart, named, clip, coded, flagBits, marked]
  rfl

theorem segmentPart_passes {g : Segment} (h : g.passes = true) (ordinal number total first : Nat) :
    segmentPart g ordinal number total first count.toNat = be16 ordinal ++ be16 number ++ be24 g.peak ++
      [BitVec.ofNat 8 ((if decide (ordinal + 1 = total) then 1 else 0) + 2)] ++ be16 (g.link.getD 0xFFFF) ++ be16 first ++
      [count] ++ ((g.frames.toList.drop first).take count.toNat).flatMap frameBytes := by
  have counted : byte count.toNat = count := BitVec.ofNat_toNat 8 count
  simp only [segmentPart, received_passes h, h, counted, flagBits]
  rfl

theorem silent_frames {first frames : Nat} (fits : first + frames ≤ 480) :
    ((Block.silent.toList.drop first).take frames).flatMap frameBytes = List.replicate (6 * frames) 0 := by
  have listed : Block.silent.toList = List.replicate 480 Frame.silent := by simp [Block.silent, Vector.toList_replicate]
  have spelled : frameBytes Frame.silent = List.replicate 6 0 := rfl
  rw [listed, List.drop_replicate, List.take_replicate, min_eq_left (by omega), List.flatMap_replicate, spelled,
    List.flatten_replicate_replicate, Nat.mul_comm]

theorem segmentPart_fails {g : Segment} (h : g.passes = false) (ordinal number total : Nat) {first : Nat}
    (fits : first + count.toNat ≤ 480) :
    segmentPart g ordinal number total first count.toNat = be16 ordinal ++ be16 number ++ be24 0 ++
      [BitVec.ofNat 8 (if decide (ordinal + 1 = total) then 1 else 0)] ++ be16 (g.link.getD 0xFFFF) ++ be16 first ++
      [count] ++ List.replicate (6 * count.toNat) 0 := by
  have counted : byte count.toNat = count := BitVec.ofNat_toNat 8 count
  simp only [segmentPart, received_fails h, h, counted, flagBits, silent_frames fits]
  rfl

end

theorem clipReadReturnsTheClip_passes : Claims.ClipReadReturnsTheClip := by
  intro id o1 o0 f1 f0 count n s h hid ps c bit b8 two three clipPart' ordinal first
  have record : clipPart s n = clipPart' := clipPart_eq hid _ rfl
  have owner : clipReadOwner ps (frameComplete .P s) = _ := clipReadOwner_eq hid
  refine ⟨fun inside zero => congrArg _ (command_ok h (clipRead_checks h ps rfl) ?_),
    fun outside => congrArg _ (command_refused h (clipRead_checks h ps rfl) ?_),
    fun inside some few beyond => congrArg _ (command_refused h (clipRead_checks h ps rfl) ?_),
    fun k inside some few found passes => ?_⟩
  · rw [owner, if_neg, if_pos (by simp [zero])]
    · exact congrArg (Reply.ok _ <| .bytes ·) record
    · have none_read : count.toNat = 0 := by simp [zero]
      change ¬(480 ≤ first ∨ 36 < count.toNat ∨ 480 < first + count.toNat)
      omega
  · exact owner.trans (if_pos outside)
  · have past : ((frameComplete .P s).segments (.playout n))[u16 o1 o0]? = none := List.getElem?_eq_none beyond
    rw [owner, if_neg, if_neg (by omega), past]
    change ¬(480 ≤ first ∨ 36 < count.toNat ∨ 480 < first + count.toNat)
    omega
  · intro g
    have there : ((frameComplete .P s).segments (.playout n))[u16 o1 o0]? = Option.some k := found
    have good : g.passes = true := (passes_iff g).mpr passes
    have fetched : fetchClip k (frameComplete .P s) = (g, frameComplete .P s) := fetchClip_passes good
    refine congrArg _ (command_ok h (clipRead_checks h ps rfl) ?_)
    rw [owner, if_neg, if_neg (by omega), there]
    · dsimp only
      rw [fetched, show (frameComplete .P s).mem.read k = g from rfl, segmentPart_passes good]
      refine congrArg (Reply.ok _ <| .bytes ·) ?_
      rw [show clipPart (g, frameComplete .P s).2 n = clipPart' from record]
      simp only [List.append_assoc]
      rfl
    · change ¬(480 ≤ first ∨ 36 < count.toNat ∨ 480 < first + count.toNat)
      omega

theorem clipReadFailures : Claims.ClipReadFailures := by
  intro id o1 o0 f1 f0 count s h ps
  refine ⟨fun outside => congrArg _ (command_refused h (clipRead_checks h ps rfl) ?_), fun n k hid => ?_⟩
  · have outside' : clipIdOf (byteAt ps 0) = none := clipIdOf_out_of_range outside
    simp only [clipReadOwner, outside']
  intro c bit b8 two three clipPart' ordinal first inside some few found held fails
  have bad : (s.mem.read k).passes = false := decide_eq_false fails
  have there : ((frameComplete .P s).segments (.playout n))[u16 o1 o0]? = Option.some k := found
  have record : clipPart (frameComplete .P (playoutFailed n k s)) n = clipPart' := by
    have now : (frameComplete .P (playoutFailed n k s)).clips.playout[n] = { c with damaged := true } := by
      simp [playoutFailed, frameComplete, raise, c]
    have part := clipPart_eq (s := frameComplete .P (playoutFailed n k s)) hid 8 (by rw [now]; rfl)
    rw [part, now]
    rfl
  have fetched : fetchClip k (frameComplete .P s) =
      ({ s.mem.read k with frames := Block.silent, peak := 0 }, frameComplete .P (playoutFailed n k s)) := by
    refine fetchClip_fails bad ?_
    exact (clipFetchFailed_playout (by exact held)).trans (playoutFailed_frameComplete n k s)
  refine congrArg _ (command_ok h (clipRead_checks h ps rfl) (t := playoutFailed n k s) ?_)
  rw [show clipReadOwner ps (frameComplete .P s) = _ from clipReadOwner_eq hid, if_neg, if_neg (by omega), there]
  · dsimp only
    rw [fetched, show (frameComplete .P s).mem.read k = s.mem.read k from rfl, segmentPart_fails (first := u16 f1 f0) bad _ _ _ inside]
    refine congrArg (Reply.ok _ <| .bytes ·) ?_
    dsimp only
    rw [record]
    simp only [List.append_assoc]
    rfl
  · change ¬(480 ≤ first ∨ 36 < count.toNat ∨ 480 < first + count.toNat)
    omega

/-- Settles O26. -/
theorem clipReadReturnsTheClip : Obligations.ClipReadReturnsTheClip := ⟨clipReadReturnsTheClip_passes, clipReadFailures⟩

-- the readers

/-- One block read from the segment at the reader's place: the frames fetched, the reader moved on, its end told. -/
theorem readBlock_segment {r : ReaderOf} {x : Reader} {k : Nat} {s : State} (open' : s.clips.reader r = some x)
    (runs : x.ended = false) (attached : x.detached = false) (there : (s.segments x.clip)[x.ordinal]? = some k) :
    readBlock r s = ((fetchClip k s).1.frames,
      let moved := x.advanced (s.clip x.clip).loop (s.clip x.clip).count
      let t := (fetchClip k s).2.setReader r (some moved)
      if moved.ended then { t with due := t.due ++ [.endOfAudio r] } else t) := by
  simp only [readBlock, open', runs, attached, there, Bool.or_false, Bool.false_eq_true, if_false]

/-- How a reader moves on (R67). -/
theorem advanced_eq (c : ClipRef) (o : Nat) (loop : Bool) (count : Nat) :
    (⟨c, o, false, false⟩ : Reader).advanced loop count =
      ⟨c, if !decide (count ≤ o + 1) then o + 1 else if loop then 0 else min (o + 1) count,
        decide (count ≤ o + 1) && !loop, false⟩ := by
  unfold Reader.advanced
  by_cases more : o + 1 < count
  · have notLast : decide (count ≤ o + 1) = false := decide_eq_false (by omega)
    simp [more, notLast]
  · have last : decide (count ≤ o + 1) = true := decide_eq_true (by omega)
    cases loop <;> simp [more, last]

theorem readersFollowTheChain_playout : Claims.ReadersFollowTheChain := by
  intro r n o k s open' there held c last passes moved told
  have read := readBlock_segment open' rfl rfl there
  have advanced : (⟨.playout n, o, false, false⟩ : Reader).advanced (s.clip (.playout n)).loop (s.clip (.playout n)).count =
      moved := advanced_eq _ _ _ _
  simp only [advanced] at read
  refine ⟨fun good => ?_, fun bad => ?_⟩
  · rw [read, fetchClip_passes good]
  · rw [read, fetchClip_fails bad (clipFetchFailed_playout held)]
    rfl

theorem alertReadersFollowTheChain : Claims.AlertReadersFollowTheChain := by
  intro n o k s open' there held c last passes moved told records
  have read := readBlock_segment (r := .alert) open' rfl rfl there
  have advanced : (⟨.alert n, o, false, false⟩ : Reader).advanced (s.clip (.alert n)).loop (s.clip (.alert n)).count =
      moved := advanced_eq _ _ _ _
  simp only [advanced] at read
  refine ⟨fun good => ?_, fun bad => ?_⟩
  · rw [read, fetchClip_passes good]
  · rw [read, fetchClip_fails bad (clipFetchFailed_alert held)]
    rfl

/-- Settles O27. -/
theorem readersFollowTheChain : Obligations.ReadersFollowTheChain :=
  ⟨readersFollowTheChain_playout, alertReadersFollowTheChain⟩

end Sys2Proof.ClipReading
end

section
/-! The timed events' rows, the window checks and the state notices of the Cue Engine: when they act and when they change
nothing. -/

namespace Sys2Proof.EngineNotices

-- one thread: the check compiles under a limit on the process
set_option Elab.async false

open Sys2Proof.Machine Sys2Proof.Safety Sys2Proof.Laws

/-- A row takes an event that a boundary found and that still has what makes it happen. -/
theorem takeRow_found {d : Due} {s : State} (h : Found d s) (still : stillDue { s with due := s.due.erase d } d = true) :
    takeRow d s = happen d { s with due := s.due.erase d } := by
  obtain ⟨live, found⟩ := h
  have due : s.due.contains d = true := by simpa using found
  rw [takeRow, if_pos live, take, if_pos due]
  exact if_pos still

-- window checks (R130)

/-- The table's marks, as `eligible` has them. -/
theorem eligible_iff (c : Check) (view : EngineState) (r : AlertRecord) : eligible c view r = true ↔ r.overdue = true ∨
    match c with
    | .ordinary => r.cls = .immediate ∨ r.cls = .warning ∧ (view = .idle ∨ view = .armed ∨ view = .filling) ∨
      r.cls = .test ∧ view = .idle
    | .itemOffer => r.cls ≠ .test
    | .markOffer => True
    | .airingEnd => r.cls ≠ .test := by
  cases c <;> cases hc : r.cls <;> simp [eligible, hc, or_assoc]

theorem airing_isNone_iff (s : State) : s.airing = none ↔ ∀ k r, s.record k = some r → r.phase ≠ .airing := by
  rw [LawKeeping.airing_none_iff]
  refine forall_congr' fun k => ?_
  cases hr : s.record k <;> simp [State.inPhase, hr]

theorem not_eligible {c : Check} {view : EngineState} {r : AlertRecord} (overdue : r.overdue = false)
    (unmarked : match c with
      | .ordinary => r.cls ≠ .immediate ∧ (r.cls = .warning → view = .playing ∨ view = .held) ∧ (r.cls = .test → view ≠ .idle)
      | .itemOffer => r.cls = .test
      | .markOffer => False
      | .airingEnd => r.cls = .test) : eligible c view r = false := by
  refine Bool.eq_false_iff.mpr fun h => ?_
  rcases (eligible_iff c view r).mp h with late | marked
  · simp [overdue] at late
  · cases c with
    | ordinary =>
      obtain ⟨notImmediate, warning, test⟩ := unmarked
      rcases marked with h | ⟨h, v⟩ | ⟨h, v⟩
      · exact notImmediate h
      · rcases warning h with w | w <;> simp [w] at v
      · exact test h v
    | itemOffer => exact marked unmarked
    | markOffer => exact unmarked
    | airingEnd => exact marked unmarked

theorem find_none_of_noneTakes {c : Check} {view : EngineState} {q : List AlertSlot} {s : State}
    (h : ∀ k ∈ q, ∀ r, s.record k = some r → eligible c view r = false) :
    (q.find? fun k => match s.record k with | some r => eligible c view r | none => false) = none := by
  rw [List.find?_eq_none]
  intro k hk
  cases hr : s.record k with
  | none => simp
  | some r => simp [h k hk r hr]

/-- A check at which no record takes the air, in a state with the same records, queue and air. -/
theorem windowTaker_none {c : Check} {view : EngineState} {s t : State} (h : NoneTakes c view s)
    (device : t.dev.state = s.dev.state) (records : t.alerts.records = s.alerts.records)
    (queue : t.alerts.queue = s.alerts.queue) (viewed : t.alerts.view = view) : windowTaker c t = none := by
  have record (k : AlertSlot) : t.record k = s.record k := by simp only [State.record, records]
  rcases h with off | ⟨k, r, hr, airing⟩ | unmarked
  · have down : t.onAir = false := decide_eq_false (device ▸ off)
    simp [windowTaker, down]
  · have busy : t.airing ≠ none := fun e => (airing_isNone_iff t).mp e k r ((record k).trans hr) airing
    have busy' : t.airing.isNone = false := by
      cases ht : t.airing with
      | none => exact absurd ht busy
      | some _ => rfl
    simp [windowTaker, busy']
  · rw [windowTaker]
    split
    · rw [queue, viewed]
      exact find_none_of_noneTakes fun k hk r hr => not_eligible (unmarked k hk r ((record k).symm.trans hr)).1
        (unmarked k hk r ((record k).symm.trans hr)).2
    · rfl

theorem windowCheck_none {c : Check} {view : EngineState} {s t : State} (h : NoneTakes c view s)
    (device : t.dev.state = s.dev.state) (records : t.alerts.records = s.alerts.records)
    (queue : t.alerts.queue = s.alerts.queue) (viewed : t.alerts.view = view) : windowCheck c t = t := by
  rw [windowCheck, windowTaker_none h device records queue viewed]

/-- The record that a check gives the air. -/
theorem windowTaker_some {c : Check} {view : EngineState} {k : AlertSlot} {s t : State} (h : TakesAir c view k s)
    (device : t.dev.state = s.dev.state) (records : t.alerts.records = s.alerts.records)
    (queue : t.alerts.queue = s.alerts.queue) (viewed : t.alerts.view = view) : windowTaker c t = some k := by
  have record (k : AlertSlot) : t.record k = s.record k := by simp only [State.record, records]
  obtain ⟨onAir, free, before, after, r, split, hr, marked, ahead⟩ := h
  have up : t.onAir = true := decide_eq_true (device.trans onAir)
  have idle : t.airing = none := (airing_isNone_iff t).mpr fun j x hx => free j x ((record j).symm.trans hx)
  have takes : eligible c view r = true := by
    refine (eligible_iff c view r).mpr (marked.imp_right fun m => ?_)
    cases c with
    | ordinary =>
      refine m.imp_right (Or.imp_left fun ⟨warning, notPlaying, notHeld⟩ => ⟨warning, ?_⟩)
      cases view <;> simp_all
    | _ => exact m
  rw [windowTaker, up, idle]
  simp only [Option.isNone_none, Bool.and_self, if_true, queue, viewed, split, record]
  have noneAhead : (before.find? fun k => match s.record k with | some r => eligible c view r | none => false) = none := by
    rcases ahead with off | ⟨j, x, hx, airing⟩ | unmarked
    · exact absurd onAir off
    · exact absurd airing (free j x hx)
    · exact find_none_of_noneTakes fun j hj x hx => not_eligible (unmarked j hj x hx).1 (unmarked j hj x hx).2
  have self : (match s.record k with | some r => eligible c view r | none => false) = true := by simp only [hr, takes]
  rw [List.find?_append]
  exact (congrArg (fun o => Option.or o _) noneAhead).trans ((Option.none_or).trans (List.find?_cons_of_pos self))

-- state notices (R79)

/-- The engine enters a state with no record taking the air at its notice. -/
theorem enterEngine_quiet {was st : EngineState} {s t : State} (h : NoneTakes .ordinary st s)
    (device : t.dev.state = s.dev.state) (records : t.alerts.records = s.alerts.records)
    (queue : t.alerts.queue = s.alerts.queue) : enterEngine was st t = { t with
      cue := { t.cue with state := st }
      alerts := { t.alerts with view := if st = was then t.alerts.view else st } } := by
  rw [enterEngine]
  split
  · rfl
  · exact windowCheck_none h device records queue rfl

theorem settleFrom_stays {was : EngineState} {s : State} (h : s.cue.state = .held ∨ s.cue.state = .filling) :
    settleFrom was s = s := if_pos h

/-- Outside HELD and FILLING the engine's state follows the list. -/
theorem settleFrom_follows {was : EngineState} {s : State} (notHeld : s.cue.state ≠ .held) (notFilling : s.cue.state ≠ .filling) :
    settleFrom was s = enterEngine was (followList s.cue.entries)
      { s with cue := { s.cue with goPending := s.cue.goPending && s.cue.hasWaiting } } := by
  rw [settleFrom, if_neg (by simp [notHeld, notFilling])]
  cases waits : s.cue.hasWaiting
  · simp
  · simp

theorem followList_eq (es : List Entry) : followList es =
    if es.any fun e => decide (e.state = .playing) then .playing else if es = [] then .idle else .armed := by
  unfold followList Entry.playing
  cases es <;> simp

end Sys2Proof.EngineNotices
end

section
/-! R103, R104: measurements. -/

namespace Sys2Proof.Measurements

-- one thread: the check compiles under a limit on the process
set_option Elab.async false

open Sys2Proof.Machine Sys2Proof.Safety Sys2Proof.Laws Sys2Proof.TakenCommands Sys2Proof.EngineNotices

theorem lineMeasure_checks {s : State} (h : Takes .S s) {ps : List Byte} (fits : ps.length = 1 ∨ ps.length = 4) :
    failedCheck .S 0x52 ps (frameComplete .S s) = none :=
  checks_pass h [.S] .oneOrFour rfl rfl (by simpa [ParamBytes.admits] using fits)

theorem lineMeasureOwner_named {ps : List Byte} {i : PhoneLine} {s : State} (hb : lineOf (byteAt ps 0) = some i) :
    lineMeasureOwner ps s = if s.callers.measure.isSome then .refuse .busy
      else if (s.line i).state ≠ .screening then .refuse .notFound
      else .ok { s with callers := { s.callers with measure := some ⟨i, measureTarget ps, 0, 0⟩ } } .none := by
  simp only [lineMeasureOwner, hb]

/-- What LINE MEASURE does, with either number of parameter bytes. -/
theorem exec_lineMeasure {b : Byte} {i : PhoneLine} {ps : List Byte} {s : State} (h : Takes .S s) (hb : b.toNat = i.val + 1)
    (fits : (b :: ps).length = 1 ∨ (b :: ps).length = 4) :
    (s.callers.measure ≠ none → exec (.lineMeasure .S (b :: ps)) s = .next (answered .S 0x52 .busy .none s)) ∧
    (s.callers.measure = none → (s.line i).state ≠ .screening →
      exec (.lineMeasure .S (b :: ps)) s = .next (answered .S 0x52 .notFound .none s)) ∧
    (s.callers.measure = none → (s.line i).state = .screening →
      exec (.lineMeasure .S (b :: ps)) s = .next (answered .S 0x52 .ok .none { s with
        callers := { s.callers with measure := some ⟨i, measureTarget (b :: ps), 0, 0⟩ } })) := by
  have owner := lineMeasureOwner_named (ps := b :: ps) (s := frameComplete .S s) (lineOf_val_succ hb)
  refine ⟨fun busy => congrArg _ (command_refused h (lineMeasure_checks h fits) ?_),
    fun free other => congrArg _ (command_refused h (lineMeasure_checks h fits) ?_),
    fun free screening => congrArg _ (command_ok h (lineMeasure_checks h fits) ?_)⟩
  · exact owner.trans (if_pos (Option.isSome_iff_ne_none.mpr busy))
  · exact owner.trans ((if_neg (fun e => Option.isSome_iff_ne_none.mp e free)).trans (if_pos other))
  · exact owner.trans ((if_neg (fun e => Option.isSome_iff_ne_none.mp e free)).trans (if_neg fun e => e screening))

theorem judge_noSignal {target peak trim : Nat} (low : peak < 4096) : judge target peak trim = (.noSignal, trim) := if_pos low

theorem judge_clipped {target peak trim : Nat} (high : 8300000 ≤ peak) : judge target peak trim = (.clipped, trim) :=
  (if_neg (by omega)).trans (if_pos high)

theorem judge_pass {target peak trim : Nat} (low : 4096 ≤ peak) (high : peak < 8300000) :
    judge target peak trim = (.pass, max 256 (min 32767 (target * 4096 / peak))) :=
  (if_neg (by omega)).trans (if_neg (by omega))

theorem exec_measureDone {m : Measure} {r : MeasureResult} {trim : Nat} {s : State} (h : Found .measureDone s)
    (hm : s.callers.measure = some m) (complete : 200 ≤ m.count)
    (judged : judge m.target m.peak (s.line m.line).trim = (r, trim)) :
    exec .measureDone s = .next (raise .S (.measureDone m.line r trim) { s with
      due := s.due.erase .measureDone
      callers := { s.callers with
        lines := s.callers.lines.set m.line { s.line m.line with result := r, trim := trim }
        measure := none } }) := by
  have still : stillDue { s with due := s.due.erase .measureDone } .measureDone = true := by
    simp [stillDue, hm, complete]
  have judged' : judge m.target m.peak (({ s with due := s.due.erase .measureDone } : State).line m.line).trim = (r, trim) :=
    judged
  refine congrArg _ ((takeRow_found h still).trans ?_)
  simp only [happen, measureDone, hm, complete, judged', if_true]
  rfl

/-- Settles O34. -/
theorem linesAreMeasured : Obligations.LinesAreMeasured := by
  refine ⟨?_, ?_⟩
  · intro b t2 t1 t0 s h given measure
    refine ⟨fun outside => ?_, fun i hb => ?_⟩
    · have refused (ps : List Byte) : lineMeasureOwner (b :: ps) (frameComplete .S s) = .refuse .badParam := by
        simp only [lineMeasureOwner, byteAt, List.getD_cons_zero, lineOf_out_of_range outside]
      exact ⟨congrArg _ (command_refused h (lineMeasure_checks h (.inl rfl)) (refused [])),
        congrArg _ (command_refused h (lineMeasure_checks h (.inr rfl)) (refused [t2, t1, t0]))⟩
    · obtain ⟨busy1, other1, taken1⟩ := exec_lineMeasure (ps := []) h hb (.inl rfl)
      obtain ⟨busy4, other4, taken4⟩ := exec_lineMeasure (ps := [t2, t1, t0]) h hb (.inr rfl)
      exact ⟨fun m => ⟨busy1 m, busy4 m⟩, fun m o => ⟨other1 m o, other4 m o⟩, fun m o => ⟨taken1 m o, taken4 m o⟩⟩
  · intro m s h hm complete x judged
    exact ⟨fun low => exec_measureDone h hm complete (judge_noSignal low),
      fun high => exec_measureDone h hm complete (judge_clipped high),
      fun low high => exec_measureDone h hm complete (judge_pass low high)⟩

end Sys2Proof.Measurements
end

section
/-! R106: the order of the hold queue. A line placed in a queue in order leaves it in order; renumbering keeps every place. -/

namespace Sys2Proof.HoldQueue

set_option Elab.async false

open Sys2Proof.Machine Sys2Proof.Safety Sys2Proof.Laws Sys2Proof.LinePlaces

/-- Line `a` stands before line `b` in a queue in order. -/
def Before (ls : Vector LineRecord 4) (a b : PhoneLine) : Prop :=
  ls[a].priority.getD 0 < ls[b].priority.getD 0 ∨
    ls[a].priority.getD 0 = ls[b].priority.getD 0 ∧ ls[a].number.getD 0 < ls[b].number.getD 0

theorem queueInOrder_iff (ls : Vector LineRecord 4) (q : List PhoneLine) : QueueInOrder ls q ↔ q.Pairwise (Before ls) := Iff.rfl

theorem ahead_iff (ls : Vector LineRecord 4) (a b : PhoneLine) : ahead ls a b = true ↔ Before ls a b := by
  simp [ahead, Before]

theorem Before.trans {ls : Vector LineRecord 4} {a b c : PhoneLine} (h : Before ls a b) (k : Before ls b c) : Before ls a c := by
  unfold Before at *
  omega

/-- Of two lines with different numbers one stands before the other. -/
theorem Before.of_not {ls : Vector LineRecord 4} {a b : PhoneLine} (h : ¬Before ls a b)
    (differ : ls[a].number.getD 0 ≠ ls[b].number.getD 0) : Before ls b a := by
  unfold Before at *
  omega

/-- Two tables that agree on the keys of the lines in a queue order it alike. -/
theorem queueInOrder_congr {ls ls' : Vector LineRecord 4} {q : List PhoneLine}
    (h : ∀ j ∈ q, ls'[j].priority = ls[j].priority ∧ ls'[j].number = ls[j].number) :
    QueueInOrder ls q → QueueInOrder ls' q := fun ordered =>
  List.Pairwise.imp_of_mem (fun {a b} ha hb k => by
    obtain ⟨pa, na⟩ := h a ha
    obtain ⟨pb, nb⟩ := h b hb
    rw [pa, na, pb, nb]
    exact k) ordered

theorem placeInQueue_inOrder {ls : Vector LineRecord 4} {x : PhoneLine} {q : List PhoneLine} (h : QueueInOrder ls q)
    (differ : ∀ y ∈ q, ls[x].number.getD 0 ≠ ls[y].number.getD 0) : QueueInOrder ls (placeInQueue ls x q) := by
  rw [queueInOrder_iff] at h ⊢
  induction q with
  | nil => simp [placeInQueue]
  | cons y ys ih =>
    obtain ⟨first, rest⟩ := List.pairwise_cons.mp h
    simp only [placeInQueue]
    by_cases front : Before ls x y
    · rw [if_pos ((ahead_iff ls x y).mpr front)]
      exact List.pairwise_cons.mpr ⟨fun z hz => (List.mem_cons.mp hz).elim (fun e => e ▸ front) fun hz => front.trans (first z hz),
        h⟩
    · rw [if_neg (mt (ahead_iff ls x y).mp front)]
      refine List.pairwise_cons.mpr ⟨fun z hz => ?_, ih rest fun z hz => differ z (List.mem_cons_of_mem _ hz)⟩
      rcases List.mem_cons.mp ((placeInQueue_perm ls x ys).mem_iff.mp hz) with rfl | hz
      · exact Before.of_not front (differ y List.mem_cons_self)
      · exact first z hz

theorem placeInQueue_congr {ls ls' : Vector LineRecord 4} {x : PhoneLine} {q : List PhoneLine}
    (h : ∀ j : PhoneLine, ls'[j].priority = ls[j].priority ∧ ls'[j].number = ls[j].number) :
    placeInQueue ls' x q = placeInQueue ls x q := by
  have same (j : PhoneLine) : ahead ls' x j = ahead ls x j := by
    simp only [ahead, (h x).1, (h x).2, (h j).1, (h j).2]
  induction q with
  | nil => rfl
  | cons y ys ih => simp only [placeInQueue, same, ih]

theorem filter_placeInQueue {ls : Vector LineRecord 4} {x : PhoneLine} {q : List PhoneLine} (fresh : x ∉ q) :
    (placeInQueue ls x q).filter (fun j => decide (j ≠ x)) = q := by
  induction q with
  | nil => simp [placeInQueue]
  | cons y ys ih =>
    have other : y ≠ x := fun e => fresh (e ▸ List.mem_cons_self)
    have rest : x ∉ ys := fun hx => fresh (List.mem_cons_of_mem _ hx)
    have kept : ys.filter (fun j => decide (j ≠ x)) = ys :=
      List.filter_eq_self.mpr fun j hj => decide_eq_true fun e => rest (e ▸ hj)
    simp only [placeInQueue]
    split
    · rw [List.filter_cons_of_neg (by simp), List.filter_cons_of_pos (by simpa using other), kept]
    · rw [List.filter_cons_of_pos (by simpa using other), ih rest]

-- admission numbers

theorem giveNumber_next {i : PhoneLine} {s : State} (room : s.callers.nextNumber ≠ 65535) : giveNumber i s =
    { s with callers := { s.callers with
      lines := s.callers.lines.set i { s.line i with number := some s.callers.nextNumber }
      nextNumber := s.callers.nextNumber + 1 } } := by
  rw [giveNumber, if_neg room]
  rfl

theorem getElem_set_same (ls : Vector LineRecord 4) (i : PhoneLine) (x : LineRecord) : (ls.set i x)[i] = x := by simp

theorem getElem_set_other (ls : Vector LineRecord 4) {i j : PhoneLine} (h : j ≠ i) (x : LineRecord) : (ls.set i x)[j] = ls[j] := by
  have h' : i.val ≠ j.val := fun e => h (Fin.ext e.symm)
  simp [h']

/-- A line placed with a number above all those queued. -/
theorem joined_inOrder {ls : Vector LineRecord 4} {i : PhoneLine} {x : LineRecord} {n : Nat} {q : List PhoneLine}
    (h : QueueInOrder ls q) (fresh : i ∉ q) (number : x.number = some n) (below : ∀ j ∈ q, ls[j].number.getD 0 < n) :
    QueueInOrder (ls.set i x) (placeInQueue (ls.set i x) i q) := by
  have other {j : PhoneLine} (hj : j ∈ q) : (ls.set i x)[j] = ls[j] :=
    getElem_set_other ls (by rintro rfl; exact fresh hj) x
  refine placeInQueue_inOrder (queueInOrder_congr (fun j hj => by rw [other hj]; exact ⟨rfl, rfl⟩) h) fun j hj => ?_
  rw [getElem_set_same, other hj, number]
  exact (below j hj).ne'

-- renumbering

/-- How many queued lines have a smaller number. -/
def smaller (ls : Vector LineRecord 4) (q : List PhoneLine) (j : PhoneLine) : Nat :=
  q.countP fun m => decide (ls[m].number.getD 0 < ls[j].number.getD 0)

/-- Of two queued lines the one with the smaller number has fewer below it. -/
theorem smaller_lt {ls : Vector LineRecord 4} {q : List PhoneLine} {a b : PhoneLine} (ha : a ∈ q)
    (h : ls[a].number.getD 0 < ls[b].number.getD 0) : smaller ls q a < smaller ls q b := by
  unfold smaller
  induction q with
  | nil => cases ha
  | cons y ys ih =>
    have le : ys.countP (fun m => decide (ls[m].number.getD 0 < ls[a].number.getD 0)) ≤
        ys.countP fun m => decide (ls[m].number.getD 0 < ls[b].number.getD 0) :=
      List.countP_mono_left fun m _ k => decide_eq_true ((of_decide_eq_true k).trans h)
    rw [List.countP_cons, List.countP_cons]
    rcases List.mem_cons.mp ha with rfl | ha
    · simp only [lt_self_iff_false, decide_false, Bool.false_eq_true, if_false, h, decide_true, if_true]
      omega
    · have less := ih ha
      have step : (if decide (ls[y].number.getD 0 < ls[a].number.getD 0) = true then 1 else 0) ≤
          if decide (ls[y].number.getD 0 < ls[b].number.getD 0) = true then 1 else 0 := by
        by_cases k : ls[y].number.getD 0 < ls[a].number.getD 0
        · rw [if_pos (decide_eq_true k), if_pos (decide_eq_true (k.trans h))]
        · rw [if_neg (by rw [decide_eq_false k]; decide)]
          exact Nat.zero_le _
      omega

theorem smaller_lt_length {ls : Vector LineRecord 4} {q : List PhoneLine} {j : PhoneLine} (hj : j ∈ q) :
    smaller ls q j < q.length := by
  refine lt_of_le_of_ne List.countP_le_length fun all => ?_
  have self := (List.countP_eq_length.mp all) j hj
  simp at self

theorem renumber_line (c : Callers) (base : Nat) (j : PhoneLine) : (c.renumber base).lines[j] =
    if j ∈ c.queue then { c.lines[j] with number := some (base + 1 + smaller c.lines c.queue j) } else c.lines[j] := by
  simp [Callers.renumber, rankInQueue, smaller]

theorem renumber_inOrder {c : Callers} (base : Nat) (h : QueueInOrder c.lines c.queue) :
    QueueInOrder (c.renumber base).lines c.queue := by
  refine List.Pairwise.imp_of_mem (fun {a b} ha hb k => ?_) h
  rw [renumber_line, renumber_line, if_pos ha, if_pos hb]
  rcases k with k | ⟨k, less⟩
  · exact .inl k
  · exact .inr ⟨k, by have := smaller_lt ha less; simp only [Option.getD_some]; omega⟩

theorem giveNumber_full {i : PhoneLine} {s : State} (full : s.callers.nextNumber = 65535) : giveNumber i s =
    { s with callers := { s.callers.renumber 0 with
      lines := (s.callers.renumber 0).lines.set i { (s.callers.renumber 0).lines[i] with
        number := some (s.callers.queue.length + 1) }
      nextNumber := s.callers.queue.length + 2 } } := by
  rw [giveNumber, if_pos full]
  have next : (s.callers.renumber 0).nextNumber = s.callers.queue.length + 1 := by simp [Callers.renumber]
  simp only [next]

end Sys2Proof.HoldQueue
end

section
/-! R106 to R109: the hold queue's commands. -/

namespace Sys2Proof.HoldQueueCommands

-- one thread: the check compiles under a limit on the process
set_option Elab.async false

open Sys2Proof.Machine Sys2Proof.Safety Sys2Proof.Laws Sys2Proof.TakenCommands Sys2Proof.TelephoneLines Sys2Proof.HoldQueue
open Sys2Proof.LinePlaces (placeInQueue_perm)

-- the parameters

theorem callerOf_spelled {b p : Byte} {text : List Byte} {i : PhoneLine} (hb : b.toNat = i.val + 1) (hp : p.toNat ≤ 3)
    (short : text.length ≤ 24) (plain : ∀ c ∈ text, 0x20 ≤ c.toNat ∧ c.toNat ≤ 0x7E) :
    callerOf (b :: p :: text) = some (i, p.toNat, if text = [] then none else some text) := by
  have line : lineOf (byteAt (b :: p :: text) 0) = some i := lineOf_val_succ hb
  have priority : priorityOf (byteAt (b :: p :: text) 1) = some p.toNat := if_pos hp
  have tag : tagTextOf ((b :: p :: text).drop 2) = some (if text = [] then none else some text) := by
    have chars : text.all isText = true := List.all_eq_true.mpr fun c hc => by simpa [isText] using plain c hc
    have rest : (b :: p :: text).drop 2 = text := rfl
    rw [rest, tagTextOf, if_pos ⟨short, chars⟩]
    cases text <;> rfl
  simp only [callerOf, line, priority, tag]
  rfl

theorem callerAdmit_checks {s : State} (h : Takes .S s) (b p : Byte) (text : List Byte) :
    failedCheck .S 0x53 (b :: p :: text) (frameComplete .S s) = none :=
  checks_pass h [.S] (.atLeast 2) rfl rfl (by simp [ParamBytes.admits])

theorem callerUpdate_checks {s : State} (h : Takes .S s) (b p : Byte) (text : List Byte) :
    failedCheck .S 0x54 (b :: p :: text) (frameComplete .S s) = none :=
  checks_pass h [.S] (.atLeast 2) rfl rfl (by simp [ParamBytes.admits])

theorem callerWithdraw_checks {s : State} (h : Takes .S s) (b : Byte) :
    failedCheck .S 0x55 [b] (frameComplete .S s) = none :=
  checks_pass h [.S] (.exactly 1) rfl rfl rfl

-- admission

/-- The record of an admitted line (R107). -/
def heldRecord (r : LineRecord) (priority : Nat) (tag : Option (List Byte)) : LineRecord :=
  { r with state := .held, priority := some priority, tag := tag }

theorem admitLine_next {i : PhoneLine} {p : Nat} {tag : Option (List Byte)} {s t : State} {lines : Vector LineRecord 4}
    {q : List PhoneLine} (aborted : abortMeasure i s = t) (room : t.callers.nextNumber ≠ 65535)
    (held : t.callers.lines.set i { heldRecord (t.line i) p tag with number := some t.callers.nextNumber } = lines)
    (placed : placeInQueue lines i t.callers.queue = q) :
    admitLine i p tag s = raise .S (.queueChanged q.length) { t with callers := { t.callers with
      lines := lines, queue := q, nextNumber := t.callers.nextNumber + 1 } } := by
  have numbered : giveNumber i (t.setLine i (heldRecord (t.line i) p tag)) = { t with callers := { t.callers with
      lines := lines, nextNumber := t.callers.nextNumber + 1 } } := by
    rw [giveNumber_next (by exact room), line_setLine]
    simp only [State.setLine, Vector.set_set, ← held]
  have admitted : admitLine i p tag s = raiseQueue (joinQueue i (t.setLine i (heldRecord (t.line i) p tag))) := by
    rw [admitLine, aborted]
    rfl
  rw [admitted, joinQueue, numbered, ← placed]
  rfl

theorem callerAdmitOwner_screening {b p : Byte} {text : List Byte} {i : PhoneLine} {tag : Option (List Byte)} {s : State}
    (spelled : callerOf (b :: p :: text) = some (i, p.toNat, tag)) (screening : (s.line i).state = .screening) :
    callerAdmitOwner (b :: p :: text) s = .ok (admitLine i p.toNat tag s) .none := by
  simp only [callerAdmitOwner, spelled, screening]

theorem number_lt {s : State} {n : Nat} {q : List PhoneLine} (h : ∀ j ∈ q, ∃ m, (s.line j).number = some m ∧ m < n) :
    ∀ j ∈ q, (s.callers.lines[j]).number.getD 0 < n := by
  intro j hj
  obtain ⟨m, hm, less⟩ := h j hj
  have hm' : (s.callers.lines[j]).number = some m := hm
  rw [hm']
  exact less

/-- Queued lines with numbers, no two alike, differ in what the order compares. -/
theorem numbers_differ {s : State} {q : List PhoneLine} {a b : PhoneLine} (given : ∀ j ∈ q, (s.line j).number.isSome = true)
    (differ : q.Pairwise fun a b => (s.line a).number ≠ (s.line b).number) (ha : a ∈ q) (hb : b ∈ q) (hab : a ≠ b) :
    (s.callers.lines[a]).number.getD 0 ≠ (s.callers.lines[b]).number.getD 0 := by
  obtain ⟨m, hm⟩ := Option.isSome_iff_exists.mp (given a ha)
  obtain ⟨n, hn⟩ := Option.isSome_iff_exists.mp (given b hb)
  have symm : Std.Symm fun a b : PhoneLine => (s.line a).number ≠ (s.line b).number := ⟨fun _ _ h => Ne.symm h⟩
  have other : (s.line a).number ≠ (s.line b).number := differ.forall ha hb hab
  rw [hm, hn] at other
  have hm' : (s.callers.lines[a]).number = some m := hm
  have hn' : (s.callers.lines[b]).number = some n := hn
  rw [hm', hn']
  exact fun e => other (congrArg some e)

theorem callersQueueInOrder_commands : Claims.CallersQueueInOrder := by
  intro b p text i s h hb hp short plain given room once ordered differ tag
  have spelled : callerOf (b :: p :: text) = some (i, p.toNat, tag) := callerOf_spelled hb hp short plain
  have room' : s.callers.nextNumber ≠ 65535 := by omega
  refine ⟨fun screening fresh => ?_, fun held queued => ?_, fun held => ?_, fun free => ?_, fun taken => ?_, fun other => ⟨?_, ?_⟩⟩
  · let line (r : MeasureResult) : LineRecord := { s.line i with
      state := .held, priority := some p.toNat, tag := tag, number := some s.callers.nextNumber, result := r }
    let q := placeInQueue (s.callers.lines.set i (line (s.line i).result)) i s.callers.queue
    have placed (r : MeasureResult) : placeInQueue (s.callers.lines.set i (line r)) i s.callers.queue = q := by
      refine placeInQueue_congr fun j => ?_
      by_cases hj : j = i
      · subst hj
        rw [getElem_set_same, getElem_set_same]
        exact ⟨rfl, rfl⟩
      · rw [getElem_set_other _ hj, getElem_set_other _ hj]
        exact ⟨rfl, rfl⟩
    refine ⟨q, placeInQueue_perm _ _ _, fun r => ?_, fun unmeasured => ?_, fun measured => ?_⟩
    · rw [← placed r]
      exact joined_inOrder ordered fresh rfl (number_lt given)
    · have aborted : abortMeasure i (frameComplete .S s) = frameComplete .S s :=
        abortMeasure_of_other fun m hm on => unmeasured ⟨m, hm, on⟩
      refine congrArg _ (command_ok h (callerAdmit_checks h b p text)
        ((callerAdmitOwner_screening spelled (by exact screening)).trans (congrArg (Reply.ok · .none) ?_)))
      rw [admitLine_next aborted (by exact room') rfl rfl]
      rfl
    · obtain ⟨m, hm, on⟩ := measured
      have aborted := abortMeasure_of_measured (s := frameComplete .S s) hm on
      refine congrArg _ (command_ok h (callerAdmit_checks h b p text)
        ((callerAdmitOwner_screening spelled (by exact screening)).trans (congrArg (Reply.ok · .none) ?_)))
      have lines : (s.callers.lines.set i { s.line i with result := .aborted }).set i
          { heldRecord (s.callers.lines.set i { s.line i with result := .aborted })[i] p.toNat tag with
            number := some s.callers.nextNumber } = s.callers.lines.set i (line .aborted) := by
        rw [getElem_set_same, Vector.set_set]
        rfl
      rw [admitLine_next aborted (by exact room') (by exact lines) (by exact placed .aborted)]
      rfl
  · have number (j : PhoneLine) : ((s.callers.lines.set i { s.line i with priority := some p.toNat, tag := tag })[j]).number =
        (s.callers.lines[j]).number := by
      by_cases hj : j = i
      · subst hj
        rw [getElem_set_same]
        rfl
      · rw [getElem_set_other _ hj]
    refine ⟨placeInQueue (s.callers.lines.set i { s.line i with priority := some p.toNat, tag := tag }) i
      (s.callers.queue.filter fun j => decide (j ≠ i)), ?_, ?_, ?_⟩
    · have same : s.callers.queue.filter (fun j => decide (j ≠ i)) = s.callers.queue.erase i := by
        rw [List.Nodup.erase_eq_filter once]
        refine List.filter_congr fun x _ => ?_
        by_cases hx : x = i <;> simp [hx]
      rw [same]
      exact (placeInQueue_perm _ _ _).trans (List.perm_cons_erase queued).symm
    · refine placeInQueue_inOrder (queueInOrder_congr (fun j hj => ?_) (List.Pairwise.filter _ ordered)) fun j hj => ?_
      · have other : j ≠ i := of_decide_eq_true (List.mem_filter.mp hj).2
        rw [getElem_set_other _ other]
        exact ⟨rfl, rfl⟩
      · obtain ⟨mem, other⟩ := List.mem_filter.mp hj
        rw [number, number]
        exact numbers_differ (fun k hk => (given k hk).elim fun n hn => by rw [hn.1]; rfl) differ queued mem
          (Ne.symm (of_decide_eq_true other))
    · refine congrArg _ (command_ok h (callerUpdate_checks h b p text) ?_)
      have held' : ((frameComplete .S s).line i).state = .held := held
      simp only [callerUpdateOwner, spelled, held', if_true]
      refine congrArg (Reply.ok · .none) ?_
      rw [updateCaller]
      split
      · next same => rw [if_pos (by exact same)]; rfl
      · next moved => rw [if_neg (by exact moved)]; rfl
  · have held' : ((frameComplete .S s).line i).state = .held := held
    refine congrArg _ (command_ok h (callerWithdraw_checks h b) ?_)
    simp only [callerWithdrawOwner, byteAt, List.getD_cons_zero, lineOf_val_succ hb, held', if_true]
    rfl
  · have free' : ((frameComplete .S s).line i).state = .free := free
    refine congrArg _ (command_refused h (callerAdmit_checks h b p text) ?_)
    simp only [callerAdmitOwner, spelled, free']
  · refine congrArg _ (command_refused h (callerAdmit_checks h b p text) ?_)
    rcases taken with held | onAir
    · have held' : ((frameComplete .S s).line i).state = .held := held
      simp only [callerAdmitOwner, spelled, held']
    · have onAir' : ((frameComplete .S s).line i).state = .onAir := onAir
      simp only [callerAdmitOwner, spelled, onAir']
  · have other' : ¬((frameComplete .S s).line i).state = .held := other
    refine congrArg _ (command_refused h (callerUpdate_checks h b p text) ?_)
    simp only [callerUpdateOwner, spelled, other', if_false]
  · have other' : ¬((frameComplete .S s).line i).state = .held := other
    refine congrArg _ (command_refused h (callerWithdraw_checks h b) ?_)
    simp only [callerWithdrawOwner, byteAt, List.getD_cons_zero, lineOf_val_succ hb, other', if_false]

-- renumbering

/-- What an aborted measurement leaves of the queue. -/
theorem abortMeasure_queue (i : PhoneLine) (s : State) : (abortMeasure i s).callers.queue = s.callers.queue ∧
    (abortMeasure i s).callers.nextNumber = s.callers.nextNumber ∧ ∀ j, j ≠ i → (abortMeasure i s).line j = s.line j := by
  unfold abortMeasure
  split
  · split
    · exact ⟨rfl, rfl, fun j hj => getElem_set_other _ hj _⟩
    · exact ⟨rfl, rfl, fun _ _ => rfl⟩
  · exact ⟨rfl, rfl, fun _ _ => rfl⟩

/-- A line that joins a queue at the number 65,535 (R106). -/
structure Renumbered (i : PhoneLine) (s t : State) : Prop where
  line : t.line i = { s.line i with number := some (s.callers.queue.length + 1) }
  next : t.callers.nextNumber = s.callers.queue.length + 2
  others : ∀ j ∈ s.callers.queue, t.line j = { s.line j with number := some (1 + smaller s.callers.lines s.callers.queue j) }
  place : t.callers.queue.filter (fun j => decide (j ≠ i)) = s.callers.queue
  queued : t.callers.queue.Perm (i :: s.callers.queue)
  ordered : QueueInOrder t.callers.lines t.callers.queue

theorem joinQueue_full {i : PhoneLine} {s : State} (full : s.callers.nextNumber = 65535) (fresh : i ∉ s.callers.queue)
    (ordered : QueueInOrder s.callers.lines s.callers.queue) : Renumbered i s (joinQueue i s) := by
  rw [joinQueue, giveNumber_full full]
  have self : (s.callers.renumber 0).lines[i] = s.line i := (renumber_line _ _ _).trans (if_neg fresh)
  have queued {j : PhoneLine} (hj : j ∈ s.callers.queue) : (s.callers.renumber 0).lines[j] =
      { s.line j with number := some (1 + smaller s.callers.lines s.callers.queue j) } :=
    (renumber_line _ _ _).trans ((if_pos hj).trans (by rw [Nat.zero_add]; rfl))
  refine ⟨?_, rfl, fun j hj => ?_, filter_placeInQueue fresh, placeInQueue_perm _ _ _, ?_⟩
  · exact (getElem_set_same _ _ _).trans (by rw [self])
  · have other : j ≠ i := by rintro rfl; exact fresh hj
    exact (getElem_set_other _ other _).trans (queued hj)
  · refine joined_inOrder (renumber_inOrder 0 ordered) fresh rfl fun j hj => ?_
    rw [queued hj]
    have few : smaller s.callers.lines s.callers.queue j < s.callers.queue.length := smaller_lt_length hj
    change 1 + smaller s.callers.lines s.callers.queue j < s.callers.queue.length + 1
    omega

theorem queuesAreRenumbered : Claims.QueuesAreRenumbered := by
  intro b p text i s h hb hp short plain screening fresh once full given differ ordered k
  have spelled := callerOf_spelled hb hp short plain
  obtain ⟨queue, next, others⟩ := abortMeasure_queue i (frameComplete .S s)
  let tag := if text = [] then none else some text
  let a := abortMeasure i (frameComplete .S s)
  let v := a.setLine i (heldRecord (a.line i) p.toNat tag)
  have line {j : PhoneLine} (hj : j ∈ s.callers.queue) : v.line j = s.line j := by
    have other : j ≠ i := by rintro rfl; exact fresh hj
    exact (line_setLine_ne other _ _).trans (others j other)
  have queueV : v.callers.queue = s.callers.queue := queue
  have orderedV : QueueInOrder v.callers.lines v.callers.queue := by
    rw [queueV]
    refine queueInOrder_congr (fun j hj => ?_) ordered
    have same : v.callers.lines[j] = s.callers.lines[j] := line hj
    rw [same]
    exact ⟨rfl, rfl⟩
  have joined := joinQueue_full (i := i) (s := v) (next.trans full) (by rw [queueV]; exact fresh) orderedV
  have taken : exec (.callerAdmit .S (b :: p :: text)) s = .next (respond .S 0x53 .ok .none (raiseQueue (joinQueue i v))) := by
    refine congrArg _ ((command_taken h _ (callerAdmit_checks h b p text)).trans ?_)
    rw [callerAdmitOwner_screening spelled (by exact screening)]
    rfl
  have rank (j : PhoneLine) (hj : j ∈ s.callers.queue) : smaller v.callers.lines v.callers.queue j =
      smaller s.callers.lines s.callers.queue j := by
    rw [queueV]
    refine List.countP_congr fun m hm => ?_
    have sameM : v.callers.lines[m] = s.callers.lines[m] := line hm
    have sameJ : v.callers.lines[j] = s.callers.lines[j] := line hj
    rw [sameM, sameJ]
  have self : v.line i = heldRecord (a.line i) p.toNat tag := line_setLine _ _ _
  refine ⟨_, taken, ?_, ?_, ?_, fun j hj => ?_, joined.place.trans queueV, ?_, ?_, joined.ordered⟩
  · exact (congrArg LineRecord.state joined.line).trans (by rw [self]; rfl)
  · exact (congrArg LineRecord.number joined.line).trans (by rw [queueV])
  · exact joined.next.trans (by rw [queueV])
  · exact (joined.others j (by rw [queueV]; exact hj)).trans (by rw [line hj, rank j hj]; rfl)
  · exact joined.queued.mem_iff.mpr List.mem_cons_self
  · refine joined.queued.nodup_iff.mpr ?_
    rw [queueV]
    exact List.nodup_cons.mpr ⟨fresh, once⟩

/-- Settles O35. -/
theorem callersQueueInOrder : Obligations.CallersQueueInOrder := ⟨callersQueueInOrder_commands, queuesAreRenumbered⟩

end Sys2Proof.HoldQueueCommands
end

section
/-! R96: the end of a fill. -/

namespace Sys2Proof.FillEnds

-- one thread: the check compiles under a limit on the process
set_option Elab.async false

open Sys2Proof.Machine Sys2Proof.Safety Sys2Proof.Laws Sys2Proof.EngineNotices

theorem releaseVoice_parts (v : Voice) (n : Nat) (s : State) : Touches [.mix, .clips, .cue] s (releaseVoice v n s) :=
  ((Touches.refl _ s).and (fadeOut_touches _ n s)).and (setVoice_touches v _ _)

/-- A voice is let go: its contributor's FADE OUT, and its record. -/
theorem releaseVoice_cue (v : Voice) (n : Nat) (s : State) : (releaseVoice v n s).cue =
    (s.setVoice v (if n = 0 then .free else .releasing s.cue.clock)).cue := by
  have same : (fadeOut (voiceContributor v) n s).cue = s.cue := fadeOut_touches (voiceContributor v) n s .cue (by decide)
  cases v <;> simp only [releaseVoice, State.setVoice, same]

/-- The fill, when it sounds in VOICE A, let go over the fallback fade time. -/
def fillReleased (s : State) : State := if s.cue.voiceA = .filling then releaseVoice .A s.sup.settings.fade s else s

theorem fillReleased_touches (s : State) : Touches [.mix, .clips, .cue] s (fillReleased s) := by
  unfold fillReleased
  split
  · exact releaseVoice_parts .A _ s
  · exact Touches.refl _ s

theorem fillReleased_cue (s : State) : (fillReleased s).cue = { s.cue with
    voiceA := if s.cue.voiceA = .filling then (if s.sup.settings.fade = 0 then .free else .releasing s.cue.clock)
      else s.cue.voiceA } := by
  unfold fillReleased
  split
  · exact releaseVoice_cue .A _ s
  · rfl

/-- The state an engine without a PLAYING entry takes (R79). -/
def stoppedState (es : List Entry) : EngineState := if es = [] then .idle else .armed

theorem followList_stopped {es : List Entry} (h : ∀ e ∈ es, e.state ≠ .playing) : followList es = stoppedState es := by
  have none_plays : (es.any fun e => decide (e.state = .playing)) = false := by
    simpa using h
  rw [followList_eq, none_plays]
  rfl

theorem stoppedState_cases (es : List Entry) : stoppedState es = .idle ∨ stoppedState es = .armed := by
  unfold stoppedState
  split
  · exact .inl rfl
  · exact .inr rfl

theorem fadeFill_eq (s : State) : fadeFill s = { fillReleased s with cue := { (fillReleased s).cue with
    clock := s.cue.clock + 1, state := followList s.cue.entries } } := rfl

/-- The engine after the end of a fill at which no queued record takes the air. -/
def fillEnded (s : State) : State := { fillReleased s with
  cue := { (fillReleased s).cue with
    clock := s.cue.clock + 1
    state := stoppedState s.cue.entries
    goPending := s.cue.goPending && s.cue.hasWaiting }
  alerts := { s.alerts with view := stoppedState s.cue.entries } }

theorem fillEnd_quiet {s : State} (filling : s.cue.state = .filling) (stopped : ∀ e ∈ s.cue.entries, e.state ≠ .playing)
    (quietArmed : NoneTakes .ordinary .armed s) (quietIdle : NoneTakes .ordinary .idle s) : fillEnd s = fillEnded s := by
  have quiet : NoneTakes .ordinary (stoppedState s.cue.entries) s := by
    rcases stoppedState_cases s.cue.entries with e | e <;> rw [e] <;> assumption
  have entries : (fillReleased s).cue.entries = s.cue.entries := by rw [fillReleased_cue]
  have pending : (fillReleased s).cue.goPending = s.cue.goPending := by rw [fillReleased_cue]
  have alerts : (fillReleased s).alerts = s.alerts := fillReleased_touches s .alerts (by decide)
  have dev : (fillReleased s).dev = s.dev := fillReleased_touches s .dev (by decide)
  have ended : fillEnd s = settleFrom .filling (fadeFill s) := by simp only [fillEnd, filling]
  have left : (fadeFill s).cue.state ≠ .held ∧ (fadeFill s).cue.state ≠ .filling := by
    rw [fadeFill_eq, followList_stopped stopped]
    rcases stoppedState_cases s.cue.entries with e | e <;> simp [e]
  have notFilling : stoppedState s.cue.entries ≠ .filling := by
    rcases stoppedState_cases s.cue.entries with e | e <;> simp [e]
  have waits : (fadeFill s).cue.hasWaiting = s.cue.hasWaiting := by
    simp only [Cue.hasWaiting, fadeFill_eq, entries]
  have follow : followList (fadeFill s).cue.entries = stoppedState s.cue.entries := by
    rw [show (fadeFill s).cue.entries = s.cue.entries from entries, followList_stopped stopped]
  rw [ended, settleFrom_follows left.1 left.2, follow, waits,
    enterEngine_quiet quiet (by exact congrArg Device.state dev) (by exact congrArg Alerts.records alerts)
      (by exact congrArg Alerts.queue alerts), if_neg notFilling]
  simp only [fadeFill_eq, fillEnded, pending, alerts]

/-- What the end of a fill leaves: all but the engine, the view of it and the voice that filled. -/
theorem fillEnded_touches (s : State) : Touches [.mix, .clips, .cue, .alerts] s (fillEnded s) := by
  refine Touches.trans (Touches.mono (fillReleased_touches s) (by decide)) fun p hp => ?_
  have alerts : (fillReleased s).alerts = s.alerts := fillReleased_touches s .alerts (by decide)
  cases p <;> first | rfl | exact absurd (by decide) hp

/-- The fill in VOICE A fades out (R96). -/
theorem fillReleased_fading {s : State} (fills : s.cue.voiceA = .filling) (active : s.mix.voiceA.binding.isSome = true)
    (fades : 0 < s.sup.settings.fade) : fillReleased s = { s with
      cue := { s.cue with voiceA := .releasing s.cue.clock }
      mix := { s.mix with voiceA := { s.mix.voiceA with waiting := some ⟨0, min s.sup.settings.fade 500, .out⟩ } } } := by
  have nonzero : s.sup.settings.fade ≠ 0 := by omega
  have sounding : (s.contrib .voiceA).active = true := active
  rw [fillReleased, if_pos fills, releaseVoice, fadeOut, if_neg nonzero, if_neg nonzero, voiceContributor, if_pos sounding]
  rfl

end Sys2Proof.FillEnds
end

section
/-! R112 to R115: a caller enters a slot and leaves it. -/

namespace Sys2Proof.CallerSlots

-- one thread: the check compiles under a limit on the process
set_option Elab.async false

open Sys2Proof.Machine Sys2Proof.Safety Sys2Proof.Laws Sys2Proof.TakenCommands Sys2Proof.TelephoneLines Sys2Proof.HoldQueue
open Sys2Proof.EngineNotices Sys2Proof.ConsoleLevels Sys2Proof.FillEnds

/-- A command passes the checks of R186 when its row takes it now. -/
theorem checks_taken {l : Link} {code : Nat} {ps : List Byte} {s : State} (r : CommandRow)
    (row : commandTable.find? (fun r => decide (r.code = code)) = some r) (links : r.links.contains l = true)
    (taken : r.taken s = true) (params : r.params.admits ps.length = true) :
    failedCheck l code ps (frameComplete l s) = none := by
  rw [LinkFrames.failedCheck_frameComplete]
  simp only [failedCheck, row, links, taken, params, Bool.not_true, Bool.false_eq_true, if_false]

theorem slot_cases (k : CallerSlot) : k = 0 ∨ k = 1 := by
  fin_cases k
  · exact .inl rfl
  · exact .inr rfl

-- taking the air

/-- A caller's ACTIVATE replaces its contributor's record: a caller is no clip. -/
theorem activate_slot (k : CallerSlot) (n : Source) (target fadeIn : Nat) (s : State) :
    activate (slotContributor k) (.source n) target fadeIn 0 s =
      s.setContrib (slotContributor k) (.activated (.source n) target fadeIn) := by
  unfold slotContributor
  split <;> rfl

theorem contrib_of_mix {s t : State} (h : t.mix = s.mix) (c : Contributor) : t.contrib c = s.contrib c := by
  rw [State.contrib, State.contrib, h]

theorem occupied_set {c : Callers} {k : CallerSlot} {i : PhoneLine} (r : Option Disposition) :
    ({ c with slots := c.slots.set k ⟨some i, r⟩ } : Callers).occupied = true := by
  rcases slot_cases k with rfl | rfl <;> simp [Callers.occupied]

/-- A line in slot `k`, as R113 leaves the Caller Unit, the mix and the panel. -/
def enteredSlot (i : PhoneLine) (k : CallerSlot) (s : State) : State :=
  raise .S (.queueChanged (s.callers.queue.filter fun j => decide (j ≠ i)).length) (raise .S (.lineOnAir i k) ({ s with
    callers := { s.callers with
      lines := s.callers.lines.set i { s.line i with state := .onAir, slot := some k, number := none }
      queue := s.callers.queue.filter fun j => decide (j ≠ i)
      slots := s.callers.slots.set k ⟨some i, none⟩ }
    panel := { s.panel with reports := { s.panel.reports with callerOn := true } } }.setContrib
      (slotContributor k) (.activated (.source (lineSource i)) (s.contrib (slotContributor k)).target s.mix.slotFade[k])))

theorem enterSlot_eq (i : PhoneLine) (k : CallerSlot) (s : State) : enterSlot i k s = enteredSlot i k s := by
  simp only [enterSlot, activate_slot, State.setSlot, occupied_set]
  rfl

theorem activated_eq (b : Binding) (gain n : Nat) : Contrib.activated b gain n =
    ⟨some b, gain, if n = 0 then gain else 0, none, if n = 0 then none else some ⟨gain, min n 500, .level⟩⟩ := by
  unfold Contrib.activated
  split <;> rfl

theorem freeSlot_eq {k : CallerSlot} {s : State} (free : (s.slot k).occupant = none) (first : k = 1 → (s.slot 0).occupant.isSome) :
    s.freeSlot = some k := by
  rcases slot_cases k with rfl | rfl
  · simp [State.freeSlot, free]
  · obtain ⟨x, hx⟩ := Option.isSome_iff_exists.mp (first rfl)
    simp [State.freeSlot, free, hx]

theorem freeSlot_full {s : State} : s.freeSlot = none ↔ (s.slot 0).occupant.isSome ∧ (s.slot 1).occupant.isSome := by
  unfold State.freeSlot
  cases h0 : (s.slot 0).occupant <;> cases h1 : (s.slot 1).occupant <;> simp

/-- The refusals of a take in an air mode other than ALERT (R112). -/
theorem takeRefusal_onAir {s : State} (onAir : s.dev.state = .onAir) (mode : s.sup.mode ≠ some .alert) : takeRefusal s =
    if (s.slot 0).occupant.isSome ∧ (s.slot 1).occupant.isSome then some .noSlot
    else if s.sup.settings.safeTake = true ∧ s.delay.excess < 480 * s.delay.target then some .notSafe else none := by
  have up : s.onAir = true := decide_eq_true onAir
  have off : decide (s.sup.mode = some .alert) = false := decide_eq_false mode
  rw [takeRefusal, up, off]
  by_cases full : (s.slot 0).occupant.isSome ∧ (s.slot 1).occupant.isSome
  · rw [if_pos full, freeSlot_full.mpr full]
    rfl
  · rw [if_neg full]
    have free : s.freeSlot.isNone = false := by
      cases h : s.freeSlot
      · exact absurd (freeSlot_full.mp h) full
      · rfl
    by_cases low : s.delay.excess < 480 * s.delay.target
    · have low' : decide (s.delay.excess < s.delay.targetSamples) = true := decide_eq_true low
      simp [free, low', low]
    · have low' : decide (s.delay.excess < s.delay.targetSamples) = false := decide_eq_false low
      simp [free, low', low]

theorem takeNext_checks {s : State} (onAir : s.dev.state = .onAir)
    (mode : s.sup.mode = some .normal ∨ s.sup.mode = some .fallback) : failedCheck .C 0x38 [] (frameComplete .C s) = none := by
  refine checks_taken ⟨0x38, [.C], false, true, false, true, .exactly 0⟩ rfl rfl ?_ rfl
  rcases mode with m | m <;> simp [CommandRow.taken, onAir, m]

theorem takeLine_checks {b : Byte} {s : State} (onAir : s.dev.state = .onAir)
    (mode : s.sup.mode = some .normal ∨ s.sup.mode = some .fallback) : failedCheck .C 0x39 [b] (frameComplete .C s) = none := by
  refine checks_taken ⟨0x39, [.C], false, true, false, true, .exactly 1⟩ rfl rfl ?_ rfl
  rcases mode with m | m <;> simp [CommandRow.taken, onAir, m]

theorem takeNext_refused {c : Status} {s : State} (h : takeRefusal s = some c) : takeNext s = .refuse c := by
  simp only [takeNext, h]

theorem takeNext_of_queue {q : Option PhoneLine} {s : State} (h : takeRefusal s = none) (hq : s.callers.queue.head? = q) :
    takeNext s = match q with | some i => .ok (takeLine i s) .none | none => .refuse .notFound := by
  simp only [takeNext, h, hq]
  cases q <;> rfl

theorem takeLineOwner_refused {b : Byte} {i : PhoneLine} {c : Status} {s : State} (hb : b.toNat = i.val + 1)
    (h : takeRefusal s = some c) : takeLineOwner [b] s = .refuse c := by
  simp only [takeLineOwner, byteAt, List.getD_cons_zero, lineOf_val_succ hb, h]

theorem takeLineOwner_named {b : Byte} {i : PhoneLine} {s : State} (hb : b.toNat = i.val + 1) (h : takeRefusal s = none) :
    takeLineOwner [b] s = if (s.line i).state = .held then .ok (takeLine i s) .none else .refuse .notFound := by
  simp only [takeLineOwner, byteAt, List.getD_cons_zero, lineOf_val_succ hb, h]

theorem takeLine_normal {i : PhoneLine} {k : CallerSlot} {s : State} (free : s.freeSlot = some k) (mode : s.sup.mode = some .normal) :
    takeLine i s = enteredSlot i k s := by
  have same : (enterSlot i k s).sup = s.sup := by rw [enterSlot_eq]; rfl
  simp only [takeLine, free]
  rw [endFallback_outside (by rw [same, mode]; decide) (by rw [same, mode]; simp), enterSlot_eq]

theorem callersTakeTheAir_normal : Claims.CallersTakeTheAir := by
  intro b i s h onAir mode hb unsafeNow full next named
  have refusal : takeRefusal (frameComplete .C s) = if full then some .noSlot else if unsafeNow then some .notSafe else none :=
    takeRefusal_onAir (s := frameComplete .C s) onAir (by rw [show (frameComplete .C s).sup = s.sup from rfl, mode]; decide)
  have checks := takeNext_checks (s := s) onAir (.inl mode)
  have checksLine := takeLine_checks (b := b) (s := s) onAir (.inl mode)
  have refused {c : Status} (hc : takeRefusal (frameComplete .C s) = some c) : next c s ∧ named c s :=
    ⟨congrArg _ (command_refused h checks (takeNext_refused hc)),
      congrArg _ (command_refused h checksLine (takeLineOwner_refused hb hc))⟩
  refine ⟨fun f => refused (refusal.trans (if_pos f)),
    fun f u => refused (refusal.trans ((if_neg f).trans (if_pos u))), fun f u empty => ?_, fun f u other => ?_,
    fun k free first u => ?_⟩
  · have allowed := refusal.trans ((if_neg f).trans (if_neg u))
    exact congrArg _ (command_refused h checks (takeNext_of_queue allowed (q := none)
      (by rw [show (frameComplete .C s).callers.queue = s.callers.queue from rfl, empty]; rfl)))
  · have allowed := refusal.trans ((if_neg f).trans (if_neg u))
    exact congrArg _ (command_refused h checksLine ((takeLineOwner_named hb allowed).trans (if_neg other)))
  · intro queue gain n taken
    have free' : (frameComplete .C s).freeSlot = some k := freeSlot_eq (s := frameComplete .C s) free first
    have notFull : ¬full := fun f => by
      have := freeSlot_full.mpr f
      rw [show s.freeSlot = some k from free'] at this
      cases this
    have allowed := refusal.trans ((if_neg notFull).trans (if_neg u))
    have entered : takeLine i (frameComplete .C s) = frameComplete .C taken := by
      rw [takeLine_normal free' mode, enteredSlot, activated_eq]
      rfl
    refine ⟨fun head => congrArg _ (command_ok h checks ?_), fun held => congrArg _ (command_ok h checksLine ?_)⟩
    · exact (takeNext_of_queue allowed (q := some i) head).trans (congrArg (Reply.ok · .none) entered)
    · exact (takeLineOwner_named hb allowed).trans ((if_pos held).trans (congrArg (Reply.ok · .none) entered))

-- a take that ends FALLBACK

/-- A notice other than CUE GO's ends FALLBACK: the air mode, the panel and FALLBACK_LEFT, then the fill (R167). -/
theorem endFallback_fallback {cause : LeftCause} {s : State} (mode : s.sup.mode = some .fallback) (other : cause ≠ .go) :
    endFallback cause s = fillEnd (raise .C (.fallbackLeft cause) { s with
      sup := { s.sup with mode := some .normal, counter := 0 }
      panel := { s.panel with reports := { s.panel.reports with fallback := false } } }) := by
  simp only [endFallback, mode, other, if_false]
  rfl

theorem takesLeaveFallback : Claims.TakesLeaveFallback := by
  intro i k s h onAir mode head free first safe filling stopped quietArmed quietIdle
  let s0 := frameComplete .C s
  let u := raise .C (.fallbackLeft .caller) { enteredSlot i k s0 with
    sup := { s.sup with mode := some .normal, counter := 0 }
    panel := { (enteredSlot i k s0).panel with reports := { (enteredSlot i k s0).panel.reports with fallback := false } } }
  have free' : s0.freeSlot = some k := freeSlot_eq (s := s0) free first
  have allowed : takeRefusal s0 = none := by
    have notFull : ¬((s0.slot 0).occupant.isSome ∧ (s0.slot 1).occupant.isSome) := fun f => by
      rw [freeSlot_full.mpr f] at free'
      cases free'
    refine (takeRefusal_onAir (s := s0) onAir (by rw [show s0.sup = s.sup from rfl, mode]; decide)).trans
      ((if_neg notFull).trans (if_neg fun ⟨policy, short⟩ => ?_))
    exact absurd (safe policy) (Nat.not_le.mpr short)
  have taken : takeLine i s0 = fillEnded u := by
    have ended : endFallback .caller (enteredSlot i k s0) = fillEnd u :=
      endFallback_fallback (by exact mode) (by decide)
    simp only [takeLine, free', enterSlot_eq, ended]
    exact fillEnd_quiet (by exact filling) (by exact stopped) (by exact quietArmed) (by exact quietIdle)
  have executed : exec (.callerTakeNext .C []) s = .next (respond .C 0x38 .ok .none (fillEnded u)) := by
    refine congrArg _ ((command_taken h _ (takeNext_checks onAir (.inr mode))).trans ?_)
    rw [takeNext_of_queue allowed (q := some i) head, ← taken]
    rfl
  have touched := fillEnded_touches u
  have callers : (fillEnded u).callers = u.callers := touched .callers (by decide)
  have links : (fillEnded u).links = u.links := touched .links (by decide)
  have cue : (fillEnded u).cue.entries = s.cue.entries ∧ (fillEnded u).cue.voiceA = (fillReleased u).cue.voiceA := by
    exact ⟨by simp only [fillEnded, fillReleased_cue]; rfl, rfl⟩
  refine ⟨_, executed, ?_, ?_, ?_, ?_, touched .sup (by decide), ?_, ?_, ?_, cue.1, rfl, fun fills active fades => ?_⟩
  · rw [respond, link_modLink]
  · have slots : (fillEnded u).callers.slots = s.callers.slots.set k ⟨some i, none⟩ := by rw [callers]; rfl
    change (fillEnded u).callers.slots[k] = _
    rw [slots]
    simp
  · have lines : (fillEnded u).callers.lines = s.callers.lines.set i
        { s.line i with state := .onAir, slot := some k, number := none } := by rw [callers]; rfl
    change ((fillEnded u).callers.lines[i]).state = _
    rw [lines, getElem_set_same]
  · have queue : (fillEnded u).callers.queue = s.callers.queue.filter fun j => decide (j ≠ i) := by rw [callers]; rfl
    change i ∉ (fillEnded u).callers.queue
    simp [queue]
  · exact congrArg (fun p : Panel => p.reports.fallback) (touched .panel (by decide))
  · obtain ⟨p, hp, he⟩ := DelayReads.mem_addEvent_self (.fallbackLeft .caller) ((s.link .C).events)
    refine ⟨p, ?_, he⟩
    rw [respond, link_modLink]
    change p ∈ ((fillEnded u).links.get .C).events
    rw [links]
    exact hp
  · obtain ⟨p, hp, he⟩ := DelayReads.raised_pending .S (.lineOnAir i k) s0
    refine ⟨p, ?_, he⟩
    rw [respond, link_modLink_ne (by decide)]
    change p ∈ ((fillEnded u).links.get .S).events
    rw [links]
    exact (LinkEvents.mem_addEvent_other (by rw [he]; exact (by decide : (0x31 : Nat) ≠ 0x33)) _).mpr hp
  · have fill := fillReleased_fading (s := u) fills ?_ fades
    · refine ⟨⟨_, cue.2.trans (by rw [fill])⟩, ?_⟩
      change (fillReleased u).mix.voiceA = _
      rw [fill]
      rcases slot_cases k with rfl | rfl <;> rfl
    · rcases slot_cases k with rfl | rfl <;> exact active

/-- Settles O36. -/
theorem callersTakeTheAir : Obligations.CallersTakeTheAir := ⟨callersTakeTheAir_normal, takesLeaveFallback⟩

end Sys2Proof.CallerSlots
end

section
/-! R114, R115: a caller's release and its end. -/

namespace Sys2Proof.CallerReleases

-- one thread: the check compiles under a limit on the process
set_option Elab.async false

open Sys2Proof.Machine Sys2Proof.Safety Sys2Proof.Laws Sys2Proof.TakenCommands Sys2Proof.TelephoneLines Sys2Proof.HoldQueue
open Sys2Proof.EngineNotices Sys2Proof.ConsoleLevels Sys2Proof.CallerSlots Sys2Proof.HoldQueueCommands
open Sys2Proof.LinePlaces (placeInQueue_perm)

-- the end of a release

/-- The slot emptied and CALLER_ON told, as a release's end leaves them. -/
def slotEmptied (k : CallerSlot) (s : State) : State :=
  { s with
    callers := { s.callers with slots := s.callers.slots.set k ⟨none, none⟩ }
    panel := { s.panel with reports := { s.panel.reports with
      callerOn := ({ s.callers with slots := s.callers.slots.set k ⟨none, none⟩ } : Callers).occupied } } }

theorem endRelease_drop {k : CallerSlot} {i : PhoneLine} {s : State} (slot : s.slot k = ⟨some i, some .drop⟩) :
    endRelease k s = raise .S (.lineOffAir i k .released) ((slotEmptied k s).setLine i (s.line i).freed) := by
  simp only [endRelease, settleRelease, slot]
  exact if_pos rfl

/-- A line HELD with the next number, placed in the queue. -/
def backInQueue (k : CallerSlot) (i : PhoneLine) (s : State) : State :=
  let lines := s.callers.lines.set i { s.line i with state := .held, slot := none, number := some s.callers.nextNumber }
  let t := slotEmptied k s
  { t with callers := { t.callers with
    lines := lines
    queue := placeInQueue lines i s.callers.queue
    nextNumber := s.callers.nextNumber + 1 } }

theorem placeInQueue_length (ls : Vector LineRecord 4) (i : PhoneLine) (q : List PhoneLine) :
    (placeInQueue ls i q).length = q.length + 1 := (placeInQueue_perm ls i q).length_eq

theorem endRelease_hold {k : CallerSlot} {i : PhoneLine} {s : State} (slot : s.slot k = ⟨some i, some .hold⟩)
    (room : s.callers.nextNumber ≠ 65535) : endRelease k s =
    raise .S (.queueChanged (s.callers.queue.length + 1)) (raise .S (.lineOffAir i k .released) (backInQueue k i s)) := by
  let held := (s.setSlot k ⟨none, none⟩).setLine i { s.line i with state := .held, slot := none }
  have numbered : giveNumber i held = { held with callers := { held.callers with
      lines := s.callers.lines.set i { s.line i with state := .held, slot := none, number := some s.callers.nextNumber }
      nextNumber := s.callers.nextNumber + 1 } } := by
    rw [giveNumber_next (by exact room), show held.line i = { s.line i with state := .held, slot := none } from
      line_setLine _ _ _]
    simp only [held, State.setLine, Vector.set_set]
    rfl
  have joined : joinQueue i held = backInQueue k i s := by
    rw [joinQueue, numbered]
    rfl
  have settled : settleRelease .released k s = raise .S (.lineOffAir i k .released) (backInQueue k i s) := by
    simp only [settleRelease, slot]
    exact congrArg _ joined
  have longer : (backInQueue k i s).callers.queue.length = s.callers.queue.length + 1 := placeInQueue_length _ _ _
  have moved : ¬(settleRelease .released k s).callers.queue = s.callers.queue := by
    rw [settled]
    intro same
    have same' := congrArg List.length same
    exact absurd (longer.symm.trans same') (by omega)
  rw [endRelease, if_neg moved, settled, raiseQueue]
  exact congrArg (fun n => raise .S (.queueChanged n) _) longer

/-- The record of a line whose release has ended (R115). -/
def releasedLine (r : LineRecord) (d : Disposition) (n : Nat) : LineRecord :=
  match d with
  | .drop => r.freed
  | .hold => { r with state := .held, slot := none, number := some n }

/-- The end of a release that leaves one line in the queue at most, as R115 words it. -/
theorem endRelease_alone {k : CallerSlot} {i : PhoneLine} {d : Disposition} {s : State} (slot : s.slot k = ⟨some i, some d⟩)
    (alone : d = .drop ∨ s.callers.queue = [] ∧ s.callers.nextNumber < 65535) : endRelease k s =
    (if d = .drop then id else raise .S (.queueChanged 1)) (raise .S (.lineOffAir i k .released) { slotEmptied k s with
      callers := { (slotEmptied k s).callers with
        lines := s.callers.lines.set i (releasedLine (s.line i) d s.callers.nextNumber)
        queue := if d = .drop then s.callers.queue else [i]
        nextNumber := if d = .drop then s.callers.nextNumber else s.callers.nextNumber + 1 } }) := by
  cases d with
  | drop => exact endRelease_drop slot
  | hold =>
    obtain ⟨empty, room⟩ : s.callers.queue = [] ∧ s.callers.nextNumber < 65535 := alone.resolve_left (by decide)
    have single : placeInQueue (backInQueue k i s).callers.lines i s.callers.queue = [i] := by rw [empty]; rfl
    have length : s.callers.queue.length + 1 = 1 := by rw [empty]; rfl
    refine (endRelease_hold slot (by omega)).trans (congr (congrArg (fun n => raise .S (.queueChanged n)) length)
      (congrArg (raise .S (.lineOffAir i k .released)) ?_))
    exact congrArg (fun q => { backInQueue k i s with callers := { (backInQueue k i s).callers with queue := q } }) single

-- its fade

theorem closeReaderOf_slot (k : CallerSlot) (s : State) : closeReaderOf (slotContributor k) s = s := by
  unfold slotContributor
  split <;> rfl

theorem fadedOut_slot (k : CallerSlot) (s : State) : fadedOut (slotContributor k) s = endRelease k s := by
  rcases slot_cases k with rfl | rfl <;> rfl

theorem completeFade_slot {k : CallerSlot} {f : Fade} {s : State} (fade : (s.contrib (slotContributor k)).fade = some f)
    (out : f.purpose = .out) (done : f.length ≤ f.done) : completeFade (slotContributor k) s =
      endRelease k (s.setContrib (slotContributor k) (s.contrib (slotContributor k)).inactive) := by
  simp only [completeFade, fade, if_pos done, out, closeReaderOf_slot, fadedOut_slot]

theorem fadeComplete_slot {k : CallerSlot} {f : Fade} {s : State} (found : Found (.fadeComplete (slotContributor k)) s)
    (fade : (s.contrib (slotContributor k)).fade = some f) (out : f.purpose = .out) (done : f.length ≤ f.done) :
    exec (.fadeComplete (slotContributor k)) s = .next (endRelease k
      ({ s with due := s.due.erase (.fadeComplete (slotContributor k)) }.setContrib (slotContributor k)
        (s.contrib (slotContributor k)).inactive)) := by
  refine congrArg _ ((takeRow_found found ?_).trans (completeFade_slot (by exact fade) out done))
  have complete : (s.contrib (slotContributor k)).fadeDone = true := by simp [Contrib.fadeDone, fade, done]
  exact complete

-- CALLER RELEASE

theorem dispositionOf_spelled {d : Byte} {x : Disposition} (h : d.toNat = match x with | .hold => 0 | .drop => 1) :
    dispositionOf d = some x := by
  cases x with
  | hold =>
    have value : d = 0x00 := BitVec.eq_of_toNat_eq h
    rw [value]
    rfl
  | drop =>
    have value : d = 0x01 := BitVec.eq_of_toNat_eq h
    rw [value]
    rfl

theorem callerRelease_checks {s : State} (h : Takes .C s) (b d : Byte) :
    failedCheck .C 0x3A [b, d] (frameComplete .C s) = none :=
  checks_pass h [.C] (.exactly 2) rfl rfl rfl

theorem callerReleaseOwner_spelled {b d : Byte} {k : CallerSlot} {x : Disposition} {s : State} (hb : b.toNat = k.val + 1)
    (hd : d.toNat = match x with | .hold => 0 | .drop => 1) : callerReleaseOwner [b, d] s =
      if (s.slot k).occupant.isSome then .ok (releaseSlot k x s) .none else .refuse .notFound := by
  have slot : slotOf (byteAt [b, d] 0) = some k := slotOf_val_succ hb
  have disposition : dispositionOf (byteAt [b, d] 1) = some x := dispositionOf_spelled hd
  simp only [callerReleaseOwner, slot, disposition]

theorem exec_callerRelease {b d : Byte} {k : CallerSlot} {x : Disposition} {s t : State} (h : Takes .C s)
    (hb : b.toNat = k.val + 1) (hd : d.toNat = match x with | .hold => 0 | .drop => 1)
    (occupied : (s.slot k).occupant.isSome = true) (released : releaseSlot k x (frameComplete .C s) = frameComplete .C t) :
    exec (.callerRelease .C [b, d]) s = .next (answered .C 0x3A .ok .none t) := by
  refine congrArg _ (command_ok h (callerRelease_checks h b d) ?_)
  exact (callerReleaseOwner_spelled hb hd).trans ((if_pos occupied).trans (congrArg (Reply.ok · .none) released))

/-- A slot's record replaced by another with an occupant, while CALLER_ON is told. -/
theorem setSlot_occupied {k : CallerSlot} {i : PhoneLine} {r : Option Disposition} {s : State}
    (told : s.panel.reports.callerOn = true) : s.setSlot k ⟨some i, r⟩ =
      { s with callers := { s.callers with slots := s.callers.slots.set k ⟨some i, r⟩ } } := by
  have same : ({ s.panel.reports with callerOn := true } : Reports) = s.panel.reports := by rw [← told]
  simp only [State.setSlot, State.report, occupied_set, same]

theorem slot_set (k : CallerSlot) (x : SlotRecord) (s : State) :
    State.slot { s with callers := { s.callers with slots := s.callers.slots.set k x } } k = x := by
  simp [State.slot]

theorem slot_of_parts {k : CallerSlot} {o : Option PhoneLine} {r : Option Disposition} {s : State}
    (occupant : (s.slot k).occupant = o) (release : (s.slot k).release = r) : s.slot k = ⟨o, r⟩ := by
  rw [← occupant, ← release]

theorem releaseSlot_fades {k : CallerSlot} {i : PhoneLine} {d : Disposition} {s : State} (slot : s.slot k = ⟨some i, none⟩)
    (told : s.panel.reports.callerOn = true) (fades : 0 < s.mix.slotFade[k])
    (bound : (s.contrib (slotContributor k)).binding.isSome = true) : releaseSlot k d s =
      { s with callers := { s.callers with slots := s.callers.slots.set k ⟨some i, some d⟩ } }.setContrib (slotContributor k)
        { s.contrib (slotContributor k) with waiting := some ⟨0, min s.mix.slotFade[k] 500, .out⟩ } := by
  have nonzero : s.mix.slotFade[k] ≠ 0 := by omega
  have active : (s.contrib (slotContributor k)).active = true := bound
  simp only [releaseSlot, slot, nonzero, if_false, setSlot_occupied told, fadeOut]
  exact if_pos active

/-- With a fade time of 0 the release ends at once. -/
theorem releaseSlot_ends {k : CallerSlot} {i : PhoneLine} {d : Disposition} {s : State} (slot : s.slot k = ⟨some i, none⟩)
    (told : s.panel.reports.callerOn = true) (flat : s.mix.slotFade[k] = 0)
    (bound : (s.contrib (slotContributor k)).binding.isSome = true)
    (alone : d = .drop ∨ s.callers.queue = [] ∧ s.callers.nextNumber < 65535) : releaseSlot k d s =
    (if d = .drop then id else raise .S (.queueChanged 1)) (raise .S (.lineOffAir i k .released)
      (({ slotEmptied k s with callers := { (slotEmptied k s).callers with
        lines := s.callers.lines.set i (releasedLine (s.line i) d s.callers.nextNumber)
        queue := if d = .drop then s.callers.queue else [i]
        nextNumber := if d = .drop then s.callers.nextNumber else s.callers.nextNumber + 1 } } : State).setContrib (slotContributor k)
          (s.contrib (slotContributor k)).inactive)) := by
  let t : State := { s with callers := { s.callers with slots := s.callers.slots.set k ⟨some i, some d⟩ } }
  have released : releaseSlot k d s = endRelease k (t.setContrib (slotContributor k) (s.contrib (slotContributor k)).inactive) := by
    simp only [releaseSlot, slot, flat, if_true, setSlot_occupied told, fadeOut]
    exact congrArg (endRelease k) (cut_slotContributor (s := t) bound)
  have emptied : slotEmptied k (t.setContrib (slotContributor k) (s.contrib (slotContributor k)).inactive) =
      (slotEmptied k s).setContrib (slotContributor k) (s.contrib (slotContributor k)).inactive := by
    simp only [slotEmptied, t, State.setContrib, Vector.set_set]
  refine released.trans ((endRelease_alone (by exact slot_set k ⟨some i, some d⟩ s) (by exact alone)).trans ?_)
  rw [emptied]
  rfl

theorem callersLeaveTheAir_alone : Claims.CallersLeaveTheAir := by
  intro k s contributor x ended
  refine ⟨fun b d disposition h hb hd => ?_, fun i d f found slot fade out done alone => ?_⟩
  · intro released
    refine ⟨fun empty => congrArg _ (command_refused h (callerRelease_checks h b d) ?_), fun i occupant told => ?_⟩
    · refine (callerReleaseOwner_spelled hb hd).trans (if_neg ?_)
      change ¬(s.slot k).occupant.isSome = true
      simp [empty]
    · intro t
      have occupied : (s.slot k).occupant.isSome = true := by rw [occupant]; rfl
      refine ⟨fun releasing => ?_, fun free fades bound => ?_, fun free flat bound alone => ?_⟩
      · obtain ⟨r, hr⟩ := Option.isSome_iff_exists.mp releasing
        refine exec_callerRelease h hb hd occupied ?_
        have record : (frameComplete .C s).slot k = ⟨some i, some r⟩ := slot_of_parts occupant hr
        simp only [releaseSlot, record]
        exact setSlot_occupied (s := frameComplete .C s) told
      · exact exec_callerRelease h hb hd occupied
          (releaseSlot_fades (s := frameComplete .C s) (slot_of_parts occupant free) told fades bound)
      · refine exec_callerRelease h hb hd occupied
          ((releaseSlot_ends (s := frameComplete .C s) (slot_of_parts occupant free) told flat bound alone).trans ?_)
        cases disposition <;> rfl
  · refine (fadeComplete_slot found fade out done).trans (congrArg _ ?_)
    refine (endRelease_alone (by exact slot) (by exact alone)).trans ?_
    cases d <;> rfl

theorem releasedLinesJoinTheQueue : Claims.ReleasedLinesJoinTheQueue := by
  intro k i f s found slot fade out done ⟨placed, once, seated⟩ ⟨ordered, next, given, differ⟩
  have onAir : (s.line i).state = .onAir := ((seated i k).mp (by rw [slot])).1
  have fresh : i ∉ s.callers.queue := fun queued => by
    have held := (placed i).1.mp queued
    rw [onAir] at held
    cases held
  let c := slotContributor k
  let t := { s with due := s.due.erase (.fadeComplete c) }.setContrib c (s.contrib c).inactive
  have executed : exec (.fadeComplete c) s = .next (raise .S (.queueChanged (s.callers.queue.length + 1))
      (raise .S (.lineOffAir i k .released) (backInQueue k i t))) :=
    (fadeComplete_slot found fade out done).trans (congrArg _ (endRelease_hold (s := t) slot (by exact (by omega :
      s.callers.nextNumber ≠ 65535))))
  refine ⟨_, executed, ?_, ?_, rfl, fun j hj => ?_, ?_, ?_, ?_, ?_, ?_, ?_, ?_⟩
  · exact slot_set k ⟨none, none⟩ s
  · exact getElem_set_same _ _ _
  · exact getElem_set_other _ hj _
  · exact (placeInQueue_perm _ _ _).mem_iff.mpr List.mem_cons_self
  · exact filter_placeInQueue fresh
  · exact (placeInQueue_perm _ _ _).nodup_iff.mpr (List.nodup_cons.mpr ⟨fresh, once⟩)
  · exact joined_inOrder ordered fresh rfl (number_lt given)
  · obtain ⟨p, hp, he⟩ := DelayReads.raised_pending .S (.lineOffAir i k .released) (backInQueue k i t)
    refine ⟨p, ?_, he⟩
    rw [raise, link_modLink]
    exact (LinkEvents.mem_addEvent_other (by rw [he]; exact (by decide : (0x32 : Nat) ≠ 0x33)) _).mpr hp
  · exact DelayReads.raised_pending .S _ _
  · rcases slot_cases k with rfl | rfl <;> rfl

/-- Settles O37. -/
theorem callersLeaveTheAir : Obligations.CallersLeaveTheAir := ⟨callersLeaveTheAir_alone, releasedLinesJoinTheQueue⟩

end Sys2Proof.CallerReleases
end

section
/-! R1, R5, R7 to R15: the block that an input block boundary forms. -/

namespace Sys2Proof.BlockForming

-- one thread: the check compiles under a limit on the process
set_option Elab.async false

open Sys2Proof.Machine Sys2Proof.Safety Sys2Proof.Laws Sys2Proof.Boundaries Sys2Proof.ClipReading

-- the boundary's parts

theorem inputRest_touches (env : InputBoundary) (s : State) : Touches dueParts s (inputRest env s) :=
  (((((((Touches.refl dueParts s).and (useFormed_touches s)).and (runCaptures_touches _ _)).and (countCaptured_touches _)).and
    (countMeasure_touches _)).and (countPlayed_touches _)).and (countWindow_touches _)).and (prof_touches _ _)

theorem inputEvents_touches (env : InputBoundary) (s : State) : Touches dueParts s (inputEvents env s) :=
  ((((Touches.refl dueParts s).and (findDue_touches _ _)).and (findToneEnd_touches _)).and (samplePanels_touches _ _)).trans
    (settleDue_touches _ _ _)

theorem completed_touches (env : InputBoundary) (s : State) : Touches [.inputs, .dev] s (completed env s) :=
  ((Touches.refl _ s).and (completeInputs_touches _ _)).and (countReturn_touches _ _)

theorem completed_inputs (env : InputBoundary) (s : State) :
    (completed env s).inputs = (completeInputs env.bus s).inputs := countReturn_touches _ _ .inputs (by decide)

/-- The fades that wait run from here on (R7, step 1). -/
def started (s : State) : State := { s with mix := s.mix.map Contrib.startFade }

theorem started_contrib (c : Contributor) (s : State) : (started s).contrib c = (s.contrib c).startFade := by
  cases c <;> rfl

theorem startFade_binding (x : Contrib) : x.startFade.binding = x.binding := by
  unfold Contrib.startFade
  split <;> rfl

theorem started_binding (c : Contributor) (s : State) : ((started s).contrib c).binding = (s.contrib c).binding := by
  rw [started_contrib, startFade_binding]

/-- The state once VOICE A's reader, where it has one, has read. -/
def afterA (s : State) : State := (contributorBlock .voiceA .voiceA (started s)).2

/-- The state once both voices' readers have read. -/
def afterB (s : State) : State := (contributorBlock .voiceB .voiceB (afterA s)).2

/-- The state once every reader has read. -/
def afterReaders (s : State) : State := (contributorBlock .alert .alert (afterB s)).2

/-- The blocks that the contributors bring (R5, R10). -/
def blocksRead (s : State) : Contributor → Block
  | .voiceA => (contributorBlock .voiceA .voiceA (started s)).1
  | .voiceB => (contributorBlock .voiceB .voiceB (afterA s)).1
  | .alert => (contributorBlock .alert .alert (afterB s)).1
  | c => (started s).sourceBlock c

/-- What an input block boundary forms (R11, R12, R44). -/
def formedOf (s : State) : Formed :=
  ⟨mixBlock (started s) (blocksRead s) none, mixBlock (started s) (blocksRead s) (some .caller1),
    mixBlock (started s) (blocksRead s) (some .caller2), blockPeak (mixBlock (started s) (blocksRead s) none),
    s.reportedTag, s.formedAlert, s.callerLines⟩

theorem formedOf_peak (s : State) : (formedOf s).peak = blockPeak (formedOf s).pgm := by
  simp only [formedOf]

theorem formBlock_eq (s : State) : formBlock s =
    { afterReaders s with mix := (afterReaders s).mix.map Contrib.stepFade, formed := some (formedOf s) } := by
  have same : (fun c : Contributor => match c with
      | .voiceA => (contributorBlock .voiceA .voiceA (started s)).1
      | .voiceB => (contributorBlock .voiceB .voiceB (afterA s)).1
      | .alert => (contributorBlock .alert .alert (afterB s)).1
      | c => (started s).sourceBlock c) = blocksRead s := by
    funext c
    cases c <;> rfl
  simp only [formedOf, ← same]
  rfl

/-- The parts that a reader may change. -/
abbrev readerParts : List Part := [.mem, .clips, .alerts, .links, .due]

theorem afterA_touches (s : State) : Touches readerParts (started s) (afterA s) := contributorBlock_touches _ _ _

theorem afterB_touches (s : State) : Touches readerParts (started s) (afterB s) :=
  (afterA_touches s).trans (contributorBlock_touches _ _ _)

theorem afterReaders_touches (s : State) : Touches readerParts (started s) (afterReaders s) :=
  (afterB_touches s).trans (contributorBlock_touches _ _ _)

theorem formBlock_contrib (c : Contributor) (s : State) : (formBlock s).contrib c = (s.contrib c).startFade.stepFade := by
  have mix : (afterReaders s).mix = (started s).mix := afterReaders_touches s .mix (by decide)
  have formed : (formBlock s).mix = (started s).mix.map Contrib.stepFade := by rw [formBlock_eq, ← mix]
  rw [State.contrib, formed]
  cases c <;> rfl

/-- What an input block boundary forms and completes is not changed at it again. -/
theorem boundary_formed {env : InputBoundary} {s : State} (live : s.live = true) (due : s.due = []) :
    ∃ t, exec (.inputBlockBoundary env) s = .next t ∧
      t.formed = some (formedOf (completed env (applyUpsets env.upsets s))) ∧
      t.inputs = (completed env (applyUpsets env.upsets s)).inputs := by
  let u := completed env (applyUpsets env.upsets s)
  have after : Touches dueParts (formBlock u) (inputEvents env (inputRest env (formBlock u))) :=
    (inputRest_touches env _).trans (inputEvents_touches env _)
  refine ⟨_, exec_inputBoundary live due, ?_, ?_⟩
  · have formed : _ = (formBlock u).formed := after .formed (by decide)
    exact formed.trans (congrArg State.formed (formBlock_eq u))
  · have inputs : _ = (formBlock u).inputs := after .inputs (by decide)
    exact inputs.trans (formBlock_touches u .inputs (by decide))

-- what readers leave of the clips and the memory

/-- From `s` to `t` the memory keeps its segments and the clips theirs. -/
structure ReadKept (s t : State) : Prop where
  mem : ∃ e, t.mem = { s.mem with errors := e }
  clip : ∀ c, ∃ d, t.clip c = { s.clip c with damaged := d }

theorem ReadKept.refl (s : State) : ReadKept s s := ⟨⟨s.mem.errors, rfl⟩, fun c => ⟨(s.clip c).damaged, rfl⟩⟩

theorem ReadKept.trans {s t u : State} (h : ReadKept s t) (k : ReadKept t u) : ReadKept s u := by
  obtain ⟨⟨e, he⟩, hc⟩ := h
  obtain ⟨⟨e', he'⟩, hc'⟩ := k
  refine ⟨⟨e', by rw [he', he]⟩, fun c => ?_⟩
  obtain ⟨d, hd⟩ := hc c
  obtain ⟨d', hd'⟩ := hc' c
  exact ⟨d', by rw [hd', hd]⟩

theorem chain_errors (e : Nat) (m : SampleMemory) (k : Nat) (o : Option Nat) :
    ({ m with errors := e } : SampleMemory).chain k o = m.chain k o := by
  induction k generalizing o with
  | zero => rfl
  | succ k ih =>
    cases o with
    | none => rfl
    | some n => exact congrArg (n :: ·) (ih _)

theorem ReadKept.segments {s t : State} (h : ReadKept s t) (c : ClipRef) : t.segments c = s.segments c := by
  obtain ⟨⟨e, he⟩, hc⟩ := h
  obtain ⟨d, hd⟩ := hc c
  rw [State.segments, State.segments, he, hd, chain_errors]

theorem ReadKept.read {s t : State} (h : ReadKept s t) (n : Nat) : t.mem.read n = s.mem.read n := by
  obtain ⟨⟨e, he⟩, -⟩ := h
  rw [he]
  rfl

theorem clip_damaged (c k : ClipRef) (s : State) :
    ∃ d, (s.modClip c fun r => { r with damaged := true }).clip k = { s.clip k with damaged := d } := by
  by_cases h : k = c
  · subst h
    exact ⟨true, by cases k <;> simp [State.modClip, State.clip]⟩
  · refine ⟨(s.clip k).damaged, ?_⟩
    have same : (s.modClip c fun r => { r with damaged := true }).clip k = s.clip k := by
      cases c <;> cases k <;> simp only [State.modClip, State.clip]
      all_goals
        rename_i m n
        have other : m.val ≠ n.val := fun e => h (by rw [Fin.ext e])
        simp [other]
    exact same

theorem clipFetchFailed_kept (n : Nat) (s : State) : ReadKept s (clipFetchFailed n s) := by
  unfold clipFetchFailed
  split
  · next c _ =>
    let t : State := { s with mem := { s.mem with errors := countUp 65535 s.mem.errors } }
    have kept : ReadKept s (raise .P (.clipMemoryError c n) (t.modClip c fun r => { r with damaged := true })) :=
      ⟨⟨countUp 65535 s.mem.errors, by cases c <;> rfl⟩, fun k => clip_damaged c k t⟩
    cases c with
    | playout _ => exact kept
    | alert _ => exact kept.trans ⟨⟨_, rfl⟩, (ReadKept.refl _).clip⟩
  · exact ⟨⟨_, rfl⟩, (ReadKept.refl s).clip⟩

theorem readBlock_kept (r : ReaderOf) (s : State) : ReadKept s (readBlock r s).2 := by
  have fetched (n : Nat) : ReadKept s (fetchClip n s).2 := by
    unfold fetchClip
    dsimp only
    split
    · exact ReadKept.refl s
    · exact clipFetchFailed_kept n s
  have set (x : Option Reader) (t : State) : ReadKept t (t.setReader r x) := by
    cases r <;> exact ⟨⟨_, rfl⟩, (ReadKept.refl t).clip⟩
  have told (d : List Due) (t : State) : ReadKept t { t with due := d } := ⟨⟨_, rfl⟩, (ReadKept.refl t).clip⟩
  unfold readBlock
  split
  · exact ReadKept.refl s
  · next x _ =>
    split
    · exact ReadKept.refl s
    · have handed : ReadKept s (match (s.segments x.clip)[x.ordinal]? with
          | some n => ((fetchClip n s).1.frames, (fetchClip n s).2)
          | none => (Block.silent, s)).2 := by
        split
        · exact fetched _
        · exact ReadKept.refl s
      dsimp only
      split
      · exact (handed.trans (set _ _)).trans (told _ _)
      · exact handed.trans (set _ _)

theorem clipFetchFailed_reader (n : Nat) (r : ReaderOf) (s : State) :
    (clipFetchFailed n s).clips.reader r = s.clips.reader r := by
  unfold clipFetchFailed
  split
  · next c _ => cases c <;> cases r <;> rfl
  · rfl

/-- A reader's read leaves the others at their places. -/
theorem readBlock_reader {r q : ReaderOf} (h : q ≠ r) (s : State) : (readBlock r s).2.clips.reader q = s.clips.reader q := by
  have fetched (n : Nat) : (fetchClip n s).2.clips.reader q = s.clips.reader q := by
    unfold fetchClip
    dsimp only
    split
    · rfl
    · exact clipFetchFailed_reader n q s
  have set (x : Option Reader) (t : State) : (t.setReader r x).clips.reader q = t.clips.reader q := by
    cases r <;> cases q <;> first | rfl | exact absurd rfl h
  unfold readBlock
  split
  · rfl
  · next x _ =>
    split
    · rfl
    · have handed : (match (s.segments x.clip)[x.ordinal]? with
          | some n => ((fetchClip n s).1.frames, (fetchClip n s).2)
          | none => (Block.silent, s)).2.clips.reader q = s.clips.reader q := by
        split
        · exact fetched _
        · rfl
      dsimp only
      split
      · exact (set _ _).trans handed
      · exact (set _ _).trans handed

theorem contributorBlock_kept (c : Contributor) (r : ReaderOf) (s : State) : ReadKept s (contributorBlock c r s).2 := by
  unfold contributorBlock
  split
  · exact readBlock_kept r s
  · exact ReadKept.refl s

theorem contributorBlock_reader {r q : ReaderOf} (h : q ≠ r) (c : Contributor) (s : State) :
    (contributorBlock c r s).2.clips.reader q = s.clips.reader q := by
  unfold contributorBlock
  split
  · exact readBlock_reader h s
  · rfl

theorem started_kept (s : State) : ReadKept s (started s) := ⟨⟨_, rfl⟩, (ReadKept.refl s).clip⟩

theorem afterA_kept (s : State) : ReadKept s (afterA s) := (started_kept s).trans (contributorBlock_kept _ _ _)

theorem afterB_kept (s : State) : ReadKept s (afterB s) := (afterA_kept s).trans (contributorBlock_kept _ _ _)

theorem afterReaders_kept (s : State) : ReadKept s (afterReaders s) := (afterB_kept s).trans (contributorBlock_kept _ _ _)

-- the blocks read

theorem contributorBlock_source {c : Contributor} {r : ReaderOf} {n : Source} {s : State}
    (h : (s.contrib c).binding = some (.source n)) : contributorBlock c r s = (s.inputs[n], s) := by
  simp only [contributorBlock, State.sourceBlock, h]

theorem contributorBlock_clip {c : Contributor} {r : ReaderOf} {k : ClipRef} {s : State}
    (h : (s.contrib c).binding = some (.clip k)) : contributorBlock c r s = readBlock r s := by
  simp only [contributorBlock, h]

theorem blocksRead_source {c : Contributor} {n : Source} {s : State} (h : (s.contrib c).binding = some (.source n)) :
    blocksRead s c = s.inputs[n] := by
  have bound : ((started s).contrib c).binding = some (.source n) := (started_binding c s).trans h
  have later {t : State} (touched : Touches readerParts (started s) t) (r : ReaderOf) :
      (contributorBlock c r t).1 = s.inputs[n] := by
    have mix : t.mix = (started s).mix := touched .mix (by decide)
    have inputs : t.inputs = s.inputs := touched .inputs (by decide)
    have bound' : (t.contrib c).binding = some (.source n) := by rw [State.contrib, mix]; exact bound
    rw [contributorBlock_source bound', inputs]
  have direct : (started s).sourceBlock c = s.inputs[n] := by
    simp only [State.sourceBlock, bound]
    rfl
  cases c with
  | voiceA => exact later (Touches.refl _ _) .voiceA
  | voiceB => exact later (afterA_touches s) .voiceB
  | alert => exact later (afterB_touches s) .alert
  | studio => exact direct
  | caller1 => exact direct
  | caller2 => exact direct

theorem received_frames (g : Segment) : g.received.frames =
    if segmentCheck g.frames = g.check then g.frames else Block.silent := by
  by_cases h : segmentCheck g.frames = g.check
  · rw [received_passes ((passes_iff g).mpr h), if_pos h]
  · rw [received_fails (Bool.eq_false_iff.mpr fun p => h ((passes_iff g).mp p)), if_neg h]

theorem readBlock_frames {r : ReaderOf} {x : Reader} {k : Nat} {s : State} (reader : s.clips.reader r = some x)
    (runs : x.ended = false) (attached : x.detached = false) (there : (s.segments x.clip)[x.ordinal]? = some k) :
    (readBlock r s).1 = if segmentCheck (s.mem.read k).frames = (s.mem.read k).check then (s.mem.read k).frames else Block.silent :=
  (congrArg Prod.fst (readBlock_segment reader runs attached there)).trans (received_frames _)

/-- The reader that contributor `c` has reads as it does before the others have read. -/
theorem clip_block {c : Contributor} {r : ReaderOf} {k : ClipRef} {s t : State} (h : (s.contrib c).binding = some (.clip k))
    (touched : Touches readerParts (started s) t) : contributorBlock c r t = readBlock r t := by
  have mix : t.mix = (started s).mix := touched .mix (by decide)
  refine contributorBlock_clip (k := k) ?_
  rw [State.contrib, mix]
  exact (started_binding c s).trans h

theorem clip_frames {c : Contributor} {r : ReaderOf} {k : ClipRef} {x : Reader} {g : Nat} {s t : State}
    (h : (s.contrib c).binding = some (.clip k)) (touched : Touches readerParts (started s) t) (kept : ReadKept s t)
    (same : t.clips.reader r = s.clips.reader r) (reader : s.clips.reader r = some x)
    (runs : x.ended = false) (attached : x.detached = false) (there : (s.segments x.clip)[x.ordinal]? = some g) :
    (contributorBlock c r t).1 =
      if segmentCheck (s.mem.read g).frames = (s.mem.read g).check then (s.mem.read g).frames else Block.silent := by
  rw [clip_block h touched, ← kept.read]
  exact readBlock_frames (same.trans reader) runs attached (by rw [kept.segments]; exact there)

theorem afterA_reader {q : ReaderOf} (h : q ≠ .voiceA) (s : State) : (afterA s).clips.reader q = s.clips.reader q :=
  contributorBlock_reader h _ _

theorem afterB_reader (s : State) : (afterB s).clips.reader .alert = s.clips.reader .alert :=
  (contributorBlock_reader (by decide) _ _).trans (afterA_reader (by decide) s)

theorem blocksRead_voice {v : Voice} {x : Reader} {g : Nat} {s : State}
    (h : (s.contrib (voiceContributor v)).binding = some (.clip x.clip)) (reader : s.clips.reader (voiceReader v) = some x)
    (runs : x.ended = false) (attached : x.detached = false) (there : (s.segments x.clip)[x.ordinal]? = some g) :
    blocksRead s (voiceContributor v) =
      if segmentCheck (s.mem.read g).frames = (s.mem.read g).check then (s.mem.read g).frames else Block.silent := by
  cases v with
  | A => exact clip_frames (r := .voiceA) h (Touches.refl _ _) (started_kept s) rfl reader runs attached there
  | B => exact clip_frames (r := .voiceB) h (afterA_touches s) (afterA_kept s) (afterA_reader (by decide) s) reader runs attached there

-- the sums (R11 to R14)

theorem foldl_filter_pair {α : Type} (p : α → Bool) (f : α → Int × Int) (as : List α) (x : Int × Int) :
    (as.filter p).foldl (fun a c => (a.1 + (f c).1, a.2 + (f c).2)) x =
      (x.1 + (as.map fun c => if p c then (f c).1 else 0).sum, x.2 + (as.map fun c => if p c then (f c).2 else 0).sum) := by
  induction as generalizing x with
  | nil => simp
  | cons a as ih =>
    by_cases h : p a
    · rw [List.filter_cons_of_pos h, List.foldl_cons, ih]
      simp [h, add_assoc]
    · rw [List.filter_cons_of_neg h, ih]
      simp [h]

/-- A frame of a sum, contributor by contributor. -/
theorem mixFrame_eq (s : State) (blocks : Contributor → Block) (without : Option Contributor) (j : Fin 480) :
    mixFrame s blocks without j =
      ⟨saturate (allContributors.map fun c => if some c ≠ without then (products s c (blocks c) j).1 else 0).sum,
        saturate (allContributors.map fun c => if some c ≠ without then (products s c (blocks c) j).2 else 0).sum⟩ := by
  have folded := foldl_filter_pair (fun c => decide (some c ≠ without)) (fun c => products s c (blocks c) j) allContributors (0, 0)
  simp only [mixFrame, folded, zero_add, decide_eq_true_eq]

theorem saturate_toInt (x : Int) : (saturate x).toInt = max (-8388608) (min 8388607 x) :=
  DelayReads.toInt_ofInt_sample (by omega) (by omega)

theorem product_eq (x : Sample) (g : Nat) : product x g = (x.toInt * g).fdiv 32768 :=
  (Int.fdiv_eq_ediv_of_nonneg _ (by decide)).symm

theorem products_inactive {c : Contributor} {s : State} (h : (s.contrib c).binding = none) (b : Block) (j : Fin 480) :
    products s c b j = (0, 0) := by
  have inactive : (s.contrib c).active = false := by rw [Contrib.active, h]; rfl
  simp [products, inactive]

theorem appliedGain_free {c : Contributor} {s : State} (quiet : s.mix.alert.binding = none) (j : Nat) :
    appliedGain s c j = match s.trimOf c with
      | some t => min 65535 ((s.contrib c).gainAt j * t / 4096)
      | none => (s.contrib c).gainAt j := by
  have inactive : s.mix.alert.active = false := by rw [Contrib.active, quiet]; rfl
  rw [appliedGain, inactive, if_neg (by simp)]
  cases s.trimOf c <;> rfl

/-- What contributor `c` adds to a channel of frame `j` (R11). -/
def part (s : State) (blocks : Contributor → Block) (j : Fin 480) (x : Block → Sample) (c : Contributor) : Int :=
  if (s.contrib c).binding.isSome then ((x (blocks c)).toInt * appliedGain s c j).fdiv 32768 else 0

theorem products_parts (s : State) (blocks : Contributor → Block) (j : Fin 480) (c : Contributor) :
    products s c (blocks c) j = (part s blocks j (fun b => b[j].left) c, part s blocks j (fun b => b[j].right) c) := by
  cases bound : (s.contrib c).binding with
  | none =>
    rw [products_inactive bound, part, part, bound]
    rfl
  | some _ =>
    have active : (s.contrib c).active = true := by rw [Contrib.active, bound]; rfl
    simp only [products, active, if_true, product_eq, part, bound, Option.isSome_some]

/-- The sum of the parts of the contributors that a feed takes. -/
def feed (s : State) (blocks : Contributor → Block) (without : Option Contributor) (j : Fin 480) (x : Block → Sample) : Int :=
  (allContributors.map fun c => if some c ≠ without then part s blocks j x c else 0).sum

theorem mixFrame_feed (s : State) (blocks : Contributor → Block) (without : Option Contributor) (j : Fin 480) :
    (mixFrame s blocks without j).left.toInt = max (-8388608) (min 8388607 (feed s blocks without j fun b => b[j].left)) ∧
    (mixFrame s blocks without j).right.toInt = max (-8388608) (min 8388607 (feed s blocks without j fun b => b[j].right)) := by
  rw [mixFrame_eq]
  simp only [products_parts]
  exact ⟨saturate_toInt _, saturate_toInt _⟩

section
variable {s : State} (quiet : s.mix.alert.binding = none) (blocks : Contributor → Block) (j : Fin 480) (x : Block → Sample)
include quiet

theorem part_alert : part s blocks j x .alert = 0 := by
  have off : (s.contrib .alert).binding = none := quiet
  simp [part, off]

theorem feed_all : feed s blocks none j x = part s blocks j x .studio + part s blocks j x .voiceA + part s blocks j x .voiceB +
    part s blocks j x .caller1 + part s blocks j x .caller2 := by
  simp [feed, allContributors, part_alert quiet, add_assoc]

theorem feed_without1 : feed s blocks (some .caller1) j x =
    part s blocks j x .studio + part s blocks j x .voiceA + part s blocks j x .voiceB + part s blocks j x .caller2 := by
  simp [feed, allContributors, part_alert quiet, add_assoc]

theorem feed_without2 : feed s blocks (some .caller2) j x =
    part s blocks j x .studio + part s blocks j x .voiceA + part s blocks j x .voiceB + part s blocks j x .caller1 := by
  simp [feed, allContributors, part_alert quiet, add_assoc]

end

theorem sumsOfTheMix : Claims.TheSumsOfTheMix := by
  intro s blocks without j quiet gain part' sum
  have gained (c : Contributor) : appliedGain s c j = gain c := appliedGain_free quiet j
  have taken (x : Block → Sample) (c : Contributor) :
      (if some c ≠ without then part s blocks j x c else 0) = part' x c := by
    by_cases out : without = some c
    · rw [if_neg (not_not.mpr out.symm)]
      exact (if_neg fun h => h.2 out).symm
    · rw [if_pos (Ne.symm out)]
      simp [part, part', gained, out]
  have summed (x : Block → Sample) : feed s blocks without j x = sum x := by
    have off : part' x .alert = 0 := if_neg fun ⟨h, _⟩ => by
      have none_bound : (s.contrib .alert).binding = none := quiet
      simp [none_bound] at h
    simp only [feed, taken, allContributors, List.map_cons, List.map_nil, List.sum_cons, List.sum_nil, off, sum]
    omega
  have frame := mixFrame_feed s blocks without j
  rw [summed, summed] at frame
  exact frame

-- at the boundary

theorem completed_contrib (env : InputBoundary) (c : Contributor) (s : State) : (completed env s).contrib c = s.contrib c := by
  have mix : (completed env s).mix = s.mix := completed_touches env s .mix (by decide)
  rw [State.contrib, State.contrib, mix]

theorem completed_trimOf (env : InputBoundary) (c : Contributor) (s : State) :
    (started (completed env s)).trimOf c = s.trimOf c := by
  have binding : ((started (completed env s)).contrib c).binding = (s.contrib c).binding := by
    rw [started_binding, completed_contrib]
  have callers : (started (completed env s)).callers = s.callers := completed_touches env s .callers (by decide)
  have line (i : PhoneLine) : (started (completed env s)).line i = s.line i := by rw [State.line, State.line, callers]
  unfold State.trimOf
  simp only [binding, line]

theorem gainAt_startFade (x : Contrib) (j : Nat) : x.startFade.gainAt j =
    match (match x.waiting with
      | some p => some ⟨x.gain, p.endGain, p.length, 0, p.purpose⟩
      | none => x.fade : Option Fade) with
    | some f => (frameGain f j).toNat
    | none => x.gain := by
  rcases x with ⟨b, g, n, _ | f, _ | w⟩ <;> rfl

theorem mixBlock_frame (s : State) (blocks : Contributor → Block) (without : Option Contributor) (j : Fin 480) :
    (mixBlock s blocks without)[j] = mixFrame s blocks without j := by
  simp [mixBlock]

theorem blocksAreMixed : Claims.BlocksAreMixed := by
  intro env s live due upsets quiet
  obtain ⟨t, executed, formed, inputs⟩ := boundary_formed (env := env) live due
  rw [upsets, applyUpsets_none] at formed inputs
  let u := completed env s
  have clips : u.clips = s.clips := completed_touches env s .clips (by decide)
  have mem : u.mem = s.mem := completed_touches env s .mem (by decide)
  refine ⟨t, formedOf u, blocksRead u, executed, formed, fun c n bound => ?_, fun v x g bound reader runs attached there => ?_,
    formedOf_peak u, ?_⟩
  · have bound' : (u.contrib c).binding = some (.source n) := by rw [completed_contrib]; exact bound
    have brought : blocksRead u c = u.inputs[n] := blocksRead_source bound'
    have inputs' : t.inputs = u.inputs := inputs
    rw [brought, inputs']
  · have segments : u.segments x.clip = s.segments x.clip := by
      have clip : u.clip x.clip = s.clip x.clip := by cases x.clip <;> simp only [State.clip, clips]
      rw [State.segments, State.segments, mem, clip]
    rw [blocksRead_voice (s := u) ((congrArg Contrib.binding (completed_contrib env _ s)).trans bound) (by rw [clips]; exact reader)
      runs attached (by rw [segments]; exact there), mem]
  intro fade gain j part' clamp left right rest
  have quiet' : (started u).mix.alert.binding = none := by
    refine (started_binding .alert u).trans ?_
    rw [completed_contrib]
    exact quiet
  have gained (c : Contributor) : appliedGain (started u) c j = gain c j := by
    refine (appliedGain_free quiet' j).trans ?_
    have at_j : ((started u).contrib c).gainAt j = match fade c with
        | some x => (frameGain x j).toNat
        | none => (s.contrib c).gain := by
      rw [started_contrib, completed_contrib]
      exact gainAt_startFade _ _
    rw [completed_trimOf, at_j] <;> rfl
  have parts (x : Block → Sample) (c : Contributor) : part (started u) (blocksRead u) j x c = part' x c := by
    have binding : ((started u).contrib c).binding = (s.contrib c).binding := by rw [started_binding, completed_contrib]
    rw [part, gained, binding]
  have frames (without : Option Contributor) := mixFrame_feed (started u) (blocksRead u) without j
  refine ⟨?_, ?_, ?_⟩
  · change ((mixBlock _ _ _)[j]).left.toInt = _ ∧ ((mixBlock _ _ _)[j]).right.toInt = _
    rw [mixBlock_frame, (frames none).1, (frames none).2, feed_all quiet', feed_all quiet']
    simp only [parts]
    exact ⟨congrArg clamp rfl, congrArg clamp rfl⟩
  · change ((mixBlock _ _ _)[j]).left.toInt = _ ∧ ((mixBlock _ _ _)[j]).right.toInt = _
    rw [mixBlock_frame, (frames (some .caller1)).1, (frames (some .caller1)).2, feed_without1 quiet', feed_without1 quiet']
    simp only [parts]
    exact ⟨congrArg clamp rfl, congrArg clamp rfl⟩
  · change ((mixBlock _ _ _)[j]).left.toInt = _ ∧ ((mixBlock _ _ _)[j]).right.toInt = _
    rw [mixBlock_frame, (frames (some .caller2)).1, (frames (some .caller2)).2, feed_without2 quiet', feed_without2 quiet']
    simp only [parts]
    exact ⟨congrArg clamp rfl, congrArg clamp rfl⟩

end Sys2Proof.BlockForming
end

section
/-! R1, R12, R14, R44, R83, law 7, law 9: what the blocks formed contain, and the block written into the delay. -/

namespace Sys2Proof.FormedBlocks

-- one thread: the check compiles under a limit on the process
set_option Elab.async false

open Sys2Proof.Machine Sys2Proof.Safety Sys2Proof.Laws Sys2Proof.Boundaries Sys2Proof.BlockForming Sys2Proof.MemoryKeeping
open Sys2Proof.LawKeeping

-- the input port (R1, R3)

theorem inputBlocksComplete : Claims.InputBlocksComplete := by
  intro env s live due
  obtain ⟨t, executed, -, inputs⟩ := boundary_formed (env := env) live due
  refine ⟨t, executed, fun n j => ?_⟩
  have arrived : (t.inputs[n])[j] = arrivedFrame s.dev env.bus n j := by
    rw [inputs, completed_inputs]
    simp [completeInputs, applyUpsets]
  rw [arrived, arrivedFrame]
  cases env.bus[j] <;> rfl

-- a feed that leaves a contributor out (law 9)

theorem mixBlock_congr {s t : State} {blocks blocks' : Contributor → Block} {without : Option Contributor}
    (h : ∀ c, some c ≠ without → ∀ j, products s c (blocks c) j = products t c (blocks' c) j) :
    mixBlock s blocks without = mixBlock t blocks' without := by
  refine congrArg Vector.ofFn (funext fun j => ?_)
  have terms (x : Int × Int → Int) : (fun c => if some c ≠ without then x (products s c (blocks c) j) else 0) =
      fun c => if some c ≠ without then x (products t c (blocks' c) j) else 0 := by
    funext c
    by_cases taken : some c ≠ without
    · rw [if_pos taken, if_pos taken, h c taken]
    · rw [if_neg taken, if_neg taken]
  rw [mixFrame_eq, mixFrame_eq, terms Prod.fst, terms Prod.snd]

theorem clipFetchFailed_inputs (n : Nat) (v : Vector Block 8) (s : State) :
    clipFetchFailed n { s with inputs := v } = { clipFetchFailed n s with inputs := v } := by
  unfold clipFetchFailed
  dsimp only
  split
  · next c _ => cases c <;> rfl
  · rfl

theorem fetchClip_inputs (n : Nat) (v : Vector Block 8) (s : State) :
    fetchClip n { s with inputs := v } = ((fetchClip n s).1, { (fetchClip n s).2 with inputs := v }) := by
  simp only [fetchClip, clipFetchFailed_inputs]
  split <;> rfl

/-- A clip reader does not look at the input port. -/
theorem readBlock_inputs (r : ReaderOf) (v : Vector Block 8) (s : State) :
    readBlock r { s with inputs := v } = ((readBlock r s).1, { (readBlock r s).2 with inputs := v }) := by
  cases reader : s.clips.reader r with
  | none => simp only [readBlock, reader]
  | some x =>
    have segments : ({ s with inputs := v } : State).segments x.clip = s.segments x.clip := by cases x.clip <;> rfl
    have clip : ({ s with inputs := v } : State).clip x.clip = s.clip x.clip := by cases x.clip <;> rfl
    have set (y : Option Reader) (t : State) : ({ t with inputs := v } : State).setReader r y = { t.setReader r y with inputs := v } := by
      cases r <;> rfl
    simp only [readBlock, reader, segments, clip, fetchClip_inputs]
    split
    · rfl
    · cases (s.segments x.clip)[x.ordinal]? <;> dsimp only <;> rw [set] <;> split <;> rfl

theorem contributorBlock_inputs {c : Contributor} {r : ReaderOf} (v : Vector Block 8) (s : State) :
    (contributorBlock c r { s with inputs := v }).2 = { (contributorBlock c r s).2 with inputs := v } := by
  have same : ({ s with inputs := v } : State).contrib c = s.contrib c := rfl
  unfold contributorBlock
  rw [same]
  split
  · exact congrArg Prod.snd (readBlock_inputs r v s)
  · rfl

section
variable (v : Vector Block 8) (s : State)

theorem afterA_inputs : afterA { s with inputs := v } = { afterA s with inputs := v } :=
  contributorBlock_inputs v (started s)

theorem afterB_inputs : afterB { s with inputs := v } = { afterB s with inputs := v } := by
  rw [afterB, afterA_inputs]
  exact contributorBlock_inputs v (afterA s)

/-- What a contributor bound to no source that differs adds to a frame. -/
theorem products_inputs {c : Contributor} (same : ∀ n, (s.contrib c).binding = some (.source n) → v[n] = s.inputs[n]) (j : Fin 480) :
    products (started { s with inputs := v }) c (blocksRead { s with inputs := v } c) j =
      products (started s) c (blocksRead s c) j := by
  have heard (b : Block) : products (started { s with inputs := v }) c b j = products (started s) c b j := rfl
  rw [heard]
  cases bound : (s.contrib c).binding with
  | none =>
    have off : ((started s).contrib c).binding = none := (started_binding c s).trans bound
    rw [products_inactive off, products_inactive off]
  | some b =>
    refine congrArg (products (started s) c · j) ?_
    cases b with
    | source n =>
      rw [blocksRead_source bound, blocksRead_source (s := { s with inputs := v }) bound]
      exact same n bound
    | clip k =>
      have read {t : State} {r : ReaderOf} (touched : Touches readerParts (started s) t) :
          (contributorBlock c r { t with inputs := v }).1 = (contributorBlock c r t).1 := by
        have touched' : Touches readerParts (started { s with inputs := v }) { t with inputs := v } := fun p hp => by
          have h := touched p hp
          cases p <;> first | rfl | exact h
        rw [clip_block bound touched, clip_block (s := { s with inputs := v }) bound touched', readBlock_inputs]
      have silent (u : State) (hu : u.contrib c = (started s).contrib c) : u.sourceBlock c = Block.silent := by
        have bound' : ((started s).contrib c).binding = some (.clip k) := (started_binding c s).trans bound
        simp only [State.sourceBlock, hu, bound']
      cases c with
      | voiceA => exact read (t := started s) (Touches.refl _ _)
      | voiceB => exact (congrArg (fun t => (contributorBlock .voiceB .voiceB t).1) (afterA_inputs v s)).trans (read (afterA_touches s))
      | alert => exact (congrArg (fun t => (contributorBlock .alert .alert t).1) (afterB_inputs v s)).trans (read (afterB_touches s))
      | studio => exact (silent (started { s with inputs := v }) rfl).trans (silent (started s) rfl).symm
      | caller1 => exact (silent (started { s with inputs := v }) rfl).trans (silent (started s) rfl).symm
      | caller2 => exact (silent (started { s with inputs := v }) rfl).trans (silent (started s) rfl).symm

end

/-- The blocks that a boundary completes: those that arrived. -/
theorem completed_inputs_other {env env' : InputBoundary} {s : State} {n m : Source} (hm : m ≠ n)
    (h : ∀ j : Fin 480, (env.bus[j]).isSome = (env'.bus[j]).isSome ∧
      ∀ p p', env.bus[j] = some p → env'.bus[j] = some p' → ∀ m : Fin 8, m ≠ n → p[m] = p'[m]) :
    (completed env' s).inputs[m] = (completed env s).inputs[m] := by
  have frames (j : Fin 480) : arrivedFrame s.dev env'.bus m j = arrivedFrame s.dev env.bus m j := by
    obtain ⟨both, alike⟩ := h j
    unfold arrivedFrame
    split
    · rfl
    · cases hp : env.bus[j] with
      | none =>
        rw [hp] at both
        have none' : env'.bus[j] = none := Option.isNone_iff_eq_none.mp (by rw [Option.isNone_iff_eq_none, ← Option.not_isSome_iff_eq_none, ← both]; simp)
        rw [none']
      | some p =>
        rw [hp] at both
        obtain ⟨p', hp'⟩ := Option.isSome_iff_exists.mp both.symm
        rw [hp']
        exact congrArg (portFrame m) (alike p p' hp hp' m hm).symm
  rw [completed_inputs, completed_inputs]
  simp only [completeInputs, Fin.getElem_fin, Vector.getElem_ofFn]
  exact congrArg Vector.ofFn (funext frames)

theorem completed_alike {env env' : InputBoundary} {s : State} (same : { env' with bus := env.bus } = env) :
    completed env' s = { completed env s with inputs := (completed env' s).inputs } := by
  have clock : env'.clock = env.clock := by rw [← same]
  have counted (v : Vector Block 8) (t : State) : countReturn env.clock { t with inputs := v } =
      { countReturn env.clock t with inputs := v } := by
    unfold countReturn
    dsimp only
    split <;> rfl
  let u := completeInputs env.bus s
  have alike : completeInputs env'.bus s = { u with inputs := (completeInputs env'.bus s).inputs } := rfl
  rw [completed_inputs env']
  simp only [completed, clock]
  rw [alike, counted]

/-- Settles O12. -/
theorem mixMinusNeverContainsItsCaller : Obligations.MixMinusNeverContainsItsCaller := by
  intro env env' s k n live due bound others same frames
  have upsets : env'.upsets = env.upsets := by rw [← same]
  obtain ⟨t, executed, formed, -⟩ := boundary_formed (env := env) live due
  obtain ⟨t', executed', formed', -⟩ := boundary_formed (env := env') live due
  rw [upsets] at formed'
  let w := applyUpsets env.upsets s
  let u := completed env w
  have alike : completed env' w = { u with inputs := (completed env' w).inputs } := completed_alike same
  have feeds : mixBlock (started u) (blocksRead u) (some (slotContributor k)) =
      mixBlock (started (completed env' w)) (blocksRead (completed env' w)) (some (slotContributor k)) := by
    rw [alike]
    refine mixBlock_congr fun c other j => ?_
    refine (products_inputs _ u (fun m boundTo => ?_) j).symm
    have other' : c ≠ slotContributor k := fun e => other (congrArg some e)
    have boundTo' : (s.contrib c).binding = some (.source m) := (congrArg Contrib.binding (completed_contrib env c w)).symm.trans boundTo
    have different : m ≠ n := by
      rintro rfl
      exact others c other' boundTo'
    exact completed_inputs_other different frames
  refine ⟨t, t', formedOf u, formedOf (completed env' w), executed, executed', formed, formed', ?_⟩
  rcases CallerSlots.slot_cases k with rfl | rfl
  · exact feeds
  · exact feeds

-- the alert alone (law 7)

theorem product_zero (x : Sample) : product x 0 = 0 := by simp [product]

theorem product_unity (x : Sample) : product x 32768 = x.toInt := by simp [product]

theorem saturate_sample (x : Sample) : saturate x.toInt = x := by
  have low := BitVec.le_toInt x
  have high := BitVec.toInt_lt (x := x)
  norm_num at low high
  rw [saturate, min_eq_right (by omega), max_eq_right (by omega)]
  exact BitVec.ofInt_toInt

/-- A feed while ALERT is active at the gain it has: ALERT's block alone. -/
theorem mixBlock_alert {b : Binding} {s : State} (alert : s.mix.alert = ⟨some b, 32768, 32768, none, none⟩)
    (blocks : Contributor → Block) {without : Option Contributor} (taken : some .alert ≠ without) :
    mixBlock s blocks without = blocks .alert := by
  have active : s.mix.alert.active = true := by rw [alert]; rfl
  have ducked {c : Contributor} (h : c ≠ .alert) (x : Block) (j : Fin 480) : products s c x j = (0, 0) := by
    have zero : appliedGain s c j = 0 := if_pos ⟨h, active⟩
    rw [products]
    split
    · simp only [zero, product_zero]
    · rfl
  refine Vector.ext fun j hj => ?_
  have sounds : products s .alert (blocks .alert) ⟨j, hj⟩ = ((blocks .alert)[j].left.toInt, (blocks .alert)[j].right.toInt) := by
    have gain : appliedGain s .alert j = 32768 := by
      rw [appliedGain, if_neg (by simp)]
      change (s.mix.alert).gainAt j = 32768
      rw [alert]
      rfl
    have active' : (s.contrib .alert).active = true := active
    simp only [products, active', if_true, gain, product_unity]
    rfl
  have frame : (mixBlock s blocks without)[j] = mixFrame s blocks without ⟨j, hj⟩ := mixBlock_frame s blocks without ⟨j, hj⟩
  rw [frame, mixFrame_eq]
  simp only [allContributors, List.map_cons, List.map_nil, List.sum_cons, List.sum_nil, sounds, ducked (by decide : (Contributor.studio ≠ .alert)),
    ducked (by decide : (Contributor.voiceA ≠ .alert)), ducked (by decide : (Contributor.voiceB ≠ .alert)),
    ducked (by decide : (Contributor.caller1 ≠ .alert)), ducked (by decide : (Contributor.caller2 ≠ .alert)), if_pos taken, ite_self,
    zero_add, add_zero, saturate_sample]

/-- The three feeds while ALERT is active at the gain it has. -/
theorem formedOf_alert {b : Binding} {s : State} (alert : s.mix.alert = ⟨some b, 32768, 32768, none, none⟩) :
    (formedOf s).pgm = blocksRead s .alert ∧ (formedOf s).minus1 = blocksRead s .alert ∧
      (formedOf s).minus2 = blocksRead s .alert := by
  have alert' : (started s).mix.alert = ⟨some b, 32768, 32768, none, none⟩ := by
    change s.mix.alert.startFade = _
    rw [alert]
    rfl
  exact ⟨mixBlock_alert alert' _ (by decide), mixBlock_alert alert' _ (by decide), mixBlock_alert alert' _ (by decide)⟩

theorem alertSoundsAlone_live : Claims.AlertSoundsAlone := by
  intro env s live due alert
  obtain ⟨t, executed, formed, inputs⟩ := boundary_formed (env := env) live due
  let u := completed env (applyUpsets env.upsets s)
  have alert' : u.mix.alert = ⟨some (.source 7), 32768, 32768, none, none⟩ :=
    (completed_contrib env .alert (applyUpsets env.upsets s)).trans alert
  obtain ⟨pgm, minus1, minus2⟩ := formedOf_alert alert'
  have brought : blocksRead u .alert = t.inputs[7] := by
    rw [blocksRead_source (n := 7) (by exact congrArg Contrib.binding alert'), inputs]
    rfl
  refine ⟨t, formedOf u, executed, formed, pgm.trans brought, minus1.trans brought, minus2.trans brought, ?_⟩
  rw [formedOf_peak, pgm, brought]

theorem alertClipsSoundAlone : Claims.AlertClipsSoundAlone := by
  intro env c s live due upsets alert
  obtain ⟨t, executed, formed, -⟩ := boundary_formed (env := env) live due
  rw [upsets, applyUpsets_none] at formed
  let u := completed env s
  have alert' : u.mix.alert = ⟨some (.clip c), 32768, 32768, none, none⟩ := (completed_contrib env .alert s).trans alert
  have bound : (u.contrib .alert).binding = some (.clip c) := congrArg Contrib.binding alert'
  obtain ⟨pgm, minus1, minus2⟩ := formedOf_alert alert'
  have clips : u.clips = s.clips := completed_touches env s .clips (by decide)
  have mem : u.mem = s.mem := completed_touches env s .mem (by decide)
  have read : blocksRead u .alert = (readBlock .alert (afterB u)).1 :=
    congrArg Prod.fst (clip_block (c := .alert) (r := .alert) bound (afterB_touches u))
  have reader : (afterB u).clips.readerAlert = s.clips.readerAlert := (afterB_reader u).trans (congrArg ClipStore.readerAlert clips)
  refine ⟨t, formedOf u, executed, formed, minus1.trans pgm.symm, minus2.trans pgm.symm, formedOf_peak u,
    fun x g open' runs attached there => ?_, fun closed => ?_, fun x open' gone => ?_⟩
  · have segments : u.segments x.clip = s.segments x.clip := by
      have clip : u.clip x.clip = s.clip x.clip := by cases x.clip <;> simp only [State.clip, clips]
      rw [State.segments, State.segments, mem, clip]
    rw [pgm, ← mem]
    exact clip_frames (r := .alert) bound (afterB_touches u) (afterB_kept u) (afterB_reader u) (by rw [clips]; exact open') runs attached
      (by rw [segments]; exact there)
  · have closed' : (afterB u).clips.reader .alert = none := reader.trans closed
    rw [pgm, read, readBlock, closed']
  · have open'' : (afterB u).clips.reader .alert = some x := reader.trans open'
    have gone' : (x.ended || x.detached) = true := by simpa using gone
    rw [pgm, read, readBlock, open'']
    simp only [gone', if_true]

/-- Settles O13. -/
theorem alertSoundsAlone : Obligations.AlertSoundsAlone := ⟨alertSoundsAlone_live, alertClipsSoundAlone⟩

-- the block written into the delay (R44)

theorem delaySegment_eq (f : Formed) : delaySegment f =
    ⟨f.pgm, segmentCheck f.pgm, f.peak, if f.alertId = none then f.tag else none, f.alertId, f.lines, none⟩ := by
  rw [delaySegment]
  cases f.alertId <;> rfl

theorem writeDelay_running {f : Formed} {s : State} (running : s.delay.state ≠ .off) : writeDelay f s = { s with
    mem := s.mem.write s.delay.writeHead (delaySegment f)
    delay := { s.delay with
      writeHead := (s.delay.writeHead + 1) % s.mem.ring
      alertSegs := if f.alertId = none then s.delay.alertSegs else s.delay.alertSegs + 1
      fed := true } } := by
  rw [writeDelay, if_neg running]
  cases f.alertId <;> rfl

theorem programmeBlockIsWritten : Claims.EveryProgrammeBlockIsWritten := by
  intro f s canonical
  refine ⟨fun off => if_pos off, fun running => ?_⟩
  rw [writeDelay_running running]
  exact ⟨(read_write_same canonical _ _).trans (delaySegment_eq f), fun n other => read_write_ne other _ _, rfl, rfl, rfl⟩

theorem useFormed_some {f : Formed} {s : State} (h : s.formed = some f) : useFormed s = countAlerts f (writeDelay f s) := by
  simp only [useFormed, h]

theorem useFormed_written {f : Formed} {v : State} (h : v.formed = some f) : (useFormed v).mem = (writeDelay f v).mem ∧
    (useFormed v).delay = (writeDelay f v).delay ∧ (useFormed v).dev = v.dev := by
  have dev : (writeDelay f v).dev = v.dev := writeDelay_touches f v .dev (by decide)
  rw [useFormed_some h]
  exact ⟨rfl, rfl, dev⟩

theorem formBlock_delay (env : InputBoundary) (s : State) : (formBlock (completed env s)).delay = s.delay := by
  have formed : (formBlock (completed env s)).delay = (completed env s).delay := formBlock_touches _ .delay (by decide)
  exact formed.trans (completed_touches env s .delay (by decide))

theorem formBlock_mem (env : InputBoundary) (s : State) : ∃ e, (formBlock (completed env s)).mem = { s.mem with errors := e } := by
  obtain ⟨⟨e, he⟩, -⟩ := afterReaders_kept (completed env s)
  have before : (completed env s).mem = s.mem := completed_touches env s .mem (by decide)
  refine ⟨e, ?_⟩
  rw [formBlock_eq]
  change (afterReaders (completed env s)).mem = _
  rw [he, before]

theorem formBlock_device (env : InputBoundary) (s : State) : (formBlock (completed env s)).dev.state = s.dev.state := by
  have formed : (formBlock (completed env s)).dev = (completed env s).dev := formBlock_touches _ .dev (by decide)
  have completed : (completed env s).dev.state = s.dev.state := by
    simp only [Boundaries.completed, countReturn]
    split <;> rfl
  rw [formed, completed]

theorem writeDelay_mem_kept (f : Formed) (v : State) : MemoryKept v.mem (writeDelay f v).mem := by
  unfold writeDelay
  split
  · exact MemoryKept.refl _
  · exact write_kept _ _ _

/-- The delay region once a block formed has been written (R44). -/
theorem writeDelay_read (f : Formed) {v : State} (canonical : v.mem.wf = true) (n : Nat) : (writeDelay f v).mem.read n =
    if v.delay.state ≠ .off ∧ n = v.delay.writeHead then
      ⟨f.pgm, segmentCheck f.pgm, f.peak, if f.alertId = none then f.tag else none, f.alertId, f.lines, none⟩
    else v.mem.read n := by
  by_cases off : v.delay.state = .off
  · rw [writeDelay, if_pos off, if_neg (by simp [off])]
  · rw [writeDelay_running off]
    by_cases at_head : n = v.delay.writeHead
    · subst at_head
      exact (read_write_same canonical _ _).trans ((delaySegment_eq f).trans (if_pos ⟨off, rfl⟩).symm)
    · exact (read_write_ne at_head _ _).trans (if_neg fun h => at_head h.2).symm

theorem formedBlocksAreWritten : Claims.FormedBlocksAreWritten := by
  intro env s live due upsets canonical mapped head off
  let v := formBlock (completed env s)
  let f := formedOf (completed env s)
  have executed := exec_inputBoundary (env := env) live due
  rw [upsets, applyUpsets_none] at executed
  have formed : v.formed = some f := congrArg State.formed (formBlock_eq (completed env s))
  obtain ⟨usedMem, usedDelay, usedDev⟩ := useFormed_written formed
  obtain ⟨e, mem⟩ := formBlock_mem env s
  have delay : v.delay = s.delay := formBlock_delay env s
  have later : Lawful true (useFormed v) (inputEvents env (inputRest env v)) :=
    (recorded_lawful env (useFormed v)).trans (found_lawful env _)
  have formedStays : (inputEvents env (inputRest env v)).formed = v.formed :=
    ((inputRest_touches env v).trans (inputEvents_touches env _)) .formed (by decide)
  have kept : MemoryKept v.mem (useFormed v).mem := usedMem ▸ writeDelay_mem_kept f v
  have ring : v.mem.ring = s.mem.ring := by rw [mem]
  refine ⟨_, f, executed, formedStays.trans formed, fun n hn => ?_, fun isOff => ?_, fun running => ?_⟩
  · have mapped' : Mapped (useFormed v).mem := kept.mapped (by rw [mem]; exact mapped)
    rw [later.memory.region mapped' n (by rw [kept.ring, ring]; exact hn), usedMem, writeDelay_read f (by rw [mem]; exact canonical),
      delay, mem]
    rfl
  · have still : (useFormed v).delay = s.delay := by
      rw [usedDelay, writeDelay, if_pos (by rw [delay]; exact isOff), delay]
    have idle : (useFormed v).dev.state ≠ .onAir := by
      rw [usedDev, formBlock_device]
      exact off.mp isOff
    exact (later.idle idle (by rw [still]; exact isOff)).trans still
  · have written : (useFormed v).delay = { s.delay with
        writeHead := (s.delay.writeHead + 1) % s.mem.ring
        alertSegs := if f.alertId = none then s.delay.alertSegs else s.delay.alertSegs + 1
        fed := true } := by
      rw [usedDelay, writeDelay_running (by rw [delay]; exact running)]
      simp only [delay, ring]
    have same := later.delay
    rw [written] at same
    exact congrArg (fun d : Delay => { d with dump := (inputEvents env (inputRest env v)).delay.dump }) same

-- its labels (R44, R83)

theorem airing_of_one {k : AlertSlot} {r : AlertRecord} {s : State} (hr : s.record k = some r) (airing : r.phase = .airing)
    (one : ∀ j x, s.record j = some x → x.phase = .airing → j = k) : s.airing = some k := by
  have self : s.inPhase .airing k = true := by simp [State.inPhase, hr, airing]
  cases found : s.airing with
  | none => exact absurd self (by simp [(airing_none_iff s).mp found k])
  | some j =>
    have airs : s.inPhase .airing j = true := List.find?_some found
    unfold State.inPhase at airs
    split at airs
    · next x hx => exact congrArg some (one j x hx (of_decide_eq_true airs))
    · cases airs

theorem formedBlocksAreLabelled : Claims.FormedBlocksAreLabelled := by
  intro env s live due
  obtain ⟨t, executed, formed, -⟩ := boundary_formed (env := env) live due
  let w := applyUpsets env.upsets s
  let u := completed env w
  have mix : u.mix = s.mix := completed_touches env w .mix (by decide)
  have cue : u.cue = s.cue := completed_touches env w .cue (by decide)
  have clips : u.clips = s.clips := completed_touches env w .clips (by decide)
  have alerts : u.alerts = s.alerts := completed_touches env w .alerts (by decide)
  have record (k : AlertSlot) : u.record k = s.record k := by rw [State.record, State.record, alerts]
  refine ⟨t, formedOf u, executed, formed, fun quiet => ?_, fun k r active hr airing one => ?_,
    fun before e after playing split isPlaying later => ?_, fun x filling fills active reader => ?_, fun filling other => ?_, fun still => ?_,
    fun i => ?_⟩
  · change u.formedAlert = none
    have inactive : s.mix.alert.active = false := by rw [Contrib.active, quiet]; rfl
    rw [State.formedAlert, mix, inactive]
    rfl
  · change u.formedAlert = _
    have onAir : u.airing = some k := airing_of_one ((record k).trans hr) airing fun j x hx => one j x ((record j).symm.trans hx)
    have sounding : u.mix.alert.active = true := by rw [mix]; exact active
    rw [State.formedAlert, if_pos sounding, onAir, Option.bind_some, record, hr]
    rfl
  · change u.reportedTag = _
    have last : ((s.cue.entries.filter Entry.playing).getLast?) = some e := by
      have rest : after.filter Entry.playing = [] := List.filter_eq_nil_iff.mpr fun x hx => by simpa [Entry.playing] using later x hx
      have taken : e.playing = true := decide_eq_true isPlaying
      rw [split, List.filter_append, List.filter_cons_of_pos taken, rest]
      simp
    simp only [State.reportedTag, cue, playing, last, Option.bind_some]
  · change u.reportedTag = _
    have sounding : s.mix.voiceA.active = true := active
    have clip : u.clip x.clip = s.clip x.clip := by cases x.clip <;> simp only [State.clip, clips]
    simp only [State.reportedTag, cue, filling, mix, clips, fills, sounding, and_self, if_true, reader, clip]
  · change u.reportedTag = _
    simp only [State.reportedTag, cue, filling, other, false_and, if_false]
  · change u.reportedTag = _
    rcases still with h | h | h <;> simp only [State.reportedTag, cue, h]
  · change u.callerLines[i] = true ↔ _
    simp [State.callerLines, mix]

/-- Settles O20. -/
theorem everyProgrammeBlockIsWritten : Obligations.EveryProgrammeBlockIsWritten :=
  ⟨programmeBlockIsWritten, formedBlocksAreWritten, formedBlocksAreLabelled⟩

end Sys2Proof.FormedBlocks
end

section
/-! R42, R201: AIR START. -/

namespace Sys2Proof.GoingOnAir

-- one thread: the check compiles under a limit on the process
set_option Elab.async false

open Sys2Proof.Machine Sys2Proof.Safety Sys2Proof.Laws Sys2Proof.TakenCommands Sys2Proof.DelayReads Sys2Proof.CallerSlots

/-- The priming segment (R42). -/
def primed (s : State) : Nat := (s.delay.writeHead + s.mem.ring - 1) % s.mem.ring

/-- The state that AIR START leaves, but for the event. -/
def onAirState (s : State) : State :=
  let safe := decide (s.delay.target = 0)
  { s with
    dev := { s.dev with state := .onAir }
    mem := s.mem.write (primed s) .silent
    delay := { s.delay with
      readPos := some (primed s, 479)
      excess := 0
      alertSegs := 0
      dump := none
      fed := false
      state := if safe then .safe else .building }
    sup := { s.sup with mode := some .normal, remembered := none, counter := 0 }
    panel := { s.panel with reports := { s.panel.reports with
      onAir := true
      delaySafe := if safe then true else s.panel.reports.delaySafe } } }

theorem airStart_eq {s : State} (off : s.delay.state = .off) : airStart s =
    (if decide (s.delay.target = 0) then raise .C (.delaySafeChanged true) else id) (onAirState s) := by
  let u : State := { s with
    dev := { s.dev with state := .onAir }
    sup := { s.sup with mode := some .normal, remembered := none, counter := 0 }
    mem := s.mem.write (primed s) .silent
    delay := { s.delay with readPos := some (primed s, 479), excess := 0, alertSegs := 0, dump := none, fed := false } }
  have started : airStart s = (workOutDelay u).report fun r => { r with onAir := true } := rfl
  by_cases zero : s.delay.target = 0
  · have state : delayStateOf u.onAir u.delay.excess u.delay.targetSamples = .safe := by
      simp [u, delayStateOf, State.onAir, Delay.targetSamples, zero]
    have safe : decide (s.delay.target = 0) = true := decide_eq_true zero
    have before : (decide (u.delay.state = .safe) || decide (u.delay.state = .shrinking)) = false := by simp [u, off]
    rw [started, workOutDelay_of state, before, safe, if_pos rfl]
    simp only [onAirState, safe, if_true]
    rfl
  · have state : delayStateOf u.onAir u.delay.excess u.delay.targetSamples = .building := by
      have short : 0 < 480 * s.delay.target := by omega
      simp [u, delayStateOf, State.onAir, Delay.targetSamples, short]
    have notSafe : decide (s.delay.target = 0) = false := decide_eq_false zero
    have before : (decide (u.delay.state = .safe) || decide (u.delay.state = .shrinking)) = false := by simp [u, off]
    rw [started, workOutDelay_of state, before, notSafe]
    simp only [onAirState, notSafe, Bool.false_eq_true, if_false]
    rfl

theorem airStart_frameComplete {s : State} (off : s.delay.state = .off) : airStart (frameComplete .C s) = frameComplete .C
    ((if decide (s.delay.target = 0) then raise .C (.delaySafeChanged true) else id) (onAirState s)) := by
  refine (airStart_eq (s := frameComplete .C s) off).trans ?_
  change (if decide (s.delay.target = 0) then raise .C (.delaySafeChanged true) else id) (frameComplete .C (onAirState s)) = _
  split
  · exact raise_frameComplete .C .C _ _
  · rfl

/-- Settles O21. -/
theorem airStartPrimesTheRing : Obligations.AirStartPrimesTheRing := by
  intro s h standby off canonical primed' safe
  refine ⟨s.mem.write primed' .silent, rfl, fun n => ?_, ?_⟩
  · by_cases at_primed : n = primed'
    · rw [if_pos at_primed, at_primed, read_write_same canonical]
    · rw [if_neg at_primed, read_write_ne at_primed]
  · have checks : failedCheck .C 0x30 [] (frameComplete .C s) = none :=
      checks_taken ⟨0x30, [.C], true, false, false, false, .exactly 0⟩ rfl rfl (by simp [CommandRow.taken, standby]) rfl
    exact congrArg _ (command_ok h checks (congrArg (Reply.ok · .none) (airStart_frameComplete off)))

end Sys2Proof.GoingOnAir
end

section
/-! What an input block boundary finds, where nothing that it finds acts. -/

namespace Sys2Proof.IdleEvents

-- one thread: the check compiles under a limit on the process
set_option Elab.async false

open Sys2Proof.Machine Sys2Proof.Safety Sys2Proof.Laws Sys2Proof.Boundaries Sys2Proof.BlockForming

/-- An action of a panel line without a function. -/
def IdleAction (s : State) (d : Due) : Prop := ∃ n on, d = .panelAction n on ∧ (s.panelConfig n).function = .none

theorem panelAction_idle {n : PanelLineNo} {s : State} (h : (s.panelConfig n).function = .none) (on : Bool) :
    panelAction n on s = s := by
  simp only [panelAction, h, panelOwner]

theorem take_idle {d : Due} {s : State} (h : d ∈ s.due → IdleAction s d) : Touches [.due] s (take d s) := by
  unfold take
  split
  · next found =>
    obtain ⟨n, on, rfl, none'⟩ := h (by simpa using found)
    have idle : happen (.panelAction n on) { s with due := s.due.erase (.panelAction n on) } =
        { s with due := s.due.erase (.panelAction n on) } :=
      panelAction_idle (s := { s with due := s.due.erase (.panelAction n on) }) none' on
    dsimp only
    rw [idle, ite_self]
    exact due_touches _ s
  · exact Touches.refl _ s

/-- Of what is due nothing acts but panel lines without a function. -/
theorem takeEach_idle {ds : List Due} {s : State} (h : ∀ d ∈ ds, d ∈ s.due → IdleAction s d) : Touches [.due] s (takeEach ds s) := by
  induction ds generalizing s with
  | nil => exact Touches.refl _ s
  | cons d ds ih =>
    have first : Touches [.due] s (take d s) := take_idle (h d List.mem_cons_self)
    have panel : (take d s).panel = s.panel := first .panel (by decide)
    have fewer : ∀ e ∈ (take d s).due, e ∈ s.due := by
      unfold take
      split
      · next found =>
        obtain ⟨n, on, rfl, none'⟩ := h d List.mem_cons_self (by simpa using found)
        have idle : happen (.panelAction n on) { s with due := s.due.erase (.panelAction n on) } =
            { s with due := s.due.erase (.panelAction n on) } :=
      panelAction_idle (s := { s with due := s.due.erase (.panelAction n on) }) none' on
        dsimp only
        rw [idle, ite_self]
        exact fun e he => List.mem_of_mem_erase he
      · exact fun e he => he
    refine first.trans (ih fun e he due => ?_)
    obtain ⟨n, on, hd, none'⟩ := h e (List.mem_cons_of_mem _ he) (fewer e due)
    refine ⟨n, on, hd, ?_⟩
    rw [State.panelConfig, panel]
    exact none'

/-- What sampling the panel adds to the events due: actions of input lines. -/
theorem samplePanels_due (pins : Vector Contact 8) (s : State) : ∀ d ∈ (samplePanels pins s).due, d ∈ s.due ∨
    ∃ n on, d = .panelAction n on ∧ (s.panelConfig n).isInput = true := by
  have one (n : PanelLineNo) (t : State) : (∀ d ∈ (samplePanel pins n t).due, d ∈ t.due ∨
      ∃ n on, d = .panelAction n on ∧ (t.panelConfig n).isInput = true) ∧ (samplePanel pins n t).panel.settings = t.panel.settings := by
    unfold samplePanel
    dsimp only
    split
    · next input =>
      split
      · refine ⟨fun d hd => ?_, rfl⟩
        rcases List.mem_append.mp hd with old | new
        · exact .inl old
        · exact .inr ⟨n, _, List.mem_singleton.mp new, input⟩
      · exact ⟨fun d hd => .inl hd, rfl⟩
    · exact ⟨fun d hd => .inl hd, rfl⟩
  have all (ns : List PanelLineNo) (t : State) : ∀ d ∈ (ns.foldl (fun t n => samplePanel pins n t) t).due, d ∈ t.due ∨
      ∃ n on, d = .panelAction n on ∧ (t.panelConfig n).isInput = true := by
    induction ns generalizing t with
    | nil => exact fun d hd => .inl hd
    | cons n ns ih =>
      obtain ⟨added, settings⟩ := one n t
      intro d hd
      rcases ih (samplePanel pins n t) d hd with old | ⟨m, on, rfl, input⟩
      · exact added d old
      · refine .inr ⟨m, on, rfl, ?_⟩
        rw [State.panelConfig, settings] at input
        exact input
  exact all panelLines s

/-- Every input line is without a function. -/
def PanelIdle (s : State) : Prop := ∀ n : PanelLineNo,
  (s.panel.settings.lines[n]).direction = .output ∨ (s.panel.settings.lines[n]).function = .none

/-- The events that a row of the table brings (R181). -/
def hasRow : Due → Bool
  | .endOfAudio _ => false
  | .alertNoSegment => false
  | .panelAction _ _ => false
  | _ => true

theorem rowless_of_timed {d : Due} (h : d ∈ inputDue) : d ∉ reportsDue ++ actionsDue := fun k => by
  have timed : hasRow d = true := (by decide : ∀ d ∈ inputDue, hasRow d = true) d h
  have rowless : hasRow d = false := (by decide : ∀ d ∈ reportsDue ++ actionsDue, hasRow d = false) d k
  rw [timed] at rowless
  cases rowless

/-- With the timed events left to their rows, no tone at its end and no panel line that acts, the events that an input block
boundary finds change nothing but the panel's samples. -/
theorem inputEvents_idle {env : InputBoundary} {s : State} (first : env.first = []) (leave : env.leave = true) (due : s.due = [])
    (tone : s.alerts.tone = none) (panel : PanelIdle s) : Touches [.panel, .links, .due] s (inputEvents env s) := by
  let t := findToneEnd (findDue inputDue s)
  have noTone : findToneEnd (findDue inputDue s) = findDue inputDue s := by
    refine if_neg ?_
    have tone' : (findDue inputDue s).alerts.tone = none := tone
    simp [toneOver, tone']
  have sampled : Touches [.panel, .links, .due] (findDue inputDue s) (samplePanels env.pins (findDue inputDue s)) := samplePanels_touches _ _
  have foundSettings : (findDue inputDue s).panel.settings = s.panel.settings := by rw [findDue]
  have settings : (samplePanels env.pins (findDue inputDue s)).panel.settings = s.panel.settings := by
    have one (n : PanelLineNo) (t : State) : (samplePanel env.pins n t).panel.settings = t.panel.settings := by
      unfold samplePanel
      dsimp only
      split
      · split <;> rfl
      · rfl
    have all (ns : List PanelLineNo) (t : State) : (ns.foldl (fun t n => samplePanel env.pins n t) t).panel.settings = t.panel.settings := by
      induction ns generalizing t with
      | nil => rfl
      | cons n ns ih => exact (ih _).trans (one n t)
    rw [samplePanels, ← foundSettings]
    exact all panelLines (findDue inputDue s)
  have events : inputEvents env s = takeEach (reportsDue ++ actionsDue) (samplePanels env.pins (findDue inputDue s)) := by
    have none_first (u : State) : takeEach [] u = u := rfl
    rw [inputEvents, noTone, settleDue, first, leave, if_pos rfl, none_first]
  rw [events]
  refine (((Touches.refl _ s).and (findDue_touches _ _)).and sampled).and (takeEach_idle fun d hd found => ?_)
  rcases samplePanels_due env.pins _ d found with timed | ⟨n, on, rfl, input⟩
  · have isTimed : d ∈ inputDue := by
      rw [findDue, due] at timed
      exact List.mem_of_mem_filter (by simpa using timed)
    exact absurd hd (rowless_of_timed isTimed)
  · refine ⟨n, on, rfl, ?_⟩
    rw [State.panelConfig, settings]
    refine (panel n).resolve_left fun output => ?_
    rw [State.panelConfig, foundSettings, LineConfig.isInput] at input
    exact of_decide_eq_true input output

-- the boundary's work, where nothing becomes due

theorem contributorBlock_closed {c : Contributor} {r : ReaderOf} {s : State} (closed : s.clips.reader r = none) :
    (contributorBlock c r s).2 = s := by
  unfold contributorBlock
  split
  · rw [readBlock, closed]
  · rfl

/-- With no reader open a boundary's block is formed without a fetch. -/
theorem afterReaders_closed {s : State} (a : s.clips.readerA = none) (b : s.clips.readerB = none) (t : s.clips.readerAlert = none) :
    afterReaders s = started s := by
  have first : afterA s = started s := contributorBlock_closed (r := .voiceA) a
  have second : afterB s = started s := by rw [afterB, first]; exact contributorBlock_closed (r := .voiceB) b
  rw [afterReaders, second]
  exact contributorBlock_closed (r := .alert) t

theorem formBlock_closed {s : State} (a : s.clips.readerA = none) (b : s.clips.readerB = none) (t : s.clips.readerAlert = none) :
    formBlock s = { s with mix := (started s).mix.map Contrib.stepFade, formed := some (formedOf s) } := by
  rw [formBlock_eq, afterReaders_closed a b t]
  rfl

theorem captureInto_quiet (c : Capturer) {s : State} (h : s.clips.alertCapture = none) :
    (captureInto c s).due = s.due ∧ (captureInto c s).clips.alertCapture = none := by
  unfold captureInto
  split
  · split
    · exact ⟨rfl, h⟩
    · next x _ =>
      cases appended : appendBlock (.playout x.clip) (captureBlock x.source s).1 (captureBlock x.source s).2 s with
      | none =>
        refine ⟨endCapture_touches _ _ s .due (by decide), ?_⟩
        rw [Option.getD_none, endCapture]
        split
        · exact h
        · unfold settleCapture
          split <;> exact h
      | some t =>
        refine ⟨appendBlock_touches appended .due (by decide), ?_⟩
        rw [appendBlock] at appended
        split at appended
        · cases appended
        · cases appended
          exact h
  · rw [h]
    exact ⟨rfl, h⟩

theorem runCaptures_quiet (named : List Capturer) {s : State} (h : s.clips.alertCapture = none) :
    (runCaptures named s).due = s.due ∧ (runCaptures named s).clips.alertCapture = none := by
  unfold runCaptures
  induction captureOrder named generalizing s with
  | nil => exact ⟨rfl, h⟩
  | cons c cs ih =>
    obtain ⟨due, capture⟩ := captureInto_quiet c h
    obtain ⟨due', capture'⟩ := ih capture
    exact ⟨due'.trans due, capture'⟩

theorem useFormed_tone {s : State} (h : s.alerts.tone = none) : (useFormed s).alerts.tone = none := by
  unfold useFormed
  split
  · next f _ =>
    have alerts : (writeDelay f s).alerts = s.alerts := writeDelay_touches f s .alerts (by decide)
    change Option.map _ (writeDelay f s).alerts.tone = none
    rw [alerts, h]
    rfl
  · exact h

/-- What an input block boundary does after the block is formed, an alert capture and a tone apart, leaves nothing due. -/
theorem inputRest_quiet (env : InputBoundary) {s : State} (capture : s.clips.alertCapture = none) (tone : s.alerts.tone = none) :
    (inputRest env s).due = s.due ∧ (inputRest env s).alerts.tone = none := by
  have used : Touches [.mem, .delay, .alerts] s (useFormed s) := useFormed_touches s
  have clips : (useFormed s).clips = s.clips := used .clips (by decide)
  obtain ⟨due, capture'⟩ := runCaptures_quiet env.captures (s := useFormed s) (by rw [clips]; exact capture)
  let t := runCaptures env.captures (useFormed s)
  have counted : countCaptured t = t := by
    rw [countCaptured, capture']
  have rest : Touches [.callers, .cue, .prof] t (inputRest env s) := by
    have after : Touches [.callers, .cue, .prof] (countCaptured t) (inputRest env s) :=
      ((((Touches.refl _ _).and (countMeasure_touches _)).and (countPlayed_touches _)).and (countWindow_touches _)).and
        (prof_touches _ _)
    rw [counted] at after
    exact after
  have alerts : t.alerts = (useFormed s).alerts := runCaptures_touches _ _ .alerts (by decide)
  have restDue : (inputRest env s).due = t.due := rest .due (by decide)
  have usedDue : (useFormed s).due = s.due := used .due (by decide)
  refine ⟨restDue.trans (due.trans usedDue), ?_⟩
  have same : (inputRest env s).alerts = t.alerts := rest .alerts (by decide)
  rw [same, alerts]
  exact useFormed_tone tone

theorem completed_kept (env : InputBoundary) (s : State) : (completed env s).clips = s.clips ∧ (completed env s).alerts = s.alerts ∧
    (completed env s).due = s.due ∧ (completed env s).panel = s.panel :=
  ⟨completed_touches env s .clips (by decide), completed_touches env s .alerts (by decide),
    completed_touches env s .due (by decide), completed_touches env s .panel (by decide)⟩

end Sys2Proof.IdleEvents
end

section
/-! R7, R9: how a boundary steps the fades. -/

namespace Sys2Proof.FadeSteps

-- one thread: the check compiles under a limit on the process
set_option Elab.async false

open Sys2Proof.Machine Sys2Proof.Safety Sys2Proof.Laws Sys2Proof.Boundaries Sys2Proof.BlockForming Sys2Proof.IdleEvents

/-- The parts that a boundary's uses of the block formed and its captures and counts may change. -/
abbrev restParts : List Part := [.mem, .delay, .alerts, .clips, .links, .due, .callers, .cue, .prof]

theorem inputRest_parts (env : InputBoundary) (s : State) : Touches restParts s (inputRest env s) :=
  (((((((Touches.refl restParts s).and (useFormed_touches s)).and (runCaptures_touches _ _)).and (countCaptured_touches _)).and
    (countMeasure_touches _)).and (countPlayed_touches _)).and (countWindow_touches _)).and (prof_touches _ _)

/-- An input block boundary at which nothing that it finds acts: with no reader open, no alert captured, no tone, no panel
function, and the timed events left to their rows. -/
structure IdleBoundary (env : InputBoundary) (s : State) : Prop where
  first : env.first = []
  leave : env.leave = true
  due : s.due = []
  readerA : s.clips.readerA = none
  readerB : s.clips.readerB = none
  readerAlert : s.clips.readerAlert = none
  capture : s.clips.alertCapture = none
  tone : s.alerts.tone = none
  panel : PanelIdle s

/-- What is formed at such a boundary with the mix stepped. -/
def formedAt (env : InputBoundary) (s : State) : State := formBlock (completed env (applyUpsets env.upsets s))

theorem IdleBoundary.formed {env : InputBoundary} {s : State} (h : IdleBoundary env s) :
    let u := completed env (applyUpsets env.upsets s)
    formedAt env s = { u with mix := (started u).mix.map Contrib.stepFade, formed := some (formedOf u) } := by
  obtain ⟨clips, -, -, -⟩ := completed_kept env (applyUpsets env.upsets s)
  exact formBlock_closed (by rw [clips]; exact h.readerA) (by rw [clips]; exact h.readerB) (by rw [clips]; exact h.readerAlert)

/-- Such a boundary changes after its work only the panel, the links and what is due. -/
theorem IdleBoundary.events {env : InputBoundary} {s : State} (h : IdleBoundary env s) :
    Touches [.panel, .links, .due] (inputRest env (formedAt env s)) (inputEvents env (inputRest env (formedAt env s))) := by
  obtain ⟨clips, alerts, due, panel⟩ := completed_kept env (applyUpsets env.upsets s)
  have formed := h.formed
  obtain ⟨restDue, restTone⟩ := inputRest_quiet env (s := formedAt env s)
    (by rw [formed]; exact (congrArg ClipStore.alertCapture clips).trans h.capture)
    (by rw [formed]; exact (congrArg Alerts.tone alerts).trans h.tone)
  have samePanel : (inputRest env (formedAt env s)).panel = s.panel := by
    have rest : (inputRest env (formedAt env s)).panel = (formedAt env s).panel := inputRest_parts env _ .panel (by decide)
    rw [rest, formed]
    exact panel
  refine inputEvents_idle h.first h.leave (restDue.trans ?_) restTone ?_
  · rw [formed]
    exact due.trans h.due
  · unfold PanelIdle
    rw [samePanel]
    exact h.panel

theorem IdleBoundary.exec {env : InputBoundary} {s : State} (h : IdleBoundary env s) (live : s.live = true) :
    exec (.inputBlockBoundary env) s = .next (inputEvents env (inputRest env (formedAt env s))) :=
  exec_inputBoundary live h.due

theorem stepFade_eq (x : Contrib) : x.startFade.stepFade =
    let fade : Option Fade := match x.waiting with
      | some p => some ⟨x.gain, p.endGain, p.length, 0, p.purpose⟩
      | none => x.fade
    if x.binding = none then { x with fade := fade, waiting := none } else { x with
      waiting := none
      gain := match fade with
        | some f => (frameGain f 479).toNat
        | none => x.gain
      fade := fade.map fun f => { f with done := f.done + 1 } } := by
  rcases x with ⟨_ | b, g, n, _ | f, _ | w⟩ <;> rfl

theorem fadesStep : Claims.FadesStep := by
  intro env s live due first leave a b t capture tone panel
  have h : IdleBoundary env s := ⟨first, leave, due, a, b, t, capture, tone, panel⟩
  refine ⟨_, h.exec live, fun c => ?_⟩
  have events : (inputEvents env (inputRest env (formedAt env s))).mix = (inputRest env (formedAt env s)).mix :=
    h.events .mix (by decide)
  have rest : (inputRest env (formedAt env s)).mix = (formedAt env s).mix := inputRest_parts env _ .mix (by decide)
  have stepped : (inputEvents env (inputRest env (formedAt env s))).contrib c = (s.contrib c).startFade.stepFade := by
    rw [State.contrib, events, rest]
    refine (formBlock_contrib c _).trans ?_
    rw [completed_contrib]
    rfl
  exact stepped.trans (stepFade_eq _)

/-- Settles O10. -/
theorem theSumsOfTheMix : Obligations.TheSumsOfTheMix := ⟨sumsOfTheMix, blocksAreMixed, fadesStep⟩

end Sys2Proof.FadeSteps
end

section
/-! R188: which events an operation may raise. A pending event stays pending with its values through an operation that raises
none of its number. -/

namespace Sys2Proof.EventKeeping

-- one thread: the check compiles under a limit on the process
set_option Elab.async false

open Sys2Proof.Machine Sys2Proof.Safety Sys2Proof.Laws Sys2Proof.LinkEvents

/-- The event is pending on the link. -/
def Pending (l : Link) (e : Event) (s : State) : Prop := ∃ p ∈ (s.link l).events, p.event = e

/-- From `s` to `t` no event is raised but ones with the numbers `ns`. -/
def Raises (ns : List Nat) (s t : State) : Prop := ∀ l, ∀ p ∈ (s.link l).events, p.event.number ∉ ns → p ∈ (t.link l).events

variable {ns ms : List Nat} {s t u : State}

theorem Raises.refl (ns : List Nat) (s : State) : Raises ns s s := fun _ _ hp _ => hp

theorem Raises.trans (h : Raises ns s t) (k : Raises ns t u) : Raises ns s u := fun l p hp hn => k l p (h l p hp hn) hn

theorem Raises.mono (h : Raises ns s t) (hs : ns ⊆ ms) : Raises ms s t := fun l p hp hn => h l p hp fun hm => hn (hs hm)

/-- A change that raises events `ms`, then one that raises fewer. -/
theorem Raises.and (h : Raises ms s t) (k : Raises ns t u) (hs : ns ⊆ ms := by decide) : Raises ms s u := h.trans (k.mono hs)

theorem Raises.foldl {α : Type} (f : State → α → State) (h : ∀ s a, Raises ns s (f s a)) (as : List α) :
    ∀ s, Raises ns s (as.foldl f s) := by
  induction as with
  | nil => exact fun s => Raises.refl ns s
  | cons a as ih => exact fun s => (h s a).trans (ih (f s a))

/-- A change of other parts raises nothing. -/
theorem silent {ps : List Part} (h : Touches ps s t) (hp : Part.links ∉ ps := by decide) : Raises ns s t := by
  have links : t.links = s.links := h .links hp
  intro l p hm _
  rw [State.link, links]
  exact hm

theorem raise_raises (l : Link) (e : Event) (s : State) : Raises [e.number] s (raise l e s) := by
  intro k p hp hn
  have other : p.event.number ≠ e.number := fun h => hn (by simp [h])
  by_cases same : k = l
  · subst same
    exact DelayReads.pending_raise hp other
  · rw [raise, link_modLink_ne same]
    exact hp

theorem Raises.raise (h : Raises ns s t) (l : Link) (e : Event) (he : e.number ∈ ns) : Raises ns s (raise l e t) :=
  h.and (raise_raises l e t) (by simpa using he)

theorem Raises.pending {l : Link} {e : Event} (h : Raises ns s t) (hp : Pending l e s) (hn : e.number ∉ ns) : Pending l e t := by
  obtain ⟨p, mem, rfl⟩ := hp
  exact ⟨p, h l p mem hn, rfl⟩

theorem pending_raised (l : Link) (e : Event) (s : State) : Pending l e (raise l e s) := DelayReads.raised_pending l e s

/-- A response and the frame that it answers leave the events pending. -/
theorem respond_raises (l : Link) (code : Nat) (c : Status) (r : Result) (s : State) : Raises ns s (respond l code c r s) := by
  intro k p hp _
  cases k <;> cases l <;> exact hp

theorem Raises.respond (h : Raises ns s t) (l : Link) (code : Nat) (c : Status) (r : Result) :
    Raises ns s (respond l code c r t) := h.trans (respond_raises l code c r t)

-- callers

theorem settleRelease_raises (cause : OffAirCause) (k : CallerSlot) (s : State) : Raises [0x32] s (settleRelease cause k s) := by
  unfold settleRelease
  split
  · next i d _ =>
    have emptied : Touches [.callers, .panel] s (s.setSlot k ⟨none, none⟩) := setSlot_touches k _ s
    cases d with
    | hold => exact (silent ((emptied.and (setLine_touches _ _ _)).and (joinQueue_touches i _))).raise _ _ (by simp [Event.number])
    | drop => exact (silent (emptied.and (setLine_touches i _ _))).raise _ _ (by simp [Event.number])
  · exact Raises.refl _ s

theorem endRelease_raises (k : CallerSlot) (s : State) : Raises [0x32, 0x33] s (endRelease k s) := by
  have settled := (Raises.refl [0x32, 0x33] s).and (settleRelease_raises .released k s)
  unfold endRelease
  dsimp only
  split
  · exact settled
  · exact settled.raise _ _ (by simp [Event.number])

theorem releaseSlot_raises (k : CallerSlot) (d : Disposition) (s : State) : Raises [0x32, 0x33] s (releaseSlot k d s) := by
  unfold releaseSlot
  split
  · exact silent (setSlot_touches k _ s)
  · next i _ =>
    have faded : Raises [0x32, 0x33] s (fadeOut (slotContributor k) s.mix.slotFade[k] (s.setSlot k ⟨some i, some d⟩)) :=
      (silent (setSlot_touches k _ s)).trans (silent (fadeOut_touches _ _ _))
    dsimp only
    split
    · exact faded.trans (endRelease_raises k _)
    · exact faded
  · exact Raises.refl _ s

theorem returnLine_raises (cause : OffAirCause) (k : CallerSlot) (s : State) : Raises [0x32] s (returnLine cause k s) := by
  unfold returnLine
  split
  · exact (((silent (cut_touches _ s)).trans (silent (setSlot_touches k _ _))).trans (silent (setLine_touches _ _ _))).raise _ _
      (by simp [Event.number])
  · exact Raises.refl _ s

theorem cutRelease_raises (cause : OffAirCause) (k : CallerSlot) (s : State) : Raises [0x32] s (cutRelease cause k s) := by
  unfold cutRelease
  split
  · exact (silent (cut_touches _ s)).trans (settleRelease_raises _ k _)
  · exact Raises.refl _ s

theorem emptySlots_raises (cause : OffAirCause) (s : State) : Raises [0x32, 0x33] s (emptySlots cause s) := by
  have emptied : Raises [0x32, 0x33] s (cutRelease cause 1 (cutRelease cause 0
      (requeueReturned s.linesToReturn (returnLine cause 1 (returnLine cause 0 s))))) :=
    (((((Raises.refl [0x32, 0x33] s).and (returnLine_raises cause 0 s)).and (returnLine_raises cause 1 _)).trans
      (silent (requeueReturned_touches _ _))).and (cutRelease_raises cause 0 _)).and (cutRelease_raises cause 1 _)
  unfold emptySlots
  dsimp only
  split
  · exact emptied
  · exact emptied.raise _ _ (by simp [Event.number])

-- the cue list and holding for an alert

theorem setEntries_raises (es : List Entry) (s : State) : Raises [0x11] s (setEntries es s) := by
  unfold setEntries
  dsimp only
  split
  · exact (silent (cue_touches _ s)).raise _ _ (by simp [Event.number])
  · exact silent (cue_touches _ s)

theorem itemEnded_raises (e : Entry) (s : State) : Raises [0x10] s (itemEnded e s) :=
  (silent (releaseClaim_touches e s)).raise _ _ (by simp [Event.number])

/-- Holding the engine, the items that end at it apart. -/
theorem holdEngine_raises_of {offer : Option Bool} {s : State} (sub : [0x11, 0x14] ⊆ ns)
    (ended : ∀ t, Raises ns t ((s.cue.entries.filter fun e => e.playing && e.ending).foldl (fun t e => itemEnded e t) t)) :
    Raises ns s (holdEngine offer s) := by
  unfold holdEngine
  split
  · exact Raises.refl _ s
  · have cutOff : Raises ns s (cutVoices s) := silent (cutVoices_touches s)
    have listed (es : List Entry) (t : State) : Raises ns t (setEntries es t) := (setEntries_raises es t).mono fun x hx => sub (by simp at hx; simp [hx])
    have held (c : Cue) (a : Alerts) (t : State) : Raises ns t { t with cue := c, alerts := a } := fun _ _ hp _ => hp
    exact (((cutOff.trans (ended _)).trans (listed _ _)).trans (held _ _ _)).raise _ _ (sub (by simp [Event.number]))

theorem holdEngine_raises (offer : Option Bool) (s : State) : Raises [0x10, 0x11, 0x14] s (holdEngine offer s) :=
  holdEngine_raises_of (by decide) fun t => Raises.foldl _ (fun t e => (itemEnded_raises e t).mono (by decide)) _ t

/-- With no item ending, none is told of. -/
theorem holdEngine_raises_none {offer : Option Bool} {s : State} (none_ends : ∀ e ∈ s.cue.entries, e.ending = false) :
    Raises [0x11, 0x14] s (holdEngine offer s) := by
  refine holdEngine_raises_of (by decide) fun t => ?_
  have nothing : (s.cue.entries.filter fun e => e.playing && e.ending) = [] :=
    List.filter_eq_nil_iff.mpr fun e he => by simp [none_ends e he]
  rw [nothing]
  exact Raises.refl _ t

-- taking the air

theorem raiseAlertState_raises (k : AlertSlot) (s : State) : Raises [0x40] s (raiseAlertState k s) := by
  unfold raiseAlertState
  split
  · exact (Raises.refl _ s).raise _ _ (by simp [Event.number])
  · exact Raises.refl _ s

/-- The state in which the takeover's notices go out: the record AIRING, ALERT_STATE and ALERT_ON_AIR raised. -/
def airTaken (k : AlertSlot) (r : AlertRecord) (s : State) : State :=
  raise .C (.alertOnAir r.id r.cls) (raiseAlertState k (({ s with alerts := { s.alerts with
    queue := s.alerts.queue.filter (· ≠ k), tone := none } } : State).setRecord k (some { r with phase := .airing })))

/-- The takeover's notices (R133). -/
def airNotices (offer : Option Bool) (s : State) : State := emptySlots .alert (holdEngine offer (takeoverAir s))

/-- What follows the takeover's notices. -/
def airBound (k : AlertSlot) (r : AlertRecord) (dumps : Bool) (s : State) : State :=
  (workOutWait (bindAlert k r (if dumps then forcedDump s else s))).report fun x => { x with alertActive := true }

theorem takeover_eq {k : AlertSlot} {r : AlertRecord} (h : s.record k = some r) (offer : Option Bool) : takeover k offer s =
    airBound k r (r.dumps s.alerts.settings.warningDump) (airNotices offer (airTaken k r s)) := by
  simp only [takeover, h]
  rfl

theorem takeover_none {k : AlertSlot} (h : s.record k = none) (offer : Option Bool) : takeover k offer s = s := by
  simp only [takeover, h]

theorem airTaken_raises (k : AlertSlot) (r : AlertRecord) (s : State) : Raises [0x27, 0x40] s (airTaken k r s) :=
  (((silent ((records_touches _ s).trans (setRecord_touches k _ _)) : Raises [0x27, 0x40] s _).and
    (raiseAlertState_raises k _))).raise _ _ (by simp [Event.number])

theorem airBound_touches (k : AlertSlot) (r : AlertRecord) (dumps : Bool) (s : State) :
    Touches [.mix, .clips, .alerts, .cue, .delay, .panel] s (airBound k r dumps s) := by
  have dumped : Touches [.mix, .clips, .alerts, .cue, .delay, .panel] s (if dumps then forcedDump s else s) := by
    split
    · exact (Touches.refl _ s).and (forcedDump_touches s)
    · exact Touches.refl _ s
  exact ((dumped.and (bindAlert_touches k r _)).and (workOutWait_touches _)).and (report_touches _ _)

theorem airNotices_raises_of {offer : Option Bool} {s : State} (sub : [0x11, 0x14, 0x32, 0x33] ⊆ ns)
    (held : ∀ t, t.cue = s.cue → Raises ns t (holdEngine offer t)) : Raises ns s (airNotices offer s) :=
  ((silent (takeoverAir_touches s)).trans (held _ (takeoverAir_touches s .cue (by decide)))).trans
    ((emptySlots_raises .alert _).mono fun x hx => sub (by simp at hx; rcases hx with h | h <;> simp [h]))

theorem airNotices_raises (offer : Option Bool) (s : State) : Raises [0x10, 0x11, 0x14, 0x32, 0x33] s (airNotices offer s) :=
  airNotices_raises_of (by decide) fun t _ => (holdEngine_raises offer t).mono (by decide)

theorem airNotices_raises_none {offer : Option Bool} {s : State} (none_ends : ∀ e ∈ s.cue.entries, e.ending = false) :
    Raises [0x11, 0x14, 0x32, 0x33] s (airNotices offer s) :=
  airNotices_raises_of (by decide) fun t ht => (holdEngine_raises_none (by rw [ht]; exact none_ends)).mono (by decide)

theorem airTaken_cue (k : AlertSlot) (r : AlertRecord) (s : State) : (airTaken k r s).cue = s.cue := by
  have touched : Touches [.alerts, .links] s (airTaken k r s) :=
    ((((Touches.refl _ s).and (records_touches _ s)).and (setRecord_touches k _ _)).and (raiseAlertState_touches k _)).and
      (raise_touches _ _ _)
  exact touched .cue (by decide)

theorem takeover_raises (k : AlertSlot) (offer : Option Bool) (s : State) :
    Raises [0x10, 0x11, 0x14, 0x27, 0x32, 0x33, 0x40] s (takeover k offer s) := by
  cases h : s.record k with
  | none =>
    rw [takeover_none h]
    exact Raises.refl _ s
  | some r =>
    rw [takeover_eq h]
    exact (((Raises.refl _ s).and (airTaken_raises k r s)).and (airNotices_raises offer _)).trans (silent (airBound_touches k r _ _))

theorem takeover_raises_none {k : AlertSlot} {offer : Option Bool} (none_ends : ∀ e ∈ s.cue.entries, e.ending = false) :
    Raises [0x11, 0x14, 0x27, 0x32, 0x33, 0x40] s (takeover k offer s) := by
  cases h : s.record k with
  | none =>
    rw [takeover_none h]
    exact Raises.refl _ s
  | some r =>
    rw [takeover_eq h]
    exact (((Raises.refl _ s).and (airTaken_raises k r s)).and
      (airNotices_raises_none (by rw [airTaken_cue]; exact none_ends))).trans (silent (airBound_touches k r _ _))

/-- The record that takes the air is told of on link C. -/
theorem takeover_alertOnAir {k : AlertSlot} {r : AlertRecord} (h : s.record k = some r) (offer : Option Bool) :
    Pending .C (.alertOnAir r.id r.cls) (takeover k offer s) := by
  rw [takeover_eq h]
  have told : Pending .C (.alertOnAir r.id r.cls) (airTaken k r s) := pending_raised _ _ _
  exact (silent (ns := []) (airBound_touches k r _ _)).pending ((airNotices_raises offer _).pending told (by simp [Event.number]))
    (by simp)

-- the Cue Engine

/-- The numbers of the events that the Cue Engine's work may raise. -/
abbrev cueEvents : List Nat := [0x10, 0x11, 0x14, 0x25, 0x27, 0x32, 0x33, 0x40]

theorem windowCheck_raises (c : Check) (s : State) : Raises cueEvents s (windowCheck c s) := by
  unfold windowCheck
  split
  · exact (takeover_raises _ _ s).mono (by decide)
  · exact Raises.refl _ s

theorem enterEngine_raises (was st : EngineState) (s : State) : Raises cueEvents s (enterEngine was st s) := by
  have entered (c : Cue) (a : Alerts) : Raises cueEvents s { s with cue := c, alerts := a } := fun _ _ hp _ => hp
  unfold enterEngine
  dsimp only
  split
  · exact silent (cue_touches _ s)
  · exact (entered _ _).trans (windowCheck_raises _ _)

theorem leaveVoice_raises (v : Voice) (s : State) : Raises cueEvents s (leaveVoice v s) := by
  unfold leaveVoice
  split
  · exact Raises.refl _ s
  · split
    · exact Raises.refl _ s
    · exact ((((silent (cut_touches _ s) : Raises cueEvents s _).trans (silent (setVoice_touches v _ _))).and
        (itemEnded_raises _ _)).and (setEntries_raises _ _)).trans (silent (closeWindowOf_touches v _))

theorem startIn_raises (p : Entry → Bool) (v : Voice) (s : State) : Raises ns s (startIn p v s) := by
  have touched : Touches [.mix, .clips, .cue] s (startIn p v s) := by
    unfold startIn
    split
    · exact Touches.refl _ s
    · dsimp only
      exact (((Touches.refl _ s).and (soundEntry_touches _ v s)).and (setVoice_touches v _ _)).and (cue_touches _ _)
  exact silent touched

theorem takeVoice_raises (v : Voice) (s : State) : Raises cueEvents s (takeVoice v s) := by
  unfold takeVoice
  split
  · exact leaveVoice_raises v s
  · exact Raises.refl _ s

theorem leaveMark_raises (p : Entry → Bool) (s : State) : Raises cueEvents s (leaveMark p s) :=
  (silent (cue_touches _ s) : Raises cueEvents s _).and (setEntries_raises _ _)

theorem startEntry_raises (fuel : Nat) (p : Entry → Bool) (s : State) : Raises cueEvents s (startEntry fuel p s) := by
  induction fuel generalizing p s with
  | zero => unfold startEntry; exact Raises.refl _ s
  | succ n ih =>
    unfold startEntry
    split
    · exact Raises.refl _ s
    · exact Raises.refl _ s
    · rename_i m e hn he
      cases hn
      dsimp only
      split
      · split
        · exact ((leaveMark_raises p s).and (takeover_raises _ _ _)).and (itemEnded_raises e _)
        · split
          · exact ((leaveMark_raises p s).and (itemEnded_raises e _)).trans (ih _ _)
          · exact (leaveMark_raises p s).and (itemEnded_raises e _)
      · split
        · exact (takeVoice_raises _ s).trans (startIn_raises _ _ _)
        · exact Raises.refl _ s

theorem startHead_raises (s : State) : Raises cueEvents s (startHead s) := startEntry_raises _ _ s

theorem settleFrom_raises (was : EngineState) (s : State) : Raises cueEvents s (settleFrom was s) := by
  unfold settleFrom
  split
  · exact Raises.refl _ s
  · dsimp only
    split
    · exact enterEngine_raises _ _ s
    · exact (silent (cue_touches _ s)).trans (enterEngine_raises _ _ _)

theorem endItem_raises (v : Voice) (s : State) : Raises cueEvents s (endItem v s) := by
  unfold endItem
  split
  · exact Raises.refl _ s
  · dsimp only
    split
    · exact (leaveVoice_raises v s).and (takeover_raises _ _ _)
    · split
      · exact (leaveVoice_raises v s).trans (startHead_raises _)
      · exact leaveVoice_raises v s

theorem itemEnd_raises (v : Voice) (s : State) : Raises cueEvents s (itemEnd v s) :=
  (endItem_raises v s).trans (settleFrom_raises _ _)

theorem stopVoice_raises (v : Voice) (s : State) : Raises ns s (stopVoice v s) := by
  have touched : Touches [.mix, .clips, .cue] s (stopVoice v s) := by
    unfold stopVoice
    split
    · exact Touches.refl _ s
    · split
      · exact Touches.refl _ s
      · split
        · exact (Touches.refl _ s).and (setVoice_touches v _ s)
        · exact FillEnds.releaseVoice_parts v _ s
  exact silent touched

theorem stopEntries_raises (s : State) : Raises ns s (stopEntries s) := by
  unfold stopEntries
  exact ((stopVoice_raises .A s).trans (stopVoice_raises .B _)).trans (silent (cue_touches _ _))

theorem fadeFill_raises (s : State) : Raises ns s (fadeFill s) := by
  rw [FillEnds.fadeFill_eq]
  exact (silent (FillEnds.fillReleased_touches s)).trans (silent (cue_touches _ _))

theorem fillEnd_raises (s : State) : Raises cueEvents s (fillEnd s) := by
  unfold fillEnd
  split
  · exact (fadeFill_raises s).trans (settleFrom_raises _ _)
  · split
    · exact silent (cue_touches _ s)
    · exact Raises.refl _ s
  · exact Raises.refl _ s

theorem endFallback_raises (cause : LeftCause) (s : State) : Raises cueEvents s (endFallback cause s) := by
  unfold endFallback
  split
  · have told : Raises cueEvents s (raise .C (.fallbackLeft cause) (reportFallback
        { s with sup := { s.sup with mode := some .normal, counter := 0 } })) :=
      ((silent (sup_touches _ s)).trans (silent (reportFallback_touches _))).raise _ _ (by simp [Event.number])
    dsimp only
    split
    · exact told
    · exact told.trans (fillEnd_raises _)
  · split
    · exact ((silent (sup_touches _ s)).raise _ _ (by simp [Event.number])).trans (fillEnd_raises _)
    · exact Raises.refl _ s
  · exact Raises.refl _ s

theorem manualSegue_raises (s : State) : Raises cueEvents s (manualSegue s) := by
  have marked (c : Cue) : Raises cueEvents s { s with cue := c } := silent (cue_touches c s)
  have started (c : Prop) [Decidable c] (t : State) (ht : Raises cueEvents s t) : Raises cueEvents s (if c then t else startHead t) := by
    split
    · exact ht
    · exact ht.trans (startHead_raises t)
  unfold manualSegue
  split
  · exact Raises.refl _ s
  · split
    · split
      · exact marked _
      · exact startHead_raises s
    · dsimp only
      refine started _ _ ?_
      split
      · split
        · exact (marked _).trans (endItem_raises _ _)
        · exact (marked _).trans (silent (fadeOut_touches _ _ _))
      · exact marked _

/-- What an owner's reply raises, when it takes the command. -/
def ReplyRaises (ns : List Nat) (s : State) : Reply → Prop
  | .ok t _ => Raises ns s t
  | .refuse _ => True
  | .later t => Raises ns s t

theorem goCue_raises (s : State) : ReplyRaises cueEvents s (goCue s) := by
  unfold goCue
  split
  · trivial
  · trivial
  · exact (startHead_raises s).trans (settleFrom_raises _ _)
  · split
    · exact (manualSegue_raises s).trans (settleFrom_raises _ _)
    · trivial
  · split
    · exact (((fadeFill_raises s).trans (endFallback_raises _ _)).trans (startHead_raises _)).trans (settleFrom_raises _ _)
    · trivial

theorem stopCue_raises (s : State) : Raises cueEvents s (stopCue s) := by
  unfold stopCue
  split
  · exact (stopEntries_raises s).trans (settleFrom_raises _ _)
  · split
    · dsimp only
      exact silent (cue_touches _ s)
    · exact Raises.refl _ s
  · exact Raises.refl _ s

theorem goEdge_raises (s : State) : ReplyRaises cueEvents s (goEdge s) := by
  unfold goEdge
  split
  · dsimp only
    exact (((silent (cut_touches _ s)).trans (silent (setVoice_touches _ _ _))).trans (silent (cue_touches _ _))).trans
      (settleFrom_raises _ _)
  · have went := goCue_raises s
    split
    · rename_i t r ht
      rw [ht] at went
      have went : Raises cueEvents s t := went
      split
      · split
        · exact went
        · exact went.trans (silent (cue_touches _ t))
      · exact went
    · exact went

-- the panel

/-- The numbers of the events that a panel action may raise. -/
abbrev panelEvents : List Nat := 0x21 :: 0x31 :: cueEvents

theorem takeLine_raises (i : PhoneLine) (s : State) : Raises panelEvents s (takeLine i s) := by
  unfold takeLine
  split
  · next k _ =>
    have entered : Raises panelEvents s (enterSlot i k s) := by
      rw [CallerSlots.enterSlot_eq]
      have set (c : Callers) (p : Panel) : Raises panelEvents s ({ s with callers := c, panel := p }.setContrib
          (slotContributor k) (.activated (.source (lineSource i)) (s.contrib (slotContributor k)).target s.mix.slotFade[k])) :=
        fun _ _ hp _ => hp
      exact ((set _ _).raise _ _ (by simp [Event.number])).raise _ _ (by simp [Event.number])
    exact entered.and (endFallback_raises _ _)
  · exact Raises.refl _ s

theorem studioSwitch_raises (on : Bool) (g n : Nat) (s : State) : Raises cueEvents s (studioSwitch on g n s) := by
  have switched : Raises cueEvents s ((switchStudio on g n s).report fun r => { r with micLive := (switchStudio on g n s).studioOn }) :=
    (silent (switchStudio_touches on g n s)).trans (silent (report_touches _ _))
  unfold studioSwitch
  dsimp only
  split
  · exact switched.trans (endFallback_raises _ _)
  · exact switched

theorem panelOwner_raises (f : PanelFunction) (on : Bool) (s : State) : ReplyRaises panelEvents s (panelOwner f on s) := by
  have widen {r : Reply} (h : ReplyRaises cueEvents s r) : ReplyRaises panelEvents s r := by
    cases r
    · exact Raises.mono h (by decide)
    · trivial
    · exact Raises.mono h (by decide)
  unfold panelOwner
  split
  · unfold operatorDump
    split
    · trivial
    · exact silent (delay_touches _ s)
  · exact widen (goEdge_raises s)
  · exact widen (goCue_raises s)
  · exact widen (r := .ok _ _) (stopCue_raises s)
  · exact widen (r := .ok _ _) (stopCue_raises s)
  · unfold takeNext
    split
    · trivial
    · split
      · exact takeLine_raises _ s
      · trivial
  · unfold releaseCallers
    split
    · exact ((Raises.refl _ s).and (releaseSlot_raises 0 .hold s)).and (releaseSlot_raises 1 .hold _)
    · trivial
  · exact widen (r := .ok _ _) (studioSwitch_raises _ _ _ s)
  · exact Raises.refl _ s

theorem panelAction_raises (n : PanelLineNo) (on : Bool) (s : State) : Raises panelEvents s (panelAction n on s) := by
  have owned := panelOwner_raises (s.panelConfig n).function on s
  unfold panelAction
  split
  · rename_i t r ht
    rw [ht] at owned
    exact owned
  · exact (Raises.refl _ s).raise _ _ (by simp [Event.number])
  · rename_i t ht
    rw [ht] at owned
    exact owned

end Sys2Proof.EventKeeping
end

section
/-! R75, R79 to R81, R89: the item in a voice leaves, and the engine works out its state. -/

namespace Sys2Proof.ItemEnds

-- one thread: the check compiles under a limit on the process
set_option Elab.async false

open Sys2Proof.Machine Sys2Proof.Safety Sys2Proof.Laws Sys2Proof.EngineNotices Sys2Proof.EventKeeping Sys2Proof.FillEnds

variable {s t : State} {v : Voice} {i : Nat} {e : Entry}

-- voices

theorem voice_setVoice (v : Voice) (x : VoiceState) (s : State) : (s.setVoice v x).voice v = x := by
  cases v <;> rfl

theorem voice_setVoice_ne {v w : Voice} (h : w ≠ v) (x : VoiceState) (s : State) : (s.setVoice v x).voice w = s.voice w := by
  cases v <;> cases w <;> first | rfl | exact absurd rfl h

/-- The entry that a voice carries stands where it was put. -/
theorem carried_of {o : Nat} {before after : List Entry} (carries : s.voice v = .carrying o)
    (entries : s.cue.entries = before ++ e :: after) (playing : e.state = .playing) (voiced : e.voice = some v)
    (first : ∀ x ∈ before, ¬(x.state = .playing ∧ x.voice = some v)) : s.carried v = some before.length := by
  have there : (s.voice v).carries = true := by rw [carries]; rfl
  have none_before : before.findIdx? (fun e => e.playing && decide (e.voice = some v)) = none := by
    rw [List.findIdx?_eq_none_iff]
    intro x hx
    have other := first x hx
    simp only [Entry.playing, Bool.and_eq_false_iff, decide_eq_false_iff_not]
    exact not_and_or.mp other
  rw [State.carried, if_pos there, entries, List.findIdx?_append, none_before]
  simp [List.findIdx?_cons, Entry.playing, playing, voiced]

-- the item in a voice leaves

/-- The Cue Engine's records once the entry at `i` has left voice `v`. -/
def leftCue (c : Cue) (v : Voice) (i : Nat) : Cue :=
  { c with
    entries := c.entries.eraseIdx i
    voiceA := if v = .A then .free else c.voiceA
    voiceB := if v = .B then .free else c.voiceB
    window := c.window.filter fun w => decide (w.voice ≠ v) }

/-- LIST_EMPTY, when the list has become empty (R75). -/
def toldEmpty (es : List Entry) (s : State) : State := if es = [] then raise .P .listEmpty s else s

theorem setEntries_eq {es : List Entry} {s : State} (held : s.cue.entries ≠ []) :
    setEntries es s = toldEmpty es { s with cue := { s.cue with entries := es } } := by
  have some_held : (!s.cue.entries.isEmpty) = true := by simpa using held
  rw [setEntries, some_held, Bool.and_true, toldEmpty]
  cases es <;> rfl

theorem releaseClaim_setVoice (v : Voice) (x : VoiceState) (e : Entry) (s : State) :
    releaseClaim e (s.setVoice v x) = (releaseClaim e s).setVoice v x := by
  unfold releaseClaim
  split
  · cases v <;> rfl
  · rfl

theorem releaseClaim_plain {e : Entry} (h : ∀ n, e.kind ≠ .clip n) (s : State) : releaseClaim e s = s := by
  unfold releaseClaim
  split
  · next n hk => exact absurd hk (h n)
  · rfl

theorem closeWindowOf_eq (v : Voice) (s : State) : closeWindowOf v s =
    { s with cue := { s.cue with window := s.cue.window.filter fun w => decide (w.voice ≠ v) } } := by
  unfold closeWindowOf
  cases hw : s.cue.window with
  | none => simp [Option.filter, ← hw]
  | some w =>
    by_cases named : w.voice = v
    · simp [Option.filter, named]
    · simp [Option.filter, named, ← hw]

theorem leaveVoice_eq (carried : s.carried v = some i) (entry : s.cue.entries[i]? = some e) : leaveVoice v s =
    toldEmpty (s.cue.entries.eraseIdx i) (raise .P (.itemEnded e.tag)
      { releaseClaim e (cut (voiceContributor v) s) with cue := leftCue s.cue v i }) := by
  let w := releaseClaim e (cut (voiceContributor v) s)
  have cue : w.cue = s.cue :=
    ((Touches.refl [.mix, .clips] s).and (cut_touches _ s) |>.and (releaseClaim_touches e _)) .cue (by decide)
  have ended : itemEnded e ((cut (voiceContributor v) s).setVoice v .free) = raise .P (.itemEnded e.tag) (w.setVoice v .free) := by
    rw [itemEnded, releaseClaim_setVoice]
  have held : (raise .P (.itemEnded e.tag) (w.setVoice v .free)).cue.entries ≠ [] := by
    have same : (raise .P (.itemEnded e.tag) (w.setVoice v .free)).cue.entries = s.cue.entries := by
      rw [← cue]
      cases v <;> rfl
    rw [same]
    intro none_there
    rw [none_there] at entry
    cases entry
  simp only [leaveVoice, carried, entry]
  rw [ended, setEntries_eq held, closeWindowOf_eq]
  have voiced : (w.setVoice v .free).cue = { w.cue with
      voiceA := if v = .A then .free else w.cue.voiceA, voiceB := if v = .B then .free else w.cue.voiceB } := by
    cases v <;> rfl
  have left : ({ (w.setVoice v .free).cue with
      entries := s.cue.entries.eraseIdx i
      window := (w.setVoice v .free).cue.window.filter fun x => decide (x.voice ≠ v) } : Cue) = leftCue s.cue v i := by
    rw [voiced, cue]
    rfl
  have rest : ({ w.setVoice v .free with cue := leftCue s.cue v i } : State) = { w with cue := leftCue s.cue v i } := by
    cases v <;> rfl
  unfold toldEmpty
  split
  · rw [← rest, ← left]
    rfl
  · rw [← rest, ← left]
    rfl

/-- An item's end keeps the events told before it but for ITEM_ENDED and LIST_EMPTY, and tells of both. -/
theorem toldEmpty_pending (es : List Entry) (x : Option Nat) (s : State) :
    Pending .P (.itemEnded x) (toldEmpty es (raise .P (.itemEnded x) s)) ∧
      (es = [] → Pending .P .listEmpty (toldEmpty es (raise .P (.itemEnded x) s))) := by
  have ended := pending_raised .P (.itemEnded x) s
  unfold toldEmpty
  split
  · exact ⟨(raise_raises .P .listEmpty _).pending ended (by simp [Event.number]), fun _ => pending_raised _ _ _⟩
  · next some_left => exact ⟨ended, fun h => absurd h some_left⟩

theorem toldEmpty_touches (es : List Entry) (s : State) : Touches [.links] s (toldEmpty es s) := by
  unfold toldEmpty
  split
  · exact raise_touches _ _ s
  · exact Touches.refl _ s

theorem leaveVoice_pending (carried : s.carried v = some i) (entry : s.cue.entries[i]? = some e) :
    Pending .P (.itemEnded e.tag) (leaveVoice v s) ∧
      (s.cue.entries.eraseIdx i = [] → Pending .P .listEmpty (leaveVoice v s)) := by
  rw [leaveVoice_eq carried entry]
  exact toldEmpty_pending _ _ _

theorem leaveVoice_cue (carried : s.carried v = some i) (entry : s.cue.entries[i]? = some e) :
    (leaveVoice v s).cue = leftCue s.cue v i := by
  rw [leaveVoice_eq carried entry]
  exact toldEmpty_touches _ _ .cue (by decide)

theorem leaveVoice_mix (carried : s.carried v = some i) (entry : s.cue.entries[i]? = some e) :
    (leaveVoice v s).mix = (cut (voiceContributor v) s).mix := by
  rw [leaveVoice_eq carried entry]
  have told : (toldEmpty (s.cue.entries.eraseIdx i) (raise .P (.itemEnded e.tag)
      { releaseClaim e (cut (voiceContributor v) s) with cue := leftCue s.cue v i })).mix =
      (releaseClaim e (cut (voiceContributor v) s)).mix := toldEmpty_touches _ _ .mix (by decide)
  exact told.trans (releaseClaim_touches e _ .mix (by decide))

theorem leaveVoice_clips (carried : s.carried v = some i) (entry : s.cue.entries[i]? = some e) :
    (leaveVoice v s).clips = (releaseClaim e (cut (voiceContributor v) s)).clips := by
  rw [leaveVoice_eq carried entry]
  exact toldEmpty_touches _ _ .clips (by decide)

/-- The parts that an item's end changes, an offer apart. -/
theorem leaveVoice_parts (v : Voice) (s : State) : Touches [.mix, .clips, .cue, .links] s (leaveVoice v s) := by
  unfold leaveVoice
  split
  · exact Touches.refl _ s
  · split
    · exact Touches.refl _ s
    · exact (((((Touches.refl _ s).and (cut_touches _ s)).and (setVoice_touches v _ _)).and (itemEnded_touches _ _)).and
        (setEntries_touches _ _)).and (closeWindowOf_touches v _)

-- the offer declined and nothing following

/-- At an offer only the class and the overdue mark count, whatever the engine's state (R130). -/
theorem noneTakes_itemOffer {a b : EngineState} (h : NoneTakes .itemOffer a s) : NoneTakes .itemOffer b s := h

theorem noneTakes_markOffer {a b : EngineState} (h : NoneTakes .markOffer a s) : NoneTakes .markOffer b s := h

theorem noneTakes_of {c : Check} {view : EngineState} (h : NoneTakes c view s) (device : t.dev.state = s.dev.state)
    (alerts : t.alerts.records = s.alerts.records) (queue : t.alerts.queue = s.alerts.queue) : NoneTakes c view t := by
  have record (k : AlertSlot) : t.record k = s.record k := by simp only [State.record, alerts]
  unfold NoneTakes
  rw [device, queue]
  simp only [record]
  exact h

theorem windowTaker_itemOffer {view : EngineState} (h : NoneTakes .itemOffer view s) : windowTaker .itemOffer s = none :=
  windowTaker_none (noneTakes_itemOffer h) rfl rfl rfl rfl

theorem windowTaker_markOffer {view : EngineState} (h : NoneTakes .markOffer view s) : windowTaker .markOffer s = none :=
  windowTaker_none (noneTakes_markOffer h) rfl rfl rfl rfl

theorem leaveVoice_noneTakes {c : Check} {view : EngineState} (h : NoneTakes c view s) : NoneTakes c view (leaveVoice v s) := by
  have dev : (leaveVoice v s).dev = s.dev := leaveVoice_parts v s .dev (by decide)
  have alerts : (leaveVoice v s).alerts = s.alerts := leaveVoice_parts v s .alerts (by decide)
  exact noneTakes_of h (by rw [dev]) (by rw [alerts]) (by rw [alerts])

theorem endItem_declined {view : EngineState} (carried : s.carried v = some i) (entry : s.cue.entries[i]? = some e)
    (declined : NoneTakes .itemOffer view s) : endItem v s =
      if s.cue.goPending || e.leadsOn then startHead (leaveVoice v s) else leaveVoice v s := by
  have taker : windowTaker .itemOffer (leaveVoice v s) = none := windowTaker_itemOffer (leaveVoice_noneTakes declined)
  have pending : (leaveVoice v s).cue.goPending = s.cue.goPending := by rw [leaveVoice_cue carried entry]; rfl
  simp only [endItem, carried, entry, taker, pending, Option.map_some, Option.getD_some]

-- the engine's state

/-- The engine's records once its state has been worked out at a notice at which no record takes the air. -/
def settledCue (c : Cue) : Cue :=
  { c with state := followList c.entries, goPending := c.goPending && c.hasWaiting }

/-- The Alert Controller's view of the engine after a notice, when the state has changed (R79). -/
def noticed (was st : EngineState) (a : Alerts) : Alerts := { a with view := if st = was then a.view else st }

theorem settleFrom_quiet {was : EngineState} (notHeld : s.cue.state ≠ .held) (notFilling : s.cue.state ≠ .filling)
    (quiet : followList s.cue.entries ≠ was → NoneTakes .ordinary (followList s.cue.entries) s) : settleFrom was s = { s with
      cue := settledCue s.cue
      alerts := noticed was (followList s.cue.entries) s.alerts } := by
  rw [settleFrom_follows notHeld notFilling]
  by_cases same : followList s.cue.entries = was
  · rw [enterEngine, if_pos same, noticed, if_pos same]
    rfl
  · exact enterEngine_quiet (quiet same) rfl rfl rfl

theorem followList_cases (es : List Entry) : followList es = .playing ∨ followList es = .idle ∨ followList es = .armed := by
  rw [followList_eq]
  split
  · exact .inl rfl
  · split
    · exact .inr (.inl rfl)
    · exact .inr (.inr rfl)

/-- An item's end with nothing following, its offer declined, and no record taking the air at the engine's notice. -/
theorem itemEnd_alone {view : EngineState} (carried : s.carried v = some i) (entry : s.cue.entries[i]? = some e)
    (declined : NoneTakes .itemOffer view s) (playing : s.cue.state = .playing) (noGo : s.cue.goPending = false)
    (noSuccessor : e.leadsOn = false) (quietArmed : NoneTakes .ordinary .armed s) (quietIdle : NoneTakes .ordinary .idle s) :
    itemEnd v s = { leaveVoice v s with
      cue := settledCue (leftCue s.cue v i)
      alerts := noticed .playing (followList (s.cue.entries.eraseIdx i)) s.alerts } := by
  have cue := leaveVoice_cue carried entry
  have alerts : (leaveVoice v s).alerts = s.alerts := leaveVoice_parts v s .alerts (by decide)
  have state : (leaveVoice v s).cue.state = .playing := by rw [cue]; exact playing
  have entries : (leaveVoice v s).cue.entries = s.cue.entries.eraseIdx i := by rw [cue]; rfl
  have ended : endItem v s = leaveVoice v s := by
    rw [endItem_declined carried entry declined, noGo, noSuccessor]
    rfl
  rw [itemEnd, ended, playing, settleFrom_quiet (by rw [state]; decide) (by rw [state]; decide), cue, alerts]
  · rfl
  · intro changes
    refine leaveVoice_noneTakes ?_
    rw [entries] at changes ⊢
    rcases followList_cases (s.cue.entries.eraseIdx i) with h | h | h
    · exact absurd h changes
    · rw [h]; exact quietIdle
    · rw [h]; exact quietArmed

theorem cut_inactive {c : Contributor} {s : State} (h : (s.contrib c).binding = none) : cut c s = s :=
  if_neg (by simp [Contrib.active, h])

theorem cut_active {c : Contributor} {s : State} (h : (s.contrib c).binding.isSome = true) :
    cut c s = (closeReaderOf c s).setContrib c (s.contrib c).inactive := if_pos h

/-- With no reader open a voice's cut is its contributor's. -/
theorem closeReaderOf_closed {v : Voice} {s : State} (h : s.clips.reader (voiceReader v) = none) :
    closeReaderOf (voiceContributor v) s = s := by
  cases v <;> simp only [closeReaderOf, voiceContributor, contributorReader, voiceReader] at h ⊢ <;> simp only [closeReader, h]

end Sys2Proof.ItemEnds
end

section
/-! R7, R66, R80, R89: completed fades. -/

namespace Sys2Proof.FadesComplete

-- one thread: the check compiles under a limit on the process
set_option Elab.async false

open Sys2Proof.Machine Sys2Proof.Safety Sys2Proof.Laws Sys2Proof.EngineNotices Sys2Proof.EventKeeping Sys2Proof.ItemEnds

theorem exec_fadeComplete {c : Contributor} {f : Fade} {s : State} (found : Found (.fadeComplete c) s)
    (fade : (s.contrib c).fade = some f) (done : f.length ≤ f.done) :
    exec (.fadeComplete c) s = .next (completeFade c { s with due := s.due.erase (.fadeComplete c) }) := by
  refine congrArg _ (takeRow_found found ?_)
  have complete : (s.contrib c).fadeDone = true := by simp [Contrib.fadeDone, fade, done]
  exact complete

theorem completeFade_out {c : Contributor} {f : Fade} {s : State} (fade : (s.contrib c).fade = some f)
    (done : f.length ≤ f.done) (out : f.purpose = .out) :
    completeFade c s = fadedOut c ((closeReaderOf c s).setContrib c (s.contrib c).inactive) := by
  simp only [completeFade, fade, if_pos done, out]

theorem completedFades_single : Claims.CompletedFades := by
  intro c f s found fade done
  refine ⟨fun level => ?_, fun out studio => ?_, fun o out voice releasing closed => ?_⟩
  · refine (exec_fadeComplete found fade done).trans (congrArg _ ?_)
    have fade' : (State.contrib { s with due := s.due.erase (.fadeComplete c) } c).fade = some f := fade
    simp only [completeFade, fade', if_pos done, level]
    rfl
  · subst studio
    refine (exec_fadeComplete found fade done).trans (congrArg _ ?_)
    exact (completeFade_out (by exact fade) done out).trans rfl
  · subst voice
    refine (exec_fadeComplete found fade done).trans (congrArg _ ?_)
    rw [completeFade_out (by exact fade) done out]
    let t : State := { s with due := s.due.erase (.fadeComplete .voiceA) }
    have still : closeReaderOf .voiceA t = t := closeReaderOf_closed (v := .A) closed
    have voice : ((t.setContrib .voiceA (t.contrib .voiceA).inactive).voice .A) = .releasing o := releasing
    change fadedOut .voiceA ((closeReaderOf .voiceA t).setContrib .voiceA (t.contrib .voiceA).inactive) = _
    rw [still]
    simp only [fadedOut, voiceFadedOut, voice]
    rfl

theorem fadedOut_voice (v : Voice) (s : State) : fadedOut (voiceContributor v) s = voiceFadedOut v s := by
  cases v <;> rfl

/-- A playout clip's reader closes and the clip loses its use. -/
theorem closeReaderOf_playout {v : Voice} {x : Reader} {n : ClipId} {s : State} (reader : s.clips.reader (voiceReader v) = some x)
    (clip : x.clip = .playout n) : closeReaderOf (voiceContributor v) s = { s with clips := { s.clips with
      playout := s.clips.playout.set n { s.clips.playout[n] with uses := (s.clips.playout[n]).uses - 1 } } }.setReader
        (voiceReader v) none := by
  have closed : closeReaderOf (voiceContributor v) s = useClip false x.clip (s.setReader (voiceReader v) none) := by
    cases v <;> simp only [closeReaderOf, voiceContributor, contributorReader, voiceReader] at reader ⊢ <;>
      simp only [closeReader, reader]
  rw [closed, clip]
  cases v <;> rfl

theorem voicesFadeOut : Claims.VoicesFadeOut := by
  intro v f s found fade out done quiet
  let t : State := { s with due := s.due.erase (.fadeComplete (voiceContributor v)) }
  have executed : exec (.fadeComplete (voiceContributor v)) s = .next (voiceFadedOut v
      ((closeReaderOf (voiceContributor v) t).setContrib (voiceContributor v) (s.contrib (voiceContributor v)).inactive)) := by
    refine (exec_fadeComplete found fade done).trans (congrArg _ ?_)
    exact (completeFade_out (s := t) fade done out).trans (fadedOut_voice v _)
  have releases {u : State} {o : Nat} (h : u.voice v = .releasing o) : voiceFadedOut v u = u.setVoice v .free := by
    simp only [voiceFadedOut, h]
  refine ⟨fun o releasing closed => ?_, fun o x n releasing reader clip => ?_, fun o i e carrying carried entry ending kind noSegue playing
    noGo declined quietArmed quietIdle noWindow closed => ?_⟩
  · rw [executed, closeReaderOf_closed (s := t) closed]
    exact congrArg _ (releases (by cases v <;> exact releasing))
  · rw [executed, closeReaderOf_playout (s := t) reader clip]
    refine congrArg _ ((releases (o := o) ?_).trans ?_)
    · cases v <;> exact releasing
    · cases v <;> rfl
  · rw [executed, closeReaderOf_closed (s := t) closed]
    let u := t.setContrib (voiceContributor v) (s.contrib (voiceContributor v)).inactive
    have carrying' : u.voice v = .carrying o := by cases v <;> exact carrying
    have carried' : u.carried v = some i := by cases v <;> exact carried
    have entry' : u.cue.entries[i]? = some e := entry
    have off : (u.contrib (voiceContributor v)).binding = none := by rw [contrib_setContrib]; rfl
    have ends : u.carriesEnding v = true := by simp [State.carriesEnding, carried', entry', ending]
    have leads : e.leadsOn = false := by simp [Entry.leadsOn, noSegue]
    have plain (n : ClipId) : e.kind ≠ .clip n := by rcases kind with k | k | k <;> rw [k] <;> simp
    have ended : voiceFadedOut v u = itemEnd v u := by simp only [voiceFadedOut, carrying', ends, if_true]
    have item := itemEnd_alone (s := u) (view := s.cue.state) carried' entry' (by exact declined) playing noGo leads (by exact quietArmed) (by exact quietIdle)
    have left : Touches [.cue, .links] u (leaveVoice v u) := by
      rw [leaveVoice_eq carried' entry', releaseClaim_plain plain, cut_inactive off]
      have recued : Touches [.cue, .links] u { u with cue := leftCue u.cue v i } := (Touches.refl _ u).and (cue_touches _ u)
      exact (recued.and (raise_touches _ _ _)).and (toldEmpty_touches _ _)
    have told := (leaveVoice_pending carried' entry').1
    refine ⟨_, congrArg _ (ended.trans item), rfl, ?_, left .mix (by decide), left .due (by decide), told, left .mem (by decide),
      left .clips (by decide), left .delay (by decide), left .callers (by decide), left .sup (by decide)⟩
    cases v <;> rfl

/-- Settles O14. -/
theorem completedFades : Obligations.CompletedFades := ⟨completedFades_single, voicesFadeOut⟩

end Sys2Proof.FadesComplete
end

section
/-! R74 to R79: the bytes of an entry, and how entries join the cue list and leave it. -/

namespace Sys2Proof.CueList

-- one thread: the check compiles under a limit on the process
set_option Elab.async false

open Sys2Proof.Machine Sys2Proof.Safety Sys2Proof.Laws Sys2Proof.TakenCommands Sys2Proof.EngineNotices Sys2Proof.ItemEnds
open Sys2Proof.FillEnds Sys2Proof.EventKeeping Sys2Proof.ClipCommands

-- the bytes of an entry (R74, R76, R199)

theorem givenField_taken {isGiven : Bool} {p : Nat → Bool} {v : Nat} (h : isGiven = true → p v = true) :
    givenField isGiven p v = some (if isGiven then some v else none) := by
  unfold givenField
  cases isGiven
  · rfl
  · simp [h rfl]

theorem givenField_refused {isGiven : Bool} {p : Nat → Bool} {v : Nat} (given : isGiven = true) (h : p v = false) :
    givenField isGiven p v = none := by
  simp [givenField, given, h]

section
variable {ps : List Byte} {k : EntryKind} {limit tag : Option Nat} {e : Entry}

theorem entryOf_spelled (kind : entryKindOf (byteAt ps 0) ((byteAt ps 1).getLsbD 0) (byteAt ps 2) = some k)
    (limited : givenField ((byteAt ps 1).getLsbD 1) limitInRange (u16At ps 3) = some limit)
    (tagged : givenField ((byteAt ps 1).getLsbD 2) (fun n => decide (n ≠ 0)) (u16At ps 5) = some tag)
    (fits : limitFits k limit = true) : entryOf ps = some
      { kind := k, limit := limit, tag := tag, fadeIn := min (u16At ps 7) 500, fadeOut := min (u16At ps 9) 500,
        segue := (byteAt ps 1).getLsbD 4, level := if (byteAt ps 1).getLsbD 3 then u16At ps 11 else 32768,
        state := .waiting, ending := false, successorStarted := false, played := 0, resume := none, voice := none,
        released := false } := by
  simp only [entryOf, kind, limited, tagged, fits, Option.bind_eq_bind, Option.bind_some, if_true]

/-- What the bytes spell when they spell an entry. -/
theorem entryOf_parts (h : entryOf ps = some e) :
    entryKindOf (byteAt ps 0) ((byteAt ps 1).getLsbD 0) (byteAt ps 2) = some e.kind ∧
      (givenField ((byteAt ps 1).getLsbD 1) limitInRange (u16At ps 3)).isSome ∧
      (givenField ((byteAt ps 1).getLsbD 2) (fun n => decide (n ≠ 0)) (u16At ps 5)).isSome ∧
      (∃ limit, givenField ((byteAt ps 1).getLsbD 1) limitInRange (u16At ps 3) = some limit ∧ limitFits e.kind limit = true) ∧
      e.state = .waiting ∧ e.voice = none := by
  simp only [entryOf, Option.bind_eq_bind, Option.bind_eq_some_iff, Option.ite_none_right_eq_some, Option.some.injEq] at h
  obtain ⟨k, hk, limit, hl, tag, ht, fits, rfl⟩ := h
  exact ⟨hk, Option.isSome_of_eq_some hl, Option.isSome_of_eq_some ht, ⟨limit, hl, fits⟩, rfl, rfl⟩

theorem entryOf_waiting (h : entryOf ps = some e) : e.state = .waiting := (entryOf_parts h).2.2.2.2.1

end

theorem limitInRange_iff (n : Nat) : limitInRange n = true ↔ 1 ≤ n ∧ n ≤ 36000 := by
  simp [limitInRange]

/-- The kinds with the clip or source that each requires. -/
theorem entryKindOf_none {kind id : Byte} {given : Bool} (h : 3 < kind.toNat ∨ kind.toNat ≤ 1 ∧ given = false ∨
    2 ≤ kind.toNat ∧ given = true ∨ kind = 0 ∧ (id.toNat = 0 ∨ 63 < id.toNat) ∨ kind = 1 ∧ id ≠ 1 ∧ id ≠ 2) :
    entryKindOf kind given id = none := by
  unfold entryKindOf
  by_cases k0 : kind = 0x00
  · subst k0
    have clip : given = true → (clipIdOf id).map EntryKind.clip = none := by
      intro g
      rcases h with h | h | h | h | h
      · simp at h
      · simp [g] at h
      · simp at h
      · rw [clipIdOf_out_of_range h.2]; rfl
      · simp at h
    simpa using clip
  · rw [if_neg k0]
    by_cases k1 : kind = 0x01
    · subst k1
      have stream : given = true → (streamOf id).map EntryKind.stream = none := by
        intro g
        rcases h with h | h | h | h | ⟨-, h1, h2⟩
        · simp at h
        · simp [g] at h
        · simp at h
        · simp at h
        · rw [streamOf, if_neg h1, if_neg h2]; rfl
      simpa using stream
    · rw [if_neg k1]
      have large : 2 ≤ kind.toNat := by
        have n0 : kind.toNat ≠ 0 := fun e => k0 (BitVec.eq_of_toNat_eq e)
        have n1 : kind.toNat ≠ 1 := fun e => k1 (BitVec.eq_of_toNat_eq e)
        omega
      rcases h with h | h | ⟨-, g⟩ | h | h
      · have k2 : kind ≠ 0x02 := fun e => by simp [e] at h
        have k3 : kind ≠ 0x03 := fun e => by simp [e] at h
        rw [if_neg k2, if_neg k3]
      · omega
      · simp [g]
      · exact absurd h.1 k0
      · exact absurd h.1 k1

/-- Settles O28. -/
theorem entriesAreSpelled : Obligations.EntriesAreSpelled := by
  intro kind flags id l1 l0 t1 t0 i1 i0 o1 o0 g1 g0 bs limit tag named limited spelled inRange
  have spells {k : EntryKind} (kinded : entryKindOf kind named id = some k) (fields : inRange)
      (fits : limitFits k (if limited then some limit else none) = true) : spelled k :=
    entryOf_spelled (ps := bs) kinded (givenField_taken fun h => (limitInRange_iff _).mpr (fields.1 h))
      (givenField_taken fun h => decide_eq_true (fields.2 h)) fits
  refine ⟨fun n hk hn hid fields => spells ?_ fields rfl, fun hk hn hid fields => spells ?_ fields rfl,
    fun hk hn hid fields => spells ?_ fields rfl, fun hk hn hl fields => spells ?_ fields (by simp [hl, limitFits]),
    fun hk hn hl fields => spells ?_ fields (by simp [hl, limitFits]), fun bad => ?_⟩
  · simp [entryKindOf, hk, hn, clipIdOf_val_succ hid]
  · simp [entryKindOf, hk, hn, hid, streamOf]
  · simp [entryKindOf, hk, hn, hid, streamOf]
  · simp [entryKindOf, hk, hn]
  · simp [entryKindOf, hk, hn]
  · refine Option.eq_none_iff_forall_ne_some.mpr fun e he => ?_
    obtain ⟨kinded, limitTaken, tagTaken, ⟨lim, hlim, fits⟩, -⟩ := entryOf_parts he
    have kinded : entryKindOf kind named id = some e.kind := kinded
    have limitTaken : (givenField limited limitInRange limit).isSome := limitTaken
    have tagTaken : (givenField (flags.getLsbD 2) (fun n => decide (n ≠ 0)) tag).isSome := tagTaken
    have hlim : givenField limited limitInRange limit = some lim := hlim
    have fields : inRange := by
      refine ⟨fun g => ?_, fun g => ?_⟩
      · by_contra out
        rw [givenField_refused g (Bool.eq_false_iff.mpr fun h => out ((limitInRange_iff _).mp h))] at limitTaken
        cases limitTaken
      · intro zero
        rw [givenField_refused g (by simp [zero])] at tagTaken
        cases tagTaken
    have kindTaken (h : entryKindOf kind named id = none) : False := by
      rw [h] at kinded
      cases kinded
    rw [givenField_taken fun h => (limitInRange_iff _).mpr (fields.1 h)] at hlim
    obtain rfl := Option.some.inj hlim
    rcases bad with h | h | h | h | h | h | ⟨hk, h⟩ | ⟨hk, h⟩
    · exact h fields
    · exact kindTaken (entryKindOf_none (.inl h))
    · exact kindTaken (entryKindOf_none (.inr (.inl h)))
    · exact kindTaken (entryKindOf_none (.inr (.inr (.inl h))))
    · exact kindTaken (entryKindOf_none (.inr (.inr (.inr (.inl h)))))
    · exact kindTaken (entryKindOf_none (.inr (.inr (.inr (.inr h)))))
    · cases hn : named
      · rw [hk, hn] at kinded
        obtain h' := Option.some.inj (show some EntryKind.gap = some e.kind from kinded)
        rw [← h', h] at fits
        cases fits
      · exact kindTaken (entryKindOf_none (.inr (.inr (.inl ⟨by simp [hk], hn⟩))))
    · cases hn : named
      · rw [hk, hn] at kinded
        obtain h' := Option.some.inj (show some EntryKind.mark = some e.kind from kinded)
        rw [← h', h] at fits
        cases fits
      · exact kindTaken (entryKindOf_none (.inr (.inr (.inl ⟨by simp [hk], hn⟩))))

-- entries join (R76, R77)

section
variable {ps : List Byte} {e : Entry} {s : State}

/-- What an entry that is CLIP names of its clip (R76). -/
def namedTag (e : Entry) (s : State) : Option Nat :=
  match e.kind, e.tag with
  | .clip n, none => (s.clips.playout[n]).tag
  | _, t => t

/-- The playout clips, the one that an entry names with one use more (R69). -/
def claimedClips (e : Entry) (s : State) : Vector Clip 63 :=
  match e.kind with
  | .clip n => s.clips.playout.set n { s.clips.playout[n] with uses := (s.clips.playout[n]).uses + 1 }
  | _ => s.clips.playout

theorem withClipTag_eq (e : Entry) (s : State) : withClipTag e s = { e with tag := namedTag e s } := by
  rcases e with ⟨kind, limit, tag⟩
  cases kind <;> cases tag <;> rfl

theorem makeClaim_eq (e : Entry) (s : State) : makeClaim e s = { s with
    clips := { s.clips with playout := claimedClips e s } } := by
  unfold makeClaim claimedClips
  cases e.kind <;> rfl

/-- The engine once an entry has joined: an IDLE one is ARMED (R79). -/
def armedBy (st : EngineState) : EngineState := if st = .idle then .armed else st

theorem follows_joined {e : Entry} {es : List Entry} {i : Nat} (waits : e.state = .waiting) :
    followList (es.take i ++ e :: es.drop i) =
      if es.any (fun x => decide (x.state = .playing)) then .playing else .armed := by
  have joined : (es.take i ++ e :: es.drop i).any (fun x => decide (x.state = .playing)) =
      es.any fun x => decide (x.state = .playing) := by
    have here : decide (e.state = .playing) = false := by simp [waits]
    rw [List.any_append, List.any_cons, here, Bool.false_or, ← List.any_append, List.take_append_drop]
  rw [followList_eq, joined]
  simp

theorem joinList_eq {i : Nat} (waits : e.state = .waiting) (follows : EngineFollows s)
    (quiet : s.cue.state = .idle → NoneTakes .ordinary .armed s) : joinList i e s = { s with
      clips := { s.clips with playout := claimedClips e s }
      cue := { s.cue with
        entries := s.cue.entries.take i ++ { e with tag := namedTag e s } :: s.cue.entries.drop i
        state := armedBy s.cue.state }
      alerts := { s.alerts with view := if s.cue.state = .idle then .armed else s.alerts.view } } := by
  let es := s.cue.entries.take i ++ { e with tag := namedTag e s } :: s.cue.entries.drop i
  let t : State := { s with
    clips := { s.clips with playout := claimedClips e s }
    cue := { s.cue with entries := es } }
  have listed : setEntries es (makeClaim e s) = t := by
    have some_left : es.isEmpty = false := by simp [es]
    rw [setEntries, makeClaim_eq, some_left]
    rfl
  have joined : joinList i e s = settleFrom s.cue.state t := by
    rw [joinList, withClipTag_eq, listed]
  rw [joined]
  by_cases away : s.cue.state = .held ∨ s.cue.state = .filling
  · have notIdle : s.cue.state ≠ .idle := by rcases away with h | h <;> simp [h]
    rw [settleFrom_stays (by exact away), armedBy, if_neg notIdle, if_neg notIdle]
  · obtain ⟨notHeld, notFilling⟩ := not_or.mp away
    have state := (follows.resolve_left notHeld).resolve_left notFilling
    have follow : followList es = armedBy s.cue.state := by
      rw [follows_joined (by exact waits), armedBy, state]
      split
      · rfl
      · split <;> rfl
    have waiting : t.cue.hasWaiting = true := by simp [Cue.hasWaiting, t, es, Entry.waiting, waits]
    rw [settleFrom_quiet (by exact notHeld) (by exact notFilling)]
    · have noted : noticed s.cue.state (followList es) s.alerts =
          { s.alerts with view := if s.cue.state = .idle then .armed else s.alerts.view } := by
        rw [noticed, follow, armedBy]
        split
        · next idle => rw [if_neg (by rw [idle]; decide)]
        · rw [if_pos rfl]
      have settled : settledCue t.cue = { s.cue with entries := es, state := armedBy s.cue.state } := by
        rw [settledCue, waiting, Bool.and_true, ← follow]
      rw [settled, show t.cue.entries = es from rfl, show t.alerts = s.alerts from rfl, noted]
    · intro changes
      rw [show t.cue.entries = es from rfl, follow, armedBy] at changes ⊢
      split at changes
      · next idle => rw [if_pos idle]; exact quiet idle
      · exact absurd rfl changes

theorem front_eq (c : Cue) : c.front = c.entries.countP fun e => decide (e.state ≠ .waiting) := by
  simp only [Cue.front, Entry.waiting, ne_eq, decide_not]

theorem endless_iff (e : Entry) (s : State) : endless e s = true ↔ ∃ n, e.kind = .clip n ∧ e.limit = none ∧
    (s.clips.playout[n]).state = .ready ∧ (s.clips.playout[n]).loop = true := by
  unfold endless
  split
  · next n hk => simp [hk, State.clip, and_assoc]; exact fun _ _ => decide_eq_true_iff
  · next other => simp; exact fun n hk => absurd hk (other n)

theorem claimRefused_iff (e : Entry) (s : State) : claimRefused e s = true ↔
    ∃ n, e.kind = .clip n ∧ (s.clips.playout[n]).state ≠ .ready := by
  unfold claimRefused
  split
  · next n hk => simp [hk, State.clip]; exact decide_eq_true_iff
  · next other => simp; exact fun n hk => absurd hk (other n)

theorem append_checks (h : Takes .P s) (len : ps.length = 13) : failedCheck .P 0x18 ps (frameComplete .P s) = none :=
  checks_pass h [.P] (.exactly 13) rfl rfl (by simp [ParamBytes.admits, len])

theorem insert_checks (h : Takes .P s) (len : ps.length = 14) : failedCheck .P 0x19 ps (frameComplete .P s) = none :=
  checks_pass h [.P] (.exactly 14) rfl rfl (by simp [ParamBytes.admits, len])

theorem entriesJoinTheList : Claims.EntriesJoinTheList := by
  intro bs e s h follows quiet len spelled room fits tag claimed joined
  let s0 := frameComplete .P s
  have waits := entryOf_waiting spelled
  have joins (i : Nat) : joinList i e s0 = frameComplete .P (joined i) := by
    refine (joinList_eq (s := s0) waits (by exact follows) (by exact quiet)).trans ?_
    have tagged : tag = namedTag e s0 := by
      simp only [tag, namedTag]
      cases e.kind <;> cases e.tag <;> rfl
    have clips : claimed = claimedClips e s0 := by
      simp only [claimed, claimedClips]
      cases e.kind <;> rfl
    simp only [joined, ← tagged, ← clips, armedBy]
    rfl
  have finite : endless e s0 = false := Bool.eq_false_iff.mpr fun bad => by
    obtain ⟨n, kind, limit, -, loop⟩ := (endless_iff e s0).mp bad
    exact (fits n kind).2 loop limit
  have claimable : claimRefused e s0 = false := Bool.eq_false_iff.mpr fun bad => by
    obtain ⟨n, kind, unready⟩ := (claimRefused_iff e s0).mp bad
    exact unready (fits n kind).1
  have roomy : ¬listCapacity ≤ s0.cue.entries.length := Nat.not_le.mpr room
  refine ⟨congrArg _ (command_ok h (append_checks h len) ?_), fun p low high front tail =>
    congrArg _ (command_ok h (insert_checks (ps := p :: bs) h (by simp [len])) ?_)⟩
  · simp only [cueAppendOwner, spelled]
    rw [show (frameComplete .P s) = s0 from rfl, finite, claimable, if_neg Bool.false_ne_true, if_neg roomy,
      if_neg Bool.false_ne_true, joins]
    rfl
  · have behind : ¬p.toNat ≤ s0.cue.front := by rw [front_eq]; exact Nat.not_le.mpr front
    have within : ¬s0.cue.entries.length + 1 < p.toNat := Nat.not_lt.mpr tail
    simp only [cueInsertOwner, byteAt, List.getD_cons_zero, List.drop_succ_cons, List.drop_zero, spelled,
      positionOf_in_range low high]
    rw [show (frameComplete .P s) = s0 from rfl, finite, claimable, if_neg Bool.false_ne_true, if_neg behind, if_neg within,
      if_neg roomy, if_neg Bool.false_ne_true, joins]

end

-- refusals (R76 to R78)

theorem remove_checks {p : Byte} {s : State} (h : Takes .P s) : failedCheck .P 0x1A [p] (frameComplete .P s) = none :=
  checks_pass h [.P] (.exactly 1) rfl rfl rfl

theorem listRead_checks {p : Byte} {s : State} (h : Takes .P s) : failedCheck .P 0x1C [p] (frameComplete .P s) = none :=
  checks_pass h [.P] (.exactly 1) rfl rfl rfl

theorem clear_checks {s : State} (h : Takes .P s) : failedCheck .P 0x1B [] (frameComplete .P s) = none :=
  checks_pass h [.P] (.exactly 0) rfl rfl rfl

theorem positionOf_out_of_range {b : Byte} (h : b.toNat = 0 ∨ 32 < b.toNat) : positionOf b = none := if_neg (by omega)

theorem listCommandsRefused : Claims.ListCommandsRefused := by
  intro bs p s h len front append insert remove read
  let s0 := frameComplete .P s
  have appended {c : Status} (hc : cueAppendOwner bs s0 = .refuse c) : append c :=
    congrArg _ (command_refused h (append_checks h len) hc)
  have inserted {c : Status} (hc : cueInsertOwner (p :: bs) s0 = .refuse c) : insert c :=
    congrArg _ (command_refused h (insert_checks (ps := p :: bs) h (by simp [len])) hc)
  have removed {c : Status} (hc : cueRemoveOwner [p] s0 = .refuse c) : remove c :=
    congrArg _ (command_refused h (remove_checks h) hc)
  have wasRead {c : Status} (hc : cueListReadOwner [p] s0 = .refuse c) : read c :=
    congrArg _ (command_refused h (listRead_checks h) hc)
  have insertOwner {n : Nat} {e : Entry} (pos : positionOf p = some n) (spelled : entryOf bs = some e) :
      cueInsertOwner (p :: bs) s0 = if endless e s0 then .refuse .badParam
        else if n ≤ s0.cue.front then .refuse .inUse
        else if s0.cue.entries.length + 1 < n then .refuse .notFound
        else if listCapacity ≤ s0.cue.entries.length then .refuse .full
        else if claimRefused e s0 then .refuse .notFound
        else .ok (joinList (n - 1) e s0) .none := by
    simp only [cueInsertOwner, byteAt, List.getD_cons_zero, List.drop_succ_cons, List.drop_zero, spelled, pos]
  have appendOwner {e : Entry} (spelled : entryOf bs = some e) :
      cueAppendOwner bs s0 = if endless e s0 then .refuse .badParam
        else if listCapacity ≤ s0.cue.entries.length then .refuse .full
        else if claimRefused e s0 then .refuse .notFound
        else .ok (joinList s0.cue.entries.length e s0) (.position (s0.cue.entries.length + 1)) := by
    simp only [cueAppendOwner, spelled]
  refine ⟨fun bad => ⟨appended ?_, inserted ?_⟩, fun out => ?_, fun low high beyond => removed ?_,
    fun e low high there busy => removed ?_, fun e spelled => ?_⟩
  · simp only [cueAppendOwner, bad]
  · simp only [cueInsertOwner, List.drop_succ_cons, List.drop_zero, bad]
    cases positionOf (byteAt (p :: bs) 0) <;> rfl
  · have pos : positionOf (byteAt [p] 0) = none := positionOf_out_of_range out
    refine ⟨inserted ?_, removed ?_, wasRead ?_⟩
    · simp only [cueInsertOwner, byteAt, List.getD_cons_zero, positionOf_out_of_range out]
    · simp only [cueRemoveOwner, pos]
    · simp only [cueListReadOwner, pos]
  · have beyond' : s0.cue.entries[p.toNat - 1]? = none := List.getElem?_eq_none (by
      show s.cue.entries.length ≤ _
      omega)
    simp only [cueRemoveOwner, byteAt, List.getD_cons_zero, positionOf_in_range low high, beyond']
  · have there' : s0.cue.entries[p.toNat - 1]? = some e := there
    have notWaiting : e.waiting = false := by simpa [Entry.waiting] using busy
    simp only [cueRemoveOwner, byteAt, List.getD_cons_zero, positionOf_in_range low high, there', notWaiting,
      Bool.false_eq_true, if_false]
  · intro endlessClip unready
    have looping : endless e s0 = true ↔ endlessClip := endless_iff e s0
    have taken (no : ¬endlessClip) : ¬endless e s0 = true := fun y => no (looping.mp y)
    have placed : s0.cue.front = front := front_eq _
    refine ⟨fun yes => ⟨appended ((appendOwner spelled).trans (if_pos (looping.mpr yes))), inserted ?_⟩, fun no full => appended ?_,
      fun room no => appended ?_, fun no low high before => inserted ?_, fun no low high behind beyond => inserted ?_,
      fun no low high behind full => inserted ?_⟩
    · by_cases inRange : 1 ≤ p.toNat ∧ p.toNat ≤ 32
      · exact (insertOwner (positionOf_in_range inRange.1 inRange.2) spelled).trans (if_pos (looping.mpr yes))
      · simp only [cueInsertOwner, byteAt, List.getD_cons_zero,
          positionOf_out_of_range (b := p) (by omega)]
    · exact (appendOwner spelled).trans ((if_neg (taken no)).trans (if_pos full))
    · obtain ⟨n, kind, notReady⟩ := no
      have finite : ¬endlessClip := fun ⟨m, hm, _, ready, _⟩ => notReady (by
        obtain rfl := EntryKind.clip.inj (kind.symm.trans hm)
        exact ready)
      exact (appendOwner spelled).trans ((if_neg (taken finite)).trans ((if_neg (Nat.not_le.mpr room)).trans
        (if_pos ((claimRefused_iff e s0).mpr ⟨n, kind, notReady⟩))))
    · exact (insertOwner (positionOf_in_range low high) spelled).trans ((if_neg (taken no)).trans
        (if_pos (placed ▸ before)))
    · exact (insertOwner (positionOf_in_range low high) spelled).trans ((if_neg (taken no)).trans
        ((if_neg (placed ▸ Nat.not_le.mpr behind)).trans (if_pos beyond)))
    · by_cases beyond : s0.cue.entries.length + 1 < p.toNat
      · have : 32 ≤ s.cue.entries.length := full
        have : s.cue.entries.length + 1 < p.toNat := beyond
        omega
      · exact (insertOwner (positionOf_in_range low high) spelled).trans ((if_neg (taken no)).trans
          ((if_neg (placed ▸ Nat.not_le.mpr behind)).trans ((if_neg beyond).trans (if_pos full))))

/-- Settles O29. -/
theorem entriesJoinTheListOrAreRefused : Obligations.EntriesJoinTheListOrAreRefused :=
  ⟨entriesJoinTheList, listCommandsRefused⟩

-- entries leave (R69, R75, R78, R85)

/-- The playout clips once the claims of `gone` have been released. -/
@[irreducible] def releasedUses (gone : List Entry) (p : Vector Clip 63) : Vector Clip 63 :=
  Vector.ofFn fun i : Fin 63 => { p[i] with uses := (p[i]).uses - gone.countP fun e => decide (e.kind = .clip i) }

theorem releasedUses_getElem (gone : List Entry) (p : Vector Clip 63) (i : Nat) (hi : i < 63) : (releasedUses gone p)[i] =
    { p[i] with uses := p[i].uses - gone.countP fun e => decide (e.kind = .clip ⟨i, hi⟩) } := by
  unfold releasedUses
  rw [Vector.getElem_ofFn]
  rfl

theorem releasedUses_nil (p : Vector Clip 63) : releasedUses [] p = p :=
  Vector.ext fun i hi => by rw [releasedUses_getElem]; rfl

theorem releasedUses_append (a b : List Entry) (p : Vector Clip 63) :
    releasedUses b (releasedUses a p) = releasedUses (a ++ b) p :=
  Vector.ext fun i hi => by rw [releasedUses_getElem, releasedUses_getElem, releasedUses_getElem, List.countP_append, Nat.sub_add_eq]

theorem releasedUses_clip {e : Entry} {n : ClipId} (kind : e.kind = .clip n) (p : Vector Clip 63) :
    releasedUses [e] p = p.set n { p[n] with uses := (p[n]).uses - 1 } := by
  refine Vector.ext fun i hi => ?_
  rw [releasedUses_getElem]
  by_cases same : n.val = i
  · subst same
    simp [kind]
  · have other : n ≠ ⟨i, hi⟩ := fun h => same (congrArg Fin.val h)
    rw [Vector.getElem_set_ne _ _ same]
    simp [kind, other]

theorem releasedUses_plain {e : Entry} (kind : ∀ n, e.kind ≠ .clip n) (p : Vector Clip 63) : releasedUses [e] p = p :=
  Vector.ext fun i hi => by
    rw [releasedUses_getElem]
    simp [kind]

/-- The clip store once the claims of `gone` have been released. -/
def releasedClips (gone : List Entry) (cs : ClipStore) : ClipStore := { cs with playout := releasedUses gone cs.playout }

theorem releaseClaim_eq (e : Entry) (s : State) : releaseClaim e s = { s with clips := releasedClips [e] s.clips } := by
  unfold releaseClaim releasedClips
  split
  · next n hk =>
    rw [releasedUses_clip hk]
    rfl
  · next other => rw [releasedUses_plain other]

theorem releaseClaims_eq (gone : List Entry) (s : State) :
    gone.foldl (fun t e => releaseClaim e t) s = { s with clips := releasedClips gone s.clips } := by
  induction gone generalizing s with
  | nil => rw [releasedClips, releasedUses_nil]; rfl
  | cons e es ih =>
    rw [List.foldl_cons, releaseClaim_eq, ih]
    exact congrArg (fun p => ({ s with clips := { s.clips with playout := p } } : State))
      (releasedUses_append [e] es s.clips.playout)

/-- The engine once entries have left the list: ARMED with none left is IDLE (R79). -/
def idleBy (st : EngineState) (es : List Entry) : EngineState := if st = .armed ∧ es = [] then .idle else st

/-- The cue list replaced by `es`, and the engine's state worked out. -/
def listLeft (es : List Entry) (s : State) : State := { s with
    cue := { s.cue with
      entries := es
      state := idleBy s.cue.state es
      goPending := s.cue.goPending &&
        (es.any (fun e => decide (e.state = .waiting)) || decide (s.cue.state = .held ∨ s.cue.state = .filling)) }
    alerts := { s.alerts with view := if idleBy s.cue.state es = s.cue.state then s.alerts.view else idleBy s.cue.state es } }

/-- The same with LIST_EMPTY, when the list has become empty (R75). -/
def leftWith (es : List Entry) (s : State) : State :=
  (if es = [] ∧ s.cue.entries ≠ [] then raise .P .listEmpty else id) (listLeft es s)

/-- The list with `es` left of it: the WAITING entries alone have gone. -/
theorem followList_left {es : List Entry} {s : State} (follows : EngineFollows s) (notHeld : s.cue.state ≠ .held)
    (notFilling : s.cue.state ≠ .filling) (sub : ∀ e ∈ es, e ∈ s.cue.entries)
    (kept : ∀ e ∈ s.cue.entries, e.state = .playing → e ∈ es) : followList es = idleBy s.cue.state es := by
  have state := (follows.resolve_left notHeld).resolve_left notFilling
  have plays : (es.any fun e => decide (e.state = .playing)) = s.cue.entries.any fun e => decide (e.state = .playing) := by
    rw [Bool.eq_iff_iff, List.any_eq_true, List.any_eq_true]
    exact ⟨fun ⟨e, he, h⟩ => ⟨e, sub e he, h⟩, fun ⟨e, he, h⟩ => ⟨e, kept e he (of_decide_eq_true h), h⟩⟩
  rw [followList_eq, plays, idleBy, state]
  by_cases playing : (s.cue.entries.any fun e => decide (e.state = .playing)) = true
  · simp [playing]
  · by_cases empty : s.cue.entries = []
    · have gone : es = [] := List.eq_nil_iff_forall_not_mem.mpr fun e he => by simpa [empty] using sub e he
      simp [playing, empty, gone]
    · by_cases gone : es = []
      · simp [playing, empty, gone]
      · simp [playing, empty, gone]

theorem settle_left {es : List Entry} {s : State} (follows : EngineFollows s)
    (quiet : s.cue.state = .armed → NoneTakes .ordinary .idle s) (sub : ∀ e ∈ es, e ∈ s.cue.entries)
    (kept : ∀ e ∈ s.cue.entries, e.state = .playing → e ∈ es) :
    settleFrom s.cue.state (setEntries es s) = leftWith es s := by
  let t : State := { s with cue := { s.cue with entries := es } }
  have listed : setEntries es s = if es = [] ∧ s.cue.entries ≠ [] then raise .P .listEmpty t else t := by
    simp [setEntries, t]
  rw [listed]
  have touched : Touches [.links] t (if es = [] ∧ s.cue.entries ≠ [] then raise .P .listEmpty t else t) := by
    split
    · exact raise_touches _ _ t
    · exact Touches.refl _ t
  generalize hu : (if es = [] ∧ s.cue.entries ≠ [] then raise .P .listEmpty t else t) = u at touched ⊢
  have cue : u.cue = t.cue := touched .cue (by decide)
  have alerts : u.alerts = s.alerts := touched .alerts (by decide)
  have result (c : Cue) (a : Alerts) (hc : c = { s.cue with
      entries := es
      state := idleBy s.cue.state es
      goPending := s.cue.goPending &&
        (es.any (fun e => decide (e.state = .waiting)) || decide (s.cue.state = .held ∨ s.cue.state = .filling)) })
      (ha : a = { s.alerts with view := if idleBy s.cue.state es = s.cue.state then s.alerts.view else idleBy s.cue.state es }) :
      ({ u with cue := c, alerts := a } : State) = leftWith es s := by
    rw [hc, ha, ← hu, leftWith, listLeft]
    split
    · rfl
    · rfl
  by_cases away : s.cue.state = .held ∨ s.cue.state = .filling
  · have same : idleBy s.cue.state es = s.cue.state := if_neg fun h => by rcases away with a | a <;> simp [a] at h
    rw [settleFrom_stays (by rw [cue]; exact away), ← result u.cue u.alerts]
    · rw [cue]
      simp [same, away, t]
    · rw [same, if_pos rfl, alerts]
  · obtain ⟨notHeld, notFilling⟩ := not_or.mp away
    have follow : followList u.cue.entries = idleBy s.cue.state es := by
      rw [cue]
      exact followList_left follows notHeld notFilling sub kept
    have state : u.cue.state = s.cue.state := by rw [cue]
    rw [settleFrom_quiet (by rw [state]; exact notHeld) (by rw [state]; exact notFilling)]
    · refine result _ _ ?_ ?_
      · rw [settledCue, follow, cue]
        simp [Cue.hasWaiting, Entry.waiting, away, t]
        rfl
      · rw [noticed, follow, alerts]
    · intro changes
      rw [follow] at changes ⊢
      unfold idleBy at changes ⊢
      split at changes
      · next gone =>
        rw [if_pos gone]
        exact noneTakes_of (quiet gone.1) (by rw [show u.dev = t.dev from touched .dev (by decide)]) (by rw [alerts]) (by rw [alerts])
      · exact absurd rfl changes

theorem leftWith_frameComplete (es : List Entry) (s : State) : leftWith es (frameComplete .P s) = frameComplete .P (leftWith es s) := by
  by_cases empty : es = [] ∧ s.cue.entries ≠ []
  · rw [leftWith, leftWith, if_pos (by exact empty), if_pos empty]
    exact raise_frameComplete .P .P .listEmpty (listLeft es s)
  · rw [leftWith, leftWith, if_neg (by exact empty), if_neg empty]
    rfl

theorem mem_eraseIdx_playing {es : List Entry} {i : Nat} {e x : Entry} (there : es[i]? = some e) (waits : e.state = .waiting)
    (hx : x ∈ es) (playing : x.state = .playing) : x ∈ es.eraseIdx i := by
  obtain ⟨j, hj, rfl⟩ := List.mem_iff_getElem.mp hx
  refine List.mem_eraseIdx_iff_getElem.mpr ⟨j, hj, fun same => ?_, rfl⟩
  subst same
  rw [List.getElem?_eq_getElem hj] at there
  rw [Option.some.inj there, waits] at playing
  cases playing

theorem entriesLeave : Claims.EntriesLeaveTheList := by
  intro p s h follows quiet left uses
  let s0 := frameComplete .P s
  have used (gone : List Entry) : uses gone = releasedClips gone s.clips := by
    unfold releasedClips releasedUses
    rfl
  refine ⟨fun e low high there waits => congrArg _ (command_ok h (remove_checks h) ?_), ?_⟩
  · have there' : s0.cue.entries[p.toNat - 1]? = some e := there
    have waiting : e.waiting = true := decide_eq_true waits
    show cueRemoveOwner [p] s0 = _
    simp only [cueRemoveOwner, byteAt, List.getD_cons_zero, positionOf_in_range low high, there', waiting, if_true]
    refine congrArg (Reply.ok · .none) ?_
    rw [releaseClaim_eq]
    rw [used [e]]
    exact (settle_left (s := { s0 with clips := releasedClips [e] s.clips }) (by exact follows) (by exact quiet)
      (fun x hx => List.mem_of_mem_eraseIdx hx) fun x hx playing => mem_eraseIdx_playing there waits hx playing).trans
      (leftWith_frameComplete _ { s with clips := releasedClips [e] s.clips })
  · intro gone
    refine congrArg _ (command_ok h (clear_checks h) ?_)
    have filtered : (s.cue.entries.filter fun e => !e.waiting) = s.cue.entries.filter fun e => decide (e.state ≠ .waiting) := by
      simp only [Entry.waiting, ne_eq, decide_not]
    rw [cueClearOwner]
    refine congrArg (Reply.ok · (.removed gone.length)) ?_
    rw [releaseClaims_eq, used gone]
    refine (settle_left (s := { s0 with clips := releasedClips gone s.clips }) (es := s.cue.entries.filter fun e => !e.waiting)
      (by exact follows) (by exact quiet) (fun x hx => List.mem_of_mem_filter hx) fun x hx playing => ?_).trans ?_
    · exact List.mem_filter.mpr ⟨hx, by simp [Entry.waiting, playing]⟩
    · rw [filtered]
      exact leftWith_frameComplete _ { s with clips := releasedClips gone s.clips }

end Sys2Proof.CueList
end

section
/-! R92, R133, R168: what a takeover leaves of the blocks that it reaches. -/

namespace Sys2Proof.Takeovers

-- one thread: the check compiles under a limit on the process
set_option Elab.async false

open Sys2Proof.Machine Sys2Proof.Safety Sys2Proof.Laws Sys2Proof.EngineNotices Sys2Proof.EventKeeping Sys2Proof.ItemEnds
open Sys2Proof.FillEnds

variable {s t : State} {k : AlertSlot} {r : AlertRecord} {offer : Option Bool}

-- the Cue Engine held (R92)

/-- The entries that end at a takeover. -/
def endedBy (c : Cue) : List Entry := c.entries.filter fun e => e.playing && e.ending

/-- The list that a takeover leaves. -/
def heldEntries (cs : ClipStore) (c : Cue) (offer : Option Bool) : List Entry :=
  if c.goPending || (endedBy c).any Entry.leadsOn || offer == some true then reserveHead (heldList cs c.entries)
  else heldList cs c.entries

/-- The fill's position, when VOICE A fills. -/
def fillHeld (cs : ClipStore) (c : Cue) : Option Nat :=
  if c.state = .filling ∧ c.voiceA = .filling then cs.readerA.map Reader.position else none

/-- The Cue Engine's records once it is held. -/
def heldCue (cs : ClipStore) (c : Cue) (offer : Option Bool) : Cue := if c.state = .held then c else { c with
  entries := heldEntries cs c offer
  voiceA := .free
  voiceB := .free
  state := .held
  held := some ⟨if offer.isSome then stateAfterOffer (endedBy c) (heldEntries cs c offer) else c.state, fillHeld cs c⟩
  goPending := false
  window := none }

theorem endings_touch (es : List Entry) (s : State) : Touches [.clips, .links] s (es.foldl (fun t e => itemEnded e t) s) := by
  induction es generalizing s with
  | nil => exact Touches.refl _ s
  | cons e es ih => exact (itemEnded_touches e s).trans (ih _)

theorem setEntries_cue (es : List Entry) (s : State) : (setEntries es s).cue = { s.cue with entries := es } := by
  unfold setEntries
  dsimp only
  split <;> rfl

theorem cutVoices_cue (s : State) : (cutVoices s).cue = { s.cue with voiceA := .free, voiceB := .free } := by
  have cutBoth : (cut .voiceB (cut .voiceA s)).cue = s.cue :=
    ((Touches.refl [.mix, .clips] s).and (cut_touches _ s) |>.and (cut_touches _ _)) .cue (by decide)
  show ({ (cut .voiceB (cut .voiceA s)).cue with voiceA := .free, voiceB := .free } : Cue) = _
  rw [cutBoth]

theorem holdEngine_cue (offer : Option Bool) (s : State) : (holdEngine offer s).cue = heldCue s.clips s.cue offer := by
  unfold holdEngine heldCue
  by_cases held : s.cue.state = .held
  · rw [if_pos held, if_pos held]
  · rw [if_neg held, if_neg held]
    have listed (es : List Entry) : (setEntries es ((endedBy s.cue).foldl (fun t e => itemEnded e t) (cutVoices s))).cue =
        { s.cue with voiceA := .free, voiceB := .free, entries := es } := by
      rw [setEntries_cue, (endings_touch _ _) .cue (by decide), cutVoices_cue]
    show ({ (setEntries (heldEntries s.clips s.cue offer) ((endedBy s.cue).foldl (fun t e => itemEnded e t) (cutVoices s))).cue with
      state := .held, held := some _, goPending := false, window := none } : Cue) = _
    rw [listed]
    rfl

theorem holdEngine_alerts (offer : Option Bool) (s : State) : (holdEngine offer s).alerts =
    { s.alerts with view := if s.cue.state = .held then s.alerts.view else .held } := by
  unfold holdEngine
  by_cases held : s.cue.state = .held
  · rw [if_pos held, if_pos held]
  · rw [if_neg held, if_neg held]
    have kept (es : List Entry) : (setEntries es ((endedBy s.cue).foldl (fun t e => itemEnded e t) (cutVoices s))).alerts = s.alerts :=
      ((((Touches.refl [.mix, .clips, .cue, .links] s).and (cutVoices_touches s)).and (endings_touch _ _)).and
        (setEntries_touches es _)) .alerts (by decide)
    exact congrArg (fun a : Alerts => ({ a with view := .held } : Alerts)) (kept _)

theorem holdEngine_engineHeld (h : s.cue.state ≠ .held) : Pending .P .engineHeld (holdEngine offer s) := by
  rw [holdEngine, if_neg h]
  exact pending_raised _ _ _

theorem heldCue_state (cs : ClipStore) (c : Cue) (offer : Option Bool) : (heldCue cs c offer).state = .held := by
  unfold heldCue
  split
  · assumption
  · rfl

-- the air mode (R168)

/-- The Air Supervisor's records at a takeover. -/
def supTaken (x : Supervisor) : Supervisor :=
  match x.mode with
  | some .alert => x
  | some m => { x with mode := some .alert, remembered := some m }
  | none => x

theorem takeoverAir_sup (s : State) : (takeoverAir s).sup = supTaken s.sup := by
  cases mode : s.sup.mode with
  | none => simp only [takeoverAir, supTaken, mode]
  | some m => cases m <;> simp only [takeoverAir, supTaken, mode] <;> rfl

theorem supTaken_mode {x : Supervisor} (h : x.mode.isSome = true) : (supTaken x).mode = some .alert := by
  unfold supTaken
  split
  · assumption
  · rfl
  · next none => rw [none] at h; cases h

-- the takeover

theorem airTaken_alerts (k : AlertSlot) (r : AlertRecord) (s : State) : (airTaken k r s).alerts = { s.alerts with
    records := s.alerts.records.set k (some { r with phase := .airing })
    queue := s.alerts.queue.filter fun j => decide (j ≠ k)
    tone := none } := by
  have told : (airTaken k r s).alerts = (({ s with alerts := { s.alerts with
      queue := s.alerts.queue.filter (· ≠ k), tone := none } } : State).setRecord k (some { r with phase := .airing })).alerts :=
    (((Touches.refl [.links] _).and (raiseAlertState_touches k _)).and (raise_touches _ _ _)) .alerts (by decide)
  exact told

theorem airTaken_parts (k : AlertSlot) (r : AlertRecord) (s : State) : Touches [.alerts, .links] s (airTaken k r s) :=
  ((((Touches.refl _ s).and (records_touches _ s)).and (setRecord_touches k _ _)).and (raiseAlertState_touches k _)).and
    (raise_touches _ _ _)

theorem activate_parts (c : Contributor) (b : Binding) (g f n : Nat) (s : State) : Touches [.mix, .clips] s (activate c b g f n s) :=
  activate_touches c b g f n s

/-- Binding ALERT changes of the Alert Controller its tone alone. -/
theorem bindAlert_alerts (k : AlertSlot) (r : AlertRecord) (s : State) :
    ∃ tone, (bindAlert k r s).alerts = { s.alerts with tone := tone } := by
  unfold bindAlert
  split
  · exact ⟨s.alerts.tone, activate_touches .alert _ _ _ _ s .alerts (by decide)⟩
  · split
    · exact ⟨_, activate_touches .alert _ _ _ _ _ .alerts (by decide)⟩
    · exact ⟨s.alerts.tone, activate_touches .alert _ _ _ _ s .alerts (by decide)⟩

theorem airBound_alerts (k : AlertSlot) (r : AlertRecord) (dumps : Bool) (s : State) :
    ∃ tone, (airBound k r dumps s).alerts = { s.alerts with tone := tone } := by
  obtain ⟨tone, h⟩ := bindAlert_alerts k r (if dumps then forcedDump s else s)
  have same : (if dumps then forcedDump s else s).alerts = s.alerts := by
    split
    · exact forcedDump_touches s .alerts (by decide)
    · rfl
  rw [same] at h
  exact ⟨tone, h⟩

theorem airNotices_alerts (offer : Option Bool) (s : State) : (airNotices offer s).alerts =
    { s.alerts with view := if s.cue.state = .held then s.alerts.view else .held } := by
  have slots : (airNotices offer s).alerts = (holdEngine offer (takeoverAir s)).alerts := emptySlots_touches _ _ .alerts (by decide)
  have cue : (takeoverAir s).cue = s.cue := takeoverAir_touches s .cue (by decide)
  have alerts : (takeoverAir s).alerts = s.alerts := takeoverAir_touches s .alerts (by decide)
  rw [slots, holdEngine_alerts, cue, alerts]

theorem takeover_alerts (h : s.record k = some r) (offer : Option Bool) : ∃ tone, (takeover k offer s).alerts = { s.alerts with
    records := s.alerts.records.set k (some { r with phase := .airing })
    queue := s.alerts.queue.filter fun j => decide (j ≠ k)
    view := if s.cue.state = .held then s.alerts.view else .held
    tone := tone } := by
  obtain ⟨tone, bound⟩ := airBound_alerts k r (r.dumps s.alerts.settings.warningDump) (airNotices offer (airTaken k r s))
  refine ⟨tone, ?_⟩
  rw [takeover_eq h, bound, airNotices_alerts, airTaken_alerts, airTaken_cue]

theorem takeover_record (h : s.record k = some r) (offer : Option Bool) :
    (takeover k offer s).record k = some { r with phase := .airing } := by
  obtain ⟨tone, alerts⟩ := takeover_alerts h offer
  rw [State.record, alerts]
  simp

theorem takeover_record_other {j : AlertSlot} (hj : j ≠ k) (offer : Option Bool) : (takeover k offer s).record j = s.record j := by
  cases h : s.record k with
  | none => rw [takeover_none h]
  | some r =>
    obtain ⟨tone, alerts⟩ := takeover_alerts h offer
    rw [State.record, alerts]
    have other : k.val ≠ j.val := fun e => hj (Fin.ext e.symm)
    simp only [State.record, Fin.getElem_fin, Vector.getElem_set_ne _ _ other]

theorem takeover_queue (h : s.record k = some r) (offer : Option Bool) :
    (takeover k offer s).alerts.queue = s.alerts.queue.filter fun j => decide (j ≠ k) := by
  obtain ⟨tone, alerts⟩ := takeover_alerts h offer
  rw [alerts]

theorem airNotices_cue (offer : Option Bool) (s : State) : (airNotices offer s).cue = heldCue s.clips s.cue offer := by
  have slots : (airNotices offer s).cue = (holdEngine offer (takeoverAir s)).cue := emptySlots_touches _ _ .cue (by decide)
  have cue : (takeoverAir s).cue = s.cue := takeoverAir_touches s .cue (by decide)
  have clips : (takeoverAir s).clips = s.clips := takeoverAir_touches s .clips (by decide)
  rw [slots, holdEngine_cue, cue, clips]

theorem airBound_cue (k : AlertSlot) (r : AlertRecord) (dumps : Bool) (s : State) :
    ∃ w, (airBound k r dumps s).cue = { s.cue with boundaryWait := w } := by
  have same : (bindAlert k r (if dumps then forcedDump s else s)).cue = s.cue := by
    have bound := bindAlert_touches k r (if dumps then forcedDump s else s) .cue (by decide)
    have dumped : (if dumps then forcedDump s else s).cue = s.cue := by
      split
      · exact forcedDump_touches s .cue (by decide)
      · rfl
    exact Eq.trans bound dumped
  exact ⟨_, congrArg (fun c : Cue => ({ c with boundaryWait := _ } : Cue)) same⟩

/-- The Cue Engine at a takeover: held, and its boundary wait worked out again. -/
theorem takeover_cue (h : s.record k = some r) (offer : Option Bool) :
    ∃ w, (takeover k offer s).cue = { heldCue s.clips s.cue offer with boundaryWait := w } := by
  obtain ⟨w, bound⟩ := airBound_cue k r (r.dumps s.alerts.settings.warningDump) (airNotices offer (airTaken k r s))
  refine ⟨w, ?_⟩
  rw [takeover_eq h, bound, airNotices_cue, airTaken_cue, show (airTaken k r s).clips = s.clips from airTaken_parts k r s .clips (by decide)]

theorem takeover_held (h : s.record k = some r) (offer : Option Bool) : (takeover k offer s).cue.state = .held := by
  obtain ⟨w, cue⟩ := takeover_cue h offer
  rw [cue]
  exact heldCue_state _ _ _

theorem takeover_entries (h : s.record k = some r) (running : s.cue.state ≠ .held) (offer : Option Bool) :
    (takeover k offer s).cue.entries = heldEntries s.clips s.cue offer := by
  obtain ⟨w, cue⟩ := takeover_cue h offer
  rw [cue, heldCue, if_neg running]

theorem takeover_sup (h : s.record k = some r) (offer : Option Bool) : (takeover k offer s).sup = supTaken s.sup := by
  have bound : (takeover k offer s).sup = (airNotices offer (airTaken k r s)).sup := by
    rw [takeover_eq h]
    exact airBound_touches k r _ _ .sup (by decide)
  have slots : (airNotices offer (airTaken k r s)).sup = (takeoverAir (airTaken k r s)).sup :=
    ((holdEngine_touches offer _ .sup (by decide)).symm.trans (emptySlots_touches .alert _ .sup (by decide)).symm).symm
  have sup : (airTaken k r s).sup = s.sup := airTaken_parts k r s .sup (by decide)
  rw [bound, slots, takeoverAir_sup, sup]

-- a notice at which a record takes the air

/-- The engine enters a state at whose notice a queued record takes the air (R130). -/
theorem enterEngine_taken {was st : EngineState} (h : TakesAir .ordinary st k s) (changes : st ≠ was)
    (device : t.dev.state = s.dev.state) (records : t.alerts.records = s.alerts.records) (queue : t.alerts.queue = s.alerts.queue) :
    enterEngine was st t = takeover k none { t with
      cue := { t.cue with state := st }, alerts := { t.alerts with view := st } } := by
  let u : State := { t with cue := { t.cue with state := st }, alerts := { t.alerts with view := st } }
  have taker : windowTaker .ordinary u = some k := windowTaker_some h device records queue rfl
  rw [enterEngine, if_neg changes]
  show windowCheck .ordinary u = _
  rw [windowCheck, taker]

theorem settleFrom_taken {was st : EngineState} (h : TakesAir .ordinary st k s) (changes : st ≠ was)
    (notHeld : t.cue.state ≠ .held) (notFilling : t.cue.state ≠ .filling) (follow : followList t.cue.entries = st)
    (device : t.dev.state = s.dev.state) (records : t.alerts.records = s.alerts.records) (queue : t.alerts.queue = s.alerts.queue) :
    settleFrom was t = takeover k none { t with
      cue := settledCue t.cue, alerts := { t.alerts with view := st } } := by
  rw [settleFrom_follows notHeld notFilling, follow, settledCue, follow]
  exact enterEngine_taken h changes device records queue

-- what a takeover makes of the list

theorem mem_reserveHead {es : List Entry} {e : Entry} (h : e ∈ reserveHead es) : e.state = .reserved ∨ e ∈ es := by
  induction es with
  | nil => exact .inr h
  | cons x xs ih =>
    unfold reserveHead changeFirst at h
    split at h
    · rcases List.mem_cons.mp h with rfl | h
      · exact .inl rfl
      · exact .inr (List.mem_cons_of_mem _ h)
    · rcases List.mem_cons.mp h with rfl | h
      · exact .inr List.mem_cons_self
      · exact (ih h).imp_right (List.mem_cons_of_mem _)

theorem heldEntry_state (cs : ClipStore) (e : Entry) : (heldEntry cs e).state = e.state := by
  unfold heldEntry
  split <;> rfl

/-- A list with no PLAYING entry stays as it is. -/
theorem heldList_stopped {cs : ClipStore} {es : List Entry} (h : ∀ e ∈ es, e.state ≠ .playing) : heldList cs es = es := by
  have stopped (e : Entry) (he : e ∈ es) : e.playing = false := decide_eq_false (h e he)
  have kept : (es.filter fun e => !(e.playing && e.ending)) = es := List.filter_eq_self.mpr fun e he => by simp [stopped e he]
  rw [heldList, kept]
  exact (List.map_congr_left (g := id) fun e he => by simp [stopped e he]).trans (List.map_id es)

theorem heldEntries_stopped {cs : ClipStore} {c : Cue} (h : ∀ e ∈ c.entries, e.state ≠ .playing) :
    ∀ e ∈ heldEntries cs c offer, e.state ≠ .playing := by
  intro e he playing
  unfold heldEntries at he
  rw [heldList_stopped h] at he
  split at he
  · rcases mem_reserveHead he with r | m
    · rw [r] at playing; cases playing
    · exact h e m playing
  · exact h e he playing

end Sys2Proof.Takeovers
end

section
/-! R130: the state notices of CUE CLEAR and CUE STOP, at which a queued record takes the air. -/

namespace Sys2Proof.CueList

-- one thread: the check compiles under a limit on the process
set_option Elab.async false

open Sys2Proof.Machine Sys2Proof.Safety Sys2Proof.Laws Sys2Proof.TakenCommands Sys2Proof.EngineNotices Sys2Proof.ItemEnds
open Sys2Proof.FillEnds Sys2Proof.EventKeeping Sys2Proof.Takeovers

theorem stop_checks {l : Link} {s : State} (h : Takes l s) (hl : l = .P ∨ l = .C) :
    failedCheck l 0x21 [] (frameComplete l s) = none :=
  checks_pass h [.P, .C] (.exactly 0) rfl (by rcases hl with rfl | rfl <;> rfl) rfl

theorem stopEntries_parts (s : State) : Touches [.mix, .clips, .cue] s (stopEntries s) := by
  have voice (v : Voice) (s : State) : Touches [.mix, .clips, .cue] s (stopVoice v s) := by
    unfold stopVoice
    split
    · exact Touches.refl _ s
    · split
      · exact Touches.refl _ s
      · split
        · exact (Touches.refl _ s).and (setVoice_touches v _ s)
        · exact releaseVoice_parts v _ s
  exact ((voice .A s).trans (voice .B _)).and (cue_touches _ _)

theorem stopVoice_state (v : Voice) (s : State) : (stopVoice v s).cue.state = s.cue.state := by
  unfold stopVoice
  split
  · rfl
  · split
    · rfl
    · split
      · cases v <;> rfl
      · rw [releaseVoice_cue]
        cases v <;> rfl

theorem stopEntries_state (s : State) : (stopEntries s).cue.state = s.cue.state :=
  (stopVoice_state .B (stopVoice .A s)).trans (stopVoice_state .A s)

/-- A notice at which a record takes the air, the engine's list having no PLAYING entry. -/
theorem notice_airs {k : AlertSlot} {r : AlertRecord} {was st : EngineState} {s t : State} (record : s.record k = some r)
    (takes : TakesAir .ordinary st k s) (changes : st ≠ was) (notHeld : t.cue.state ≠ .held) (notFilling : t.cue.state ≠ .filling)
    (follow : followList t.cue.entries = st) (running : st ≠ .held) (stopped : ∀ e ∈ t.cue.entries, e.state ≠ .playing) (mode : t.sup.mode.isSome = true)
    (device : t.dev.state = s.dev.state) (records : t.alerts.records = s.alerts.records) (queue : t.alerts.queue = s.alerts.queue)
    (code : Nat) (result : Result) : let u := respond .P code .ok result (settleFrom was t)
    (u.record k = some { r with phase := .airing } ∧ u.alerts.queue = s.alerts.queue.filter (fun j => decide (j ≠ k)) ∧
      u.cue.state = .held ∧ (∃ p ∈ (u.link .C).events, p.event = .alertOnAir r.id r.cls) ∧ u.sup.mode = some .alert) ∧
      (∀ e ∈ u.cue.entries, e.state ≠ .playing) ∧ (t.cue.entries = [] → u.cue.entries = []) := by
  let w : State := { t with cue := settledCue t.cue, alerts := { t.alerts with view := st } }
  have taken : settleFrom was t = takeover k none w :=
    settleFrom_taken takes changes notHeld notFilling follow device records queue
  have record' : w.record k = some r := by
    show t.alerts.records[k] = _
    rw [records]
    exact record
  intro u
  have told : Raises [] (takeover k none w) u := by
    show Raises [] (takeover k none w) (respond .P code .ok result (settleFrom was t))
    rw [taken]
    exact respond_raises _ _ _ _ _
  have same : u.alerts = (takeover k none w).alerts ∧ u.cue = (takeover k none w).cue ∧ u.sup = (takeover k none w).sup := by
    show (settleFrom was t).alerts = _ ∧ (settleFrom was t).cue = _ ∧ (settleFrom was t).sup = _
    rw [taken]
    exact ⟨rfl, rfl, rfl⟩
  obtain ⟨alerts, cue, sup⟩ := same
  have entries : u.cue.entries = heldEntries w.clips w.cue none := by
    rw [cue]
    refine takeover_entries record' ?_ none
    show followList t.cue.entries ≠ .held
    rw [follow]
    exact running
  refine ⟨⟨?_, ?_, ?_, told.pending (takeover_alertOnAir record' none) (by simp), ?_⟩, ?_, fun empty => ?_⟩
  · rw [State.record, alerts]
    exact takeover_record record' none
  · rw [alerts, takeover_queue record']
    exact congrArg (List.filter _) queue
  · rw [cue]
    exact takeover_held record' none
  · rw [sup, takeover_sup record']
    exact supTaken_mode mode
  · rw [entries]
    exact heldEntries_stopped (c := w.cue) stopped
  · have none_held : heldList w.clips w.cue.entries = [] := by
      show heldList w.clips t.cue.entries = []
      rw [empty]
      rfl
    rw [entries, heldEntries, none_held]
    exact ite_self _

theorem noticesAreWindowChecks : Claims.NoticesAreWindowChecks := by
  intro k r s h listed record aired
  have mode (onAir : s.dev.state = .onAir) : s.sup.mode.isSome = true := by
    rcases h.2.1 with standby | ⟨-, mode⟩
    · rw [onAir] at standby; cases standby
    · exact mode
  let s0 := frameComplete .P s
  refine ⟨fun armed waits takes => ?_, fun playing takes => ?_⟩
  · let gone := s.cue.entries.filter Entry.waiting
    have left : (s.cue.entries.filter fun e => !e.waiting) = [] :=
      List.filter_eq_nil_iff.mpr fun e he => by simp [Entry.waiting, waits e he]
    let t := setEntries [] ({ s0 with clips := releasedClips gone s.clips })
    have executed : exec (.cueClear .P []) s = .next (respond .P 0x1B .ok (.removed gone.length) (settleFrom .armed t)) := by
      refine congrArg _ ((command_taken h _ (clear_checks h)).trans ?_)
      show conclude .P 0x1B s0 (cueClearOwner s0) = _
      rw [cueClearOwner, releaseClaims_eq]
      show conclude .P 0x1B s0 (.ok (settleFrom s.cue.state (setEntries (s.cue.entries.filter fun e => !e.waiting) _)) _) = _
      rw [left, armed]
      rfl
    have cue : t.cue = { s.cue with entries := [] } := setEntries_cue _ _
    have touched := setEntries_touches [] ({ s0 with clips := releasedClips gone s.clips })
    have airs := notice_airs (t := t) (was := .armed) record takes (by decide) (by rw [cue, show _ = _ from armed]; decide)
      (by rw [cue, show _ = _ from armed]; decide) (by rw [cue]; rfl) (by decide) (by rw [cue]; simp)
      (by rw [show t.sup = s.sup from touched .sup (by decide)]; exact mode takes.1)
      (by rw [show t.dev = s.dev from touched .dev (by decide)])
      (by rw [show t.alerts = s.alerts from touched .alerts (by decide)])
      (by rw [show t.alerts = s.alerts from touched .alerts (by decide)]) 0x1B (.removed gone.length)
    exact ⟨_, executed, airs.1, airs.2.2 (by rw [cue])⟩
  · let t := stopEntries s0
    have executed : exec (.cueStop .P []) s = .next (respond .P 0x21 .ok .none (settleFrom .playing t)) := by
      refine congrArg _ ((command_taken h _ (stop_checks h (.inl rfl))).trans ?_)
      have stops : stopCue s0 = settleFrom .playing (stopEntries s0) := by
        simp only [stopCue, show s0.cue.state = .playing from playing]
      show conclude .P 0x21 s0 (.ok (stopCue s0) .none) = _
      rw [stops]
      rfl
    have touched := stopEntries_parts s0
    have state : t.cue.state = .playing := (stopEntries_state s0).trans playing
    have entries : t.cue.entries = s.cue.entries.map fun e => if e.playing then e.setBack else e := rfl
    have stopped : ∀ e ∈ t.cue.entries, e.state ≠ .playing := by
      intro e he
      rw [entries] at he
      obtain ⟨x, hx, rfl⟩ := List.mem_map.mp he
      split
      · exact (by decide : EntryState.waiting ≠ .playing)
      · next stays => exact of_decide_eq_false (Bool.eq_false_iff.mpr stays)
    have airs := notice_airs (t := t) (was := .playing) record takes (by decide) (by rw [state]; decide)
      (by rw [state]; decide)
      (by
        rw [followList_stopped stopped, stoppedState, if_neg]
        rw [entries]
        simpa using listed)
      (by decide) stopped
      (by rw [show t.sup = s.sup from touched .sup (by decide)]; exact mode takes.1)
      (by rw [show t.dev = s.dev from touched .dev (by decide)])
      (by rw [show t.alerts = s.alerts from touched .alerts (by decide)])
      (by rw [show t.alerts = s.alerts from touched .alerts (by decide)]) 0x21 .none
    exact ⟨_, executed, airs.1, airs.2.1⟩

/-- Settles O30. -/
theorem entriesLeaveTheList : Obligations.EntriesLeaveTheList := ⟨entriesLeave, noticesAreWindowChecks⟩

end Sys2Proof.CueList
end

section
/-! R81, R82, R91: entries of the list are started. -/

namespace Sys2Proof.StartedItems

-- one thread: the check compiles under a limit on the process
set_option Elab.async false

open Sys2Proof.Machine Sys2Proof.Safety Sys2Proof.Laws Sys2Proof.EngineNotices Sys2Proof.EventKeeping Sys2Proof.ItemEnds
open Sys2Proof.FillEnds Sys2Proof.Takeovers

variable {s t : State} {v : Voice} {e h : Entry} {before after : List Entry} {p : Entry → Bool}

-- the first entry that a predicate picks out

theorem find?_at (skips : ∀ x ∈ before, p x = false) (picks : p h = true) : (before ++ h :: after).find? p = some h := by
  have nothing : before.find? p = none := List.find?_eq_none.mpr fun x hx => by simp [skips x hx]
  rw [List.find?_append, nothing, Option.none_or, List.find?_cons_of_pos picks]

theorem changeFirst_at (f : Entry → Entry) (skips : ∀ x ∈ before, p x = false) (picks : p h = true) :
    changeFirst p f (before ++ h :: after) = before ++ f h :: after := by
  induction before with
  | nil => exact if_pos picks
  | cons x xs ih =>
    have skipped : p x = false := skips x List.mem_cons_self
    rw [List.cons_append, changeFirst, if_neg (by simp [skipped]), ih fun y hy => skips y (List.mem_cons_of_mem _ hy)]
    rfl

theorem changeFirst_none (f : Entry → Entry) {es : List Entry} (skips : ∀ x ∈ es, p x = false) : changeFirst p f es = es := by
  induction es with
  | nil => rfl
  | cons x xs ih =>
    have skipped : p x = false := skips x List.mem_cons_self
    rw [changeFirst, if_neg (by simp [skipped]), ih fun y hy => skips y (List.mem_cons_of_mem _ hy)]

theorem eraseP_at (skips : ∀ x ∈ before, p x = false) (picks : p h = true) :
    (before ++ h :: after).eraseP p = before ++ after := by
  rw [List.eraseP_append_right _ fun x hx => by simp [skips x hx], List.eraseP_cons_of_pos picks]

theorem waiting_of (hs : e.state = .waiting) : e.waiting = true := decide_eq_true hs

theorem not_waiting_of (hs : e.state ≠ .waiting) : e.waiting = false := decide_eq_false hs

theorem reserveHead_cons (hs : h.state = .waiting) : reserveHead (h :: after) = { h with state := .reserved } :: after :=
  changeFirst_at (before := []) _ (by simp) (waiting_of hs)

-- an entry is started in a voice (R82)

/-- The Cue Engine once the list is `es`, its voice `v` carrying the entry started last. -/
def startedCue (c : Cue) (v : Voice) (es : List Entry) : Cue :=
  { c with
    entries := es
    voiceA := if v = .A then .carrying c.clock else c.voiceA
    voiceB := if v = .B then .carrying c.clock else c.voiceB
    clock := c.clock + 1
    goPending := false
    window := none }

theorem startIn_eq (found : s.cue.entries.find? p = some e) : startIn p v s = { soundEntry e v s with
    cue := startedCue s.cue v (changeFirst p (fun e => e.started v) s.cue.entries) } := by
  have cue : (soundEntry e v s).cue = s.cue := soundEntry_touches e v s .cue (by decide)
  simp only [startIn, found]
  cases v <;> simp only [State.setVoice, startedCue, cue] <;> rfl

theorem started_eq (v : Voice) (fresh : e.resume = none) : e.started v = Claims.startedIn v e := by
  rcases e with ⟨kind⟩
  obtain rfl := fresh
  cases kind <;> rfl

/-- What a voice's contributor holds once it is made to sound (R6). -/
theorem activated_fields (b : Binding) (gain n : Nat) : Contrib.activated b gain n =
    ⟨some b, gain, if n = 0 then gain else 0, none, if n = 0 then none else some ⟨gain, min n 500, .level⟩⟩ := by
  unfold Contrib.activated
  split <;> rfl

theorem source_eq (a : StreamSource) : a.source = Claims.streamSource a := by
  cases a <;> rfl

/-- A STREAM sounds its live source. -/
theorem soundEntry_stream {a : StreamSource} (kind : e.kind = .stream a) (closed : s.clips.reader (voiceReader v) = none) :
    soundEntry e v s = s.setContrib (voiceContributor v) (Claims.soundingOf (Claims.streamSource a) e) := by
  have sounds : soundEntry e v s = (closeReaderOf (voiceContributor v) s).setContrib (voiceContributor v)
      (.activated (.source a.source) e.level e.fadeIn) := by
    simp only [soundEntry, kind]
    cases v <;> rfl
  rw [sounds, closeReaderOf_closed closed, activated_fields, source_eq]
  rfl

/-- A GAP sounds nothing: its voice stays silent. -/
theorem soundEntry_gap (kind : e.kind = .gap) (silent : (s.contrib (voiceContributor v)).binding = none) : soundEntry e v s = s := by
  simp only [soundEntry, kind]
  exact cut_inactive silent

/-- The clips once a reader has opened on one of them. -/
def openedClips (cs : ClipStore) (n : ClipId) : Vector Clip 63 :=
  cs.playout.set n { cs.playout[n] with uses := (cs.playout[n]).uses + 1 }

/-- A CLIP's reader opens on it, at the ordinal that its resume position gives. -/
theorem soundEntry_clip {n : ClipId} (kind : e.kind = .clip n) (ready : (s.clips.playout[n]).state = .ready)
    (closed : s.clips.reader (voiceReader v) = none) : soundEntry e v s =
      ({ s with clips := { s.clips with playout := openedClips s.clips n } }.setReader (voiceReader v)
        (some ⟨.playout n, startOrdinal s.clips.playout[n] (e.resume.getD 0), false, false⟩)).setContrib (voiceContributor v)
          (.activated (.clip (.playout n)) e.level e.fadeIn) := by
  have sounds : soundEntry e v s = (openReader (voiceReader v) (.playout n) (e.resume.getD 0)
      (closeReader (voiceReader v) s)).setContrib (voiceContributor v) (.activated (.clip (.playout n)) e.level e.fadeIn) := by
    simp only [soundEntry, kind]
    cases v <;> exact if_pos ready
  have shut : closeReader (voiceReader v) s = s := by simp only [closeReader, closed]
  rw [sounds, shut]
  cases v <;> rfl

-- the head is started

theorem startEntry_item {n : Nat} (found : s.cue.entries.find? p = some e) (item : e.kind ≠ .mark) (pick : pickVoice s = some v)
    (free : (s.voice v).carries = false) : startEntry (n + 1) p s = startIn p v s := by
  unfold startEntry
  simp only [found, item, pick, if_false, takeVoice, free, Bool.false_eq_true]

theorem startEntry_none {n : Nat} (found : s.cue.entries.find? p = none) : startEntry n p s = s := by
  cases n <;> simp only [startEntry, found]

theorem startHead_item (list : s.cue.entries = before ++ h :: after) (ahead : ∀ x ∈ before, x.state ≠ .waiting)
    (head : h.state = .waiting) (item : h.kind ≠ .mark) (pick : pickVoice s = some v) (free : (s.voice v).carries = false) :
    startHead s = { soundEntry h v s with cue := startedCue s.cue v (before ++ h.started v :: after) } := by
  have skips : ∀ x ∈ before, x.waiting = false := fun x hx => not_waiting_of (ahead x hx)
  have found : s.cue.entries.find? Entry.waiting = some h := by rw [list]; exact find?_at skips (waiting_of head)
  rw [startHead, startEntry_item found item pick free, startIn_eq found, list, changeFirst_at _ skips (waiting_of head)]

/-- The head, a STREAM not resumed, is started in voice `v`. -/
theorem startHead_stream {a : StreamSource} (list : s.cue.entries = before ++ h :: after)
    (ahead : ∀ x ∈ before, x.state ≠ .waiting) (head : h.state = .waiting) (kind : h.kind = .stream a) (fresh : h.resume = none)
    (pick : pickVoice s = some v) (free : (s.voice v).carries = false) (closed : s.clips.reader (voiceReader v) = none) :
    startHead s = { s with
      mix := s.mix.set (voiceContributor v) (Claims.soundingOf (Claims.streamSource a) h)
      cue := startedCue s.cue v (before ++ Claims.startedIn v h :: after) } := by
  rw [startHead_item list ahead head (by rw [kind]; exact fun e => by cases e) pick free, soundEntry_stream kind closed,
    started_eq v fresh]
  rfl

theorem pickVoice_A (free : s.cue.voiceA = .free) : pickVoice s = some .A := if_pos free

theorem pickVoice_B (busy : s.cue.voiceA ≠ .free) (free : s.cue.voiceB = .free) : pickVoice s = some .B :=
  (if_neg busy).trans (if_pos free)

theorem carries_free {x : VoiceState} (h : x = .free) : x.carries = false := by rw [h]; rfl

theorem follows_playing {es : List Entry} (h : e ∈ es) (playing : e.state = .playing) : followList es = .playing := by
  rw [followList_eq, if_pos (List.any_eq_true.mpr ⟨e, h, decide_eq_true playing⟩)]

-- marks (R91)

theorem startEntry_mark {n : Nat} (found : s.cue.entries.find? p = some e) (mark : e.kind = .mark)
    {view : EngineState} (declined : NoneTakes .markOffer view s) : startEntry (n + 1) p s =
      if e.leadsOn then startEntry n Entry.waiting (itemEnded e (leaveMark p s)) else itemEnded e (leaveMark p s) := by
  have left := leaveMark_parts p s
  have taker : windowTaker .markOffer (leaveMark p s) = none := windowTaker_none (noneTakes_markOffer declined)
    (by rw [show (leaveMark p s).dev = s.dev from left .dev (by decide)])
    (by rw [show (leaveMark p s).alerts = s.alerts from left .alerts (by decide)])
    (by rw [show (leaveMark p s).alerts = s.alerts from left .alerts (by decide)]) rfl
  conv_lhs => unfold startEntry
  simp only [found, mark, if_true, taker]
where
  leaveMark_parts (p : Entry → Bool) (s : State) : Touches [.cue, .links] s (leaveMark p s) :=
    ((Touches.refl _ s).and (cue_touches _ s)).and (setEntries_touches _ _)

-- what a takeover tells of (R75, R92)

/-- What holding the engine tells of stays pending to the takeover's end. -/
theorem takeover_told {k : AlertSlot} {r : AlertRecord} {offer : Option Bool} {ev : Event} (record : s.record k = some r)
    (number : ev.number ∉ [0x32, 0x33]) (held : ∀ u, u.cue = s.cue → u.clips = s.clips → Pending .P ev (holdEngine offer u)) :
    Pending .P ev (takeover k offer s) := by
  have cue : (takeoverAir (airTaken k r s)).cue = s.cue :=
    ((Touches.refl [.alerts, .links, .sup, .panel] s).and (airTaken_parts k r s) |>.and (takeoverAir_touches _)) .cue (by decide)
  have clips : (takeoverAir (airTaken k r s)).clips = s.clips :=
    ((Touches.refl [.alerts, .links, .sup, .panel] s).and (airTaken_parts k r s) |>.and (takeoverAir_touches _)) .clips (by decide)
  rw [takeover_eq record]
  exact (silent (ns := []) (airBound_touches k r _ _)).pending
    ((emptySlots_raises .alert _).pending (held _ cue clips) number) (by simp)

theorem holdEngine_listEmpty {offer : Option Bool} (running : s.cue.state ≠ .held) (listed : s.cue.entries ≠ [])
    (left : heldEntries s.clips s.cue offer = []) : Pending .P .listEmpty (holdEngine offer s) := by
  let u := (endedBy s.cue).foldl (fun t e => itemEnded e t) (cutVoices s)
  have cue : u.cue.entries = s.cue.entries := by
    rw [show u.cue = (cutVoices s).cue from endings_touch _ _ .cue (by decide), cutVoices_cue]
  have told : Pending .P .listEmpty (setEntries (heldEntries s.clips s.cue offer) u) := by
    rw [left, setEntries_eq (by rw [cue]; exact listed), toldEmpty, if_pos rfl]
    exact pending_raised _ _ _
  rw [holdEngine, if_neg running]
  refine (raise_raises .P .engineHeld _).pending ?_ (by simp [Event.number])
  exact told

theorem endings_tell {es : List Entry} (last : es.getLast? = some e) (s : State) :
    Pending .P (.itemEnded e.tag) (es.foldl (fun t e => itemEnded e t) s) := by
  obtain ⟨before, rfl⟩ := List.getLast?_eq_some_iff.mp last
  rw [List.foldl_append]
  exact pending_raised _ _ _

/-- ITEM_ENDED keeps the tag of the last entry that a takeover ends. -/
theorem holdEngine_itemEnded {offer : Option Bool} (running : s.cue.state ≠ .held) (last : (endedBy s.cue).getLast? = some e) :
    Pending .P (.itemEnded e.tag) (holdEngine offer s) := by
  let u := (endedBy s.cue).foldl (fun t e => itemEnded e t) (cutVoices s)
  have told : Pending .P (.itemEnded e.tag) (setEntries (heldEntries s.clips s.cue offer) u) :=
    (setEntries_raises _ u).pending (endings_tell last _) (by simp [Event.number])
  rw [holdEngine, if_neg running]
  refine (raise_raises .P .engineHeld _).pending ?_ (by simp [Event.number])
  exact told

theorem takeover_listEmpty {k : AlertSlot} {r : AlertRecord} {offer : Option Bool} (record : s.record k = some r)
    (running : s.cue.state ≠ .held) (listed : s.cue.entries ≠ []) (left : heldEntries s.clips s.cue offer = []) :
    Pending .P .listEmpty (takeover k offer s) :=
  takeover_told record (by simp [Event.number]) fun u cue clips =>
    holdEngine_listEmpty (by rw [cue]; exact running) (by rw [cue]; exact listed) (by rw [cue, clips]; exact left)

theorem takeover_itemEnded {k : AlertSlot} {r : AlertRecord} {offer : Option Bool} (record : s.record k = some r)
    (running : s.cue.state ≠ .held) (last : (endedBy s.cue).getLast? = some e) :
    Pending .P (.itemEnded e.tag) (takeover k offer s) :=
  takeover_told record (by simp [Event.number]) fun u cue _ =>
    holdEngine_itemEnded (by rw [cue]; exact running) (by rw [cue]; exact last)

theorem takeover_engineHeld {k : AlertSlot} {r : AlertRecord} {offer : Option Bool} (record : s.record k = some r)
    (running : s.cue.state ≠ .held) : Pending .P .engineHeld (takeover k offer s) :=
  takeover_told record (by simp [Event.number]) fun u cue _ => holdEngine_engineHeld (by rw [cue]; exact running)

end Sys2Proof.StartedItems
end

section
/-! R84 to R86, R93, R97: CUE GO and CUE STOP, manual segues and the cancel window. -/

namespace Sys2Proof.GoAndStop

-- one thread: the check compiles under a limit on the process
set_option Elab.async false

open Sys2Proof.Machine Sys2Proof.Safety Sys2Proof.Laws Sys2Proof.TakenCommands Sys2Proof.EngineNotices Sys2Proof.EventKeeping
open Sys2Proof.ItemEnds Sys2Proof.FillEnds Sys2Proof.Takeovers Sys2Proof.StartedItems Sys2Proof.CueList

variable {l : Link} {s t : State} {v : Voice} {e h : Entry} {after : List Entry}

-- CUE GO in ARMED (R84)

theorem go_checks (taken : Takes l s) (link : l = .P ∨ l = .C) : failedCheck l 0x20 [] (frameComplete l s) = none :=
  checks_pass taken [.P, .C] (.exactly 0) rfl (by rcases link with rfl | rfl <;> rfl) rfl

theorem hasWaiting_none (h : ∀ e ∈ s.cue.entries, e.state ≠ .waiting) : s.cue.hasWaiting = false := by
  simpa [Cue.hasWaiting, Entry.waiting] using h

theorem hasWaiting_of (member : h ∈ s.cue.entries) (waits : h.state = .waiting) : s.cue.hasWaiting = true :=
  List.any_eq_true.mpr ⟨h, member, decide_eq_true waits⟩

/-- The engine once it has started an item in voice `v`, with no record taking the air at the notice. -/
def playingCue (c : Cue) (v : Voice) (es : List Entry) : Cue := { startedCue c v es with state := .playing }

theorem settle_started {was : EngineState} {es : List Entry} (cue : t.cue = startedCue s.cue v es) (member : e ∈ es)
    (playing : e.state = .playing) (running : s.cue.state ≠ .held) (notFilling : s.cue.state ≠ .filling)
    (changes : was ≠ .playing) (quiet : NoneTakes .ordinary .playing s) (device : t.dev.state = s.dev.state)
    (records : t.alerts.records = s.alerts.records) (queue : t.alerts.queue = s.alerts.queue) :
    settleFrom was t = { t with cue := playingCue s.cue v es, alerts := { t.alerts with view := .playing } } := by
  have follow : followList t.cue.entries = .playing := by rw [cue]; exact follows_playing member playing
  rw [settleFrom_quiet (by rw [cue]; exact running) (by rw [cue]; exact notFilling), follow, noticed, if_neg changes.symm]
  · have settled : settledCue t.cue = playingCue s.cue v es := by
      rw [settledCue, follow, cue]
      rfl
    rw [settled]
  · intro _
    rw [follow]
    exact noneTakes_of quiet device records queue

theorem goCue_held (h : s.cue.state = .held) : goCue s = .refuse .notNow := by simp only [goCue, h]

theorem goCue_idle (h : s.cue.state = .idle) : goCue s = .refuse .notFound := by simp only [goCue, h]

theorem goCue_armed (h : s.cue.state = .armed) : goCue s = .ok (settleFrom .armed (startHead s)) .none := by simp only [goCue, h]

theorem goCue_playing (h : s.cue.state = .playing) : goCue s =
    if s.cue.hasWaiting then .ok (settleFrom .playing (manualSegue s)) .none else .refuse .notFound := by simp only [goCue, h]

theorem goCue_filling (h : s.cue.state = .filling) : goCue s =
    if s.cue.hasWaiting then .ok (settleFrom .filling (startHead (endFallback .go (fadeFill s)))) .none
    else .refuse .notFound := by simp only [goCue, h]

/-- ARMED, with both voices free for the head: the engine starts it in VOICE A. -/
theorem go_armed (armed : s.cue.state = .armed) (list : s.cue.entries = h :: after) (head : h.state = .waiting)
    (item : h.kind ≠ .mark) (fresh : h.resume = none) (free : s.cue.voiceA = .free) (quiet : NoneTakes .ordinary .playing s) :
    goCue s = .ok { soundEntry h .A s with
      cue := playingCue s.cue .A (Claims.startedIn .A h :: after), alerts := { s.alerts with view := .playing } } .none := by
  have started := startHead_item (before := []) (v := .A) list (by simp) head item (pickVoice_A free) (carries_free free)
  have touched := soundEntry_touches h .A s
  have alerts : (soundEntry h .A s).alerts = s.alerts := touched .alerts (by decide)
  have dev : (soundEntry h .A s).dev = s.dev := touched .dev (by decide)
  rw [started_eq .A fresh] at started
  have settled := settle_started (s := s) (was := .armed) (t := startHead s) (v := .A) (e := Claims.startedIn .A h)
    (congrArg State.cue started) List.mem_cons_self rfl (by rw [armed]; decide) (by rw [armed]; decide) (by decide) quiet
    (by rw [started]; exact congrArg Device.state dev) (by rw [started]; exact congrArg Alerts.records alerts)
    (by rw [started]; exact congrArg Alerts.queue alerts)
  rw [goCue_armed armed, settled, started]
  exact congrArg (fun a : Alerts => Reply.ok { soundEntry h .A s with
    cue := playingCue s.cue .A (Claims.startedIn .A h :: after), alerts := { a with view := .playing } } .none) alerts

theorem goStartsTheHead : Claims.GoStartsTheHead := by
  intro l s link taken
  let s0 := frameComplete l s
  have checks := go_checks taken link
  refine ⟨fun held => ?_, fun state none_waits => ?_,
    fun e rest armed list head item fresh free quiet closed ready => ?_⟩
  · exact congrArg _ (command_refused taken checks (goCue_held held))
  · refine congrArg _ (command_refused taken checks ?_)
    have nothing : s0.cue.hasWaiting = false := hasWaiting_none (s := s0) none_waits
    rcases state with st | st | st
    · exact goCue_idle st
    · exact (goCue_playing (s := s0) st).trans (if_neg (by simp [nothing]))
    · exact (goCue_filling (s := s0) st).trans (if_neg (by simp [nothing]))
  · intro sound started began
    have goes := go_armed (s := s0) armed list head item fresh free quiet
    have startedFresh : Claims.startedIn .A e = started := by simp only [started, Claims.startedIn, fresh]
    have executed {clips : ClipStore} {x : Contrib} (sounds : soundEntry e .A s0 = { s0 with
        clips := clips, mix := { s.mix with voiceA := x } }) :
        exec (.cueGo l []) s = .next (answered l 0x20 .ok .none (began clips x)) := by
      refine congrArg _ (command_ok taken checks (goes.trans ?_))
      rw [sounds, startedFresh]
      rcases link with rfl | rfl <;> rfl
    refine ⟨fun n kind => executed ?_, fun kind => executed ?_, fun kind => executed ?_, fun kind silent => executed ?_⟩
    · rw [soundEntry_clip (s := s0) (v := .A) kind (ready n kind) closed, activated_fields, fresh]
      have first : startOrdinal s0.clips.playout[n] 0 = 0 := by
        unfold startOrdinal
        split
        · rfl
        · split
          · simp
          · omega
      rw [Option.getD_none, first]
      rfl
    · exact soundEntry_stream kind closed
    · exact soundEntry_stream kind closed
    · exact soundEntry_gap kind silent

-- CUE STOP (R86, R93)

theorem stopCue_playing (h : s.cue.state = .playing) : stopCue s = settleFrom .playing (stopEntries s) := by simp only [stopCue, h]

theorem stopCue_stays (h : s.cue.state = .idle ∨ s.cue.state = .armed ∨ s.cue.state = .filling) : stopCue s = s := by
  rcases h with h | h | h <;> simp only [stopCue, h]

/-- The held entries and the RESERVED one set back. -/
def setBackAll (es : List Entry) : List Entry := es.map fun e => if e.waiting then e else e.setBack

/-- The state left once the held entries are set back (R93). -/
def leftStopped (x : HeldRecord) (es : List Entry) : EngineState :=
  if x.stateLeft = .filling then .filling else followList (setBackAll es)

theorem stopCue_held {x : HeldRecord} (h : s.cue.state = .held) (held : s.cue.held = some x) : stopCue s = { s with cue := { s.cue with
    entries := setBackAll s.cue.entries
    held := some { x with stateLeft := leftStopped x s.cue.entries } } } := by
  simp only [stopCue, h, held]
  rfl

/-- The list once every PLAYING entry is back at its start. -/
theorem stopEntries_list (s : State) : (stopEntries s).cue.entries = s.cue.entries.map fun e => if e.playing then e.setBack else e :=
  rfl

theorem stopped_setBack (es : List Entry) : ∀ e ∈ es.map (fun e => if e.playing then e.setBack else e), e.state ≠ .playing := by
  intro e he
  obtain ⟨x, -, rfl⟩ := List.mem_map.mp he
  split
  · exact (by decide : EntryState.waiting ≠ .playing)
  · next stays => exact of_decide_eq_false (Bool.eq_false_iff.mpr stays)

theorem carried_congr (entries : t.cue.entries = s.cue.entries) (voice : t.voice v = s.voice v) : t.carried v = s.carried v := by
  rw [State.carried, State.carried, entries, voice]

theorem contrib_fadeOut_ne {c d : Contributor} (h : d ≠ c) (n : Nat) (s : State) : (fadeOut c n s).contrib d = s.contrib d := by
  have set_ne (x : Contrib) (s : State) : (s.setContrib c x).contrib d = s.contrib d := by
    cases c <;> cases d <;> first | rfl | exact absurd rfl h
  have closed : (closeReaderOf c s).contrib d = s.contrib d := by
    rw [State.contrib, State.contrib, closeReaderOf_touches c s .mix (by decide)]
  unfold fadeOut cut
  split
  · split
    · exact (set_ne _ _).trans closed
    · rfl
  · split
    · exact set_ne _ s
    · rfl

theorem voiceContributor_ne {v w : Voice} (h : w ≠ v) : voiceContributor w ≠ voiceContributor v := by
  cases v <;> cases w <;> first | exact absurd rfl h | decide

/-- Stopping one voice leaves the list, the clock, the other voice and its contributor. -/
theorem stopVoice_other {w : Voice} (h : w ≠ v) (s : State) : (stopVoice v s).voice w = s.voice w ∧
    (stopVoice v s).contrib (voiceContributor w) = s.contrib (voiceContributor w) ∧
    (stopVoice v s).cue.entries = s.cue.entries := by
  have same : s.voice w = s.voice w ∧ s.contrib (voiceContributor w) = s.contrib (voiceContributor w) ∧
    s.cue.entries = s.cue.entries := ⟨rfl, rfl, rfl⟩
  have released (n : Nat) : (releaseVoice v n s).voice w = s.voice w ∧
      (releaseVoice v n s).contrib (voiceContributor w) = s.contrib (voiceContributor w) ∧
      (releaseVoice v n s).cue.entries = s.cue.entries := by
    have cue := releaseVoice_cue v n s
    refine ⟨?_, ?_, ?_⟩
    · cases v <;> cases w <;> first | exact absurd rfl h | (simp only [State.voice, cue]; rfl)
    · have contributor := contrib_fadeOut_ne (voiceContributor_ne h) n s
      rw [← contributor, releaseVoice]
      cases v <;> rfl
    · rw [cue]
      cases v <;> rfl
  unfold stopVoice
  split
  · exact same
  · split
    · exact same
    · split
      · exact ⟨ItemEnds.voice_setVoice_ne h _ s, by cases v <;> rfl, by cases v <;> rfl⟩
      · exact released _

/-- The voice of an item with a fade-out fades. -/
theorem stopVoice_fades {i : Nat} (carried : s.carried v = some i) (entry : s.cue.entries[i]? = some e) (sounds : e.kind ≠ .gap)
    (fades : 0 < e.fadeOut) (active : (s.contrib (voiceContributor v)).binding.isSome = true) :
    (stopVoice v s).voice v = .releasing s.cue.clock ∧ (stopVoice v s).contrib (voiceContributor v) =
      { s.contrib (voiceContributor v) with waiting := some ⟨0, min e.fadeOut 500, .out⟩ } := by
  have nonzero : e.fadeOut ≠ 0 := by omega
  have fading : fadeOut (voiceContributor v) e.fadeOut s = s.setContrib (voiceContributor v)
      { s.contrib (voiceContributor v) with waiting := some ⟨0, min e.fadeOut 500, .out⟩ } :=
    (if_neg nonzero).trans (if_pos active)
  have stops : stopVoice v s = (s.setContrib (voiceContributor v)
      { s.contrib (voiceContributor v) with waiting := some ⟨0, min e.fadeOut 500, .out⟩ }).setVoice v (.releasing s.cue.clock) := by
    simp only [stopVoice, carried, entry, sounds, if_false, releaseVoice, fading, nonzero]
  rw [stops]
  cases v <;> exact ⟨rfl, rfl⟩

/-- CUE STOP's work on the voices. -/
theorem stopEntries_fades {i : Nat} (carried : s.carried v = some i) (entry : s.cue.entries[i]? = some e) (sounds : e.kind ≠ .gap)
    (fades : 0 < e.fadeOut) (active : (s.contrib (voiceContributor v)).binding.isSome = true) :
    (∃ o, (stopEntries s).voice v = .releasing o) ∧ (stopEntries s).contrib (voiceContributor v) =
      { s.contrib (voiceContributor v) with waiting := some ⟨0, min e.fadeOut 500, .out⟩ } := by
  have ends : (stopEntries s).voice v = (stopVoice .B (stopVoice .A s)).voice v ∧
      (stopEntries s).contrib (voiceContributor v) = (stopVoice .B (stopVoice .A s)).contrib (voiceContributor v) := by
    cases v <;> exact ⟨rfl, rfl⟩
  rw [ends.1, ends.2]
  cases v with
  | A =>
    obtain ⟨voice, contributor, -⟩ := stopVoice_other (v := .B) (w := .A) (by decide) (stopVoice .A s)
    obtain ⟨releasing, fading⟩ := stopVoice_fades carried entry sounds fades active
    exact ⟨⟨_, voice.trans releasing⟩, contributor.trans fading⟩
  | B =>
    obtain ⟨voice, contributor, entries⟩ := stopVoice_other (v := .A) (w := .B) (by decide) s
    obtain ⟨releasing, fading⟩ := stopVoice_fades (s := stopVoice .A s) (v := .B) ((carried_congr entries voice).trans carried)
      (by rw [entries]; exact entry) sounds fades (by rw [contributor]; exact active)
    exact ⟨⟨_, releasing⟩, fading.trans (by rw [contributor])⟩

theorem stopSetsEntriesBack : Claims.StopSetsEntriesBack := by
  intro l s link taken
  let s0 := frameComplete l s
  have checks := stop_checks taken link
  refine ⟨fun stays => congrArg _ (command_ok taken checks ?_), fun playing quiet listed => ?_⟩
  · exact congrArg (Reply.ok · .none) (stopCue_stays (s := s0) stays)
  · let u := stopEntries s0
    have touched := stopEntries_parts s0
    have state : u.cue.state = .playing := (stopEntries_state s0).trans playing
    have follow : followList u.cue.entries = .armed := by
      refine (followList_stopped (stopped_setBack s.cue.entries)).trans (if_neg ?_)
      exact fun empty => listed (List.map_eq_nil_iff.mp empty)
    have alerts : u.alerts = s.alerts := touched .alerts (by decide)
    have dev : u.dev = s.dev := touched .dev (by decide)
    have settled := settleFrom_quiet (s := u) (was := .playing) (by rw [state]; decide) (by rw [state]; decide) fun _ => by
      rw [follow]
      exact noneTakes_of quiet (by rw [dev]) (by rw [alerts]) (by rw [alerts])
    rw [follow] at settled
    have executed : exec (.cueStop l []) s = .next (respond l 0x21 .ok .none (settleFrom .playing u)) := by
      refine congrArg _ ((command_taken taken _ checks).trans ?_)
      show conclude l 0x21 s0 (.ok (stopCue s0) .none) = _
      rw [stopCue_playing (s := s0) playing]
      rfl
    rw [settled] at executed
    refine ⟨_, executed, ?_, follow, rfl, rfl, ?_, fun v i o carried _ e entry sounds fades active => ?_, ?_⟩
    · rw [respond, link_modLink]
    · show s.cue.entries.map _ = _
      refine List.map_congr_left fun e _ => ?_
      by_cases plays : e.state = .playing <;> simp [Entry.playing, plays, Entry.setBack]
    · have carried' : s0.carried v = some i := by
        rw [← carried]
        cases v <;> rfl
      have fade := stopEntries_fades (s := s0) carried' entry sounds fades active
      cases v <;> exact fade
    · exact ⟨touched .mem (by decide), touched .delay (by decide), touched .callers (by decide), touched .sup (by decide),
        touched .tx (by decide), touched .prof (by decide), touched .panel (by decide)⟩

theorem stopInHeld : Claims.StopInHeld := by
  intro l x s link taken state held
  refine congrArg _ (command_ok taken (stop_checks taken link) (congrArg (Reply.ok · .none) ?_))
  rw [stopCue_held (s := frameComplete l s) state held]
  have list : setBackAll s.cue.entries = s.cue.entries.map fun e =>
      if e.state = .waiting then e else { e with
        state := .waiting, ending := false, successorStarted := false, played := 0, resume := none, voice := none
        released := false } := by
    refine List.map_congr_left fun e _ => ?_
    by_cases waits : e.state = .waiting <;> simp [Entry.waiting, waits, Entry.setBack]
  have follow : followList (setBackAll s.cue.entries) = if s.cue.entries = [] then .idle else .armed := by
    rw [followList_stopped, stoppedState]
    · simp only [setBackAll, List.map_eq_nil_iff]
    · intro e he
      obtain ⟨y, -, rfl⟩ := List.mem_map.mp he
      split
      · next waits => rw [of_decide_eq_true waits]; decide
      · exact (by decide : EntryState.waiting ≠ .playing)
  rw [leftStopped]
  show ({ frameComplete l s with cue := { s.cue with
    entries := setBackAll s.cue.entries
    held := some { x with stateLeft := if x.stateLeft = .filling then .filling else followList (setBackAll s.cue.entries) } } } : State) = _
  rw [follow, list]
  rfl

-- the cancel window (R97)

theorem panelAction_ok {n : PanelLineNo} {on : Bool} {f : PanelFunction} {r : Result} (function : (s.panelConfig n).function = f)
    (owner : panelOwner f on s = .ok t r) : panelAction n on s = t := by
  simp only [panelAction, function, owner]

theorem panelAction_refused {n : PanelLineNo} {on : Bool} {f : PanelFunction} {c : Status} (function : (s.panelConfig n).function = f)
    (owner : panelOwner f on s = .refuse c) : panelAction n on s = raise .C (.panelRefused n c) s := by
  simp only [panelAction, function, owner]

theorem cancelWindowsClose : Claims.CancelWindowsClose := by
  refine ⟨fun w s found window reached => ?_, ?_⟩
  · have due : stillDue { s with due := s.due.erase .cancelWindowClose } .cancelWindowClose = true := by
      simp only [stillDue, window]
      exact decide_eq_true reached
    refine congrArg _ ((takeRow_found found due).trans ?_)
    simp only [happen, closeWindow, window, reached, if_true]
  · intro n v count before after e s function window playing list plays voiced others quiet active closed
    let t := (s.setContrib (voiceContributor v) (s.contrib (voiceContributor v)).inactive).setVoice v .free
    let es := s.cue.entries.map fun x => if x.playing && decide (x.voice = some v) then x.setBack else x
    let u : State := { t with cue := { t.cue with entries := es, window := none } }
    have cutOff : cut (voiceContributor v) s = s.setContrib (voiceContributor v) (s.contrib (voiceContributor v)).inactive := by
      rw [cut_active active, closeReaderOf_closed closed]
    have edge : goEdge s = .ok (settleFrom .playing u) .none := by
      have unfolded : goEdge s = .ok (settleFrom s.cue.state { (cut (voiceContributor v) s).setVoice v .free with
          cue := { ((cut (voiceContributor v) s).setVoice v .free).cue with entries := es, window := none } }) .none := by
        simp only [goEdge, window]
        rfl
      rw [unfolded, cutOff, playing]
    have stays (x : Entry) (hx : x ∈ before ++ after) : (if x.playing && decide (x.voice = some v) then x.setBack else x) = x := by
      have idle : x.playing = false := decide_eq_false (others x hx)
      simp [idle]
    have back : es = before ++ e.setBack :: after := by
      show s.cue.entries.map _ = _
      rw [list, List.map_append, List.map_cons]
      have now : (if e.playing && decide (e.voice = some v) then e.setBack else e) = e.setBack := by
        simp [Entry.playing, plays, voiced]
      rw [now]
      congr 1
      · exact (List.map_congr_left (g := id) fun x hx => stays x (List.mem_append_left _ hx)).trans (List.map_id _)
      · exact congrArg _ ((List.map_congr_left (g := id) fun x hx => stays x (List.mem_append_right _ hx)).trans (List.map_id _))
    have cue : u.cue = { t.cue with entries := before ++ e.setBack :: after, window := none } := by
      rw [← back]
    have state : u.cue.state = .playing := by
      rw [cue]
      cases v <;> exact playing
    have follow : followList u.cue.entries = .armed := by
      rw [cue]
      refine (followList_stopped fun x hx => ?_).trans (if_neg (by simp))
      rcases List.mem_append.mp hx with hx | hx
      · exact others x (List.mem_append_left _ hx)
      · rcases List.mem_cons.mp hx with rfl | hx
        · exact (by decide : EntryState.waiting ≠ .playing)
        · exact others x (List.mem_append_right _ hx)
    have waits : u.cue.hasWaiting = true := hasWaiting_of (h := e.setBack) (by rw [cue]; simp) rfl
    have settled := settleFrom_quiet (s := u) (was := .playing) (by rw [state]; decide) (by rw [state]; decide) fun _ => by
      rw [follow]
      cases v <;> exact noneTakes_of quiet rfl rfl rfl
    refine (panelAction_ok function (by exact edge)).trans ?_
    rw [settled, settledCue, follow, waits, Bool.and_true, cue]
    cases v <;> rfl

-- manual segues (R85)

/-- A notice that finds the engine's state as the list has it changes nothing. -/
theorem settleFrom_same (playing : s.cue.state = .playing) (member : e ∈ s.cue.entries) (plays : e.state = .playing)
    (go : s.cue.goPending = true → s.cue.hasWaiting = true) : settleFrom .playing s = s := by
  have follow : followList s.cue.entries = .playing := follows_playing member plays
  have pending : (s.cue.goPending && s.cue.hasWaiting) = s.cue.goPending := by
    cases hp : s.cue.goPending
    · rfl
    · rw [go hp]; rfl
  rw [settleFrom_quiet (by rw [playing]; decide) (by rw [playing]; decide) fun changes => absurd follow changes, follow, noticed, if_pos rfl,
    settledCue, follow, pending, ← playing]

theorem fadeOut_active {c : Contributor} {n : Nat} (fades : 0 < n) (active : (s.contrib c).binding.isSome = true) :
    fadeOut c n s = s.setContrib c { s.contrib c with waiting := some ⟨0, min n 500, .out⟩ } :=
  (if_neg (by omega)).trans (if_pos active)

theorem manualSegue_pending (h : s.cue.goPending = true) : manualSegue s = s := by
  simp only [manualSegue, h, if_true]

/-- The engine once the present item, at the head of the list, has its ending mark. -/
def segueing (e h : Entry) (after : List Entry) (s : State) : State := { s with cue := { s.cue with
  entries := { e with ending := true, successorStarted := true } :: h :: after
  goPending := s.cue.boundaryWait } }

/-- The present item begins its end, or ends when it has no fade-out. -/
def segued (e : Entry) (v : Voice) (m : State) : State :=
  if e.fadeOut = 0 then endItem v m else fadeOut (voiceContributor v) e.fadeOut m

theorem manualSegue_present (list : s.cue.entries = e :: h :: after) (noGo : s.cue.goPending = false) (plays : e.state = .playing)
    (notEnding : e.ending = false) (voiced : e.voice = some v) : manualSegue s =
      if s.cue.boundaryWait ∨ (segued e v (segueing e h after s)).cue.state = .held then segued e v (segueing e h after s)
      else startHead (segued e v (segueing e h after s)) := by
  have present : presentItem e = true := by simp [presentItem, Entry.playing, plays, notEnding]
  have found : s.cue.entries.find? presentItem = some e := by rw [list]; exact find?_at (before := []) (by simp) present
  have changed : changeFirst presentItem (fun e => { e with ending := true, successorStarted := true }) s.cue.entries =
      { e with ending := true, successorStarted := true } :: h :: after := by
    rw [list]
    exact changeFirst_at (before := []) _ (by simp) present
  rw [manualSegue, noGo, found, changed]
  simp only [segued, segueing, voiced, Bool.false_eq_true, if_false]

theorem manualSegue_waits (list : s.cue.entries = e :: h :: after) (noGo : s.cue.goPending = false) (plays : e.state = .playing)
    (notEnding : e.ending = false) (voiced : e.voice = some v) (wait : s.cue.boundaryWait = true)
    (marked : segued e v (segueing e h after s) = t) : manualSegue s = t := by
  rw [manualSegue_present list noGo plays notEnding voiced, marked, if_pos (.inl wait)]

theorem manualSegue_starts (list : s.cue.entries = e :: h :: after) (noGo : s.cue.goPending = false) (plays : e.state = .playing)
    (notEnding : e.ending = false) (voiced : e.voice = some v) (wait : s.cue.boundaryWait = false)
    (marked : segued e v (segueing e h after s) = t) (running : t.cue.state ≠ .held) : manualSegue s = startHead t := by
  rw [manualSegue_present list noGo plays notEnding voiced, marked, if_neg]
  rintro (w | held)
  · rw [wait] at w
    cases w
  · exact running held

theorem manualSegues : Claims.ManualSegues := by
  intro l o e h a b rest s link taken playing list plays notEnding voiced kind head headKind voiceA voiceB active closedA closedB fresh
  intro went ended fading
  let s0 := frameComplete l s
  have checks := go_checks taken link
  have waits : s0.cue.hasWaiting = true := hasWaiting_of (h := h) (by rw [show s0.cue.entries = _ from list]; simp) head
  have goes {t u : State} (segue : manualSegue s0 = u) (settled : settleFrom .playing u = frameComplete l t) : went t := by
    refine congrArg _ (command_ok taken checks (((goCue_playing (s := s0) playing).trans (if_pos waits)).trans ?_))
    rw [segue, settled]
  have running {t : State} (h : t.cue.state = s.cue.state) : t.cue.state ≠ .held := by rw [h, playing]; decide
  have fades (long : 0 < e.fadeOut) : segued e .A (segueing e h rest s0) = (segueing e h rest s0).setContrib .voiceA fading :=
    (if_neg (Nat.pos_iff_ne_zero.mp long)).trans (fadeOut_active (s := segueing e h rest s0) (c := .voiceA) long active)
  have busy : s0.cue.voiceA ≠ .free := by rw [show s0.cue.voiceA = .carrying o from voiceA]; exact fun e => by cases e
  refine ⟨fun go => ?_, fun noGo wait long => ?_, fun noGo wait long => ?_, fun noGo wait short declined => ?_⟩
  · exact goes (manualSegue_pending (s := s0) go) (settleFrom_same (s := s0) (e := e) playing
      (by rw [show s0.cue.entries = _ from list]; simp) plays fun _ => waits)
  · let t := (segueing e h rest s0).setContrib .voiceA fading
    refine goes (u := t) (manualSegue_waits (s := s0) list noGo plays notEnding voiced wait (fades long)) ?_
    · refine (settleFrom_same (s := t) (e := ended) playing List.mem_cons_self plays fun _ =>
        hasWaiting_of (s := t) (h := h) (List.mem_cons_of_mem _ List.mem_cons_self) head).trans ?_
      show ({ s0 with
        mix := { s.mix with voiceA := fading }
        cue := { s.cue with entries := ended :: h :: rest, goPending := s.cue.boundaryWait } } : State) = _
      rw [wait]
      rcases link with rfl | rfl <;> rfl
  · let t := (segueing e h rest s0).setContrib .voiceA fading
    have started : startHead t = { t with
        mix := t.mix.set .voiceB (Claims.soundingOf (Claims.streamSource b) h)
        cue := startedCue t.cue .B ([ended] ++ Claims.startedIn .B h :: rest) } := by
      refine startHead_stream (s := t) (v := .B) (before := [ended]) rfl ?_ head headKind fresh (pickVoice_B busy voiceB)
        (carries_free voiceB) closedB
      intro x hx
      rw [List.mem_singleton.mp hx]
      show e.state ≠ .waiting
      rw [plays]
      decide
    refine goes (u := startHead t) (manualSegue_starts (s := s0) list noGo plays notEnding voiced wait (fades long)
      (running (t := t) rfl)) ?_
    · rw [started]
      refine (settleFrom_same (s := { t with
        mix := t.mix.set .voiceB (Claims.soundingOf (Claims.streamSource b) h)
        cue := startedCue t.cue .B ([ended] ++ Claims.startedIn .B h :: rest) }) (e := ended) playing List.mem_cons_self plays
        fun go => absurd go Bool.false_ne_true).trans (Eq.trans ?_ (congrArg (fun go => frameComplete l { s with
          mix := { s.mix with voiceA := fading, voiceB := Claims.soundingOf (Claims.streamSource b) h }
          cue := { s.cue with
            entries := ended :: Claims.startedIn .B h :: rest, goPending := go
            voiceB := .carrying s.cue.clock, clock := s.cue.clock + 1, window := none } }) noGo.symm))
      rcases link with rfl | rfl <;> rfl
  · let m := segueing e h rest s0
    have carried : m.carried .A = some 0 := carried_of (before := []) (s := m) (e := ended) voiceA rfl plays voiced (by simp)
    have entry : m.cue.entries[0]? = some ended := rfl
    have left : leaveVoice .A m = raise .P (.itemEnded e.tag)
        { s0 with mix := { s.mix with voiceA := s.mix.voiceA.inactive }, cue := leftCue m.cue .A 0 } := by
      have cutOff : cut (voiceContributor .A) m = { m with mix := { s.mix with voiceA := s.mix.voiceA.inactive } } := by
        rw [cut_active (by exact active), closeReaderOf_closed (by exact closedA)]
        rfl
      rw [leaveVoice_eq carried entry, cutOff, releaseClaim_plain (by intro n; rw [show ended.kind = .stream a from kind]; exact fun e => by cases e)]
      rfl
    let t := raise .P (.itemEnded e.tag) { s0 with mix := { s.mix with voiceA := s.mix.voiceA.inactive }, cue := leftCue m.cue .A 0 }
    have item : endItem .A m = t := by
      have noLead : (m.cue.goPending || ended.leadsOn) = false := by
        have go : m.cue.goPending = false := wait
        simp [go, Entry.leadsOn, ended]
      rw [endItem_declined carried entry (view := .playing) (s := m) (by exact declined), noLead]
      exact left
    have started : startHead t = { t with
        mix := t.mix.set .voiceA (Claims.soundingOf (Claims.streamSource b) h)
        cue := startedCue t.cue .A ([] ++ Claims.startedIn .A h :: rest) } :=
      startHead_stream (s := t) (v := .A) (before := []) rfl (by simp) head headKind fresh (pickVoice_A rfl) rfl closedA
    refine goes (u := startHead t) (manualSegue_starts (s := s0) list noGo plays notEnding voiced wait
      ((if_pos short).trans item) (running (t := t) rfl)) ?_
    · rw [started]
      refine (settleFrom_same (s := { t with
        mix := t.mix.set .voiceA (Claims.soundingOf (Claims.streamSource b) h)
        cue := startedCue t.cue .A ([] ++ Claims.startedIn .A h :: rest) }) (e := Claims.startedIn .A h) playing
        List.mem_cons_self rfl fun go => absurd go Bool.false_ne_true).trans (Eq.trans ?_ (congrArg (fun go =>
        frameComplete l (raise .P (.itemEnded e.tag) { s with
          mix := { s.mix with voiceA := Claims.soundingOf (Claims.streamSource b) h }
          cue := { s.cue with
            entries := Claims.startedIn .A h :: rest, goPending := go
            voiceA := .carrying s.cue.clock, clock := s.cue.clock + 1, window := none } })) noGo.symm))
      rcases link with rfl | rfl <;> rfl

end Sys2Proof.GoAndStop
end

section
/-! R91, R97, R167: CUE GO out of FILLING, MARKs, and the cancel window that CUE GO opens. -/

namespace Sys2Proof.GoAndStop

-- one thread: the check compiles under a limit on the process
set_option Elab.async false

open Sys2Proof.Machine Sys2Proof.Safety Sys2Proof.Laws Sys2Proof.TakenCommands Sys2Proof.EngineNotices Sys2Proof.EventKeeping
open Sys2Proof.ItemEnds Sys2Proof.FillEnds Sys2Proof.Takeovers Sys2Proof.StartedItems Sys2Proof.CueList
open Sys2Proof.FadeSteps

variable {l : Link} {s t : State} {v : Voice} {e h : Entry} {after : List Entry}

-- CUE GO from FILLING (R84, R167)

/-- CUE GO's notice ends FALLBACK: the air mode, the panel and FALLBACK_LEFT. -/
theorem endFallback_go (mode : s.sup.mode = some .fallback) : endFallback .go s = raise .C (.fallbackLeft .go) { s with
    sup := { s.sup with mode := some .normal, counter := 0 }
    panel := { s.panel with reports := { s.panel.reports with fallback := false } } } := by
  simp only [endFallback, mode, if_true]
  rfl

/-- The state in which the fill has been faded out and FALLBACK ended. -/
def fillLeft (s : State) : State := raise .C (.fallbackLeft .go) { s with
  mix := { s.mix with voiceA := { s.mix.voiceA with waiting := some ⟨0, min s.sup.settings.fade 500, .out⟩ } }
  cue := { s.cue with voiceA := .releasing s.cue.clock, clock := s.cue.clock + 1, state := followList s.cue.entries }
  sup := { s.sup with mode := some .normal, counter := 0 }
  panel := { s.panel with reports := { s.panel.reports with fallback := false } } }

theorem fillLeft_eq (mode : s.sup.mode = some .fallback) (fills : s.cue.voiceA = .filling)
    (active : s.mix.voiceA.binding.isSome = true) (fades : 0 < s.sup.settings.fade) :
    endFallback .go (fadeFill s) = fillLeft s := by
  have faded : fadeFill s = { s with
      mix := { s.mix with voiceA := { s.mix.voiceA with waiting := some ⟨0, min s.sup.settings.fade 500, .out⟩ } }
      cue := { s.cue with voiceA := .releasing s.cue.clock, clock := s.cue.clock + 1, state := followList s.cue.entries } } := by
    rw [fadeFill_eq, fillReleased_fading fills active fades]
  rw [faded]
  exact endFallback_go mode

theorem fillsGiveWayToGo : Claims.FillsGiveWayToGo := by
  intro l h b rest s link taken onAir mode filling fills freeB active fades closedB list head kind fresh quiet
  let s0 := frameComplete l s
  let u := fillLeft s0
  have waits : s0.cue.hasWaiting = true := hasWaiting_of (h := h) (by rw [show s0.cue.entries = _ from list]; simp) head
  have left : endFallback .go (fadeFill s0) = u := fillLeft_eq (s := s0) mode fills active fades
  have started : startHead u = { u with
      mix := u.mix.set .voiceB (Claims.soundingOf (Claims.streamSource b) h)
      cue := startedCue u.cue .B ([] ++ Claims.startedIn .B h :: rest) } :=
    startHead_stream (s := u) (v := .B) (before := []) list (by simp) head kind fresh
      (pickVoice_B (fun e => by cases e) freeB) (carries_free freeB) closedB
  have listed : followList s.cue.entries = .playing ∨ followList s.cue.entries = .armed := by
    rcases followList_cases s.cue.entries with p | i | a
    · exact .inl p
    · rw [followList_eq, list] at i
      split at i
      · cases i
      · simp at i
    · exact .inr a
  have running : u.cue.state ≠ .held ∧ u.cue.state ≠ .filling := by
    have state : u.cue.state = followList s.cue.entries := rfl
    rw [state]
    rcases listed with p | p <;> rw [p] <;> exact ⟨by decide, by decide⟩
  have settled := settle_started (s := u) (was := .filling) (t := startHead u) (v := .B) (e := Claims.startedIn .B h)
    (congrArg State.cue started) List.mem_cons_self rfl running.1 running.2 (by decide) (noneTakes_of quiet rfl rfl rfl)
    (by rw [started]) (by rw [started]) (by rw [started])
  have executed : exec (.cueGo l []) s = .next (respond l 0x20 .ok .none (settleFrom .filling (startHead u))) := by
    refine congrArg _ ((command_taken taken _ (go_checks taken link)).trans ?_)
    show conclude l 0x20 s0 (goCue s0) = _
    rw [goCue_filling (s := s0) filling, if_pos waits, left]
    rfl
  rw [settled, started] at executed
  refine ⟨_, executed, ?_, rfl, rfl, ⟨_, rfl⟩, ⟨_, rfl⟩, rfl, rfl, rfl, ?_, rfl, rfl⟩
  · rw [respond, link_modLink]
  · exact (respond_raises (ns := []) l _ _ _ _).pending (pending_raised .C (.fallbackLeft .go) _) (by simp)

-- the window that CUE GO opens (R97)

theorem goEdge_refused {c : Status} (window : s.cue.window = none) (refused : goCue s = .refuse c) : goEdge s = .refuse c := by
  simp only [goEdge, window, refused]

theorem goEdge_opens {r : Result} (window : s.cue.window = none) (goes : goCue s = .ok t r) (starts : t.startedSince s.cue.clock = some v)
    (running : t.cue.state ≠ .held) : goEdge s =
      .ok (if t.panel.settings.cancelWindow = 0 then t else { t with cue := { t.cue with window := some ⟨v, 0⟩ } }) r := by
  simp only [goEdge, window, goes, starts, running, false_or]
  split <;> rfl

theorem windowsOpen : Claims.WindowsOpen := by
  refine ⟨fun n h b rest s function window => ⟨fun idle => ?_, fun held => ?_, ?_⟩, ?_⟩
  · exact panelAction_refused function (goEdge_refused window (goCue_idle idle))
  · exact panelAction_refused function (goEdge_refused window (goCue_held held))
  · intro armed list head kind fresh free closed quiet
    have goes := go_armed armed list head (by rw [kind]; exact fun e => by cases e) fresh free quiet
    rw [soundEntry_stream (v := .A) kind closed] at goes
    have starts : State.startedSince { s.setContrib (voiceContributor .A) (Claims.soundingOf (Claims.streamSource b) h) with
        cue := playingCue s.cue .A (Claims.startedIn .A h :: rest), alerts := { s.alerts with view := .playing } } s.cue.clock =
        some .A := by
      refine List.find?_cons_of_pos ?_
      exact decide_eq_true (Nat.le_refl _)
    have edge := goEdge_opens window goes starts (by exact (by decide : EngineState.playing ≠ .held))
    refine (panelAction_ok function (by exact edge)).trans ?_
    by_cases zero : s.panel.settings.cancelWindow = 0
    · rw [if_pos (by exact zero), if_pos zero]
      rfl
    · rw [if_neg (by exact zero), if_neg zero]
      rfl
  · intro env s live due first leave a b t capture tone panel
    have idle : IdleBoundary env s := ⟨first, leave, due, a, b, t, capture, tone, panel⟩
    refine ⟨_, idle.exec live, ?_⟩
    have events : (Boundaries.inputEvents env (Boundaries.inputRest env (formedAt env s))).cue =
        (Boundaries.inputRest env (formedAt env s)).cue := idle.events .cue (by decide)
    rw [events]
    have counted : (countMeasure (countCaptured (runCaptures env.captures (useFormed (formedAt env s))))).cue = s.cue := by
      have counts : Touches [.mem, .delay, .alerts, .clips, .links, .due, .callers] (formedAt env s)
          (countMeasure (countCaptured (runCaptures env.captures (useFormed (formedAt env s))))) :=
        (((((Touches.refl _ _).and (useFormed_touches _)).and (runCaptures_touches _ _)).and (countCaptured_touches _)).and
          (countMeasure_touches _))
      have kept : (countMeasure (countCaptured (runCaptures env.captures (useFormed (formedAt env s))))).cue = (formedAt env s).cue :=
        counts .cue (by decide)
      rw [kept, idle.formed]
      exact BlockForming.completed_touches env _ .cue (by decide)
    exact congrArg (fun c : Cue => c.window.map fun w => { w with count := w.count + 1 }) counted

-- MARKs (R91)

/-- The engine once a MARK at the head has left the list. -/
def markLeft (rest : List Entry) (s : State) : State := { s with cue := { s.cue with entries := rest, goPending := false } }

theorem leaveMark_head {m : Entry} {before rest : List Entry} (list : s.cue.entries = before ++ m :: rest)
    (ahead : ∀ x ∈ before, x.state ≠ .waiting) (head : m.state = .waiting) :
    leaveMark Entry.waiting s = toldEmpty (before ++ rest) (markLeft (before ++ rest) s) := by
  have left : s.cue.entries.eraseP Entry.waiting = before ++ rest := by
    rw [list]
    exact eraseP_at (fun x hx => not_waiting_of (ahead x hx)) (waiting_of head)
  rw [leaveMark, left]
  exact setEntries_eq (s := { s with cue := { s.cue with goPending := false } }) (by
    show s.cue.entries ≠ []
    rw [list]
    simp)

theorem leaveMark_touched (p : Entry → Bool) (s : State) : Touches [.cue, .links] s (leaveMark p s) :=
  ((Touches.refl _ s).and (cue_touches _ s)).and (setEntries_touches _ _)

/-- A MARK, its offer declined, has left the list with ITEM_ENDED. -/
def markEnded (tag : Option Nat) (rest : List Entry) (s : State) : State :=
  raise .P (.itemEnded tag) (toldEmpty rest (markLeft rest s))

theorem itemEnded_plain (plain : ∀ n, e.kind ≠ .clip n) (s : State) : itemEnded e s = raise .P (.itemEnded e.tag) s := by
  rw [itemEnded, releaseClaim_plain plain]

theorem mark_plain (mark : e.kind = .mark) (n : ClipId) : e.kind ≠ .clip n := by
  rw [mark]
  exact fun e => by cases e

theorem mark_declined {m : Entry} {rest : List Entry} {view : EngineState} (list : s.cue.entries = m :: rest) (mark : m.kind = .mark)
    (head : m.state = .waiting) (declined : NoneTakes .markOffer view s) : startHead s =
      if m.leadsOn then startEntry s.cue.entries.length Entry.waiting (markEnded m.tag rest s) else markEnded m.tag rest s := by
  have found : s.cue.entries.find? Entry.waiting = some m := by
    rw [list]
    exact find?_at (before := []) (by simp) (waiting_of head)
  rw [startHead, startEntry_mark found mark declined, itemEnded_plain (mark_plain mark),
    leaveMark_head (before := []) list (by simp) head]
  rfl

theorem markEnded_parts (tag : Option Nat) (rest : List Entry) (s : State) : Touches [.cue, .links] s (markEnded tag rest s) :=
  (((Touches.refl _ s).and (cue_touches _ s)).and (toldEmpty_touches rest _)).and (raise_touches _ _ _)

theorem markEnded_cue (tag : Option Nat) (rest : List Entry) (s : State) :
    (markEnded tag rest s).cue = { s.cue with entries := rest, goPending := false } :=
  (toldEmpty_touches rest (markLeft rest s) .cue (by decide) : _)

theorem markEnded_pending (tag : Option Nat) (rest : List Entry) (s : State) :
    Pending .P (.itemEnded tag) (markEnded tag rest s) ∧ (rest = [] → Pending .P .listEmpty (markEnded tag rest s)) := by
  refine ⟨pending_raised _ _ _, fun empty => ?_⟩
  refine (raise_raises .P (.itemEnded tag) _).pending ?_ (by simp [Event.number])
  rw [toldEmpty, if_pos empty]
  exact pending_raised _ _ _

/-- A MARK's offer taken: the takeover, and then the MARK's end (R91, R92). -/
theorem mark_taken {m : Entry} {k : AlertSlot} {n : Nat} (found : s.cue.entries.find? Entry.waiting = some m)
    (mark : m.kind = .mark) (taker : windowTaker .markOffer (leaveMark Entry.waiting s) = some k) :
    startEntry (n + 1) Entry.waiting s =
      raise .P (.itemEnded m.tag) (takeover k (some m.leadsOn) (leaveMark Entry.waiting s)) := by
  conv_lhs => unfold startEntry
  simp only [found, mark, if_true, taker]
  exact itemEnded_plain (mark_plain mark) _

theorem marksMakeOffers : Claims.MarksMakeOffers := by
  intro m rest s taken armed list mark head waits
  let s0 := frameComplete .P s
  have list0 : s0.cue.entries = m :: rest := list
  have executed : exec (.cueGo .P []) s = .next (respond .P 0x20 .ok .none (settleFrom .armed (startHead s0))) := by
    refine congrArg _ ((command_taken taken _ (go_checks taken (.inl rfl))).trans ?_)
    show conclude .P 0x20 s0 (goCue s0) = _
    rw [goCue_armed (s := s0) armed]
    rfl
  have stopped : ∀ e ∈ rest, e.state ≠ .playing := fun e he => by rw [waits e he]; decide
  let u := markEnded m.tag rest s0
  have cue : u.cue = { s.cue with entries := rest, goPending := false } := markEnded_cue _ _ _
  have alerts : u.alerts = s.alerts := markEnded_parts _ _ s0 .alerts (by decide)
  have dev : u.dev = s.dev := markEnded_parts _ _ s0 .dev (by decide)
  have mix : u.mix = s.mix := markEnded_parts _ _ s0 .mix (by decide)
  have clips : u.clips = s.clips := markEnded_parts _ _ s0 .clips (by decide)
  have state : u.cue.state = .armed := by rw [cue]; exact armed
  have told := markEnded_pending m.tag rest s0
  intro left
  refine ⟨fun declined plain quiet => ?_, fun h after b declined segue notStarted next kind fresh free closed quiet => ?_,
    fun k r takes record notStarted => ?_⟩
  · have started : startHead s0 = u := by
      rw [mark_declined (s := s0) (view := .armed) list0 mark head (by exact declined), if_neg (by simp [Entry.leadsOn, plain])]
    have follow : followList u.cue.entries = stoppedState rest := by rw [cue]; exact followList_stopped stopped
    have settled := settleFrom_quiet (s := u) (was := .armed) (by rw [state]; decide) (by rw [state]; decide) fun changes => by
      rw [follow] at changes ⊢
      rcases stoppedState_cases rest with i | a
      · rw [i]
        exact noneTakes_of quiet (by rw [dev]) (by rw [alerts]) (by rw [alerts])
      · exact absurd a changes
    rw [started, settled] at executed
    exact ⟨_, executed, respond_raises (ns := []) _ _ _ _ _ |>.pending told.1 (by simp), by rw [cue]; rfl, follow, mix,
      fun empty => respond_raises (ns := []) _ _ _ _ _ |>.pending (told.2 empty) (by simp)⟩
  · have leads : m.leadsOn = true := by simp [Entry.leadsOn, segue, notStarted]
    have headWaits : h.state = .waiting := waits h (by rw [next]; simp)
    have list1 : u.cue.entries = [] ++ h :: after := by rw [cue]; exact next
    have freeA : u.cue.voiceA = .free := by rw [cue]; exact free
    have started : startHead s0 = startHead u := by
      rw [mark_declined (s := s0) (view := .armed) list0 mark head (by exact declined), if_pos leads, startHead, list0, cue]
      rfl
    have stream := startHead_stream (s := u) (v := .A) (before := []) list1 (by simp) headWaits kind fresh (pickVoice_A freeA)
      (carries_free freeA) (by rw [clips]; exact closed)
    have settled := settle_started (s := u) (was := .armed) (t := startHead u) (v := .A) (e := Claims.startedIn .A h)
      (congrArg State.cue stream) List.mem_cons_self rfl (by rw [state]; decide) (by rw [state]; decide) (by decide)
      (noneTakes_of quiet (by rw [dev]) (by rw [alerts]) (by rw [alerts])) (by rw [stream]) (by rw [stream]) (by rw [stream])
    rw [started, settled, stream] at executed
    refine ⟨_, executed, ?_, rfl, rfl, ?_⟩
    · exact respond_raises (ns := []) _ _ _ _ _ |>.pending told.1 (by simp)
    · exact congrArg (fun x : Mix => x.set .voiceA (Claims.soundingOf (Claims.streamSource b) h)) mix
  · have touched := leaveMark_touched Entry.waiting s0
    have leftCue : (leaveMark Entry.waiting s0).cue = { s.cue with entries := rest, goPending := false } := by
      rw [leaveMark_head (before := []) list0 (by simp) head]
      exact toldEmpty_touches _ _ .cue (by decide)
    have leftAlerts : (leaveMark Entry.waiting s0).alerts = s.alerts := touched .alerts (by decide)
    have leftDev : (leaveMark Entry.waiting s0).dev = s.dev := touched .dev (by decide)
    have taker : windowTaker .markOffer (leaveMark Entry.waiting s0) = some k :=
      windowTaker_some (view := (leaveMark Entry.waiting s0).alerts.view) (by exact takes) (by rw [leftDev]) (by rw [leftAlerts])
        (by rw [leftAlerts]) rfl
    have found : s0.cue.entries.find? Entry.waiting = some m := by
      rw [list0]
      exact find?_at (before := []) (by simp) (waiting_of head)
    have record' : (leaveMark Entry.waiting s0).record k = some r := by
      rw [State.record, leftAlerts]
      exact record
    let w := takeover k (some m.leadsOn) (leaveMark Entry.waiting s0)
    have started : startHead s0 = raise .P (.itemEnded m.tag) w := mark_taken found mark taker
    have held : (raise .P (.itemEnded m.tag) w).cue.state = .held := takeover_held record' _
    have leads : m.leadsOn = m.segue := by simp [Entry.leadsOn, notStarted]
    have entries : w.cue.entries = if m.segue then reserveHead rest else rest := by
      have running : (leaveMark Entry.waiting s0).cue.state ≠ .held := by
        rw [leftCue, show _ = _ from armed]
        decide
      have noEnd : endedBy { s.cue with entries := rest, goPending := false } = [] :=
        List.filter_eq_nil_iff.mpr fun e he => by simp [Entry.playing, waits e he]
      rw [takeover_entries record' running, leftCue, heldEntries, noEnd, heldList_stopped (by exact stopped), leads]
      cases m.segue <;> rfl
    rw [started, settleFrom_stays (.inl held)] at executed
    refine ⟨_, executed, ?_, takeover_record record' _, held, ?_⟩
    · exact respond_raises (ns := []) _ _ _ _ _ |>.pending (pending_raised _ _ _) (by simp)
    · refine Eq.trans entries ?_
      cases m.segue with
      | false => cases rest <;> rfl
      | true =>
        cases rest with
        | nil => rfl
        | cons x xs => exact reserveHead_cons (waits x List.mem_cons_self)

/-- Limits, offers and a MARK's offer, at the duration limit of an item behind an older one that still fades. -/
theorem marksEndAfterTheirOffer : Claims.MarksEndAfterTheirOffer := by
  intro o p n k r x e m a rest s found playing list xPlays xVoice xEnding voiceA ePlays eVoice kind limit reached notReleased
    segue notStarted voiceB noGo mark head waits declined takes record
  intro reserves
  let s1 : State := { s with due := s.due.erase (.durationLimit .B) }
  have first : ∀ y ∈ [x], ¬(y.state = .playing ∧ y.voice = some .B) := by
    rintro y hy ⟨-, voiced⟩
    rw [List.mem_singleton.mp hy, xVoice] at voiced
    cases voiced
  have carried : s1.carried .B = some 1 := carried_of (s := s1) (before := [x]) voiceB list ePlays eVoice first
  have entry : s1.cue.entries[1]? = some e := by rw [show s1.cue.entries = _ from list]; rfl
  have limited : s1.limitReached .B = true := by
    simp only [State.limitReached, State.entryIn, carried, Option.bind_some, entry, limit, notReleased]
    simpa using reached
  let u := leaveVoice .B s1
  have uCue : u.cue = leftCue s.cue .B 1 := leaveVoice_cue carried entry
  have uAlerts : u.alerts = s.alerts := leaveVoice_parts .B s1 .alerts (by decide)
  have uDev : u.dev = s.dev := leaveVoice_parts .B s1 .dev (by decide)
  have uList : u.cue.entries = [x] ++ m :: rest := by rw [uCue, leftCue, list]; rfl
  have ahead : ∀ y ∈ [x], y.state ≠ .waiting := fun y hy => by rw [List.mem_singleton.mp hy, xPlays]; decide
  have ended : endItem .B s1 = startHead u := by
    have leads : e.leadsOn = true := by simp [Entry.leadsOn, segue, notStarted]
    rw [endItem_declined carried entry (view := .playing) (by exact declined), leads, Bool.or_true, if_pos rfl]
  let w := leaveMark Entry.waiting u
  have wCue : w.cue = { leftCue s.cue .B 1 with entries := [x] ++ rest, goPending := false } := by
    have left : w.cue = (markLeft ([x] ++ rest) u).cue := by
      show (leaveMark Entry.waiting u).cue = _
      rw [leaveMark_head uList ahead head]
      exact toldEmpty_touches _ _ .cue (by decide)
    rw [left, markLeft, uCue]
  have touched := leaveMark_touched Entry.waiting u
  have wAlerts : w.alerts = s.alerts := Eq.trans (touched .alerts (by decide)) uAlerts
  have wDev : w.dev = s.dev := Eq.trans (touched .dev (by decide)) uDev
  have taker : windowTaker .markOffer w = some k :=
    windowTaker_some (view := w.alerts.view) (by exact takes) (by rw [wDev]) (by rw [wAlerts]) (by rw [wAlerts]) rfl
  have foundMark : u.cue.entries.find? Entry.waiting = some m := by
    rw [uList]
    exact find?_at (fun y hy => not_waiting_of (ahead y hy)) (waiting_of head)
  have record' : w.record k = some r := by
    rw [State.record, wAlerts]
    exact record
  have running : w.cue.state ≠ .held := by
    rw [wCue]
    show s.cue.state ≠ .held
    rw [playing]
    decide
  let t := takeover k (some m.leadsOn) w
  have started : startHead u = raise .P (.itemEnded m.tag) t := mark_taken foundMark mark taker
  have held : (raise .P (.itemEnded m.tag) t).cue.state = .held := takeover_held record' _
  have executed : exec (.durationLimit .B) s = .next (raise .P (.itemEnded m.tag) t) := by
    refine congrArg _ ((takeRow_found found (by exact limited)).trans ?_)
    show endAtLimit .B s1 = _
    rw [endAtLimit, limited, if_pos rfl, itemEnd, ended, started, settleFrom_stays (.inl held)]
  have ends : endedBy w.cue = [x] := by
    rw [endedBy, wCue]
    show List.filter _ ([x] ++ rest) = [x]
    have others : rest.filter (fun e => e.playing && e.ending) = [] :=
      List.filter_eq_nil_iff.mpr fun y hy => by simp [Entry.playing, waits y hy]
    rw [List.filter_append, others]
    simp [Entry.playing, xPlays, xEnding]
  have kept : heldList w.clips w.cue.entries = rest := by
    rw [wCue]
    show heldList w.clips (x :: rest) = rest
    have without : heldList w.clips (x :: rest) = heldList w.clips rest := by
      simp [heldList, Entry.playing, xPlays, xEnding]
    rw [without]
    exact heldList_stopped fun y hy => by rw [waits y hy]; decide
  have entriesOf : heldEntries w.clips w.cue (some m.leadsOn) = if x.leadsOn || m.leadsOn then reserveHead rest else rest := by
    rw [heldEntries, ends, kept, wCue]
    cases hx : x.leadsOn <;> cases hm : m.leadsOn <;> simp [hx]
  have entries : t.cue.entries = if x.leadsOn || m.leadsOn then reserveHead rest else rest := by
    rw [← entriesOf]
    exact takeover_entries record' running _
  have reserving : (x.leadsOn || m.leadsOn) = true ↔ reserves := by
    show _ ↔ (m.segue = true ∧ m.successorStarted = false ∨ x.segue = true ∧ x.successorStarted = false)
    simp [Entry.leadsOn, or_comm]
  refine ⟨_, executed, pending_raised _ _ _, takeover_record record' _, held, ?_, fun empty => ⟨?_, ?_⟩, fun h after next =>
    ⟨fun yes => ?_, fun no => ?_⟩⟩
  · obtain ⟨b, cue⟩ := takeover_cue record' (some m.leadsOn)
    show t.cue.held = _
    rw [show t.cue = _ from cue, heldCue, if_neg running, ends]
    have notFilling : fillHeld w.clips w.cue = none := if_neg fun f => by
      rw [wCue] at f
      have filling : s.cue.state = .filling := f.1
      rw [playing] at filling
      cases filling
    rw [notFilling]
    rfl
  · rw [show (raise .P (.itemEnded m.tag) t).cue = t.cue from rfl, entries, empty]
    exact ite_self _
  · refine (raise_raises .P (.itemEnded m.tag) _).pending ?_ (by simp [Event.number])
    refine takeover_listEmpty record' running ?_ ?_
    · rw [wCue]
      simp
    · rw [entriesOf, empty]
      exact ite_self _
  · rw [show (raise .P (.itemEnded m.tag) t).cue = t.cue from rfl, entries, if_pos (reserving.mpr yes), next]
    exact reserveHead_cons (waits h (by rw [next]; simp))
  · rw [show (raise .P (.itemEnded m.tag) t).cue = t.cue from rfl, entries, if_neg (fun y => no (reserving.mp y))]

/-- Settles O31. -/
theorem goAndStop : Obligations.GoAndStop :=
  ⟨goStartsTheHead, stopSetsEntriesBack, cancelWindowsClose, manualSegues, fillsGiveWayToGo, marksMakeOffers,
    marksEndAfterTheirOffer, stopInHeld, windowsOpen⟩

end Sys2Proof.GoAndStop
end

section
/-! R87 to R92, R132: items end at their limits, by STREAM RELEASE, and with their boundary offered. -/

namespace Sys2Proof.ItemsEnd

-- one thread: the check compiles under a limit on the process
set_option Elab.async false

open Sys2Proof.Machine Sys2Proof.Safety Sys2Proof.Laws Sys2Proof.TakenCommands Sys2Proof.EngineNotices Sys2Proof.EventKeeping
open Sys2Proof.ItemEnds Sys2Proof.FillEnds Sys2Proof.Takeovers Sys2Proof.StartedItems Sys2Proof.GoAndStop

variable {s t : State} {v : Voice} {e h : Entry} {after : List Entry}

theorem stream_plain {a : StreamSource} (kind : e.kind = .stream a) (n : ClipId) : e.kind ≠ .clip n := by
  rw [kind]
  exact fun e => by cases e

-- STREAM RELEASE (R90, R93)

theorem streamOf_spelled {b : Byte} {src : StreamSource} (hb : b.toNat = (match src with | .s1 => 1 | .s2 => 2)) :
    streamOf b = some src := by
  cases src with
  | s1 =>
    have hb : b = 0x01 := BitVec.eq_of_toNat_eq hb
    rw [hb]
    rfl
  | s2 =>
    have hb : b = 0x02 := BitVec.eq_of_toNat_eq hb
    rw [hb]
    rfl

theorem releasable_eq (src : StreamSource) (e : Entry) :
    releasable src e = decide (e.state = .playing ∧ e.ending = false ∧ e.kind = .stream src) := by
  unfold releasable Entry.playing
  cases e.ending <;> simp

theorem streamsAreReleased : Claims.StreamsAreReleased := by
  intro b src s taken hb found
  let s0 := frameComplete .P s
  have checks : failedCheck .P 0x1D [b] s0 = none := checks_pass taken [.P] (.exactly 1) rfl rfl rfl
  have owner : streamReleaseOwner [b] s0 = releaseStream src s0 := by
    simp only [streamReleaseOwner, byteAt, List.getD_cons_zero, streamOf_spelled hb]
  have same (e : Entry) : releasable src e = found e := releasable_eq src e
  refine ⟨fun nothing => ?_, fun before after e list ahead this plain => ⟨fun held => ?_, fun v playing voiced fades noGo active => ?_⟩⟩
  · refine congrArg _ (command_refused taken checks (owner.trans ?_))
    have unfound : s0.cue.entries.find? (releasable src) = none :=
      List.find?_eq_none.mpr fun e he => by rw [same, nothing e he]; decide
    simp only [releaseStream, unfound]
  all_goals
    have skips : ∀ x ∈ before, releasable src x = false := fun x hx => (same x).trans (ahead x hx)
    have picks : releasable src e = true := (same e).trans this
    have list0 : s0.cue.entries = before ++ e :: after := list
    have find : s0.cue.entries.find? (releasable src) = some e := by rw [list0]; exact find?_at skips picks
    obtain ⟨plays, notEnding, kind⟩ := of_decide_eq_true this
  · refine congrArg _ (command_ok taken checks (owner.trans ?_))
    have left : s0.cue.entries.eraseP (releasable src) = before ++ after := by rw [list0]; exact eraseP_at skips picks
    have releases : releaseStream src s0 = .ok (setEntries (before ++ after) (raise .P (.itemEnded e.tag) s0)) .none := by
      simp only [releaseStream, find, show s0.cue.state = .held from held, if_true, releaseHeldStream, left, plain, Bool.false_and,
        itemEnded_plain (stream_plain kind)]
      rfl
    rw [releases, setEntries_eq (by rw [show (raise .P (.itemEnded e.tag) s0).cue = s.cue from rfl, list]; simp), toldEmpty]
    split
    · exact congrArg (Reply.ok · .none) (raise_frameComplete .P .P .listEmpty (raise .P (.itemEnded e.tag)
        { s with cue := { s.cue with entries := before ++ after } }))
    · rfl
  · refine congrArg _ (command_ok taken checks (owner.trans ?_))
    let marked : Entry := { e with ending := true, released := true }
    let u : State := { s0 with cue := { s.cue with entries := before ++ marked :: after } }
    have changed : changeFirst (releasable src) (fun e => { e with
        ending := true, released := true, successorStarted := e.successorStarted || false }) s0.cue.entries =
        before ++ marked :: after := by
      rw [list0, changeFirst_at _ skips picks, Bool.or_false]
    have notHeld : s0.cue.state ≠ .held := by rw [show s0.cue.state = .playing from playing]; decide
    have releases : releaseStream src s0 = .ok (settleFrom .playing (fadeOut (voiceContributor v) e.fadeOut u)) .none := by
      have lasts : e.fadeOut ≠ 0 := by omega
      simp only [releaseStream, find, notHeld, if_false, voiced, plain, Bool.and_false, Bool.false_and, changed, lasts,
        Bool.false_eq_true]
      exact congrArg (fun st => Reply.ok (settleFrom st (fadeOut (voiceContributor v) e.fadeOut u)) .none) playing
    have fading : fadeOut (voiceContributor v) e.fadeOut u = u.setContrib (voiceContributor v)
        { s.contrib (voiceContributor v) with waiting := some ⟨0, min e.fadeOut 500, .out⟩ } :=
      fadeOut_active fades (by exact active)
    have go : s.cue.goPending ≠ true := by simp [noGo]
    have settled := settleFrom_same (s := u.setContrib (voiceContributor v)
      { s.contrib (voiceContributor v) with waiting := some ⟨0, min e.fadeOut 500, .out⟩ }) (e := marked) playing
      (List.mem_append_right _ List.mem_cons_self) plays fun y => absurd y go
    rw [releases, fading, settled]
    rfl

-- END FADE START and DURATION LIMIT (R87, R89)

/-- The entry that a voice carries is PLAYING in it. -/
theorem carried_entry {i : Nat} (carried : s.carried v = some i) (entry : s.cue.entries[i]? = some e) :
    e.state = .playing ∧ e.voice = some v := by
  unfold State.carried at carried
  split at carried
  · obtain ⟨hi, ⟨picks, -⟩⟩ := List.findIdx?_eq_some_iff_getElem.mp carried
    rw [List.getElem?_eq_getElem hi, Option.some.injEq] at entry
    rw [entry] at picks
    simpa [Entry.playing] using picks
  · cases carried

theorem remaining_stream {a : StreamSource} {n : Nat} (kind : e.kind = .stream a) (limit : e.limit = some n) :
    s.remaining v e = some (n - e.played) := by
  simp only [State.remaining, limit, kind, Option.map_some]

theorem endsIn_eq {i n : Nat} (carried : s.carried v = some i) (entry : s.cue.entries[i]? = some e) (notEnding : e.ending = false)
    (fades : 0 < e.fadeOut) (left : s.remaining v e = some n) (near : n ≤ e.fadeOut) : s.endsIn v = some n := by
  have still : ¬(e.ending = true ∨ e.fadeOut = 0) := by rw [notEnding]; rintro (h | h); · cases h
                                                        · omega
  simp only [State.endsIn, State.entryIn, carried, Option.bind_some, entry, still, if_false, left, near, if_true]

/-- The item in a voice begins its end, `starts` saying whether its successor is started with it (R87, R88). -/
theorem beginEnd_eq {i n : Nat} (carried : s.carried v = some i) (entry : s.cue.entries[i]? = some e) (ends : s.endsIn v = some n)
    {starts : Bool} (leads : (e.leadsOn && !s.cue.boundaryWait && s.cue.hasWaiting) = starts) : beginEnd v s =
      settleFrom s.cue.state ((if starts then startHead else id) (fadeOut (voiceContributor v) n { s with cue := { s.cue with
        entries := s.cue.entries.set i { e with ending := true, successorStarted := e.successorStarted || starts } } })) := by
  simp only [beginEnd, carried, ends, entry, leads]
  cases starts <;> rfl

theorem limitReached_eq {i n : Nat} (carried : s.carried v = some i) (entry : s.cue.entries[i]? = some e) (limit : e.limit = some n)
    (reached : n ≤ e.played) (notReleased : e.released = false) : s.limitReached v = true := by
  simp only [State.limitReached, State.entryIn, carried, Option.bind_some, entry, limit, notReleased]
  simpa using reached

theorem voice_due (d : List Due) (v : Voice) (s : State) : State.voice { s with due := d } v = s.voice v := by
  cases v <;> rfl

/-- A DURATION LIMIT that a boundary found ends the item. -/
theorem exec_durationLimit {i n : Nat} (found : Found (.durationLimit v) s) (carried : s.carried v = some i)
    (entry : s.cue.entries[i]? = some e) (limit : e.limit = some n) (reached : n ≤ e.played) (notReleased : e.released = false) :
    exec (.durationLimit v) s = .next (itemEnd v { s with due := s.due.erase (.durationLimit v) }) := by
  have limited : State.limitReached { s with due := s.due.erase (.durationLimit v) } v = true :=
    limitReached_eq ((carried_congr rfl (voice_due _ v s)).trans carried) entry limit reached notReleased
  refine congrArg _ ((takeRow_found found (by exact limited)).trans ?_)
  exact if_pos limited

theorem mem_set_of_getElem? {es : List Entry} {i : Nat} (entry : es[i]? = some e) (x : Entry) : x ∈ es.set i x := by
  obtain ⟨hi, -⟩ := List.getElem?_eq_some_iff.mp entry
  exact List.mem_iff_getElem.mpr ⟨i, by simpa using hi, by simp⟩

theorem timedItemsEnd : Claims.TimedItemsEnd := by
  intro v i o n e s carried carrying entry limit plain notEnding playing noGo active kind
  obtain ⟨plays, -⟩ := carried_entry carried entry
  have stream : ∃ a, e.kind = .stream a := kind.elim (fun k => ⟨_, k⟩) fun k => ⟨_, k⟩
  obtain ⟨a, kind⟩ := stream
  have leads : e.leadsOn = false := by simp [Entry.leadsOn, plain]
  refine ⟨fun found counted fades near lasts short => ?_, fun found declined quietArmed quietIdle reached notReleased noWindow closed => ?_⟩
  · let s1 : State := { s with due := s.due.erase (.endFadeStart v) }
    have carried1 : s1.carried v = some i := by cases v <;> exact carried
    have ends : s1.endsIn v = some (n - e.played) := endsIn_eq carried1 entry notEnding fades (remaining_stream kind limit) near
    have due : stillDue s1 (.endFadeStart v) = true := by
      have isCounted : s1.itemCounted v = true := by
        have carrying1 : s1.voice v = .carrying o := by cases v <;> exact carrying
        simp only [State.itemCounted, carrying1]
        exact decide_eq_true counted
      simp only [stillDue, isCounted, ends]
      rfl
    refine congrArg _ ((takeRow_found found due).trans ?_)
    let marked : Entry := { e with ending := true }
    let u : State := { s1 with cue := { s.cue with entries := s.cue.entries.set i marked } }
    have begins := beginEnd_eq (s := s1) carried1 entry ends (starts := false) (by simp [leads])
    rw [Bool.or_false] at begins
    have fading : fadeOut (voiceContributor v) (n - e.played) u = u.setContrib (voiceContributor v)
        { s.contrib (voiceContributor v) with waiting := some ⟨0, n - e.played, .out⟩ } := by
      rw [fadeOut_active lasts (by exact active), Nat.min_eq_left short]
      rfl
    have go : s.cue.goPending ≠ true := by simp [noGo]
    show beginEnd v s1 = _
    rw [begins, show s1.cue.state = .playing from playing]
    show settleFrom .playing (fadeOut (voiceContributor v) (n - e.played) u) = _
    rw [fading]
    exact settleFrom_same (s := u.setContrib (voiceContributor v)
      { s.contrib (voiceContributor v) with waiting := some ⟨0, n - e.played, .out⟩ }) (e := marked) playing
      (mem_set_of_getElem? entry _) plays fun y => absurd y go
  · let t : State := { s with due := s.due.erase (.durationLimit v) }
    have carried' : t.carried v = some i := by cases v <;> exact carried
    have item := itemEnd_alone (s := t) (view := s.cue.state) carried' (by exact entry) (by exact declined) playing noGo leads
      (by exact quietArmed) (by exact quietIdle)
    have cutOff : cut (voiceContributor v) t = t.setContrib (voiceContributor v) (s.contrib (voiceContributor v)).inactive := by
      rw [cut_active (by exact active), closeReaderOf_closed (by exact closed)]
      rfl
    have left : Touches [.cue, .links, .mix] t (leaveVoice v t) := by
      rw [leaveVoice_eq carried' (by exact entry), releaseClaim_plain (stream_plain kind), cutOff]
      exact ((((Touches.refl _ t).and (setContrib_touches _ _ _)).and (cue_touches _ _)).and (raise_touches _ _ _)).and
        (toldEmpty_touches _ _)
    have mix : (leaveVoice v t).mix = s.mix.set (voiceContributor v) (s.contrib (voiceContributor v)).inactive := by
      rw [leaveVoice_mix carried' (by exact entry), cutOff]
      rfl
    have told := (leaveVoice_pending carried' (by exact entry)).1
    refine ⟨_, (exec_durationLimit found carried entry limit reached notReleased).trans (congrArg _ item), rfl, ?_, ?_, told,
      left .due (by decide), left .mem (by decide), left .clips (by decide), left .delay (by decide), left .callers (by decide),
      left .sup (by decide)⟩
    · cases v <;> rfl
    · show (leaveVoice v t).mix.get (voiceContributor v) = _
      rw [mix]
      cases v <;> rfl

theorem seguesStartSuccessors : Claims.SeguesStartSuccessors := by
  intro o n e h a b rest s found playing list plays notEnding voiced kind limit segue head headKind fresh voiceA counted voiceB active
    closedB noGo fades lasts near short
  intro fading
  let s1 : State := { s with due := s.due.erase (.endFadeStart .A) }
  have list1 : s1.cue.entries = e :: h :: rest := list
  have carried : s1.carried .A = some 0 := carried_of (before := []) (s := s1) voiceA list plays voiced (by simp)
  have entry : s1.cue.entries[0]? = some e := by rw [list1]; rfl
  have ends : s1.endsIn .A = some (n - e.played) := endsIn_eq carried entry notEnding fades (remaining_stream kind limit) near
  have waits : s1.cue.hasWaiting = true := hasWaiting_of (h := h) (by rw [list1]; simp) head
  have due : stillDue s1 (.endFadeStart .A) = true := by
    have isCounted : s1.itemCounted .A = true := by
      simp only [State.itemCounted, show s1.voice .A = .carrying o from voiceA]
      exact decide_eq_true counted
    simp only [stillDue, isCounted, ends]
    rfl
  have go : s.cue.goPending ≠ true := by simp [noGo]
  have executed {starts : Bool} (leads : (e.leadsOn && !s1.cue.boundaryWait && s1.cue.hasWaiting) = starts) :
      exec (.endFadeStart .A) s = .next (settleFrom .playing ((if starts then startHead else id) { s1 with
        mix := { s.mix with voiceA := fading }
        cue := { s.cue with entries := { e with ending := true, successorStarted := e.successorStarted || starts } :: h :: rest } })) := by
    refine congrArg _ ((takeRow_found found due).trans ((beginEnd_eq (s := s1) carried entry ends leads).trans ?_))
    let ending : Entry := { e with ending := true, successorStarted := e.successorStarted || starts }
    let u : State := { s1 with cue := { s.cue with entries := ending :: h :: rest } }
    have marked : ({ s1 with cue := { s1.cue with entries := s1.cue.entries.set 0 ending } } : State) = u := by
      rw [list1]
      rfl
    have faded : fadeOut (voiceContributor .A) (n - e.played) u = { u with mix := { s.mix with voiceA := fading } } := by
      rw [fadeOut_active (c := voiceContributor .A) lasts (by exact active), Nat.min_eq_left short]
      rfl
    show settleFrom s1.cue.state ((if starts then startHead else id) (fadeOut (voiceContributor .A) (n - e.played)
      { s1 with cue := { s1.cue with entries := s1.cue.entries.set 0 ending } })) = _
    rw [marked, faded, show s1.cue.state = .playing from playing]
  refine ⟨fun noWait notStarted => ?_, fun either => ?_⟩
  · have leads : (e.leadsOn && !s1.cue.boundaryWait && s1.cue.hasWaiting) = true := by
      rw [waits, show s1.cue.boundaryWait = false from noWait]
      simp [Entry.leadsOn, segue, notStarted]
    let ending : Entry := { e with ending := true, successorStarted := true }
    let u : State := { s1 with
      mix := { s.mix with voiceA := fading }
      cue := { s.cue with entries := ending :: h :: rest } }
    have started : startHead u = { u with
        mix := u.mix.set .voiceB (Claims.soundingOf (Claims.streamSource b) h)
        cue := startedCue u.cue .B ([ending] ++ Claims.startedIn .B h :: rest) } := by
      refine startHead_stream (s := u) (v := .B) (before := [ending]) rfl ?_ head headKind fresh
        (pickVoice_B (by rw [show u.cue.voiceA = .carrying o from voiceA]; exact fun e => by cases e) voiceB) (carries_free voiceB) closedB
      intro x hx
      rw [List.mem_singleton.mp hx]
      show e.state ≠ .waiting
      rw [plays]
      decide
    refine (executed leads).trans (congrArg _ ?_)
    rw [Bool.or_true]
    show settleFrom .playing (startHead u) = _
    rw [started]
    refine (settleFrom_same (s := { u with
      mix := u.mix.set .voiceB (Claims.soundingOf (Claims.streamSource b) h)
      cue := startedCue u.cue .B ([ending] ++ Claims.startedIn .B h :: rest) }) (e := ending) playing List.mem_cons_self plays
      fun y => absurd y Bool.false_ne_true).trans ?_
    exact congrArg (fun go => ({ s1 with
      mix := { s.mix with voiceA := fading, voiceB := Claims.soundingOf (Claims.streamSource b) h }
      cue := { s.cue with
        entries := ending :: Claims.startedIn .B h :: rest, goPending := go
        voiceB := .carrying s.cue.clock, clock := s.cue.clock + 1, window := none } } : State)) noGo.symm
  · have leads : (e.leadsOn && !s1.cue.boundaryWait && s1.cue.hasWaiting) = false := by
      rcases either with w | w
      · rw [show s1.cue.boundaryWait = true from w]
        simp
      · simp [Entry.leadsOn, w]
    refine (executed leads).trans (congrArg _ ?_)
    rw [Bool.or_false]
    exact settleFrom_same (s := { s1 with
      mix := { s.mix with voiceA := fading }
      cue := { s.cue with entries := { e with ending := true } :: h :: rest } }) (e := { e with ending := true }) playing
      List.mem_cons_self plays fun y => absurd y go

-- offers TAKEN (R91, R92, R132)

/-- The boundary of an item's end is taken by the record that the table marks for it. -/
theorem endItem_taken {i : Nat} {k : AlertSlot} {view : EngineState} (carried : s.carried v = some i)
    (entry : s.cue.entries[i]? = some e) (takes : TakesAir .itemOffer view k s) :
    endItem v s = takeover k (some e.leadsOn) (leaveVoice v s) := by
  have dev : (leaveVoice v s).dev = s.dev := leaveVoice_parts v s .dev (by decide)
  have alerts : (leaveVoice v s).alerts = s.alerts := leaveVoice_parts v s .alerts (by decide)
  have taker : windowTaker .itemOffer (leaveVoice v s) = some k :=
    windowTaker_some (view := (leaveVoice v s).alerts.view) (by exact takes) (by rw [dev]) (by rw [alerts]) (by rw [alerts]) rfl
  simp only [endItem, carried, entry, taker, Option.map_some, Option.getD_some]

theorem itemEnd_taken {i : Nat} {k : AlertSlot} {r : AlertRecord} {view : EngineState} (carried : s.carried v = some i)
    (entry : s.cue.entries[i]? = some e) (takes : TakesAir .itemOffer view k s) (record : s.record k = some r) :
    itemEnd v s = takeover k (some e.leadsOn) (leaveVoice v s) := by
  have alerts : (leaveVoice v s).alerts = s.alerts := leaveVoice_parts v s .alerts (by decide)
  have record' : (leaveVoice v s).record k = some r := by rw [State.record, alerts]; exact record
  rw [itemEnd, endItem_taken carried entry takes, settleFrom_stays (.inl (takeover_held record' _))]

theorem heldEntries_waiting {cs : ClipStore} {c : Cue} {offer : Bool} (waits : ∀ x ∈ c.entries, x.state = .waiting) :
    heldEntries cs c (some offer) = if c.goPending || offer then reserveHead c.entries else c.entries := by
  have noEnd : endedBy c = [] := List.filter_eq_nil_iff.mpr fun e he => by simp [Entry.playing, waits e he]
  rw [heldEntries, noEnd, heldList_stopped fun e he => by rw [waits e he]; decide]
  cases c.goPending <;> cases offer <;> rfl

theorem heldCue_voices {cs : ClipStore} {c : Cue} {offer : Option Bool} (running : c.state ≠ .held) :
    (heldCue cs c offer).voiceA = .free ∧ (heldCue cs c offer).voiceB = .free := by
  rw [heldCue, if_neg running]
  exact ⟨rfl, rfl⟩

/-- With no item ending at it, a takeover tells of none. -/
theorem takeover_raises_quiet {k : AlertSlot} {offer : Option Bool} (none_ends : endedBy s.cue = []) :
    Raises [0x11, 0x14, 0x27, 0x32, 0x33, 0x40] s (takeover k offer s) := by
  cases h : s.record k with
  | none =>
    rw [takeover_none h]
    exact Raises.refl _ s
  | some r =>
    rw [takeover_eq h]
    have held (t : State) (cue : t.cue = s.cue) : Raises [0x11, 0x14, 0x32, 0x33] t (holdEngine offer t) :=
      holdEngine_raises_of (by decide) fun u => by
        rw [cue, show (s.cue.entries.filter fun e => e.playing && e.ending) = [] from none_ends]
        exact Raises.refl _ u
    exact (((Raises.refl _ s).and (airTaken_raises k r s)).and
      (airNotices_raises_of (by decide) fun t ht => held t (ht.trans (airTaken_cue k r s)))).trans (silent (airBound_touches k r _ _))

theorem endedBy_waiting {c : Cue} (waits : ∀ x ∈ c.entries, x.state = .waiting) : endedBy c = [] :=
  List.filter_eq_nil_iff.mpr fun x hx => by simp [Entry.playing, waits x hx]

/-- The state that the engine would have entered with every entry left WAITING, the head RESERVED or not (R92). -/
theorem stateAfterOffer_waiting {es : List Entry} (waits : ∀ x ∈ es, x.state = .waiting) (reserves : Bool) :
    stateAfterOffer [] (if reserves then reserveHead es else es) =
      if es = [] then .idle else if reserves = true then .playing else .armed := by
  have none_other : (es.any fun e => !e.waiting) = false := by simpa [Entry.waiting] using waits
  cases reserves with
  | false =>
    simp only [stateAfterOffer, Bool.false_eq_true, if_false, none_other]
    cases es <;> rfl
  | true =>
    cases es with
    | nil => rfl
    | cons x xs =>
      rw [if_pos rfl, reserveHead_cons (waits x List.mem_cons_self)]
      rfl

theorem offersAreTaken : Claims.OffersAreTaken := by
  intro o n k r e a rest s found playing list plays voiced kind limit reached notReleased notStarted voiceA noGo waits takes record
  let t : State := { s with due := s.due.erase (.durationLimit .A) }
  have carried : s.carried .A = some 0 := carried_of (before := []) voiceA list plays voiced (by simp)
  have entry : s.cue.entries[0]? = some e := by rw [list]; rfl
  let u := leaveVoice .A t
  have uCue : u.cue = leftCue s.cue .A 0 := leaveVoice_cue (s := t) carried entry
  have uAlerts : u.alerts = s.alerts := leaveVoice_parts .A t .alerts (by decide)
  have record' : u.record k = some r := by rw [State.record, uAlerts]; exact record
  have state : u.cue.state = .playing := by rw [uCue]; exact playing
  have running : u.cue.state ≠ .held := by rw [state]; decide
  have left : u.cue.entries = rest := by rw [uCue, leftCue, list]; rfl
  have waits' : ∀ x ∈ u.cue.entries, x.state = .waiting := fun x hx => waits x (by rw [← left]; exact hx)
  have go : u.cue.goPending = false := by rw [uCue]; exact noGo
  have leads : e.leadsOn = e.segue := by simp [Entry.leadsOn, notStarted]
  have executed := (exec_durationLimit found carried entry limit reached notReleased).trans
    (congrArg _ (itemEnd_taken (s := t) (view := .playing) carried entry (by exact takes) record))
  rw [leads] at executed
  have told : Pending .P (.itemEnded e.tag) u := (leaveVoice_pending (s := t) (v := .A) carried entry).1
  have held := heldEntries_waiting (cs := u.clips) (offer := e.segue) waits'
  rw [go, left, Bool.false_or] at held
  obtain ⟨w, cue⟩ := takeover_cue record' (some e.segue)
  have notFilling : fillHeld u.clips u.cue = none := if_neg fun f => by
    have filling := f.1
    rw [state] at filling
    cases filling
  refine ⟨_, executed, ?_, takeover_record record' _, ?_, takeover_held record' _, ?_, takeover_alertOnAir record' _, ?_, ?_⟩
  · exact (takeover_raises_quiet (endedBy_waiting waits')).pending told (by simp [Event.number])
  · rw [takeover_queue record']
    simp
  · rw [cue]
    exact (heldCue_voices running).1
  · rw [cue, heldCue, if_neg running, held, endedBy_waiting waits', notFilling]
    exact congrArg (fun st => some (HeldRecord.mk st none)) (stateAfterOffer_waiting waits e.segue)
  · rw [cue, heldCue, if_neg running, held]
    cases e.segue with
    | false => cases rest <;> rfl
    | true =>
      cases rest with
      | nil => rfl
      | cons x xs => exact reserveHead_cons (waits x List.mem_cons_self)

theorem offersAreTakenDuringAnEnding : Claims.OffersAreTakenDuringAnEnding := by
  intro o p n k r e x a rest s found playing list plays voiced kind limit reached notReleased voiceA xPlays xVoice xEnding voiceB
    waits takes record reserves
  let t : State := { s with due := s.due.erase (.durationLimit .A) }
  have carried : s.carried .A = some 0 := carried_of (before := []) voiceA list plays voiced (by simp)
  have entry : s.cue.entries[0]? = some e := by rw [list]; rfl
  let u := leaveVoice .A t
  have uCue : u.cue = leftCue s.cue .A 0 := leaveVoice_cue (s := t) carried entry
  have uAlerts : u.alerts = s.alerts := leaveVoice_parts .A t .alerts (by decide)
  have record' : u.record k = some r := by rw [State.record, uAlerts]; exact record
  have state : u.cue.state = .playing := by rw [uCue]; exact playing
  have running : u.cue.state ≠ .held := by rw [state]; decide
  have left : u.cue.entries = x :: rest := by rw [uCue, leftCue, list]; rfl
  have go : u.cue.goPending = s.cue.goPending := by rw [uCue]; rfl
  have ends : endedBy u.cue = [x] := by
    have others : rest.filter (fun e => e.playing && e.ending) = [] :=
      List.filter_eq_nil_iff.mpr fun y hy => by simp [Entry.playing, waits y hy]
    rw [endedBy, left, List.filter_cons_of_pos (by simp [Entry.playing, xPlays, xEnding]), others]
  have kept : heldList u.clips u.cue.entries = rest := by
    have without : heldList u.clips (x :: rest) = heldList u.clips rest := by
      simp [heldList, Entry.playing, xPlays, xEnding]
    rw [left, without]
    exact heldList_stopped fun y hy => by rw [waits y hy]; decide
  have reserving : (s.cue.goPending || [x].any Entry.leadsOn || (some e.leadsOn == some true)) = true ↔ reserves := by
    show _ ↔ (s.cue.goPending = true ∨ e.segue = true ∧ e.successorStarted = false ∨ x.segue = true ∧ x.successorStarted = false)
    simp only [Bool.or_eq_true, List.any_cons, List.any_nil, Bool.or_false, Entry.leadsOn, beq_iff_eq, Option.some.injEq,
      Bool.and_eq_true, Bool.not_eq_true', or_assoc]
    exact or_congr_right or_comm
  have held : heldEntries u.clips u.cue (some e.leadsOn) =
      if s.cue.goPending || [x].any Entry.leadsOn || (some e.leadsOn == some true) then reserveHead rest else rest := by
    rw [heldEntries, ends, kept, go]
  have executed := (exec_durationLimit found carried entry limit reached notReleased).trans
    (congrArg _ (itemEnd_taken (s := t) (view := .playing) carried entry (by exact takes) record))
  obtain ⟨w, cue⟩ := takeover_cue record' (some e.leadsOn)
  have entries : (takeover k (some e.leadsOn) u).cue.entries = heldEntries u.clips u.cue (some e.leadsOn) :=
    takeover_entries record' running _
  have notFilling : fillHeld u.clips u.cue = none := if_neg fun f => by
    have filling := f.1
    rw [state] at filling
    cases filling
  refine ⟨_, executed, takeover_itemEnded record' running (by rw [ends]; rfl), takeover_record record' _, takeover_held record' _, ?_, ?_,
    ?_, fun empty => ?_, fun h after next => ⟨fun yes => ?_, fun no => ?_⟩⟩
  · rw [cue]
    exact (heldCue_voices running).1
  · rw [cue]
    exact (heldCue_voices running).2
  · rw [cue, heldCue, if_neg running, ends, notFilling]
    rfl
  · rw [entries, held, empty]
    exact ite_self _
  · rw [entries, held, if_pos (reserving.mpr yes), next]
    exact reserveHead_cons (waits h (by rw [next]; simp))
  · rw [entries, held, if_neg fun y => no (reserving.mp y)]

end Sys2Proof.ItemsEnd
end

section
/-! R66, R67: an input block boundary at which the one open reader comes to the end of its clip. -/

namespace Sys2Proof.ReaderEnds

-- one thread: the check compiles under a limit on the process
set_option Elab.async false

open Sys2Proof.Machine Sys2Proof.Safety Sys2Proof.Laws Sys2Proof.Boundaries Sys2Proof.BlockForming Sys2Proof.IdleEvents
open Sys2Proof.FadeSteps

variable {s t u w : State} {q : ReaderOf} {x : Reader}

-- what a read leaves of the clips and the alert records

/-- From `s` to `t` a reader has read: the clips and the records keep all but their DAMAGED marks. -/
structure Handed (s t : State) : Prop where
  kept : ReadKept s t
  channels : t.clips.channels = s.clips.channels
  capture : t.clips.alertCapture = s.clips.alertCapture
  fallback : t.clips.fallback = s.clips.fallback
  alerts : t.alerts = { s.alerts with records := t.alerts.records }
  record : ∀ k, ∃ d : AlertRecord → Bool, t.record k = (s.record k).map fun r => { r with damaged := d r }

theorem Handed.refl (s : State) : Handed s s :=
  ⟨ReadKept.refl s, rfl, rfl, rfl, rfl, fun k => ⟨AlertRecord.damaged, by cases s.record k <;> rfl⟩⟩

theorem Handed.trans (h : Handed s t) (k : Handed t u) : Handed s u := by
  refine ⟨h.kept.trans k.kept, k.channels.trans h.channels, k.capture.trans h.capture, k.fallback.trans h.fallback, ?_, fun j => ?_⟩
  · rw [k.alerts, h.alerts]
  · obtain ⟨d, hd⟩ := h.record j
    obtain ⟨d', hd'⟩ := k.record j
    refine ⟨fun r => d' { r with damaged := d r }, ?_⟩
    rw [hd', hd, Option.map_map]
    rfl

theorem Handed.of_kept (kept : ReadKept s t) (channels : t.clips.channels = s.clips.channels)
    (capture : t.clips.alertCapture = s.clips.alertCapture) (fallback : t.clips.fallback = s.clips.fallback)
    (alerts : t.alerts = s.alerts) : Handed s t :=
  ⟨kept, channels, capture, fallback, by rw [alerts], fun k => ⟨AlertRecord.damaged, by
    rw [show t.record k = s.record k from by rw [State.record, State.record, alerts]]
    cases s.record k <;> rfl⟩⟩

theorem clipFetchFailed_handed (n : Nat) (s : State) : Handed s (clipFetchFailed n s) := by
  have kept := clipFetchFailed_kept n s
  unfold clipFetchFailed at kept ⊢
  cases holder : s.mem.holder n with
  | clip c =>
    simp only [holder] at kept ⊢
    cases c with
    | playout i => exact .of_kept kept rfl rfl rfl rfl
    | alert i =>
      refine ⟨kept, rfl, rfl, rfl, rfl, fun k => ⟨fun r => if k = i then true else r.damaged, ?_⟩⟩
      rw [DelayReads.record_markDamaged]
      refine congrArg (fun f => (s.record k).map f) (funext fun r => ?_)
      by_cases here : k = i <;> simp [here]
  | _ =>
    simp only [holder] at kept ⊢
    exact .of_kept kept rfl rfl rfl rfl

theorem setReader_handed (r : ReaderOf) (y : Option Reader) (s : State) : Handed s (s.setReader r y) := by
  cases r <;> exact .of_kept ⟨⟨_, rfl⟩, fun c => ⟨(s.clip c).damaged, by cases c <;> rfl⟩⟩ rfl rfl rfl rfl

/-- What an open reader hands over, before it moves on. -/
def fetched (x : Reader) (s : State) : State :=
  match (s.segments x.clip)[x.ordinal]? with
  | some n => (fetchClip n s).2
  | none => s

theorem fetched_handed (x : Reader) (s : State) : Handed s (fetched x s) := by
  unfold fetched
  split
  · next n _ =>
    show Handed s (if (s.mem.read n).passes then s else clipFetchFailed n s)
    split
    · exact Handed.refl s
    · exact clipFetchFailed_handed n s
  · exact Handed.refl s

theorem fetched_touches (x : Reader) (s : State) : Touches [.mem, .clips, .alerts, .links] s (fetched x s) := by
  unfold fetched
  split
  · exact fetchClip_touches _ s
  · exact Touches.refl _ s

/-- The reader at the end of its clip (R67). -/
def atEnd (x : Reader) (count : Nat) : Reader := ⟨x.clip, min (x.ordinal + 1) count, true, false⟩

/-- The last segment of a clip that does not loop: the reader is ended and reports it once. -/
theorem readBlock_last (reader : s.clips.reader q = some x) (runs : x.ended = false) (attached : x.detached = false)
    (noLoop : (s.clip x.clip).loop = false) (last : (s.clip x.clip).count ≤ x.ordinal + 1) : (readBlock q s).2 =
      { (fetched x s).setReader q (some (atEnd x (s.clip x.clip).count)) with due := s.due ++ [.endOfAudio q] } := by
  obtain ⟨c, o, e, d⟩ := x
  obtain rfl : e = false := runs
  obtain rfl : d = false := attached
  have advanced : (⟨c, o, false, false⟩ : Reader).advanced (s.clip c).loop (s.clip c).count = atEnd ⟨c, o, false, false⟩ (s.clip c).count := by
    rw [ClipReading.advanced_eq, noLoop, decide_eq_true last]
    rfl
  have due : (fetched ⟨c, o, false, false⟩ s).due = s.due := fetched_touches _ s .due (by decide)
  have told (y : Option Reader) : (((fetched ⟨c, o, false, false⟩ s).setReader q y).due) = s.due := by
    rw [← due]
    cases q <;> rfl
  have ends : (atEnd ⟨c, o, false, false⟩ (s.clip c).count).ended = true := rfl
  simp only [readBlock, reader, Bool.or_self, Bool.false_eq_true, if_false, advanced, ends, if_true]
  unfold fetched at told ⊢
  split <;> simp_all only

end Sys2Proof.ReaderEnds
end

section
/-! R144: ALERT READ and ALERT HISTORY READ. -/

namespace Sys2Proof.AlertReading

-- one thread: the check compiles under a limit on the process
set_option Elab.async false

open Sys2Proof.Machine Sys2Proof.Safety Sys2Proof.Laws Sys2Proof.TakenCommands

variable {s : State} {ps : List Byte} {k : AlertSlot} {r : AlertRecord}

theorem alertRead_checks (h : Takes .A s) (two : ps.length = 2) : failedCheck .A 0x62 ps (frameComplete .A s) = none :=
  checks_pass h [.A] (.exactly 2) rfl rfl (decide_eq_true two)

theorem historyRead_checks (h : Takes .A s) (one : ps.length = 1) : failedCheck .A 0x63 ps (frameComplete .A s) = none :=
  checks_pass h [.A] (.exactly 1) rfl rfl (decide_eq_true one)

theorem mem_alertSlots (k : AlertSlot) : k ∈ alertSlots := by
  revert k
  decide

/-- The one active record with an id is the one that the id finds. -/
theorem slotOfAlert_one (record : s.record k = some r) (sole : ∀ j x, s.record j = some x → x.id = r.id → j = k) :
    s.slotOfAlert r.id = some k := by
  have finds (j : AlertSlot) (hj : (match s.record j with | some x => decide (x.id = r.id) | none => false) = true) : j = k := by
    cases hx : s.record j with
    | none => simp [hx] at hj
    | some x => exact sole j x hx (by simpa [hx] using hj)
  cases found : s.slotOfAlert r.id with
  | none =>
    have missed := List.find?_eq_none.mp found k (mem_alertSlots k)
    simp [record] at missed
  | some j => rw [finds j (List.find?_some (p := fun j => match s.record j with | some x => decide (x.id = r.id) | none => false) found)]

theorem slotOfAlert_none {id : Nat} (absent : ∀ k x, s.record k = some x → x.id ≠ id) : s.slotOfAlert id = none := by
  refine List.find?_eq_none.mpr fun j _ => ?_
  cases hx : s.record j with
  | none => simp
  | some x => simp [absent j x hx]

theorem queuePlace_none (out : k ∉ s.alerts.queue) : s.queuePlace k = none := by
  rw [State.queuePlace, List.findIdx?_eq_none_iff.mpr fun j hj => by simpa using fun e : j = k => out (e ▸ hj)]
  rfl

theorem queuePlace_at {before after : List AlertSlot} (queue : s.alerts.queue = before ++ k :: after) (first : k ∉ before) :
    s.queuePlace k = some (before.length + 1) := by
  have ahead : before.findIdx? (fun j => decide (j = k)) = none :=
    List.findIdx?_eq_none_iff.mpr fun j hj => by simpa using fun e : j = k => first (e ▸ hj)
  rw [State.queuePlace, queue, List.findIdx?_append, ahead]
  simp [List.findIdx?_cons]

theorem alertReadOwner_active {id : Nat} (named : u16At ps 0 = id) (given : id ≠ 0) (found : s.slotOfAlert id = some k)
    (record : s.record k = some r) : alertReadOwner ps s = .ok s (.alertRecord r (some k) (s.queuePlace k)) := by
  simp only [alertReadOwner, named, given, if_false, found, Option.bind_some, record, Option.map_some]

theorem alertReadOwner_history {id : Nat} (named : u16At ps 0 = id) (given : id ≠ 0) (absent : s.slotOfAlert id = none)
    (found : s.alerts.history.find? (fun r => decide (r.id = id)) = some r) :
    alertReadOwner ps s = .ok s (.finishedAlert r.fields) := by
  simp only [alertReadOwner, named, given, if_false, absent, Option.bind_none, found]

theorem alertReadOwner_unknown {id : Nat} (named : u16At ps 0 = id) (given : id ≠ 0) (absent : s.slotOfAlert id = none)
    (unheard : s.alerts.history.find? (fun r => decide (r.id = id)) = none) : alertReadOwner ps s = .refuse .notFound := by
  simp only [alertReadOwner, named, given, if_false, absent, Option.bind_none, unheard]

theorem summary_slots (s : State) : ∃ ls, s.alertSummary = .alertSummary ls s.alerts.settings ∧
    ls.map AlertLine.slot = s.summarySlots.filter (fun k => (s.record k).isSome) ∧
    ∀ x ∈ ls, ∃ r, s.record x.slot = some r ∧ x = ⟨r.id, r.origin, x.slot, r.cls, r.phase⟩ := by
  refine ⟨_, rfl, ?_, ?_⟩
  · generalize s.summarySlots = slots
    induction slots with
    | nil => rfl
    | cons k ks ih => cases record : s.record k <;> simp [record, ih]
  · intro x hx
    obtain ⟨k, -, hk⟩ := List.mem_filterMap.mp hx
    obtain ⟨r, record, rfl⟩ := Option.map_eq_some_iff.mp hk
    exact ⟨r, record, rfl⟩

/-- Settles O43. -/
theorem alertsAreRead : Obligations.AlertsAreRead := by
  intro h l s takes id read history
  have named : u16At [h, l] 0 = id := rfl
  have reads {r : Result} (owner : alertReadOwner [h, l] (frameComplete .A s) = .ok (frameComplete .A s) r) : read .ok r :=
    congrArg _ (command_ok takes (alertRead_checks takes rfl) owner)
  refine ⟨fun k r given record eq sole => ?_, fun r before after given absent split eq newest => ?_, fun given absent unheard => ?_,
    fun zero => ?_, fun b => ⟨fun above => ?_, fun zero => ?_, fun low high r hr => ?_, fun low high short => ?_⟩⟩
  · have found : (frameComplete .A s).slotOfAlert id = some k := by
      rw [← eq]
      exact slotOfAlert_one (s := frameComplete .A s) record fun j x hx e => sole j x hx (e.trans eq)
    have owner := alertReadOwner_active named given found record
    exact ⟨fun out => reads (owner.trans (by rw [queuePlace_none (s := frameComplete .A s) out])),
      fun before after queue first => reads (owner.trans (by rw [queuePlace_at (s := frameComplete .A s) queue first]))⟩
  · have finds : (frameComplete .A s).alerts.history.find? (fun r => decide (r.id = id)) = some r := by
      rw [show (frameComplete .A s).alerts.history = before ++ r :: after from split, List.find?_append,
        List.find?_eq_none.mpr fun x hx => by simpa using newest x hx, List.find?_cons_of_pos (by simpa using eq)]
      rfl
    exact reads (alertReadOwner_history named given (slotOfAlert_none (s := frameComplete .A s) absent) finds)
  · exact congrArg _ (command_refused takes (alertRead_checks takes rfl) (alertReadOwner_unknown named given
      (slotOfAlert_none (s := frameComplete .A s) absent) (List.find?_eq_none.mpr fun x hx => by simpa using unheard x hx)))
  · obtain ⟨ls, summary, slots, lines⟩ := summary_slots (frameComplete .A s)
    exact ⟨ls, reads (by rw [alertReadOwner]; exact (if_pos zero).trans (congrArg _ summary)), slots, lines⟩
  · refine congrArg _ (command_refused takes (historyRead_checks takes rfl) ?_)
    rw [alertHistoryReadOwner]
    exact if_pos above
  · subst zero
    exact congrArg _ (command_ok takes (historyRead_checks takes rfl) rfl)
  · refine congrArg _ (command_ok takes (historyRead_checks takes rfl) ?_)
    have nonzero : ¬b.toNat = 0 := by omega
    have inRange : ¬8 < b.toNat := by omega
    have entry : (frameComplete .A s).alerts.history[b.toNat - 1]? = some r := hr
    simp only [alertHistoryReadOwner, byteAt, List.getD_cons_zero, nonzero, inRange, if_false, entry]
  · refine congrArg _ (command_refused takes (historyRead_checks takes rfl) ?_)
    have nonzero : ¬b.toNat = 0 := by omega
    have inRange : ¬8 < b.toNat := by omega
    have entry : (frameComplete .A s).alerts.history[b.toNat - 1]? = none :=
      List.getElem?_eq_none (show s.alerts.history.length ≤ _ by omega)
    simp only [alertHistoryReadOwner, byteAt, List.getD_cons_zero, nonzero, inRange, if_false, entry]

end Sys2Proof.AlertReading
end

section
/-! R131, R146, R161, R165, R166, R169: the settings commands of the alerts, the link and the air supervision. -/

namespace Sys2Proof.SettingsSet

-- one thread: the check compiles under a limit on the process
set_option Elab.async false

open Sys2Proof.Machine Sys2Proof.Safety Sys2Proof.Laws Sys2Proof.TakenCommands Sys2Proof.LinkFrames Sys2Proof.EngineNotices
open Sys2Proof.Takeovers Sys2Proof.AlertReading

variable {s t u : State} {l : Link} {d : Due} {k : AlertSlot} {r : AlertRecord}

-- an event that the last boundary found, and the command that comes before its row

theorem live_of_reaches (h : Reaches l s) : s.live = true := by
  obtain ⟨⟨supply, -, -⟩, standby | ⟨onAir, -⟩⟩ := h <;> simp [State.live, *]

/-- A command that comes before the row of the one event found does what it does after that row. -/
theorem exec_after_row {i j : Instr} {code : Nat} {ps : List Byte} (frame : i.frame = some (l, code, ps)) (h : Reaches l s)
    (due : s.due = [d]) (timed : d ≠ .fillAnswer) (row : exec j s = .next (takeRow d s)) (run : exec j s = .next u) :
    exec i s = exec i u := by
  obtain rfl := Host.Outcome.next.inj (row.symm.trans run)
  rw [takeRow, if_pos (live_of_reaches h)]
  exact (commandsFollowTheBoundary i l code ps s frame h.1 (live_of_reaches h) (due ▸ List.nodup_singleton d)).2.2 d due timed

/-- The one event found having been taken, the link takes commands as before. -/
theorem takes_after (h : Reaches l s) (due : s.due = [d]) (timed : d ≠ .fillAnswer)
    (mode : (take d s).sup.mode.isSome = s.sup.mode.isSome) : Takes l (take d s) := by
  have live := live_of_reaches h
  obtain ⟨⟨supply, flight, owed⟩, state⟩ := h
  have settles := settleFound_single live timed due
  obtain ⟨keptSupply, keptState, kept⟩ := settleFound_keeps s
  rw [settles] at keptSupply keptState kept
  have same : ((take d s).link l).inFlight = (s.link l).inFlight ∧ ((take d s).link l).owed = (s.link l).owed := by
    cases l <;> simp_all [answers, State.link, Links.get]
  refine ⟨keptSupply.trans supply, ?_, same.1.trans flight, same.2.trans owed, fun e he => ?_⟩
  · rw [keptState, mode]
    exact state
  · have settled := settled_settleFound live (due ▸ List.nodup_singleton d : s.due.Nodup)
    rw [settles] at settled
    exact settled e he

theorem supTaken_isSome (x : Supervisor) : (supTaken x).mode.isSome = x.mode.isSome := by
  cases mode : x.mode with
  | none => simp [supTaken, mode]
  | some m => rw [supTaken_mode (by simp [mode])]; rfl

/-- A window check leaves an air mode where there was one. -/
theorem windowCheck_mode (c : Check) (s : State) : (windowCheck c s).sup.mode.isSome = s.sup.mode.isSome := by
  rw [windowCheck]
  split
  · next k _ =>
    cases record : s.record k with
    | none => rw [EventKeeping.takeover_none record]
    | some r => rw [takeover_sup record, supTaken_isSome]
  · rfl

theorem enterEngine_mode (was st : EngineState) (s : State) : (enterEngine was st s).sup.mode.isSome = s.sup.mode.isSome := by
  rw [enterEngine]
  split
  · rfl
  · exact windowCheck_mode _ _

-- R146, R161, R169: the settings themselves

theorem switchOf_eq (b : Byte) : switchOf b = if b.toNat ≤ 1 then some (decide (b = 1)) else none := by
  unfold switchOf
  by_cases zero : b = 0x00
  · subst zero
    rfl
  · by_cases one : b = 0x01
    · subst one
      rfl
    · have nonzero : b.toNat ≠ 0 := fun e => zero (BitVec.eq_of_toNat_eq e)
      have nonone : b.toNat ≠ 1 := fun e => one (BitVec.eq_of_toNat_eq e)
      rw [if_neg zero, if_neg one, if_neg (by omega)]

theorem alertSettings_checks (h : Takes .C s) {ps : List Byte} (six : ps.length = 6) :
    failedCheck .C 0x3B ps (frameComplete .C s) = none :=
  checks_pass h [.C] (.exactly 6) rfl rfl (decide_eq_true six)

theorem linkSettings_checks (h : Takes .C s) {ps : List Byte} (five : ps.length = 5) :
    failedCheck .C 0x40 ps (frameComplete .C s) = none :=
  checks_pass h [.C] (.exactly 5) rfl rfl (decide_eq_true five)

theorem supervision_checks (h : Takes .C s) {ps : List Byte} (eight : ps.length = 8) :
    failedCheck .C 0x3C ps (frameComplete .C s) = none :=
  checks_pass h [.C] (.exactly 8) rfl rfl (decide_eq_true eight)

theorem alertSettings_set (h : Takes .C s) {ps : List Byte} (six : ps.length = 6) {c : AlertSettings}
    (spelled : alertSettingsOf ps = some c) :
    exec (.alertSettingsSet .C ps) s = .next (answered .C 0x3B .ok .none (s.setAlertSettings c)) :=
  congrArg _ (command_ok h (alertSettings_checks h six) (by simp only [alertSettingsSetOwner, spelled]; rfl))

theorem supervision_set (h : Takes .C s) {ps : List Byte} (eight : ps.length = 8) {c : SupervisionSettings}
    (spelled : supervisionSettingsOf ps = some c) :
    exec (.supervisionSet .C ps) s = .next (answered .C 0x3C .ok (.supervision c) (s.setSupervision c)) :=
  congrArg _ (command_ok h (supervision_checks h eight) (by simp only [supervisionSetOwner, spelled]; rfl))

theorem linkSettings_set (h : Takes .C s) {ps : List Byte} (five : ps.length = 5) {c : LinkSettings}
    (spelled : linkSettingsOf ps = some c) :
    exec (.linkSettingsSet .C ps) s = .next (answered .C 0x40 .ok .none (s.setLinkSettings c)) :=
  congrArg _ (command_ok h (linkSettings_checks h five) (by simp only [linkSettingsSetOwner, spelled]; rfl))

theorem settingsAreTaken_whole : Claims.SettingsAreTaken := by
  intro b0 b1 b2 b3 b4 b5 b6 b7 s takes n2 n3 text alert alertGood link linkGood sup supGood
  have alertSpelled : alertSettingsOf [b0, b1, b2, b3, b4, b5] = if alertGood then some alert else none := by
    have switch : switchOf (byteAt [b0, b1, b2, b3, b4, b5] 5) = if b5.toNat ≤ 1 then some (decide (b5 = 1)) else none := switchOf_eq b5
    rw [alertSettingsOf, switch]
    by_cases flag : b5.toNat ≤ 1
    · rw [if_pos flag]
      refine if_congr ?_ rfl rfl
      exact ⟨fun ⟨a, b, c, d⟩ => ⟨a, b, c, d, flag⟩, fun ⟨a, b, c, d, _⟩ => ⟨a, b, c, d⟩⟩
    · rw [if_neg flag, if_neg fun good : alertGood => flag good.2.2.2.2]
      rfl
  have linkSpelled : linkSettingsOf [b0, b1, b2, b3, b4] = if linkGood then some link else none := by
    refine if_congr ?_ rfl rfl
    show (50 ≤ link.timeout ∧ link.timeout ≤ 1000 ∧ [b2, b3, b4].all isText = true) ↔ _
    simp [linkGood, text, isText]
  have supSpelled : supervisionSettingsOf [b0, b1, b2, b3, b4, b5, b6, b7] = if supGood then some sup else none := by
    have switch : switchOf (byteAt [b0, b1, b2, b3, b4, b5, b6, b7] 7) = if b7.toNat ≤ 1 then some (decide (b7 = 1)) else none :=
      switchOf_eq b7
    rw [supervisionSettingsOf, switch]
    by_cases flag : b7.toNat ≤ 1
    · rw [if_pos flag]
      refine if_congr ?_ rfl rfl
      exact ⟨fun ⟨a, b, c⟩ => ⟨a, b, c, flag⟩, fun ⟨a, b, c, _⟩ => ⟨a, b, c⟩⟩
    · rw [if_neg flag, if_neg fun good : supGood => flag good.2.2.2]
      rfl
  refine ⟨fun good => ?_, fun bad => ?_, fun good => ?_, fun bad => ?_, fun good => ?_, fun bad => ?_⟩
  · exact alertSettings_set takes rfl (alertSpelled.trans (if_pos good))
  · exact congrArg _ (command_refused takes (alertSettings_checks takes rfl)
      (by simp only [alertSettingsSetOwner, alertSpelled, bad, if_false]))
  · exact linkSettings_set takes rfl (linkSpelled.trans (if_pos good))
  · exact congrArg _ (command_refused takes (linkSettings_checks takes rfl)
      (by simp only [linkSettingsSetOwner, linkSpelled, bad, if_false]))
  · exact supervision_set takes rfl (supSpelled.trans (if_pos good))
  · exact congrArg _ (command_refused takes (supervision_checks takes rfl)
      (by simp only [supervisionSetOwner, supSpelled, bad, if_false]))

-- R131: the hold limit found before new alert settings

theorem reachesLimit_of (pending : r.phase = .pending) (fresh : r.overdue = false) {c : AlertSettings}
    (reached : r.cls = .warning ∧ c.warningHold ≤ r.hold ∨ r.cls = .advisory ∧ c.advisoryHold ≤ r.hold) :
    r.reachesLimit c = true := by
  rcases reached with ⟨cls, late⟩ | ⟨cls, late⟩ <;> simp [AlertRecord.reachesLimit, AlertSettings.holdLimit, pending, fresh, cls, late]

theorem take_holdLimit (due : s.due = [.holdLimitReached k]) (record : s.record k = some r)
    (limit : r.reachesLimit s.alerts.settings = true) : take (.holdLimitReached k) s =
      windowCheck .ordinary (({ s with due := [] } : State).setRecord k (some { r with overdue := true })) := by
  have found : s.due.contains (.holdLimitReached k) = true := by simp [due]
  have left : s.due.erase (.holdLimitReached k) = [] := by simp [due]
  have record' : ({ s with due := [] } : State).record k = some r := record
  have still : stillDue { s with due := [] } (.holdLimitReached k) = true := by
    simp only [stillDue, record', limit]
  rw [take, if_pos found, left]
  simp only [still, if_true, happen, becomeOverdue, record', limit]

theorem record_set (k j : AlertSlot) (x : Option AlertRecord) (s : State) :
    (s.setRecord k x).record j = if j = k then x else s.record j := by
  simp only [State.record, State.setRecord]
  by_cases here : j = k
  · subst here
    simp
  · rw [if_neg here]
    have apart : k.val ≠ j.val := fun e => here (Fin.ext e.symm)
    simp [apart]

theorem holdLimitsFollowTheBoundary : Claims.HoldLimitsFollowTheBoundary := by
  intro b0 b1 b2 b3 b4 b5 c k r s reaches spelled due record pending fresh reached set
  have limit := reachesLimit_of pending fresh reached
  have taken := take_holdLimit due record limit
  generalize hw : ({ s with due := [] } : State).setRecord k (some { r with overdue := true }) = w at taken
  have wk : w.record k = some { r with overdue := true } := by rw [← hw, record_set, if_pos rfl]
  have wj (j : AlertSlot) (hj : j ≠ k) : w.record j = s.record j := by rw [← hw, record_set, if_neg hj]; rfl
  have mode : (take (.holdLimitReached k) s).sup.mode.isSome = s.sup.mode.isSome := by
    rw [taken, windowCheck_mode, ← hw]
    rfl
  have ready := takes_after reaches due (by simp) mode
  have run := alertSettings_set ready (ps := [b0, b1, b2, b3, b4, b5]) rfl spelled
  have same : exec set s = exec set (take (.holdLimitReached k) s) :=
    (commandsFollowTheBoundary set .C 0x3B _ s rfl reaches.1 (live_of_reaches reaches) (due ▸ List.nodup_singleton _)).2.2 _ due (by simp)
  refine ⟨_, same.trans run, ?_, rfl, ?_, ?_, fun u hu => ?_, ?_⟩
  · simp [answered]
  · show ∃ x, (take (.holdLimitReached k) s).record k = some x ∧ _
    rw [taken, windowCheck]
    split
    · next j _ =>
      by_cases hj : j = k
      · subst hj
        exact ⟨_, takeover_record wk none, rfl, .inl rfl⟩
      · exact ⟨_, (takeover_record_other (Ne.symm hj) none).trans wk, rfl, .inr ⟨pending, rfl⟩⟩
    · exact ⟨_, wk, rfl, .inr ⟨pending, rfl⟩⟩
  · rintro ⟨j, x, hx, airing⟩
    show (take (.holdLimitReached k) s).record k = _
    have apart : j ≠ k := by
      rintro rfl
      rw [record] at hx
      cases hx
      rw [pending] at airing
      cases airing
    rw [taken, windowCheck_none (s := w) (view := w.alerts.view) (.inr (.inl ⟨j, x, (wj j apart).trans hx, airing⟩)) rfl rfl rfl rfl, wk]
  · exact exec_after_row rfl reaches due (by simp) rfl hu
  · intro free onAir head
    obtain ⟨rest, queue⟩ : ∃ rest, s.alerts.queue = k :: rest := by
      cases hq : s.alerts.queue with
      | nil => simp [hq] at head
      | cons j rest => exact ⟨rest, by simpa [hq] using head⟩
    have takesAir : TakesAir .ordinary w.alerts.view k w := by
      refine ⟨by rw [← hw]; exact onAir, fun j x hx => ?_, [], rest, _, by rw [← hw]; exact queue, wk, .inl rfl, .inr (.inr fun j hj => by cases hj)⟩
      by_cases hj : j = k
      · subst hj
        rw [wk] at hx
        cases hx
        simp [pending]
      · exact free j x ((wj j hj).symm.trans hx)
    have airs : take (.holdLimitReached k) s = takeover k none w := by
      rw [taken, windowCheck, windowTaker_some takesAir rfl rfl rfl rfl]
    constructor
    · show (take (.holdLimitReached k) s).record k = _
      rw [airs, takeover_record wk]
    · show (take (.holdLimitReached k) s).cue.state = _
      rw [airs, takeover_held wk]

-- R165, R166: the silence window found before new supervision settings

theorem fillNotice_mode (s : State) : (fillNotice s).1.sup.mode.isSome = s.sup.mode.isSome := by
  have stopped : (stopEntries s).sup = s.sup := CueList.stopEntries_parts s .sup (by decide)
  unfold fillNotice
  split
  · rfl
  · dsimp only
    split
    · next id _ =>
      have started : ((activate .voiceA (.clip (.playout id)) 32768 0 0 (stopEntries s)).setVoice .A .filling).sup = s.sup :=
        Eq.trans (setVoice_touches .A _ _ .sup (by decide)) (Eq.trans (activate_touches _ _ _ _ _ _ .sup (by decide)) stopped)
      rw [enterEngine_mode, started]
    · rw [enterEngine_mode, stopped]

theorem take_silenceWindow (due : s.due = [.silenceWindow]) (mode : s.sup.mode = some .normal)
    (silent : s.sup.settings.window ≤ s.sup.counter) : take .silenceWindow s = beginFallback { s with due := [] } := by
  have found : s.due.contains .silenceWindow = true := by simp [due]
  have left : s.due.erase .silenceWindow = [] := by simp [due]
  have still : stillDue { s with due := [] } .silenceWindow = true := by simp [stillDue, mode, silent]
  rw [take, if_pos found, left]
  simp only [still, if_true, happen]

theorem silenceWindowsFollowTheBoundary : Claims.SilenceWindowsFollowTheBoundary := by
  intro b0 b1 b2 b3 b4 b5 b6 b7 c s reaches spelled due normal silent set
  have taken := take_silenceWindow due normal silent
  have mode : (take .silenceWindow s).sup.mode.isSome = s.sup.mode.isSome := by
    rw [taken]
    exact fillNotice_mode _
  have ready := takes_after reaches due (by simp) mode
  have run := supervision_set ready (ps := [b0, b1, b2, b3, b4, b5, b6, b7]) rfl spelled
  have same : exec set s = exec set (take .silenceWindow s) :=
    (commandsFollowTheBoundary set .C 0x3C _ s rfl reaches.1 (live_of_reaches reaches) (due ▸ List.nodup_singleton _)).2.2 _ due (by simp)
  refine ⟨_, same.trans run, ?_, rfl, ?_, ?_, fun engine => ?_, fun u hu => exec_after_row rfl reaches due (by simp) rfl hu⟩
  · simp [answered]
  · show (take .silenceWindow s).due = _
    rw [taken]
    exact congrArg (· ++ _) (fillNotice_touches ({ s with due := [] } : State) .due (by decide))
  · show (take .silenceWindow s).sup.answer.isSome = true
    rw [taken]
    rfl
  · have stays : fillNotice { s with due := [] } = ({ s with due := [] }, .notFilled) := if_pos engine.symm
    show (take .silenceWindow s).sup.answer = _ ∧ (take .silenceWindow s).cue = _
    rw [taken, beginFallback, stays]
    exact ⟨rfl, rfl⟩

/-- Settles O50. -/
theorem settingsAreTaken : Obligations.SettingsAreTaken :=
  ⟨settingsAreTaken_whole, holdLimitsFollowTheBoundary, silenceWindowsFollowTheBoundary⟩

end Sys2Proof.SettingsSet
end

section
/-! R35, R204, R206, R207: MEMORY SETTINGS SET with its silent fill, PROFILE PROGRAM, PROFILE DONE and PROFILE READ. -/

namespace Sys2Proof.MemoryAndProfile

-- one thread: the check compiles under a limit on the process
set_option Elab.async false

open Sys2Proof.Machine Sys2Proof.Safety Sys2Proof.Laws Sys2Proof.TakenCommands Sys2Proof.EngineNotices Sys2Proof.CallerSlots

variable {s : State} {ps : List Byte}

-- MEMORY SETTINGS SET

theorem memorySettings_checks (standby : s.dev.state = .standby) (four : ps.length = 4) :
    failedCheck .C 0x3F ps (frameComplete .C s) = none :=
  checks_taken ⟨0x3F, [.C], true, false, false, false, .exactly 4⟩ rfl rfl (by simp [CommandRow.taken, standby]) (decide_eq_true four)

theorem memoryInRange_iff (ring reserve : Nat) : memoryInRange ring reserve = true ↔
    259 ≤ ring ∧ ring ≤ 4003 ∧ reserve ≤ 12000 ∧ reserve ≤ 16384 - ring := by
  simp [memoryInRange, Config.segments, and_assoc]

theorem memoryInUse_iff (ring reserve : Nat) (s : State) : memoryInUse ring reserve s = true ↔
    if ring = s.mem.ring then 16384 - s.mem.ring - reserve < s.mem.general
    else 0 < s.mem.general ∨ 0 < s.mem.alertCount ∨ s.clips.channels[0].isSome = true ∨ s.clips.channels[1].isSome = true := by
  unfold memoryInUse
  split
  · exact decide_eq_true_iff
  · simp only [Bool.or_eq_true, decide_eq_true_eq, or_assoc]
    rfl

theorem memorySettingsOwner_eq (t : State) : memorySettingsSetOwner ps t =
    if !memoryInRange (u16At ps 0) (u16At ps 2) then .refuse .badParam
    else if memoryInUse (u16At ps 0) (u16At ps 2) t then .refuse .inUse
    else if u16At ps 0 = t.mem.ring then .ok { t with mem := { t.mem with reserve := u16At ps 2 } } .none
    else .later (changeRing (u16At ps 0) (u16At ps 2) t) := rfl

-- the silent fill

/-- A segment of a memory keeps its cell where a filter by number keeps the number, and reads silent elsewhere. -/
theorem readCell_filter (p : Nat → Bool) (n : Nat) (cells : List (Nat × Segment)) :
    readCell n (cells.filter fun c => p c.1) = if p n then readCell n cells else Segment.silent := by
  induction cells with
  | nil => simp [readCell]
  | cons c rest ih =>
    obtain ⟨m, g⟩ := c
    by_cases here : m = n
    · subst here
      cases kept : p m <;> simp [readCell, kept, ih]
    · cases kept : p m <;> simp [readCell, kept, here, ih]

theorem fill_read (m : SampleMemory) (n : Nat) : m.fill.read n = if n < m.ring then Segment.silent else m.read n := by
  have filtered := readCell_filter (fun k => decide (m.ring ≤ k)) n m.cells
  rw [SampleMemory.read, SampleMemory.fill, filtered, SampleMemory.read]
  by_cases below : n < m.ring
  · simp [below, Nat.not_le.mpr below]
  · simp [below, Nat.not_lt.mp below]

/-- Settles O51. -/
theorem memorySettingsAreTaken : Obligations.MemorySettingsAreTaken := by
  refine ⟨?_, ?_⟩
  · intro r1 r0 a1 a0 s takes standby ring reserve set good inUse rebuilt
    have checks := memorySettings_checks (ps := [r1, r0, a1, a0]) standby rfl
    have owner := memorySettingsOwner_eq (ps := [r1, r0, a1, a0]) (frameComplete .C s)
    have inRange : memoryInRange ring reserve = true ↔ good := memoryInRange_iff ring reserve
    have used : memoryInUse ring reserve (frameComplete .C s) = true ↔ inUse := memoryInUse_iff ring reserve (frameComplete .C s)
    have ranged (h : good) : ¬(!memoryInRange ring reserve) = true := by simp [inRange.mpr h]
    have taken (h : good) (k : ¬inUse) : memorySettingsSetOwner [r1, r0, a1, a0] (frameComplete .C s) =
        if ring = s.mem.ring then .ok { frameComplete .C s with mem := { s.mem with reserve := reserve } } .none
        else .later (changeRing ring reserve (frameComplete .C s)) := by
      exact owner.trans ((if_neg (ranged h)).trans (if_neg fun e => k (used.mp e)))
    refine ⟨fun bad => ?_, fun h k => ?_, fun h k same => ?_, fun h k other => ?_⟩
    · have outside : (!memoryInRange ring reserve) = true := by simpa using mt inRange.mp bad
      exact congrArg _ (command_refused takes checks (owner.trans (if_pos outside)))
    · exact congrArg _ (command_refused takes checks (owner.trans ((if_neg (ranged h)).trans (if_pos (used.mpr k)))))
    · exact congrArg _ (command_ok takes checks ((taken h k).trans (if_pos same)))
    · refine congrArg _ ((command_taken takes _ checks).trans ?_)
      rw [taken h k, if_neg other]
      rfl
  · intro s supply flight
    refine ⟨s.mem.fill, ?_, rfl, fill_read s.mem⟩
    have fills : (s.running && decide ((s.link .C).inFlight = some ⟨0x3F, none⟩)) = true := by
      simp [State.running, supply, flight]
    exact congrArg _ (if_pos fills)

-- the profile

theorem rateOf_code (r : Rate) : rateOf r.code = some r := by
  cases r <;> rfl

theorem ratesOf_codes (p c l a : Rate) : ratesOf [p.code, c.code, l.code, a.code] = some #v[p, c, l, a] := by
  simp [ratesOf, byteAt, rateOf_code]

theorem profileProgram_checks (standby : s.dev.state = .standby) (four : ps.length = 4) :
    failedCheck .C 0x41 ps (frameComplete .C s) = none :=
  checks_taken ⟨0x41, [.C], true, false, false, false, .exactly 4⟩ rfl rfl (by simp [CommandRow.taken, standby]) (decide_eq_true four)

theorem profileRead_checks (h : Takes .C s) (one : ps.length = 1) : failedCheck .C 0x42 ps (frameComplete .C s) = none :=
  checks_pass h [.C] (.exactly 1) rfl rfl (decide_eq_true one)

theorem mem_gensDown (i : Fin 4) : i ∈ gensDown := by
  revert i
  decide

theorem isWriting_iff (p : ProfileStore) : p.isWriting = true ↔ ∃ i : Fin 4, (p.gens[i]).state = .writing := by
  rw [ProfileStore.isWriting, ProfileStore.highest, List.find?_isSome]
  simp [mem_gensDown]

theorem nextFree_none {p : ProfileStore} (full : ∀ i : Fin 4, (p.gens[i]).state ≠ .unprogrammed) : p.nextFree = none :=
  List.find?_eq_none.mpr fun i _ => by simpa using full i

/-- The first place with a property, of the four in order. -/
theorem find_first {q : Fin 4 → Bool} {i : Fin 4} (here : q i = true) (below : ∀ j, j < i → q j = false) :
    [(0 : Fin 4), 1, 2, 3].find? q = some i := by
  have b0 := below 0
  have b1 := below 1
  have b2 := below 2
  match i with
  | 0 => simp [here]
  | 1 => simp [here, b0 (by decide)]
  | 2 => simp [here, b0 (by decide), b1 (by decide)]
  | 3 => simp [here, b0 (by decide), b1 (by decide), b2 (by decide)]

theorem nextFree_first {p : ProfileStore} {i : Fin 4} (free : (p.gens[i]).state = .unprogrammed)
    (below : ∀ j : Fin 4, j < i → (p.gens[j]).state ≠ .unprogrammed) : p.nextFree = some i :=
  find_first (decide_eq_true free) fun j hj => decide_eq_false (below j hj)

theorem complete_writing {g : Generation} (h : g.complete = true) : g.state = .writing := by
  cases g <;> simp_all [Generation.complete, Generation.state]

/-- The one generation being written is the one whose write ends. -/
theorem find_complete {p : ProfileStore} {i : Fin 4} {c : Settings} {n : Nat} (writing : p.gens[i] = .writing c n) (done : 20 ≤ n)
    (sole : ∀ j : Fin 4, j ≠ i → (p.gens[j]).state ≠ .writing) : gensDown.find? (fun i => p.gens[i].complete) = some i := by
  have here : (p.gens[i]).complete = true := by simp [writing, Generation.complete, done]
  cases found : gensDown.find? fun i => p.gens[i].complete with
  | none => exact absurd here (by simpa using List.find?_eq_none.mp found i (mem_gensDown i))
  | some j =>
    by_contra other
    exact sole j (fun e => other (congrArg some e)) (complete_writing (List.find?_some (p := fun j : Fin 4 => (p.gens[j]).complete) found))

theorem endWrite_one {i : Fin 4} {c : Settings} {n : Nat} (writing : s.prof.gens[i] = .writing c n) (done : 20 ≤ n)
    (sole : ∀ j : Fin 4, j ≠ i → (s.prof.gens[j]).state ≠ .writing) : endWrite s = raise .C (.profileDone (i.val + 1))
      { s with prof := { s.prof with gens := s.prof.gens.set i (.written c c.crc) } } := by
  simp only [endWrite, find_complete writing done sole, writing]

theorem profileReadOwner_named {i : Fin 4} (named : (byteAt ps 0).toNat = i.val + 1) (t : State) : profileReadOwner ps t =
    match t.prof.gens[i] with
    | .written c crc => .ok t (.profileContents c (decide (c.crc = crc)))
    | _ => .refuse .notFound := by
  have place : i.val + 1 - 1 < 4 := i.isLt
  simp only [profileReadOwner, named, Nat.succ_ne_zero, if_false, dif_pos place]
  rfl

/-- Settles O52. -/
theorem profilesAreProgrammed : Obligations.ProfilesAreProgrammed := by
  refine ⟨?_, ?_, ?_⟩
  · intro p c l a s takes standby set writing
    have checks := profileProgram_checks (ps := [p.code, c.code, l.code, a.code]) standby rfl
    have rates := ratesOf_codes p c l a
    have isWriting : s.prof.isWriting = true ↔ writing := isWriting_iff s.prof
    refine ⟨fun busy => ?_, fun idle full => ?_, fun i idle free below => ?_⟩
    · have busy' : (frameComplete .C s).prof.isWriting = true := isWriting.mpr busy
      exact congrArg _ (command_refused takes checks (by simp only [profileProgramOwner, rates, busy', if_true]))
    · have idle' : (frameComplete .C s).prof.isWriting = false := Bool.eq_false_iff.mpr fun e => idle (isWriting.mp e)
      have full' : (frameComplete .C s).prof.nextFree = none := nextFree_none full
      exact congrArg _ (command_refused takes checks (by simp only [profileProgramOwner, rates, idle', full', Bool.false_eq_true, if_false]))
    · have idle' : (frameComplete .C s).prof.isWriting = false := Bool.eq_false_iff.mpr fun e => idle (isWriting.mp e)
      have first : (frameComplete .C s).prof.nextFree = some i := nextFree_first free below
      refine congrArg _ (command_ok takes checks ?_)
      simp only [profileProgramOwner, rates, idle', first, Bool.false_eq_true, if_false]
      rfl
  · intro i c n s found writing done sole
    refine ⟨congrArg _ ((takeRow_found found ?_).trans (endWrite_one writing done sole)), by simp [Generation.state]⟩
    exact List.any_eq_true.mpr ⟨i, mem_gensDown i, by
      show (s.prof.gens[i]).complete = true
      simp [writing, Generation.complete, done]⟩
  · intro b s takes read
    have refused {st : Status} (owner : profileReadOwner [b] (frameComplete .C s) = .refuse st) : read st .none :=
      congrArg _ (command_refused takes (profileRead_checks takes rfl) owner)
    have reads {r : Result} (owner : profileReadOwner [b] (frameComplete .C s) = .ok (frameComplete .C s) r) : read .ok r :=
      congrArg _ (command_ok takes (profileRead_checks takes rfl) owner)
    refine ⟨fun zero => ?_, fun above => refused ?_, fun i named => ?_⟩
    · subst zero
      refine reads (congrArg (fun v => Reply.ok _ (Result.profileStates s.prof.loaded v)) ?_)
      rfl
    · have nonzero : ¬(byteAt [b] 0).toNat = 0 := by show ¬b.toNat = 0; omega
      have beyond : ¬(byteAt [b] 0).toNat - 1 < 4 := by show ¬b.toNat - 1 < 4; omega
      simp only [profileReadOwner, nonzero, beyond, if_false, dif_neg, not_false_iff]
    · have owner := profileReadOwner_named (ps := [b]) named (frameComplete .C s)
      refine ⟨fun c crc written => reads (owner.trans ?_), fun unwritten => refused (owner.trans ?_)⟩
      · rw [show (frameComplete .C s).prof.gens[i] = .written c crc from written]
      · cases gen : (frameComplete .C s).prof.gens[i] with
        | written c crc => exact absurd gen (unwritten c crc)
        | _ => rfl

end Sys2Proof.MemoryAndProfile
end

section
/-! R95, R96, R165 to R167: the silence window, the fill notice and its answer, and STUDIO ending FALLBACK. -/

namespace Sys2Proof.Fallback

-- one thread: the check compiles under a limit on the process
set_option Elab.async false

open Sys2Proof.Machine Sys2Proof.Safety Sys2Proof.Laws Sys2Proof.TakenCommands Sys2Proof.EngineNotices Sys2Proof.ConsoleLevels
open Sys2Proof.FillEnds Sys2Proof.CallerSlots Sys2Proof.ItemEnds Sys2Proof.StartedItems Sys2Proof.GoAndStop Sys2Proof.CueList
open Sys2Proof.EventKeeping

variable {s t : State} {n : ClipId} {v : Voice}

-- the fallback clip in VOICE A

theorem startOrdinal_zero (c : Clip) : startOrdinal c 0 = 0 := by
  unfold startOrdinal
  split
  · rfl
  · split
    · simp
    · omega

/-- The fallback clip at full gain, at once. -/
def fillContrib (n : ClipId) : Contrib := ⟨some (.clip (.playout n)), 32768, 32768, none, none⟩

theorem activate_fill (ready : (s.clip (.playout n)).state = .ready) : activate .voiceA (.clip (.playout n)) 32768 0 0 s =
    (openReader .voiceA (.playout n) 0 (closeReader .voiceA s)).setContrib .voiceA (fillContrib n) :=
  if_pos ready

theorem activate_fill_reader (ready : (s.clip (.playout n)).state = .ready) :
    (activate .voiceA (.clip (.playout n)) 32768 0 0 s).clips.readerA = some ⟨.playout n, 0, false, false⟩ := by
  rw [activate_fill ready, openReader, startOrdinal_zero]
  rfl

theorem activate_fill_mix (ready : (s.clip (.playout n)).state = .ready) :
    (activate .voiceA (.clip (.playout n)) 32768 0 0 s).mix = { s.mix with voiceA := fillContrib n } := by
  have shut : (openReader .voiceA (.playout n) 0 (closeReader .voiceA s)).mix = s.mix :=
    Eq.trans (openReader_touches .voiceA (.playout n) 0 _ .mix (by decide)) (closeReader_touches .voiceA s .mix (by decide))
  rw [activate_fill ready, ← shut]
  rfl

-- the fill notice

theorem take_window (found : Found .silenceWindow s) (mode : s.sup.mode = some .normal)
    (silent : s.sup.settings.window ≤ s.sup.counter) :
    exec .silenceWindow s = .next (beginFallback { s with due := s.due.erase .silenceWindow }) :=
  congrArg _ (takeRow_found found (by simp [stillDue, mode, silent]))

theorem carried_none (idle : ∀ o, s.voice v ≠ .carrying o) : s.carried v = none := by
  unfold State.carried
  cases voice : s.voice v with
  | carrying o => exact absurd voice (idle o)
  | _ => rfl

theorem stopVoice_idle (idle : ∀ o, s.voice v ≠ .carrying o) : stopVoice v s = s := by
  simp only [stopVoice, carried_none idle]

theorem stopEntries_idle (stopped : ∀ e ∈ s.cue.entries, e.state ≠ .playing) (idleA : ∀ o, s.cue.voiceA ≠ .carrying o)
    (idleB : ∀ o, s.cue.voiceB ≠ .carrying o) : stopEntries s = { s with
      cue := { s.cue with clock := s.cue.clock + 1, goPending := false, window := none } } := by
  have kept : (s.cue.entries.map fun e => if e.playing then e.setBack else e) = s.cue.entries := by
    conv_rhs => rw [← List.map_id s.cue.entries]
    refine List.map_congr_left fun e he => if_neg ?_
    exact fun plays => stopped e he (of_decide_eq_true plays)
  rw [stopEntries, stopVoice_idle (v := .A) idleA, stopVoice_idle (v := .B) idleB, kept]

theorem fillNotice_stays (h : s.cue.state = .held ∨ s.cue.state = .filling) : fillNotice s = (s, .notFilled) := if_pos h.symm

theorem fillNotice_silent (runs : s.cue.state ≠ .held) (other : s.cue.state ≠ .filling) (noClip : s.clips.fallback = none) :
    fillNotice s = (enterEngine s.cue.state .filling (stopEntries s), .filledSilent) := by
  simp only [fillNotice, runs, other, or_self, if_false, noClip]

theorem fillNotice_filled (runs : s.cue.state ≠ .held) (other : s.cue.state ≠ .filling) (clip : s.clips.fallback = some n) :
    fillNotice s = (enterEngine s.cue.state .filling
      ((activate .voiceA (.clip (.playout n)) 32768 0 0 (stopEntries s)).setVoice .A .filling), .filled) := by
  simp only [fillNotice, runs, other, or_self, if_false, clip]

/-- The engine enters FILLING with no record taking the air at its notice. -/
theorem enterFilling_quiet {was : EngineState} (quiet : NoneTakes .ordinary .filling s) (changes : EngineState.filling ≠ was)
    (device : t.dev = s.dev) (alerts : t.alerts = s.alerts) : enterEngine was .filling t = { t with
      cue := { t.cue with state := .filling }
      alerts := { t.alerts with view := .filling } } := by
  rw [enterEngine_quiet quiet (by rw [device]) (by rw [alerts]) (by rw [alerts]), if_neg changes]

theorem silenceStartsTheFill : Claims.SilenceStartsTheFill := by
  intro s found mode silent due
  have runs := take_window found mode silent
  refine ⟨fun busy => ?_, fun idle stopped quiet idleA idleB => ?_⟩
  · rw [runs, beginFallback, fillNotice_stays (s := { s with due := s.due.erase .silenceWindow }) busy]
  · intro filling
    let s0 : State := { s with due := s.due.erase .silenceWindow }
    have notHeld : s0.cue.state ≠ .held := by rcases idle with h | h <;> simp [s0, h]
    have notFilling : s0.cue.state ≠ .filling := by rcases idle with h | h <;> simp [s0, h]
    have stop := stopEntries_idle (s := s0) stopped idleA idleB
    have quiet0 : NoneTakes .ordinary .filling s0 := quiet
    refine ⟨fun noClip => ?_, fun n clip ready closed => ?_⟩
    · rw [runs, beginFallback, fillNotice_silent (s := s0) notHeld notFilling noClip,
        enterFilling_quiet quiet0 notFilling.symm (by rw [stop]) (by rw [stop]), stop]
    · intro clips
      have activated : activate .voiceA (.clip (.playout n)) 32768 0 0 (stopEntries s0) =
          { s0 with
            cue := { s.cue with clock := s.cue.clock + 1, goPending := false, window := none }
            clips := clips
            mix := { s.mix with voiceA := fillContrib n } } := by
        rw [stop, activate_fill (by exact ready)]
        have shut : closeReader .voiceA ({ s0 with
            cue := { s0.cue with clock := s0.cue.clock + 1, goPending := false, window := none } } : State) =
            { s0 with cue := { s0.cue with clock := s0.cue.clock + 1, goPending := false, window := none } } := by
          simp only [closeReader, ClipStore.reader, s0, closed]
        rw [shut, openReader, startOrdinal_zero]
        rfl
      rw [runs, beginFallback, fillNotice_filled (s := s0) notHeld notFilling clip,
        enterFilling_quiet quiet0 notFilling.symm (by rw [activated]; rfl) (by rw [activated]; rfl), activated]
      rfl

-- the answer to the fill notice

theorem fillAnswersEnterFallback : Claims.FillAnswersEnterFallback := by
  intro s found answered entered remembered
  have takes {a : FillAnswer} (answer : s.sup.answer = some a) :
      exec .fillAnswer s = .next (takeFillAnswer { s with due := s.due.erase .fillAnswer }) :=
    congrArg _ (takeRow_found found (by simp [stillDue, answer]))
  have normal (mode : s.sup.mode = some .normal) : enterFallback answered = { answered with
      sup := { answered.sup with mode := some .fallback }
      panel := { s.panel with reports := { s.panel.reports with fallback := true } } } := by
    simp only [enterFallback, answered, mode]
    rfl
  have underAlert (mode : s.sup.mode = some .alert) : enterFallback answered = { answered with
      sup := { answered.sup with remembered := some .fallback } } := by
    simp only [enterFallback, answered, mode]
  refine ⟨fun mode answer => ?_, fun mode answer => ?_, fun mode answer => ?_, fun mode answer => ?_, fun answer => ?_⟩
  · rw [takes answer, takeFillAnswer]
    simp only [answer]
    exact congrArg (fun x => Host.Outcome.next (raise .P .fallbackEntered (raise .C .fallbackEntered x))) (normal mode)
  · rw [takes answer, takeFillAnswer]
    simp only [answer]
    exact congrArg (fun x => Host.Outcome.next (raise .P .fallbackEntered (raise .C .fallbackNoAudio x))) (normal mode)
  · rw [takes answer, takeFillAnswer]
    simp only [answer]
    exact congrArg (fun x => Host.Outcome.next (raise .P .fallbackEntered (raise .C .fallbackEntered x))) (underAlert mode)
  · rw [takes answer, takeFillAnswer]
    simp only [answer]
    exact congrArg (fun x => Host.Outcome.next (raise .P .fallbackEntered (raise .C .fallbackNoAudio x))) (underAlert mode)
  · rw [takes answer, takeFillAnswer]
    simp only [answer]
    rfl

-- a fill notice in PLAYING

theorem useClip_state (up : Bool) (c d : ClipRef) (s : State) : ((useClip up c s).clip d).state = (s.clip d).state := by
  unfold useClip
  split
  · next m =>
    by_cases same : d = .playout m
    · subst same
      rw [clip_modClip]
    · rw [clip_modClip_ne same]
  · rfl

theorem clip_setReader (r : ReaderOf) (x : Option Reader) (s : State) (c : ClipRef) : (s.setReader r x).clip c = s.clip c := by
  cases r <;> cases c <;> rfl

theorem closeReader_state (r : ReaderOf) (s : State) (c : ClipRef) : ((closeReader r s).clip c).state = (s.clip c).state := by
  unfold closeReader
  split
  · rfl
  · rw [useClip_state, clip_setReader]

theorem clip_of_clips (h : t.clips = s.clips) (c : ClipRef) : t.clip c = s.clip c := by
  cases c <;> simp only [State.clip, h]

theorem fadeOut_state (c : Contributor) (k : Nat) (s : State) (d : ClipRef) : ((fadeOut c k s).clip d).state = (s.clip d).state := by
  have set (x : Contrib) (s : State) : (s.setContrib c x).clip d = s.clip d := by
    cases d <;> rfl
  unfold fadeOut cut
  split
  · split
    · rw [set, closeReaderOf]
      split
      · exact closeReader_state _ s d
      · rfl
    · rfl
  · split
    · rw [set]
    · rfl

theorem stopVoice_clip (v : Voice) (s : State) (d : ClipRef) : ((stopVoice v s).clip d).state = (s.clip d).state := by
  have set (x : VoiceState) (s : State) : (s.setVoice v x).clip d = s.clip d := by
    cases d <;> cases v <;> rfl
  unfold stopVoice
  split
  · rfl
  · split
    · rfl
    · split
      · rw [set]
      · rw [releaseVoice, set, fadeOut_state]

theorem stopEntries_clip (s : State) (d : ClipRef) : ((stopEntries s).clip d).state = (s.clip d).state := by
  have ends : (stopEntries s).clip d = (stopVoice .B (stopVoice .A s)).clip d := by
    cases d <;> rfl
  rw [ends, stopVoice_clip, stopVoice_clip]

theorem fillsStopThePlaying : Claims.FillsStopThePlaying := by
  intro n s found mode silent playing quiet clip ready
  let s0 : State := { s with due := s.due.erase .silenceWindow }
  let u := stopEntries s0
  let w := (activate .voiceA (.clip (.playout n)) 32768 0 0 u).setVoice .A .filling
  have notHeld : s0.cue.state ≠ .held := by simp [s0, playing]
  have notFilling : s0.cue.state ≠ .filling := by simp [s0, playing]
  have quiet0 : NoneTakes .ordinary .filling s0 := quiet
  have stop := stopEntries_parts s0
  have active := activate_touches .voiceA (.clip (.playout n)) 32768 0 0 u
  have ready' : (u.clip (.playout n)).state = .ready := (stopEntries_clip s0 (.playout n)).trans ready
  have device : w.dev = s0.dev := Eq.trans (active .dev (by decide)) (stop .dev (by decide))
  have alerts : w.alerts = s0.alerts := Eq.trans (active .alerts (by decide)) (stop .alerts (by decide))
  have sup : w.sup = s.sup := Eq.trans (active .sup (by decide)) (stop .sup (by decide))
  have due : w.due = s0.due := Eq.trans (active .due (by decide)) (stop .due (by decide))
  have mix : w.mix = { u.mix with voiceA := fillContrib n } := activate_fill_mix ready'
  have cue : w.cue = { u.cue with voiceA := .filling } :=
    congrArg (fun c : Cue => { c with voiceA := VoiceState.filling }) (active .cue (by decide))
  have entered := enterFilling_quiet quiet0 notFilling.symm device alerts
  have runs : exec .silenceWindow s = .next { w with
      cue := { w.cue with state := .filling }
      alerts := { w.alerts with view := .filling }
      sup := { w.sup with answer := some .filled }
      due := w.due ++ [.fillAnswer] } := by
    rw [take_window found mode silent, beginFallback, fillNotice_filled (s := s0) notHeld notFilling clip, entered]
  refine ⟨_, runs, rfl, congrArg Cue.voiceA cue, by rw [sup], by rw [due], congrArg Mix.voiceA mix, activate_fill_reader ready', ?_,
    fun i o e carried voice entry sounds fades active => ?_⟩
  · refine (congrArg Cue.entries cue).trans (List.map_congr_left fun e _ => ?_)
    by_cases plays : e.state = .playing <;> simp [Entry.playing, plays, Entry.setBack]
  · obtain ⟨⟨p, releasing⟩, fading⟩ := stopEntries_fades (s := s0) (v := .B) carried entry sounds fades active
    exact ⟨⟨p, (congrArg Cue.voiceB cue).trans releasing⟩, (congrArg Mix.voiceB mix).trans fading⟩

-- STUDIO ends FALLBACK

/-- STUDIO turned on, its MIC_LIVE reported. -/
def studioOnAir (g k : Nat) (s : State) : State :=
  let x : Contrib := ⟨some (.source 0), g, if min 500 k = 0 then g else 0, none,
    if min 500 k = 0 then none else some ⟨g, min 500 k, .level⟩⟩
  { s with
    mix := { s.mix with studio := x, studioFade := min k 500 }
    panel := { s.panel with reports := { s.panel.reports with micLive := true } } }

theorem studioSet_on (off : s.mix.studio.binding = none) (g k : Nat) :
    studioSet true g k s = endFallback .studio (studioOnAir g k s) := by
  let s1 : State := { s with mix := { s.mix with studioFade := min k 500 } }
  have turned := switchStudio_on_inactive (s := s1) (g := g) (n := k) off
  have wasOff : s1.studioOn = false := by simp [s1, State.studioOn, Contrib.active, off]
  have isOn : (studioOnAir g k s).studioOn = true := by
    by_cases flat : min 500 k = 0 <;> simp [studioOnAir, State.studioOn, Contrib.active, Contrib.fadingOut, flat]
  have told : (switchStudio true g k s1).studioOn = true := by
    rw [turned]
    exact isOn
  show studioSwitch true g k s1 = _
  rw [studioSwitch]
  simp only [wasOff, told, Bool.not_false, Bool.and_self, if_true]
  rw [turned]
  rfl

theorem exec_studioOn {g1 g0 f1 f0 : Byte} (h : Takes .C s) (off : s.mix.studio.binding = none) :
    exec (.studioSet .C [1, g1, g0, f1, f0]) s = .next (respond .C 0x36 .ok .none
      (endFallback .studio (studioOnAir (u16 g1 g0) (u16 f1 f0) (frameComplete .C s)))) := by
  refine congrArg _ ((command_taken h _ (studioSet_checks h _ rfl)).trans ?_)
  have parsed : studioSetOwner [1, g1, g0, f1, f0] (frameComplete .C s) =
    .ok (studioSet true (u16 g1 g0) (u16 f1 f0) (frameComplete .C s)) .none := rfl
  rw [parsed, studioSet_on (by exact off)]
  rfl

/-- The state in which FALLBACK has ended and the fill is still to end. -/
def fallbackLeft (s : State) : State := raise .C (.fallbackLeft .studio) { s with
  sup := { s.sup with mode := some .normal, counter := 0 }
  panel := { s.panel with reports := { s.panel.reports with fallback := false } } }

theorem exec_studioOn_fallback {g1 g0 f1 f0 : Byte} (h : Takes .C s) (off : s.mix.studio.binding = none)
    (mode : s.sup.mode = some .fallback) (filling : s.cue.state = .filling) (stopped : ∀ e ∈ s.cue.entries, e.state ≠ .playing)
    (quietArmed : NoneTakes .ordinary .armed s) (quietIdle : NoneTakes .ordinary .idle s) :
    exec (.studioSet .C [1, g1, g0, f1, f0]) s = .next (respond .C 0x36 .ok .none
      (fillEnded (fallbackLeft (studioOnAir (u16 g1 g0) (u16 f1 f0) (frameComplete .C s))))) := by
  rw [exec_studioOn h off, endFallback_fallback (by exact mode) (by decide)]
  exact congrArg (fun x => Host.Outcome.next (respond .C 0x36 .ok .none x))
    (fillEnd_quiet (by exact filling) (by exact stopped) (by exact quietArmed) (by exact quietIdle))

theorem studioEndsFallback : Claims.StudioEndsFallback := by
  intro g1 g0 f1 f0 s takes _ mode off filling stopped quietArmed quietIdle
  let u := fallbackLeft (studioOnAir (u16 g1 g0) (u16 f1 f0) (frameComplete .C s))
  have touched := fillEnded_touches u
  refine ⟨_, exec_studioOn_fallback takes off mode filling stopped quietArmed quietIdle, touched .sup (by decide), ?_, rfl, ?_, ?_, ?_⟩
  · exact congrArg (fun p : Panel => p.reports.fallback) (touched .panel (by decide))
  · show (fillReleased u).cue.entries = _
    rw [fillReleased_cue]
    rfl
  · have pending : Pending .C (.fallbackLeft .studio) u := pending_raised _ _ _
    obtain ⟨p, hp, he⟩ := pending
    refine ⟨p, ?_, he⟩
    rw [respond, link_modLink]
    change p ∈ ((fillEnded u).links.get .C).events
    rw [show (fillEnded u).links = u.links from touched .links (by decide)]
    exact hp
  · show (fillReleased u).mix.studio.binding = _
    have other : (fillReleased u).mix.studio = u.mix.studio := by
      unfold fillReleased
      split
      · exact contrib_fadeOut_ne (c := .voiceA) (d := .studio) (by decide) _ u
      · rfl
    rw [other]
    rfl

/-- Under an alert STUDIO ends the FALLBACK that the air mode remembers. -/
theorem endFallback_remembered (mode : s.sup.mode = some .alert) (remembered : s.sup.remembered = some .fallback) :
    endFallback .studio s = fillEnd (raise .C (.fallbackLeft .studio)
      { s with sup := { s.sup with remembered := some .normal, counter := 0 } }) := by
  unfold endFallback
  split
  · simp_all
  · exact if_pos rfl
  · next other => exact absurd remembered (other mode)

theorem fillsFadeOut : Claims.FillsFadeOut := by
  intro g1 g0 f1 f0 s takes _ off
  refine ⟨fun mode filling fills active fades stopped quietArmed quietIdle => ?_, fun h mode remembered held record => ?_⟩
  · let u := fallbackLeft (studioOnAir (u16 g1 g0) (u16 f1 f0) (frameComplete .C s))
    have fading := fillReleased_fading (s := u) fills active fades
    refine ⟨_, exec_studioOn_fallback takes off mode filling stopped quietArmed quietIdle, ⟨u.cue.clock, ?_⟩, ?_⟩
    · show (fillReleased u).cue.voiceA = _
      rw [fading]
    · show (fillReleased u).mix.voiceA = _
      rw [fading]
      rfl
  · let w := studioOnAir (u16 g1 g0) (u16 f1 f0) (frameComplete .C s)
    let u := raise .C (.fallbackLeft .studio) { w with sup := { w.sup with remembered := some .normal, counter := 0 } }
    let ended : State := { u with cue := { s.cue with held := some { h with
      stateLeft := if h.stateLeft ≠ .filling then h.stateLeft else if s.cue.entries = [] then .idle else .armed } } }
    have fill : fillEnd u = ended := by
      have heldU : u.cue.state = .held := held
      have recordU : u.cue.held = some h := record
      simp only [fillEnd, heldU, recordU]
      by_cases left : h.stateLeft = .filling
      · simp only [left, if_true, ne_eq, not_true, if_false, ended, List.isEmpty_iff]
        rw [held]
        rfl
      · simp only [left, if_false, ne_eq, not_false_iff, if_true, ended]
        rw [← record]
        rfl
    have runs : exec (.studioSet .C [1, g1, g0, f1, f0]) s = .next (respond .C 0x36 .ok .none ended) := by
      rw [exec_studioOn takes off, ← fill]
      exact congrArg (fun x => Host.Outcome.next (respond .C 0x36 .ok .none x))
        (endFallback_remembered (s := w) (by exact mode) (by exact remembered))
    refine ⟨_, runs, rfl, rfl, ?_, rfl⟩
    have pending : Pending .C (.fallbackLeft .studio) u := pending_raised _ _ _
    obtain ⟨p, hp, he⟩ := pending
    refine ⟨p, ?_, he⟩
    rw [respond, link_modLink]
    exact hp

/-- Settles O47. -/
theorem fallbackIsEnteredAndLeft : Obligations.FallbackIsEnteredAndLeft :=
  ⟨silenceStartsTheFill, fillAnswersEnterFallback, studioEndsFallback, fillsStopThePlaying, fillsFadeOut⟩

end Sys2Proof.Fallback
end

section
/-! R142: alert records finish; the state reports of the link and of its statuses, which finish them (R140, R141). -/

namespace Sys2Proof.FinishedRecords

-- one thread: the check compiles under a limit on the process
set_option Elab.async false

open Sys2Proof.Machine Sys2Proof.Safety Sys2Proof.Laws Sys2Proof.AlertReading

variable {s t : State} {j k : AlertSlot} {r h : AlertRecord} {o : AlertOutcome}

-- one record finishes

/-- What the history keeps of a record (R142). -/
def ended (r : AlertRecord) (o : AlertOutcome) : AlertRecord := { r with phase := .finished o, clip := none }

theorem finish_none (free : s.record k = none) (o : AlertOutcome) : finish k o s = s := by
  simp only [finish, free]

theorem finish_alerts (record : s.record k = some r) (o : AlertOutcome) : (finish k o s).alerts = { s.alerts with
    records := s.alerts.records.set k none
    queue := s.alerts.queue.filter (· ≠ k)
    history := (ended r o :: s.alerts.history).take 8 } := by
  simp only [finish, record]
  rfl

theorem record_finish (k j : AlertSlot) (o : AlertOutcome) (s : State) :
    (finish k o s).record j = if j = k then none else s.record j := by
  cases record : s.record k with
  | none =>
    rw [finish_none record]
    split
    · next here => rw [here, record]
    · rfl
  | some r =>
    rw [State.record, finish_alerts record]
    by_cases here : j = k
    · subst here
      simp
    · rw [if_neg here]
      have apart : k.val ≠ j.val := fun e => here (Fin.ext e.symm)
      simp [State.record, apart]

theorem activeAlerts_congr (same : ∀ k, (t.record k).isSome = (s.record k).isSome) : t.activeAlerts = s.activeAlerts := by
  simp only [State.activeAlerts, same]

theorem activeAlerts_finish (record : s.record k = some r) (o : AlertOutcome) :
    (finish k o s).activeAlerts + 1 = s.activeAlerts := by
  have left (j : AlertSlot) : ((finish k o s).record j).isSome = (decide (j ≠ k) && (s.record j).isSome) := by
    rw [record_finish]
    by_cases here : j = k <;> simp [here]
  simp only [State.activeAlerts, alertSlots, left]
  match k with
  | 0 | 1 | 2 | 3 => simp [List.countP_cons, record]; try omega

/-- The history still holds `h` when every active record has finished too: at most 8 records are newer (R142). -/
def Remembered (h : AlertRecord) (s : State) : Prop := ∃ m, h ∈ s.alerts.history.take m ∧ m + s.activeAlerts ≤ 8

theorem Remembered.mem (kept : Remembered h s) : h ∈ s.alerts.history := by
  obtain ⟨m, member, -⟩ := kept
  exact List.mem_of_mem_take member

theorem Remembered.of_same (kept : Remembered h s) (history : t.alerts.history = s.alerts.history)
    (active : t.activeAlerts = s.activeAlerts) : Remembered h t := by
  obtain ⟨m, member, room⟩ := kept
  exact ⟨m, by rw [history]; exact member, by rw [active]; exact room⟩

theorem Remembered.of_records (kept : Remembered h s) (records : t.alerts.records = s.alerts.records)
    (history : t.alerts.history = s.alerts.history) : Remembered h t :=
  kept.of_same history (activeAlerts_congr fun k => by rw [State.record, State.record, records])

theorem Remembered.finish (kept : Remembered h s) (k : AlertSlot) (o : AlertOutcome) : Remembered h (Machine.finish k o s) := by
  cases record : s.record k with
  | none => rwa [finish_none record]
  | some r =>
    obtain ⟨m, member, room⟩ := kept
    have fewer := activeAlerts_finish record o
    refine ⟨m + 1, ?_, by omega⟩
    rw [finish_alerts record]
    have inEight : min m 7 = m := by omega
    simp [List.take_take, List.take_succ_cons, inEight, member]

theorem activeAlerts_le (s : State) : s.activeAlerts ≤ 4 := List.countP_le_length

/-- A record that finishes is remembered with its outcome. -/
theorem remembered_finish (record : s.record k = some r) (o : AlertOutcome) : Remembered (ended r o) (Machine.finish k o s) := by
  have few := activeAlerts_le (Machine.finish k o s)
  refine ⟨1, ?_, by omega⟩
  rw [finish_alerts record]
  simp

-- every record that a report picks out finishes, in slot order

/-- The record in a slot finishes with the outcome that `g` gives it, if any. -/
def finishBy (g : AlertRecord → Option AlertOutcome) (s : State) (k : AlertSlot) : State :=
  match s.record k with
  | some r => match g r with
    | some o => finish k o s
    | none => s
  | none => s

def finishAll (g : AlertRecord → Option AlertOutcome) (s : State) : State := alertSlots.foldl (finishBy g) s

section
variable {g : AlertRecord → Option AlertOutcome}

theorem finishBy_touches (g : AlertRecord → Option AlertOutcome) (s : State) (k : AlertSlot) :
    Touches [.alerts, .cue, .links] s (finishBy g s k) := by
  unfold finishBy
  split
  · split
    · exact finish_touches _ _ s
    · exact Touches.refl _ s
  · exact Touches.refl _ s

theorem finishAll_touches (g : AlertRecord → Option AlertOutcome) (s : State) : Touches [.alerts, .cue, .links] s (finishAll g s) :=
  Touches.foldl _ (fun u k => finishBy_touches g u k) _ s

theorem record_finishBy (g : AlertRecord → Option AlertOutcome) (s : State) (k j : AlertSlot) :
    (finishBy g s k).record j = if j = k then (s.record j).filter (fun r => (g r).isNone) else s.record j := by
  unfold finishBy
  by_cases here : j = k
  · subst here
    cases record : s.record j with
    | none => simp [record]
    | some r => cases outcome : g r <;> simp [record, outcome, record_finish, Option.filter]
  · rw [if_neg here]
    split
    · split
      · rw [record_finish, if_neg here]
      · rfl
    · rfl

theorem record_finishEach (ks : List AlertSlot) (j : AlertSlot) : ∀ s : State, (ks.foldl (finishBy g) s).record j =
    if j ∈ ks then (s.record j).filter (fun r => (g r).isNone) else s.record j := by
  induction ks with
  | nil => simp
  | cons k ks ih =>
    intro s
    rw [List.foldl_cons, ih, record_finishBy]
    by_cases here : j = k <;> by_cases later : j ∈ ks <;> simp [here, later, Option.filter_filter]

/-- The records that are left are those without an outcome. -/
theorem record_finishAll (s : State) (j : AlertSlot) : (finishAll g s).record j = (s.record j).filter fun r => (g r).isNone := by
  rw [finishAll, record_finishEach, if_pos (mem_alertSlots j)]

theorem Remembered.finishBy (kept : Remembered h s) (k : AlertSlot) : Remembered h (FinishedRecords.finishBy g s k) := by
  unfold FinishedRecords.finishBy
  split
  · split
    · exact kept.finish _ _
    · exact kept
  · exact kept

theorem Remembered.finishEach (ks : List AlertSlot) : ∀ {s : State}, Remembered h s →
    Remembered h (ks.foldl (FinishedRecords.finishBy g) s) := by
  induction ks with
  | nil => exact id
  | cons k ks ih => exact fun kept => ih (kept.finishBy k)

theorem Remembered.finishAll (kept : Remembered h s) : Remembered h (FinishedRecords.finishAll g s) := kept.finishEach _

/-- A record with an outcome is remembered with it. -/
theorem remembered_finishAll (record : s.record j = some r) (outcome : g r = some o) : Remembered (ended r o) (finishAll g s) := by
  have each (ks : List AlertSlot) (member : j ∈ ks) : ∀ s : State, s.record j = some r →
      Remembered (ended r o) (ks.foldl (finishBy g) s) := by
    induction ks with
    | nil => cases member
    | cons k ks ih =>
      intro s record
      by_cases here : j = k
      · subst here
        have done : finishBy g s j = finish j o s := by simp only [finishBy, record, outcome]
        rw [List.foldl_cons, done]
        exact (remembered_finish record o).finishEach ks
      · rw [List.foldl_cons]
        exact ih ((List.mem_cons.mp member).resolve_left here) _ (by rw [record_finishBy, if_neg here, record])
  exact each alertSlots (mem_alertSlots j) s record

theorem finishAll_nothing (idle : ∀ k r, s.record k = some r → g r = none) : finishAll g s = s := by
  have each (ks : List AlertSlot) : ks.foldl (finishBy g) s = s := by
    induction ks with
    | nil => rfl
    | cons k ks ih =>
      have stays : finishBy g s k = s := by
        unfold finishBy
        split
        · next r record => simp only [idle k r record]
        · rfl
      rw [List.foldl_cons, stays, ih]
  exact each _

end

-- marks

theorem mapRecords_nothing {p : AlertRecord → Bool} {f : AlertRecord → AlertRecord} (idle : ∀ k r, s.record k = some r → p r = false) :
    s.mapRecords p f = s := by
  have kept : (Vector.ofFn fun k : Fin 4 => s.alerts.records[k].map fun r => if p r then f r else r) = s.alerts.records := by
    refine Vector.ext fun i hi => ?_
    rw [Vector.getElem_ofFn]
    cases record : s.alerts.records[i] with
    | none => rfl
    | some r => simp [idle ⟨i, hi⟩ r record]
  rw [State.mapRecords, kept]

theorem Remembered.mapRecords (kept : Remembered h s) (p : AlertRecord → Bool) (f : AlertRecord → AlertRecord) :
    Remembered h (s.mapRecords p f) := by
  refine kept.of_same rfl (activeAlerts_congr fun k => ?_)
  rw [DelayReads.record_mapRecords]
  cases s.record k <;> rfl

-- the status report (R140)

/-- The outcome that a status gives a record it reaches. -/
def statusOutcome (st : TxStatus) (r : AlertRecord) : Option AlertOutcome := if r.reachedBy st then some r.verdict else none

/-- A status with its carrier off or a frame missing unmarks the records on the link. -/
def statusMarked (st : TxStatus) (s : State) : State :=
  if !st.carrier ∨ 0 < st.missing then
    s.mapRecords (fun r => r.onLink && r.firstSeq.isSome) fun r => { r with clean := false }
  else s

theorem statusReport_eq (st : TxStatus) (s : State) : statusReport st s = finishAll (statusOutcome st) (statusMarked st s) := by
  unfold statusReport finishAll
  show alertSlots.foldl _ (statusMarked st s) = alertSlots.foldl _ (statusMarked st s)
  refine congrArg (fun f => alertSlots.foldl f (statusMarked st s)) (funext fun u => funext fun k => ?_)
  unfold finishBy statusOutcome
  cases record : u.record k with
  | none => rfl
  | some r => cases reached : r.reachedBy st <;> simp [reached]

theorem statusMarked_touches (st : TxStatus) (s : State) : Touches [.alerts] s (statusMarked st s) := by
  unfold statusMarked
  split
  · exact mapRecords_touches _ _ s
  · exact Touches.refl _ s

theorem record_statusMarked (st : TxStatus) (s : State) (k : AlertSlot) : (statusMarked st s).record k = (s.record k).map fun r =>
    { r with clean := r.clean && (!(r.onLink && r.firstSeq.isSome) || st.carrier && decide (st.missing = 0)) } := by
  unfold statusMarked
  by_cases bad : (!st.carrier) = true ∨ 0 < st.missing
  · rw [if_pos bad, DelayReads.record_mapRecords]
    have judged : (st.carrier && decide (st.missing = 0)) = false := by
      rcases bad with b | b
      · simp_all
      · simp [show st.missing ≠ 0 by omega]
    refine congrArg (fun f => (s.record k).map f) (funext fun r => ?_)
    cases marks : r.onLink && r.firstSeq.isSome <;> simp [judged]
  · rw [if_neg bad]
    have judged : (st.carrier && decide (st.missing = 0)) = true := by
      obtain ⟨on, zero⟩ := not_or.mp bad
      simp_all
    simp [judged]

theorem statusMarked_remembered (kept : Remembered h s) (st : TxStatus) : Remembered h (statusMarked st s) := by
  unfold statusMarked
  split
  · exact kept.mapRecords _ _
  · exact kept

theorem statusReport_idle {st : TxStatus} (idle : ∀ k r, s.record k = some r → r.phase ≠ .airing ∧ r.phase ≠ .confirming) :
    statusReport st s = s := by
  have marked : statusMarked st s = s := by
    unfold statusMarked
    split
    · refine mapRecords_nothing fun k r record => ?_
      obtain ⟨notAiring, notConfirming⟩ := idle k r record
      simp [AlertRecord.onLink, notAiring, notConfirming]
    · rfl
  rw [statusReport_eq, marked]
  refine finishAll_nothing fun k r record => if_neg ?_
  simp [AlertRecord.reachedBy, AlertRecord.lastSent, (idle k r record).2]

-- the link-state report (R141)

/-- The outcome that DOWN gives a record. -/
def downOutcome (r : AlertRecord) : Option AlertOutcome := if r.phase = .confirming then some .unconfirmed else none

theorem linkReport_up {l : LinkHealth} (up : l ≠ .down) (s : State) :
    linkReport l s = { s with alerts := { s.alerts with lastLink := l } } := if_neg up

/-- DOWN takes the clean mark from the AIRING records of which a frame has been sent. -/
def downMarked (s : State) : State := ({ s with alerts := { s.alerts with lastLink := .down } } : State).mapRecords
  (fun r => decide (r.phase = .airing) && r.firstSeq.isSome) fun r => { r with clean := false }

theorem linkReport_down (s : State) : linkReport .down s = finishAll downOutcome (downMarked s) := by
  unfold linkReport finishAll
  rw [if_pos rfl]
  show alertSlots.foldl _ (downMarked s) = alertSlots.foldl _ (downMarked s)
  refine congrArg (fun f => alertSlots.foldl f (downMarked s)) (funext fun u => funext fun k => ?_)
  unfold finishBy downOutcome State.inPhase
  cases record : u.record k with
  | none => rfl
  | some r => by_cases confirming : r.phase = .confirming <;> simp [confirming]

theorem record_downMarked (s : State) (k : AlertSlot) : (downMarked s).record k = (s.record k).map fun r =>
    if decide (r.phase = .airing) && r.firstSeq.isSome then { r with clean := false } else r :=
  DelayReads.record_mapRecords _ _ _ k

theorem linkReport_idle {l : LinkHealth} (idle : ∀ k r, s.record k = some r → r.phase ≠ .airing ∧ r.phase ≠ .confirming) :
    linkReport l s = { s with alerts := { s.alerts with lastLink := l } } := by
  by_cases down : l = .down
  · subst down
    have marked : downMarked s = { s with alerts := { s.alerts with lastLink := .down } } :=
      mapRecords_nothing fun k r record => by simp [(idle k r record).1]
    rw [linkReport_down, marked]
    exact finishAll_nothing fun k r record => if_neg (idle k r record).2
  · exact linkReport_up down s

-- a change of the link's state (R155, R160)

/-- The change of the link's state, before the controller's report. -/
def linkTold (l : LinkHealth) (s : State) : State :=
  raise .A (.linkState l) (raise .C (.linkState l) { s with tx := { s.tx with state := l } })

theorem changeLink_same {l : LinkHealth} (same : s.tx.state = l) : changeLink l s = s := if_pos same

theorem changeLink_changes {l : LinkHealth} (changes : s.tx.state ≠ l) : changeLink l s =
    (linkReport l (linkTold l s)).report fun r => { r with linkOk := decide (l = .up) } := if_neg changes

theorem changeLink_idle {l : LinkHealth} (idle : ∀ k r, s.record k = some r → r.phase ≠ .airing ∧ r.phase ≠ .confirming) :
    changeLink l s = Claims.linkChanged l s := by
  by_cases same : s.tx.state = l
  · rw [changeLink_same same, Claims.linkChanged, if_pos same]
  · have told : linkReport l (linkTold l s) = { linkTold l s with alerts := { s.alerts with lastLink := l } } :=
      linkReport_idle (s := linkTold l s) idle
    rw [changeLink_changes same, Claims.linkChanged, if_neg same, told]
    rfl

theorem changeLink_up {l : LinkHealth} (up : l ≠ .down) (s : State) : changeLink l s = Claims.linkChanged l s := by
  by_cases same : s.tx.state = l
  · rw [changeLink_same same, Claims.linkChanged, if_pos same]
  · rw [changeLink_changes same, Claims.linkChanged, if_neg same, linkReport_up up]
    rfl

theorem linkChanged_record (l : LinkHealth) (s : State) (k : AlertSlot) : (Claims.linkChanged l s).record k = s.record k := by
  unfold Claims.linkChanged
  split <;> rfl

theorem linkChanged_remembered (l : LinkHealth) (kept : Remembered h s) : Remembered h (Claims.linkChanged l s) := by
  unfold Claims.linkChanged
  split
  · exact kept
  · exact kept.of_records rfl rfl

theorem linkChanged_tx (l : LinkHealth) (s : State) : (Claims.linkChanged l s).tx = { s.tx with state := l } := by
  unfold Claims.linkChanged
  split
  · next same => rw [← same]
  · rfl

theorem record_report (f : Reports → Reports) (s : State) (k : AlertSlot) : (s.report f).record k = s.record k := rfl

theorem tx_report (f : Reports → Reports) (s : State) : (s.report f).tx = s.tx := rfl

theorem Remembered.report (kept : Remembered h s) (f : Reports → Reports) : Remembered h (s.report f) := kept.of_records rfl rfl

/-- The records once the link is DOWN. -/
theorem record_linkDown (changes : s.tx.state ≠ .down) (k : AlertSlot) : (changeLink .down s).record k =
    ((s.record k).map fun r => if decide (r.phase = .airing) && r.firstSeq.isSome then { r with clean := false } else r).filter
      fun r => (downOutcome r).isNone := by
  rw [changeLink_changes changes, record_report, linkReport_down, record_finishAll, record_downMarked]
  rfl

theorem remembered_linkDown (changes : s.tx.state ≠ .down) (record : s.record k = some r) (confirming : r.phase = .confirming) :
    (changeLink .down s).record k = none ∧ Remembered (ended r .unconfirmed) (changeLink .down s) := by
  constructor
  · rw [record_linkDown changes, record]
    simp [downOutcome, confirming]
  · have kept : Remembered (ended r .unconfirmed) (linkReport .down (linkTold .down s)) := by
      rw [linkReport_down]
      refine remembered_finishAll (r := r) (j := k) ?_ (if_pos confirming)
      rw [record_downMarked]
      show (s.record k).map _ = _
      simp [record, confirming]
    rw [changeLink_changes changes]
    exact kept.report _

theorem linkDown_tx (changes : s.tx.state ≠ .down) : (changeLink .down s).tx = { s.tx with state := .down } := by
  have told : (linkReport .down (linkTold .down s)).tx = (linkTold .down s).tx :=
    linkReport_touches .down (linkTold .down s) .tx (by decide)
  rw [changeLink_changes changes, tx_report, told]
  rfl

theorem linkDown_remembered (kept : Remembered h s) : Remembered h (changeLink .down s) := by
  by_cases same : s.tx.state = .down
  · rwa [changeLink_same same]
  · have told : Remembered h (downMarked (linkTold .down s)) := by
      refine Remembered.mapRecords ?_ _ _
      exact kept.of_records (t := { linkTold .down s with alerts := { s.alerts with lastLink := .down } }) rfl rfl
    have reported : Remembered h (linkReport .down (linkTold .down s)) := by
      rw [linkReport_down]
      exact told.finishAll
    rw [changeLink_changes same]
    exact reported.report _

end Sys2Proof.FinishedRecords
end

section
/-! R140, R141, R156 to R159, R161: status frames, the link state, and what they make of the alert records. -/

namespace Sys2Proof.LinkStatus

-- one thread: the check compiles under a limit on the process
set_option Elab.async false

open Sys2Proof.Machine Sys2Proof.Safety Sys2Proof.Laws Sys2Proof.EngineNotices Sys2Proof.FinishedRecords Sys2Proof.AlertReading
open Sys2Proof.SettingsSet Sys2Proof.LinkFrames Sys2Proof.LawKeeping

variable {s t : State} {j k : AlertSlot} {r h : AlertRecord} {st : TxStatus} {b : Vector Byte 8}

-- the link falls without a status (R141, R159)

theorem exec_ageLimit (found : Found .statusAgeLimit s) (up : s.tx.state = .up) (old : 30 ≤ s.tx.age) :
    exec .statusAgeLimit s = .next (changeLink .degraded { s with due := s.due.erase .statusAgeLimit }) :=
  congrArg _ (takeRow_found found (by simp [stillDue, ageReached, up, old]))

theorem exec_timeout (found : Found .linkTimeout s) (notDown : s.tx.state ≠ .down) (old : s.tx.settings.timeout ≤ s.tx.age) :
    exec .linkTimeout s = .next (changeLink .down { s with due := s.due.erase .linkTimeout }) :=
  congrArg _ (takeRow_found found (by simp [stillDue, timedOut, notDown, old]))

/-- The history remembers a record as finished with an outcome. -/
theorem recalled {o : AlertOutcome} (kept : Remembered (ended r o) s) :
    ∃ h ∈ s.alerts.history, h.id = r.id ∧ h.phase = .finished o := ⟨_, kept.mem, rfl, rfl⟩

theorem linksFallWithoutStatus_whole : Claims.LinksFallWithoutStatus := by
  intro s
  refine ⟨fun found up old => ?_, fun found notDown old => ⟨fun idle => ?_, ?_⟩⟩
  · rw [exec_ageLimit found up old, changeLink_up (by decide)]
  · rw [exec_timeout found notDown old, changeLink_idle (by exact idle)]
  · refine ⟨_, exec_timeout found notDown old, linkDown_tx (by exact notDown), fun k r record confirming => ?_⟩
    obtain ⟨gone, kept⟩ := remembered_linkDown (s := { s with due := s.due.erase .linkTimeout }) notDown record confirming
    exact ⟨gone, recalled kept⟩

theorem downMarksRecords : Claims.DownMarksRecords := by
  intro k r s found notDown old record phase
  refine ⟨_, exec_timeout found notDown old, ?_⟩
  rw [record_linkDown (by exact notDown)]
  show ((s.record k).map _).filter _ = _
  rw [record]
  have lasts : downOutcome r = none := if_neg (by rcases phase with p | p | p <;> simp [p])
  by_cases marked : r.phase = .airing ∧ r.firstSeq.isSome = true
  · have marks : (decide (r.phase = .airing) && r.firstSeq.isSome) = true := by simp [marked]
    have lasts' : downOutcome { r with clean := false } = none := lasts
    rw [Option.map_some, if_pos marks, if_pos marked, Option.filter, lasts']
    rfl
  · have unmarked : ¬(decide (r.phase = .airing) && r.firstSeq.isSome) = true := by simpa using marked
    rw [Option.map_some, if_neg unmarked, if_neg marked, Option.filter, lasts]
    rfl

theorem timeoutsFollowTheBoundary : Claims.TimeoutsFollowTheBoundary := by
  intro b0 b1 b2 b3 b4 c s reaches spelled due notDown old
  let s0 : State := { s with due := [] }
  have taken : take .linkTimeout s = changeLink .down s0 := by
    have found : s.due.contains .linkTimeout = true := by simp [due]
    have left : s.due.erase .linkTimeout = [] := by simp [due]
    have still : stillDue { s with due := [] } .linkTimeout = true := by simp [stillDue, timedOut, notDown, old]
    rw [take, if_pos found, left]
    simp only [still, if_true, happen, s0]
  have mode : (take .linkTimeout s).sup.mode.isSome = s.sup.mode.isSome := by
    rw [taken, show (changeLink .down s0).sup = s0.sup from changeLink_touches .down s0 .sup (by decide)]
  have ready := takes_after reaches due (by simp) mode
  have run := linkSettings_set ready (ps := [b0, b1, b2, b3, b4]) rfl spelled
  have same := (commandsFollowTheBoundary (.linkSettingsSet .C [b0, b1, b2, b3, b4]) .C 0x40 _ s rfl reaches.1
    (live_of_reaches reaches) (due ▸ List.nodup_singleton _)).2.2 _ due (by simp)
  refine ⟨_, same.trans run, by simp [answered], ?_, rfl, fun k r record confirming => ?_⟩
  · show (take .linkTimeout s).tx.state = .down
    rw [taken, linkDown_tx (s := s0) notDown]
  · obtain ⟨gone, kept⟩ := remembered_linkDown (s := s0) notDown record confirming
    rw [← taken] at gone kept
    exact ⟨gone, recalled kept⟩

/-- Settles O46. -/
theorem linksFallWithoutStatus : Obligations.LinksFallWithoutStatus :=
  ⟨linksFallWithoutStatus_whole, downMarksRecords, timeoutsFollowTheBoundary⟩

-- status frames (R156 to R158)

theorem settleLink_settled (settled : LinkSettled s) : settleLink s = s := by
  refine takeEach_not_due fun d hd hs => ?_
  obtain ⟨notAge, notTimeout, notWindow⟩ := settled d hs
  simp only [linkDue, List.mem_append, List.mem_cons, List.mem_map, List.not_mem_nil, or_false] at hd
  rcases hd with (rfl | rfl) | ⟨k, -, rfl⟩
  · exact notAge rfl
  · exact notTimeout rfl
  · exact notWindow k rfl

theorem exec_status (live : s.live = true) (spelled : parseStatus b = some st) :
    exec (.statusFrame b) s = .next (takeStatus st (settleLink s)) := by
  refine congrArg Host.Outcome.next ?_
  rw [receiveStatus, if_pos live]
  simp only [spelled]

/-- The silence run that a status gives (R157). -/
def runAfter (st : TxStatus) (s : State) : Nat :=
  silenceRun s.tx.run s.sup.settings.threshold st.silence (covered s.tx st.last)

/-- What a status leaves in the link unit, its fault reported. -/
def statusKept (st : TxStatus) (s : State) : State :=
  (if runAfter st s = 3 ∧ s.tx.run ≠ 3 then raise .C (.linkAudioFault st.last) else id)
    { s with tx := { s.tx with status := some st, mark := some st.last, run := runAfter st s, age := 0 } }

theorem statusKept_eq (st : TxStatus) (s : State) : statusKept st s =
    if runAfter st s = 3 ∧ s.tx.run ≠ 3 then raise .C (.linkAudioFault st.last)
      { s with tx := { s.tx with status := some st, mark := some st.last, run := runAfter st s, age := 0 } }
    else { s with tx := { s.tx with status := some st, mark := some st.last, run := runAfter st s, age := 0 } } := by
  unfold statusKept
  split <;> rfl

theorem takeStatus_eq (st : TxStatus) (s : State) :
    takeStatus st s = statusReport st (changeLink (healthAfter st (runAfter st s)) (statusKept st s)) := by
  rw [statusKept_eq]
  rfl

theorem healthAfter_up (st : TxStatus) (n : Nat) : healthAfter st n ≠ .down := by
  unfold healthAfter
  split <;> decide

/-- The link as a status leaves it, the alert records still to be told. -/
def statusTaken (st : TxStatus) (s : State) : State := Claims.linkChanged (healthAfter st (runAfter st s)) (statusKept st s)

theorem takeStatus_reports (st : TxStatus) (s : State) : takeStatus st s = statusReport st (statusTaken st s) := by
  rw [takeStatus_eq, changeLink_up (healthAfter_up st _)]
  rfl

theorem statusKept_alerts (st : TxStatus) (s : State) : (statusKept st s).alerts = s.alerts := by
  rw [statusKept_eq]
  split <;> rfl

theorem statusKept_tx (st : TxStatus) (s : State) : (statusKept st s).tx =
    { s.tx with status := some st, mark := some st.last, run := runAfter st s, age := 0 } := by
  rw [statusKept_eq]
  split <;> rfl

theorem record_statusTaken (st : TxStatus) (s : State) (k : AlertSlot) : (statusTaken st s).record k = s.record k := by
  rw [statusTaken, linkChanged_record, State.record, State.record, statusKept_alerts]

theorem statusTaken_remembered (kept : Remembered h s) (st : TxStatus) : Remembered h (statusTaken st s) :=
  linkChanged_remembered _ (kept.of_records (by rw [statusKept_alerts]) (by rw [statusKept_alerts]))

/-- The records once a status has been taken. -/
theorem record_takeStatus (st : TxStatus) (s : State) (k : AlertSlot) : (takeStatus st s).record k =
    ((s.record k).map fun r => { r with
      clean := r.clean && (!(r.onLink && r.firstSeq.isSome) || st.carrier && decide (st.missing = 0)) }).filter
        fun r => (statusOutcome st r).isNone := by
  rw [takeStatus_reports, statusReport_eq, record_finishAll, record_statusMarked, record_statusTaken]

theorem takeStatus_remembered (kept : Remembered h s) (st : TxStatus) : Remembered h (takeStatus st s) := by
  rw [takeStatus_reports, statusReport_eq]
  exact (statusMarked_remembered (statusTaken_remembered kept st) st).finishAll

theorem takeStatus_tx (st : TxStatus) (s : State) : (takeStatus st s).tx = { s.tx with
    status := some st, mark := some st.last, run := runAfter st s, age := 0, state := healthAfter st (runAfter st s) } := by
  have reported : (statusReport st (statusTaken st s)).tx = (statusTaken st s).tx := statusReport_touches st _ .tx (by decide)
  rw [takeStatus_reports, reported, statusTaken, linkChanged_tx, statusKept_tx]

theorem statusFramesSetTheLink : Claims.StatusFramesSetTheLink := by
  intro b s live bs good last missing carrier silence gone covers run state counted
  have parsed : parseStatus b = if good then some ⟨last, missing, carrier, silence⟩ else none := rfl
  refine ⟨fun valid settled idle => ?_, fun invalid => ⟨?_, ?_⟩, fun broken short => ?_⟩
  · let st : TxStatus := ⟨last, missing, carrier, silence⟩
    have spelled : parseStatus b = some st := parsed.trans (if_pos valid)
    have covered_eq : covered s.tx last = covers := by
      simp only [covered, covers]
      cases s.tx.mark with
      | none => rfl
      | some m =>
        by_cases near : seqDiff last m < 32768
        · have near' : gone last m < 32768 := near
          simp only [near, if_true]
          refine List.filter_congr fun e _ => ?_
          simp only [near', true_and, Bool.decide_and]
          rfl
        · have far : ¬gone last m < 32768 := near
          simp [near, far]
    have runs : runAfter st s = run := by
      show silenceRun s.tx.run s.sup.settings.threshold silence (covered s.tx last) = run
      rw [covered_eq, silenceRun]
      simp only [run, Bool.not_eq_true', List.isEmpty_iff]
      rfl
    have health : healthAfter st (runAfter st s) = state := by
      rw [runs]
      rfl
    have idleKept : ∀ k r, (statusTaken st s).record k = some r → r.phase ≠ .airing ∧ r.phase ≠ .confirming := fun k r record =>
      idle k r ((record_statusTaken st s k).symm.trans record)
    rw [exec_status live spelled, settleLink_settled settled, takeStatus_reports, statusReport_idle idleKept, statusTaken, health,
      statusKept, runs]
  · refine congrArg Host.Outcome.next ?_
    rw [receiveStatus, if_pos live]
    simp only [parsed, invalid, if_false]
    rfl
  · refine congrArg Host.Outcome.next ?_
    have whole : bs.length = 8 := by simp [bs]
    have again : parseStatus ⟨⟨bs⟩, whole⟩ = none := parsed.trans (if_neg invalid)
    rw [receiveInvalidStatus, if_pos live, dif_pos whole]
    simp only [again]
    rfl
  · refine congrArg Host.Outcome.next ?_
    rw [receiveInvalidStatus, if_pos live, dif_neg (by omega), if_pos short]
    rfl

-- verdicts and marks (R140)

theorem reachedBy_of {last : Nat} (confirming : r.phase = .confirming) (sent : r.framesSent = r.airBlocks) (seq : r.lastSeq = some last)
    (reaches : (st.last + 65536 - last % 65536) % 65536 < 32768) : r.reachedBy st = true := by
  have near : seqDiff st.last last < 32768 := reaches
  simp [AlertRecord.reachedBy, AlertRecord.lastSent, confirming, sent, seq, near]

theorem statusFramesConfirm : Claims.StatusFramesConfirm := by
  intro b st k r first last s live settled spelled record confirming sent firstSeq lastSeq reaches
  let x : AlertRecord := { r with clean := r.clean && (st.carrier && decide (st.missing = 0)) }
  have reached : x.reachedBy st = true := reachedBy_of (r := x) confirming sent lastSeq reaches
  have marked : (statusMarked st (statusTaken st s)).record k = some x := by
    rw [record_statusMarked, record_statusTaken, record]
    simp [x, AlertRecord.onLink, confirming, firstSeq]
  refine ⟨_, exec_status live spelled, ?_, ?_⟩
  · rw [settleLink_settled settled, takeStatus_reports, statusReport_eq, record_finishAll, marked]
    simp [statusOutcome, reached]
  · have kept : Remembered (ended x x.verdict) (takeStatus st s) := by
      rw [takeStatus_reports, statusReport_eq]
      exact remembered_finishAll marked (if_pos reached)
    rw [settleLink_settled settled]
    refine ⟨_, kept.mem, rfl, congrArg AlertPhase.finished ?_⟩
    simp [x, AlertRecord.verdict, and_comm, and_left_comm]

theorem statusFramesMarkRecords : Claims.StatusFramesMarkRecords := by
  intro b st k r s live settled spelled record firstSeq phase
  have onLink : r.onLink = true := by
    rcases phase with p | ⟨p, -⟩ <;> simp [AlertRecord.onLink, p]
  let x : AlertRecord := { r with clean := r.clean && (st.carrier && decide (st.missing = 0)) }
  have missed : x.reachedBy st = false := by
    rcases phase with p | ⟨p, unsent | ⟨n, lastSeq, far⟩⟩
    · simp [x, AlertRecord.reachedBy, AlertRecord.lastSent, p]
    · simp [x, AlertRecord.reachedBy, AlertRecord.lastSent, unsent]
    · have far' : ¬seqDiff st.last n < 32768 := Nat.not_lt.mpr far
      simp [x, AlertRecord.reachedBy, lastSeq, far']
  refine ⟨_, exec_status live spelled, ?_⟩
  rw [settleLink_settled settled, record_takeStatus, record]
  have mark : (!(r.onLink && r.firstSeq.isSome) || st.carrier && decide (st.missing = 0)) = (st.carrier && decide (st.missing = 0)) := by
    simp [onLink, firstSeq]
  rw [Option.map_some, mark]
  show Option.filter _ (some x) = _
  simp only [Option.filter, statusOutcome, missed, Bool.false_eq_true, if_false, Option.isNone_none, if_true, x, Bool.and_assoc]

-- a status after the boundary that found the link timeout, or the end of a confirm window (R141, R159)

theorem mem_due_take {d e : Due} (other : d ≠ e) (plain : d ≠ .silenceWindow) (waits : e ∈ s.due) : e ∈ (take d s).due := by
  have left : e ∈ s.due.erase d := (List.mem_erase_of_ne other.symm).mpr waits
  unfold take
  split
  · dsimp only
    split
    · rw [happen_due plain]
      exact left
    · exact left
  · exact waits

/-- An event that is due, and still has what makes it happen, happens. -/
theorem take_happens {d : Due} (due : d ∈ s.due) (still : stillDue { s with due := s.due.erase d } d = true) :
    take d s = happen d { s with due := s.due.erase d } := by
  rw [take, if_pos (by simpa using due)]
  exact if_pos still

/-- An event that is not due, or no longer has what makes it happen, leaves the records. -/
theorem take_skipped {d : Due} (idle : ¬(d ∈ s.due ∧ stillDue { s with due := s.due.erase d } d = true)) (k : AlertSlot) :
    (take d s).record k = s.record k := by
  unfold take
  split
  · next waits =>
    dsimp only
    rw [if_neg fun still => idle ⟨by simpa using waits, still⟩]
    rfl
  · rfl

theorem take_ageLimit_cases (s : State) : take .statusAgeLimit s = s ∨ take .statusAgeLimit s =
    { s with due := s.due.erase .statusAgeLimit } ∨
      take .statusAgeLimit s = Claims.linkChanged .degraded { s with due := s.due.erase .statusAgeLimit } := by
  unfold take
  split
  · dsimp only
    split
    · exact .inr (.inr (changeLink_up (by decide) _))
    · exact .inr (.inl rfl)
  · exact .inl rfl

theorem take_ageLimit_record (s : State) (k : AlertSlot) : (take .statusAgeLimit s).record k = s.record k := by
  rcases take_ageLimit_cases s with e | e | e <;> rw [e]
  · rfl
  · exact linkChanged_record _ _ k

/-- The age limit leaves the link out of DOWN, the timeout and the age. -/
theorem take_ageLimit_tx (s : State) : ((take .statusAgeLimit s).tx.state = .down → s.tx.state = .down) ∧
    (take .statusAgeLimit s).tx.settings = s.tx.settings ∧ (take .statusAgeLimit s).tx.age = s.tx.age := by
  rcases take_ageLimit_cases s with e | e | e <;> rw [e]
  · exact ⟨id, rfl, rfl⟩
  · exact ⟨id, rfl, rfl⟩
  · rw [linkChanged_tx]
    exact ⟨fun h => (by cases h), rfl, rfl⟩

/-- The rest of what a status frame finds taken. -/
def windowsTaken (s : State) : State := takeEach (alertSlots.map .confirmWindowExpiry) s

theorem settleLink_eq (s : State) : settleLink s = windowsTaken (take .linkTimeout (take .statusAgeLimit s)) := rfl

theorem take_window_cases (j : AlertSlot) (s : State) : take (.confirmWindowExpiry j) s = s ∨
    take (.confirmWindowExpiry j) s = { s with due := s.due.erase (.confirmWindowExpiry j) } ∨
      take (.confirmWindowExpiry j) s = finish j .unconfirmed { s with due := s.due.erase (.confirmWindowExpiry j) } := by
  unfold take
  split
  · dsimp only
    split
    · unfold happen endConfirmWindow
      dsimp only
      split
      · split
        · exact .inr (.inr rfl)
        · exact .inr (.inl rfl)
      · exact .inr (.inl rfl)
    · exact .inr (.inl rfl)
  · exact .inl rfl

theorem take_window_record (j k : AlertSlot) (s : State) : (take (.confirmWindowExpiry j) s).record k = s.record k ∨
    k = j ∧ (take (.confirmWindowExpiry j) s).record k = none := by
  rcases take_window_cases j s with e | e | e <;> rw [e]
  · exact .inl rfl
  · exact .inl rfl
  · rw [record_finish]
    by_cases here : k = j
    · exact .inr ⟨here, if_pos here⟩
    · exact .inl (if_neg here)

theorem take_window_remembered (kept : Remembered h s) (j : AlertSlot) : Remembered h (take (.confirmWindowExpiry j) s) := by
  rcases take_window_cases j s with e | e | e <;> rw [e]
  · exact kept
  · exact kept.of_records rfl rfl
  · exact (kept.of_records (t := { s with due := s.due.erase (.confirmWindowExpiry j) }) rfl rfl).finish _ _

theorem take_window_tx (j : AlertSlot) (s : State) : (take (.confirmWindowExpiry j) s).tx = s.tx := by
  rcases take_window_cases j s with e | e | e <;> rw [e]
  exact finish_touches _ _ _ .tx (by decide)

/-- A record of the state is gone and remembered as UNCONFIRMED. -/
def Lost (k : AlertSlot) (r : AlertRecord) (s : State) : Prop := s.record k = none ∧ Remembered (ended r .unconfirmed) s

theorem Lost.window (lost : Lost k r s) (j : AlertSlot) : Lost k r (take (.confirmWindowExpiry j) s) := by
  obtain ⟨gone, kept⟩ := lost
  refine ⟨?_, take_window_remembered kept j⟩
  rcases take_window_record j k s with same | ⟨-, none⟩
  · exact same.trans gone
  · exact none

theorem Lost.windows (js : List AlertSlot) : ∀ {s : State}, Lost k r s → Lost k r (takeEach (js.map .confirmWindowExpiry) s) := by
  induction js with
  | nil => exact id
  | cons j js ih => exact fun lost => ih (lost.window j)

theorem Lost.status (lost : Lost k r s) (st : TxStatus) : Lost k r (takeStatus st s) := by
  obtain ⟨gone, kept⟩ := lost
  refine ⟨?_, takeStatus_remembered kept st⟩
  rw [record_takeStatus, gone]
  rfl

/-- The closing of a confirm window that has been found, when its turn comes. -/
theorem windows_lose (expired : confirmExpired r = true) (js : List AlertSlot) (member : k ∈ js) : ∀ s : State,
    s.record k = some r → .confirmWindowExpiry k ∈ s.due → Lost k r (takeEach (js.map .confirmWindowExpiry) s) := by
  induction js with
  | nil => cases member
  | cons j js ih =>
    intro s record due
    show Lost k r (takeEach (js.map .confirmWindowExpiry) (take (.confirmWindowExpiry j) s))
    by_cases here : j = k
    · subst here
      have record' : ({ s with due := s.due.erase (.confirmWindowExpiry j) } : State).record j = some r := record
      have happens : take (.confirmWindowExpiry j) s = finish j .unconfirmed { s with due := s.due.erase (.confirmWindowExpiry j) } := by
        rw [take_happens due (by simp only [stillDue, record', expired])]
        simp only [happen, endConfirmWindow, record', expired, if_true]
      rw [happens]
      exact Lost.windows js ⟨by rw [record_finish, if_pos rfl], remembered_finish record' _⟩
    · refine ih ((List.mem_cons.mp member).resolve_left (Ne.symm here)) _ ?_ (mem_due_take (by simp [here]) (by simp) due)
      rcases take_window_record j k s with same | ⟨e, -⟩
      · exact same.trans record
      · exact absurd e.symm here

theorem statusesFollowTheBoundary : Claims.StatusesFollowTheBoundary := by
  intro b st s live spelled unconfirmed
  have lost {k : AlertSlot} {r : AlertRecord} {t : State} (gone : Lost k r t) : unconfirmed k r t := ⟨gone.1, recalled gone.2⟩
  let s1 := take .statusAgeLimit s
  refine ⟨fun ⟨_, found⟩ notDown old => ⟨fun due u run => ?_, ?_⟩, fun k r ⟨_, found⟩ record confirming sent late => ?_⟩
  · have row : exec .linkTimeout s = .next (take .linkTimeout s) := congrArg Host.Outcome.next (if_pos live)
    obtain rfl := Host.Outcome.next.inj (row.symm.trans run)
    have happens : take .linkTimeout s = changeLink .down { s with due := [] } := by
      rw [take_happens found (by simp [stillDue, timedOut, notDown, old]), due]
      rfl
    have nothing : (take .linkTimeout s).due = [] := by
      rw [happens]
      exact changeLink_touches .down _ .due (by decide)
    have liveAfter : (take .linkTimeout s).live = true := by
      rw [Boundaries.live_same (s := s) (take_touches .linkTimeout s .runs (by decide)), live]
    have settled : settleLink s = take .linkTimeout s := by
      rw [settleLink_eq, take_not_due (d := .statusAgeLimit) (by simp [due])]
      exact Boundaries.takeEach_nothing nothing _
    rw [exec_status live spelled, exec_status liveAfter spelled, settled, settleLink, Boundaries.takeEach_nothing nothing]
  · obtain ⟨stays, timeout, age⟩ := take_ageLimit_tx s
    let s2 : State := { s1 with due := s1.due.erase .linkTimeout }
    have notDown2 : s2.tx.state ≠ .down := fun e => notDown (stays e)
    have happens : take .linkTimeout s1 = changeLink .down s2 :=
      take_happens (mem_due_take (by simp) (by simp) found) (by
        have old1 : s1.tx.settings.timeout ≤ s1.tx.age := by rw [timeout, age]; exact old
        have notDown1 : s1.tx.state ≠ .down := notDown2
        simp [stillDue, timedOut, notDown1, old1])
    refine ⟨_, exec_status live spelled, ?_, ?_, fun k r record confirming => lost ?_⟩
    · rw [takeStatus_tx]
      exact healthAfter_up st _
    · rw [takeStatus_tx]
    · refine Lost.status ?_ st
      rw [settleLink_eq, happens]
      exact Lost.windows _ (remembered_linkDown notDown2 ((take_ageLimit_record s k).trans record) confirming)
  · have expired : confirmExpired r = true := by simp [confirmExpired, AlertRecord.lastSent, confirming, sent, late]
    have record1 : s1.record k = some r := (take_ageLimit_record s k).trans record
    have due1 : .confirmWindowExpiry k ∈ s1.due := mem_due_take (by simp) (by simp) found
    have due2 : .confirmWindowExpiry k ∈ (take .linkTimeout s1).due := mem_due_take (by simp) (by simp) due1
    refine ⟨_, exec_status live spelled, lost (Lost.status ?_ st)⟩
    rw [settleLink_eq]
    by_cases down : .linkTimeout ∈ s1.due ∧ timedOut s1.tx = true
    · have notDown : s1.tx.state ≠ .down := by
        have out := down.2
        simp only [timedOut, Bool.and_eq_true, decide_eq_true_eq] at out
        exact out.1
      have happens : take .linkTimeout s1 = changeLink .down { s1 with due := s1.due.erase .linkTimeout } := take_happens down.1 down.2
      rw [happens]
      exact Lost.windows _ (remembered_linkDown (s := { s1 with due := s1.due.erase .linkTimeout }) notDown record1 confirming)
    · refine windows_lose expired alertSlots (mem_alertSlots k) _ ?_ due2
      rw [← record1]
      exact take_skipped down k

/-- Settles O45. -/
theorem statusFramesAreTaken : Obligations.StatusFramesAreTaken :=
  ⟨statusFramesSetTheLink, statusFramesConfirm, statusFramesMarkRecords, statusesFollowTheBoundary⟩

end Sys2Proof.LinkStatus
end

section
/-! R148 to R154, R197: link frames and their bytes; R129, R131, R134, R139, R141: what the boundaries count in the alert
records. -/

namespace Sys2Proof.LinkFramesSent

-- one thread: the check compiles under a limit on the process
set_option Elab.async false

open Sys2Proof.Machine Sys2Proof.Safety Sys2Proof.Laws Sys2Proof.LawKeeping Sys2Proof.Boundaries Sys2Proof.DelayReads
open Sys2Proof.BlockForming Sys2Proof.FormedBlocks Sys2Proof.IdleEvents Sys2Proof.FadeSteps Sys2Proof.FinishedRecords Sys2Proof.LinkStatus Sys2Proof.SettingsSet Sys2Proof.Takeovers

variable {s t u : State} {k : AlertSlot} {d : Due}

-- the bytes of a link frame (R149, R197)

theorem length_blockBytes (b : Block) : (blockBytes b).length = 2880 := by
  have six : ∀ f ∈ b.toList, (frameBytes f).length = 6 := fun _ _ => rfl
  rw [blockBytes, List.length_flatMap, List.map_congr_left six, List.map_const', List.sum_replicate, Vector.length_toList]
  norm_num

theorem toList_station (v : Vector Byte 3) : v.toList = [v[0], v[1], v[2]] := by
  refine List.ext_getElem (by simp) fun i hi _ => ?_
  have small : i < 3 := by simpa using hi
  match i with
  | 0 | 1 | 2 => simp

theorem linkFramesAreLaidOut : Claims.LinkFramesAreLaidOut := by
  intro f two three bit flags body
  have laid : f.body = body := by
    rw [LinkFrame.body, toList_station]
    rfl
  refine ⟨by rw [LinkFrame.bytes, laid]; rfl, ?_⟩
  have station := toList_station f.station
  simp [LinkFrame.bytes, LinkFrame.body, station, be16Opt, be16, length_blockBytes]

-- what the events of an output block boundary leave of the link unit and the silence counter

/-- From `s` to `t` the link unit keeps all but its state, and the silence counter stays. -/
structure SendKept (s t : State) : Prop where
  tx : { t.tx with state := s.tx.state } = s.tx
  counter : t.sup.counter = s.sup.counter

theorem SendKept.refl (s : State) : SendKept s s := ⟨rfl, rfl⟩

theorem SendKept.trans (h : SendKept s t) (i : SendKept t u) : SendKept s u :=
  ⟨(congrArg (fun x : TxLink => { x with state := s.tx.state }) i.tx).trans h.tx, i.counter.trans h.counter⟩

theorem SendKept.of_same (tx : t.tx = s.tx) (counter : t.sup.counter = s.sup.counter) : SendKept s t := ⟨by rw [tx], counter⟩

/-- The link unit's fields after the events, but its state. -/
theorem SendKept.fields (h : SendKept s t) : t.tx.frame = s.tx.frame ∧ t.tx.seq = s.tx.seq ∧ t.tx.history = s.tx.history ∧
    t.tx.age = s.tx.age :=
  ⟨(congrArg TxLink.frame h.tx :), (congrArg TxLink.seq h.tx :), (congrArg TxLink.history h.tx :), (congrArg TxLink.age h.tx :)⟩

theorem supTaken_counter (x : Supervisor) : (supTaken x).counter = x.counter := by
  unfold supTaken
  split <;> rfl

theorem windowCheck_counter (c : Check) (s : State) : (windowCheck c s).sup.counter = s.sup.counter := by
  rw [windowCheck]
  split
  · next k _ =>
    cases record : s.record k with
    | none => rw [EventKeeping.takeover_none record]
    | some r => rw [takeover_sup record, supTaken_counter]
  · rfl

theorem enterEngine_counter (was st : EngineState) (s : State) : (enterEngine was st s).sup.counter = s.sup.counter := by
  rw [enterEngine]
  split
  · rfl
  · exact windowCheck_counter _ _

theorem fillNotice_counter (s : State) : (fillNotice s).1.sup.counter = s.sup.counter := by
  have stopped : (stopEntries s).sup = s.sup := CueList.stopEntries_parts s .sup (by decide)
  unfold fillNotice
  split
  · rfl
  · dsimp only
    split
    · next id _ =>
      have started : ((activate .voiceA (.clip (.playout id)) 32768 0 0 (stopEntries s)).setVoice .A .filling).sup = s.sup :=
        Eq.trans (setVoice_touches .A _ _ .sup (by decide)) (Eq.trans (activate_touches _ _ _ _ _ _ .sup (by decide)) stopped)
      rw [enterEngine_counter, started]
    · rw [enterEngine_counter, stopped]

theorem changeLink_kept (l : LinkHealth) (s : State) : SendKept s (changeLink l s) := by
  have sup : (changeLink l s).sup = s.sup := changeLink_touches l s .sup (by decide)
  refine ⟨?_, by rw [sup]⟩
  by_cases same : s.tx.state = l
  · rw [changeLink_same same]
  · have told : (linkReport l (linkTold l s)).tx = (linkTold l s).tx := linkReport_touches l _ .tx (by decide)
    rw [changeLink_changes same, tx_report, told]
    rfl

theorem takeFillAnswer_kept (s : State) : SendKept s (takeFillAnswer s) := by
  refine .of_same (takeFillAnswer_touches s .tx (by decide)) ?_
  have entered (u : State) : (enterFallback u).sup.counter = u.sup.counter := by
    unfold enterFallback
    split <;> rfl
  unfold takeFillAnswer
  dsimp only
  split
  · exact entered _
  · exact entered _
  · rfl

theorem happen_kept (timed : d ∈ outputDue ∨ d = .fillAnswer) (s : State) : SendKept s (happen d s) := by
  have windows : d = .statusAgeLimit ∨ d = .linkTimeout ∨ (∃ k, d = .confirmWindowExpiry k) ∨ d = .silenceWindow ∨ d = .fillAnswer := by
    rcases timed with member | rfl
    · simp only [outputDue, linkDue, List.mem_append, List.mem_cons, List.mem_map, List.not_mem_nil, or_false] at member
      rcases member with ((h | h) | ⟨k, -, h⟩) | h
      · exact .inl h
      · exact .inr (.inl h)
      · exact .inr (.inr (.inl ⟨k, h.symm⟩))
      · exact .inr (.inr (.inr (.inl h)))
    · exact .inr (.inr (.inr (.inr rfl)))
  rcases windows with rfl | rfl | ⟨k, rfl⟩ | rfl | rfl
  · exact changeLink_kept _ s
  · exact changeLink_kept _ s
  · have touched : Touches [.alerts, .cue, .links] s (endConfirmWindow k s) := by
      unfold endConfirmWindow
      split
      · split
        · exact finish_touches _ _ s
        · exact Touches.refl _ s
      · exact Touches.refl _ s
    exact .of_same (touched .tx (by decide)) (by rw [show (happen (.confirmWindowExpiry k) s).sup = s.sup from touched .sup (by decide)])
  · exact .of_same (fillNotice_touches s .tx (by decide)) (fillNotice_counter s)
  · exact takeFillAnswer_kept s

theorem takeEach_kept (ds : List Due) : ∀ {s : State}, (∀ d ∈ s.due, d ∈ outputDue ∨ d = .fillAnswer) →
    SendKept s (takeEach ds s) ∧ ∀ d ∈ (takeEach ds s).due, d ∈ outputDue ∨ d = .fillAnswer := by
  induction ds with
  | nil => exact fun timed => ⟨SendKept.refl _, timed⟩
  | cons d ds ih =>
    intro s timed
    have one : SendKept s (take d s) := by
      unfold take
      split
      · next waits =>
        have dueIt : d ∈ s.due := by simpa using waits
        have left : SendKept s { s with due := s.due.erase d } := .of_same rfl rfl
        dsimp only
        split
        · exact left.trans (happen_kept (timed d dueIt) _)
        · exact left
      · exact SendKept.refl s
    have fewer : ∀ e ∈ (take d s).due, e ∈ outputDue ∨ e = .fillAnswer := fun e he => (mem_take_due he).elim (timed e) .inr
    obtain ⟨rest, due⟩ := ih fewer
    exact ⟨one.trans rest, due⟩

/-- With nothing left from before, the events of an output block boundary leave what it has sent and counted. -/
theorem outputRest_kept (env : OutputBoundary) (due : s.due = []) : SendKept (outputCounted s) (outputRest env s) := by
  have same : (outputCounted s).due = s.due := outputCounted_touches s .due (by decide)
  have timed : ∀ d ∈ (findDue outputDue (outputCounted s)).due, d ∈ outputDue ∨ d = .fillAnswer := by
    intro d hd
    rw [findDue, same, due] at hd
    exact .inl (List.mem_of_mem_filter (by simpa using hd))
  have found : SendKept (outputCounted s) (findDue outputDue (outputCounted s)) := .of_same rfl rfl
  obtain ⟨first, left⟩ := takeEach_kept env.first timed
  exact found.trans (first.trans (takeEach_kept _ left).1)

/-- The link unit and the supervisor once an output block boundary has sent its frame. -/
theorem outputCounted_tx (s : State) : (outputCounted s).tx = { s.tx with
    age := countUp 65535 s.tx.age
    frame := some s.linkFrame
    seq := (s.tx.seq + 1) % 65536
    history := joinHistory s.tx.history ⟨s.tx.seq, s.air.peak, s.air.alertId.isSome, s.air.lines⟩ } := by
  have sent : (outputCounted s).tx = (sendFrame (countConfirm (countAge s))).tx := countSilence_touches _ .tx (by decide)
  have reported : (match s.air.alertId with
      | some id => frameReport id s.tx.seq (countConfirm (countAge s))
      | none => countConfirm (countAge s)).tx = { s.tx with age := countUp 65535 s.tx.age } := by
    split <;> rfl
  rw [sent]
  exact congrArg (fun x : TxLink => { x with
    frame := some s.linkFrame
    seq := (s.tx.seq + 1) % 65536
    history := joinHistory s.tx.history ⟨s.tx.seq, s.air.peak, s.air.alertId.isSome, s.air.lines⟩ }) reported

theorem sendFrame_sup (s : State) : (sendFrame s).sup = s.sup := sendFrame_touches s .sup (by decide)

theorem outputCounted_counter (s : State) : (outputCounted s).sup.counter =
    if s.onAir then silenceCount s.sup.counter s.sup.settings.threshold s.air else s.sup.counter := by
  let u := sendOutputs (sendFrame (countConfirm (countAge s)))
  have sup : u.sup = s.sup := sendFrame_sup _
  have dev : u.dev = s.dev := sendFrame_touches _ .dev (by decide)
  have air : u.air = s.air := sendFrame_touches _ .air (by decide)
  show (countSilence u).sup.counter = _
  rw [countSilence, State.onAir, dev]
  split
  · next up =>
    have up' : s.onAir = true := up
    rw [if_pos up', ← sup, ← air]
  · next down =>
    have down' : ¬s.onAir = true := down
    rw [if_neg down', sup]

theorem outputCounted_port (s : State) : (outputCounted s).port = match s.formed with
    | some f => #v[s.air.frames, f.pgm, f.minus1, f.minus2]
    | none => #v[s.air.frames, Block.silent, Block.silent, Block.silent] := by
  have port : (outputCounted s).port = (sendOutputs (sendFrame (countConfirm (countAge s)))).port := countSilence_touches _ .port (by decide)
  have air : (sendFrame (countConfirm (countAge s))).air = s.air := sendFrame_touches _ .air (by decide)
  have formed : (sendFrame (countConfirm (countAge s))).formed = s.formed := sendFrame_touches _ .formed (by decide)
  rw [port, sendOutputs, air, formed] <;> rfl

theorem getLast_joinHistory (hs : List Sent) (e : Sent) : (joinHistory hs e).getLast? = some e := by
  rw [joinHistory, List.drop_append_of_le_length (by omega), List.getLast?_append]
  rfl

theorem length_joinHistory {hs : List Sent} (e : Sent) (few : hs.length ≤ 256) :
    (joinHistory hs e).length = min 256 (hs.length + 1) := by
  rw [joinHistory, List.length_drop, List.length_append, List.length_singleton]
  omega

/-- An output block boundary with nothing left from before. -/
theorem exec_outputBoundary_upset (env : OutputBoundary) (live : s.live = true) (due : s.due = []) :
    exec (.outputBlockBoundary env) s = .next (outputRest env (outputDelay (applyUpsets env.upsets s))) := by
  refine congrArg Host.Outcome.next ?_
  rw [outputBoundary, if_pos live, takeEach_nothing due, outputWork]
  rfl

theorem linkFramesCarryTheAir_sent : Claims.LinkFramesCarryTheAir := by
  intro env s live due
  let s1 := applyUpsets env.upsets s
  let u := outputDelay s1
  let t := outputRest env u
  have read := outputDelay_touches s1
  have dueU : u.due = [] := Eq.trans (read .due (by decide)) due
  have dev : u.dev = s.dev := read .dev (by decide)
  have tx : u.tx = s.tx := read .tx (by decide)
  have sup : u.sup = s.sup := read .sup (by decide)
  have formed : u.formed = s.formed := read .formed (by decide)
  have runs : exec (.outputBlockBoundary env) s = .next t := exec_outputBoundary_upset env live due
  have kept := outputRest_kept env dueU
  have air : t.air = u.air := outputRest_air env u
  have excess : t.delay.excess = u.delay.excess := (outputRest_lawful env u).excess
  obtain ⟨frame, seq, history, age⟩ := kept.fields
  rw [outputCounted_tx] at frame seq history age
  have port : t.port = (outputCounted u).port :=
    Eq.trans (settleDue_touches env.first env.leave _ .port (by decide)) (findDue_touches outputDue _ .port (by decide))
  rw [outputCounted_port] at port
  have onAir : u.onAir = decide (s.dev.state = .onAir) := by rw [State.onAir, dev]
  refine ⟨t, u.linkFrame, runs, frame, by rw [State.linkFrame, tx], ?_, by rw [State.linkFrame, tx], ?_, ?_, ?_,
    ?_, ?_, ?_, fun few => ?_, ?_, ?_, ?_, fun x formedX => ?_, fun off => ?_⟩
  · rw [← tx]
    exact seq
  · rw [State.linkFrame, airFlags, onAir, air, excess, sup]
  · rw [air]
    rfl
  · rw [air]
    rfl
  · rw [excess]
    rfl
  · rw [air]
    rfl
  · rw [history, getLast_joinHistory, tx, air]
  · rw [history, tx, length_joinHistory _ few]
  · rw [age, tx, countUp]
  · rw [kept.counter, outputCounted_counter, onAir, sup, air, silenceCount]
    by_cases up : s.dev.state = .onAir
    · by_cases alert : u.air.alertId.isSome = true
      · simp [up, alert]
      · simp [up, alert, countUp]
    · simp [up]
  · rw [port, air]
    cases u.formed <;> rfl
  · rw [port, formed, formedX]
    exact ⟨rfl, rfl, rfl⟩
  · rw [air]
    exact congrArg State.air (show u = { s1 with air := .silent } from if_pos off)

-- what an output block boundary makes of the alert records (R139, R141, R154)

/-- From `s` to `t` the alert records keep all but their DAMAGED marks, and the link state told last stays. -/
structure Marked (s t : State) : Prop where
  record : ∀ k, ∃ d : AlertRecord → Bool, t.record k = (s.record k).map fun r => { r with damaged := d r }
  lastLink : t.alerts.lastLink = s.alerts.lastLink

theorem Marked.of_alerts (same : t.alerts = s.alerts) : Marked s t :=
  ⟨fun k => ⟨AlertRecord.damaged, by
    rw [show t.record k = s.record k from by rw [State.record, State.record, same]]
    cases s.record k <;> rfl⟩, by rw [same]⟩

theorem Marked.trans (h : Marked s t) (i : Marked t u) : Marked s u := by
  refine ⟨fun k => ?_, i.lastLink.trans h.lastLink⟩
  obtain ⟨d, first⟩ := h.record k
  obtain ⟨d', second⟩ := i.record k
  refine ⟨fun r => d' { r with damaged := d r }, ?_⟩
  rw [second, first, Option.map_map]
  rfl

theorem delayFetchFailed_marked (n : Nat) (g : Segment) (s : State) : Marked s (delayFetchFailed n g s) := by
  unfold delayFetchFailed
  dsimp only
  split
  · next a _ =>
    refine ⟨fun k => ⟨fun r => if r.id = a then true else r.damaged, ?_⟩, rfl⟩
    rw [record_markDamaged]
    show (s.record k).map _ = _
    refine congrArg (fun f => Option.map f (s.record k)) (funext fun r => ?_)
    by_cases here : r.id = a <;> simp [here]
  · exact .of_alerts rfl

theorem reportFetches_marked (seg n : Nat) (s : State) : Marked s (reportFetches seg n s) := by
  induction n with
  | zero => exact .of_alerts rfl
  | succ n ih =>
    rw [reportFetches_succ]
    split
    · exact ih
    · exact ih.trans (delayFetchFailed_marked _ _ _)

theorem outputDelay_marked (s : State) : Marked s (outputDelay s) := by
  have dumped : Marked s (carryOutDump s) := .of_alerts (carryOutDump_touches s .alerts (by decide))
  have worked (u : State) : Marked u (workOutDelay u) := .of_alerts (workOutDelay_touches u .alerts (by decide))
  unfold outputDelay
  split
  · exact .of_alerts rfl
  · dsimp only
    refine Marked.trans ?_ (worked _)
    split
    · split
      · next pos _ =>
        obtain ⟨record, lastLink⟩ := reportFetches_marked pos.1 ((pos.2 + ((carryOutDump s).readShape pos).consumed) / 480 + 1) (carryOutDump s)
        exact dumped.trans ⟨record, lastLink⟩
      · exact dumped.trans (.of_alerts rfl)
    · exact dumped.trans (.of_alerts rfl)

/-- A record as an output block boundary counts it: framed, or with its confirm count one higher, or as it is. -/
theorem record_counted (s : State) (k : AlertSlot) : (outputCounted s).record k = (s.record k).map fun r =>
    if s.air.alertId = some r.id ∧ (r.phase = .airing ∨ r.phase = .confirming) then { r with
      firstSeq := some (r.firstSeq.getD s.tx.seq)
      lastSeq := some s.tx.seq
      framesSent := r.framesSent + 1
      clean := if r.firstSeq = none then decide (s.alerts.lastLink ≠ .down) else r.clean
      confirm := 0 }
    else if r.phase = .confirming ∧ r.framesSent = r.airBlocks then { r with confirm := min 500 (r.confirm + 1) }
    else r := by
  have confirmed : (countConfirm (countAge s)).record k = (s.record k).map fun r =>
      if r.lastSent then { r with confirm := countUp 500 r.confirm } else r := record_mapRecords _ _ _ k
  rw [record_outputCounted, record_sendFrame, confirmed]
  show (match s.air.alertId with
    | some id => _
    | none => _) = _
  cases record : s.record k with
  | none => cases s.air.alertId <;> rfl
  | some r =>
    have last : r.lastSent = decide (r.phase = .confirming ∧ r.framesSent = r.airBlocks) := by
      simp [AlertRecord.lastSent]
    have link : r.onLink = decide (r.phase = .airing ∨ r.phase = .confirming) := by simp [AlertRecord.onLink]
    cases alert : s.air.alertId with
    | none => simp [last, countUp]
    | some id =>
      by_cases sent : r.phase = .confirming ∧ r.framesSent = r.airBlocks
      · by_cases named : r.id = id
        · simp [last, sent, named, AlertRecord.onLink, AlertRecord.framed, countAge, countConfirm, State.mapRecords]
        · simp [last, sent, named, Ne.symm named, countUp]
      · by_cases named : r.id = id
        · by_cases carries : r.phase = .airing ∨ r.phase = .confirming
          · simp [last, sent, named, link, carries, AlertRecord.framed, countAge, countConfirm, State.mapRecords]
          · simp [last, sent, named, link, carries]
        · simp [last, sent, named, Ne.symm named]

theorem framesAreReported : Claims.FramesAreReported := by
  intro env s live due first leave
  let s1 := applyUpsets env.upsets s
  let u := outputDelay s1
  have dueU : u.due = [] := Eq.trans (outputDelay_touches s1 .due (by decide)) due
  have tx : u.tx = s.tx := outputDelay_touches s1 .tx (by decide)
  have marked := outputDelay_marked s1
  have runs : exec (.outputBlockBoundary env) s = .next (findDue outputDue (outputCounted u)) := by
    rw [← outputRest_left dueU first leave]
    exact exec_outputBoundary_upset env live due
  have air : (findDue outputDue (outputCounted u)).air = u.air := outputCounted_touches u .air (by decide)
  refine ⟨_, runs, fun k => ?_⟩
  obtain ⟨d, records⟩ := marked.record k
  have lastLink : u.alerts.lastLink = s.alerts.lastLink := marked.lastLink
  have counted : (findDue outputDue (outputCounted u)).record k = _ := record_counted u k
  rw [counted, records, air, tx, lastLink]
  refine ⟨fun free => ?_, fun r record => ⟨d r, ?_⟩⟩
  · rw [show s1.record k = none from free]
    rfl
  · rw [show s1.record k = some r from record, Option.map_some, Option.map_some]
    refine congrArg some ?_
    split
    · rfl
    · split <;> rfl

-- what an input block boundary counts in the alert records (R129, R131, R134)

theorem record_countAlerts (f : Formed) (s : State) (k : AlertSlot) : (countAlerts f s).record k = (s.record k).map fun r => { r with
    age := countUp 8640000 r.age
    hold := if r.phase = .pending then countUp 360000 r.hold else r.hold
    airBlocks := if r.phase = .airing ∧ f.alertId.isSome then r.airBlocks + 1 else r.airBlocks } :=
  record_mapRecords _ _ _ k

theorem record_of_alerts (same : t.alerts = s.alerts) (k : AlertSlot) : t.record k = s.record k := by
  rw [State.record, State.record, same]

theorem airing_isSome {r : AlertRecord} (record : s.record k = some r) (airing : r.phase = .airing) :
    ((s.airing.bind s.record).map AlertRecord.id).isSome = true := by
  cases taken : s.airing with
  | none => exact absurd airing ((EngineNotices.airing_isNone_iff s).mp taken k r record)
  | some j =>
    have there : s.inPhase .airing j = true := List.find?_some taken
    cases hj : s.record j with
    | none => simp [State.inPhase, hj] at there
    | some x => simp [hj]

theorem recordsAreCounted : Claims.RecordsAreCounted := by
  intro env s live due first leave a b t capture tone panel
  have h : IdleBoundary env s := ⟨first, leave, due, a, b, t, capture, tone, panel⟩
  refine ⟨_, h.exec live, fun k => ?_⟩
  let u := completed env (applyUpsets env.upsets s)
  let v := formedAt env s
  obtain ⟨clips, alerts, -, -⟩ := completed_kept env (applyUpsets env.upsets s)
  have formed := h.formed
  have events : (inputEvents env (inputRest env v)).alerts = (inputRest env v).alerts := h.events .alerts (by decide)
  have used : Touches [.mem, .delay, .alerts] v (useFormed v) := useFormed_touches v
  have quiet : (runCaptures env.captures (useFormed v)).clips.alertCapture = none :=
    (runCaptures_quiet env.captures (s := useFormed v) (by
      rw [show (useFormed v).clips = v.clips from used .clips (by decide), show v = formedAt env s from rfl, formed]
      exact (congrArg ClipStore.alertCapture clips).trans capture)).2
  have rest : (inputRest env v).alerts = (useFormed v).alerts := by
    have counted : countCaptured (runCaptures env.captures (useFormed v)) = runCaptures env.captures (useFormed v) := by
      rw [countCaptured, quiet]
    have after : Touches [.callers, .cue, .prof] (countCaptured (runCaptures env.captures (useFormed v))) (inputRest env v) :=
      ((((Touches.refl _ _).and (countMeasure_touches _)).and (countPlayed_touches _)).and (countWindow_touches _)).and
        (prof_touches _ _)
    rw [counted] at after
    exact Eq.trans (after .alerts (by decide)) (runCaptures_touches env.captures (useFormed v) .alerts (by decide))
  have formedF : v.formed = some (formedOf u) := by
    rw [show v = formedAt env s from rfl, formed]
  have alertsV : v.alerts = s.alerts := by
    rw [show v = formedAt env s from rfl, formed]
    exact alerts
  have recordV : v.record k = s.record k := record_of_alerts alertsV k
  have alertsU : u.alerts = s.alerts := alerts
  have mixU : u.mix = s.mix := completed_touches env _ .mix (by decide)
  have final : (inputEvents env (inputRest env v)).record k = (useFormed v).record k :=
    record_of_alerts (events.trans rest) k
  have counted : (useFormed v).record k = ((writeDelay (formedOf u) v).record k).map fun r => { r with
      age := countUp 8640000 r.age
      hold := if r.phase = .pending then countUp 360000 r.hold else r.hold
      airBlocks := if r.phase = .airing ∧ (formedOf u).alertId.isSome then r.airBlocks + 1 else r.airBlocks } := by
    rw [useFormed_some formedF]
    exact record_countAlerts _ _ k
  have written : (writeDelay (formedOf u) v).record k = s.record k := by
    have same : (writeDelay (formedOf u) v).alerts = v.alerts := writeDelay_touches _ _ .alerts (by decide)
    exact (record_of_alerts same k).trans recordV
  refine final.trans ?_
  rw [counted, written]
  cases record : s.record k with
  | none => rfl
  | some r =>
    have labelled : (r.phase = .airing ∧ (formedOf u).alertId.isSome = true) ↔ (r.phase = .airing ∧ s.mix.alert.binding.isSome = true) := by
      refine and_congr_right fun airing => ?_
      have recordU : u.record k = some r := (record_of_alerts alertsU k).trans record
      have active : u.mix.alert.active = s.mix.alert.binding.isSome := by rw [mixU]; rfl
      show u.formedAlert.isSome = true ↔ _
      rw [State.formedAlert, active]
      cases s.mix.alert.binding.isSome
      · simp
      · simpa using airing_isSome recordU airing
    simp only [Option.map_some, countUp, labelled]

/-- Settles O44. -/
theorem linkFramesCarryTheAir : Obligations.LinkFramesCarryTheAir :=
  ⟨linkFramesCarryTheAir_sent, linkFramesAreLaidOut, framesAreReported, recordsAreCounted⟩

end Sys2Proof.LinkFramesSent
end

section
/-! R97, R171, R177, R178, R199: PANEL CONFIGURE with its bytes, and PANEL OUTPUT SET. -/

namespace Sys2Proof.PanelConfiguration

-- one thread: the check compiles under a limit on the process
set_option Elab.async false

open Sys2Proof.Machine Sys2Proof.Safety Sys2Proof.Laws Sys2Proof.TakenCommands Sys2Proof.SettingsSet Sys2Proof.LinkFrames
open Sys2Proof.LinkStatus

variable {s : State} {ps : List Byte} {c : PanelSettings}

-- the bytes of a line's configuration

theorem directionOf_code (d : Direction) : directionOf d.code = some d := by
  cases d <;> rfl

theorem functionOf_code (f : PanelFunction) : functionOf f.code = some f := by
  cases f <;> rfl

theorem directionOf_isSome (b : Byte) : (directionOf b).isSome = true ↔ b.toNat ≤ 2 := by
  have spelled : (directionOf b).isSome = true ↔ 0 = b.toNat ∨ 1 = b.toNat ∨ 2 = b.toNat := by
    rw [directionOf, List.find?_isSome]
    simp [Direction.code, ← BitVec.toNat_inj]
  rw [spelled]
  omega

theorem directionOf_byte {b : Byte} {d : Direction} (h : directionOf b = some d) : d.code = b :=
  of_decide_eq_true (List.find?_some (p := fun d : Direction => decide (d.code = b)) h)

theorem functionOf_isSome (b : Byte) : (functionOf b).isSome = true ↔ b.toNat ≤ 7 ∨ 0x10 ≤ b.toNat ∧ b.toNat ≤ 0x17 := by
  have spelled : (functionOf b).isSome = true ↔ ∃ f ∈ panelFunctions, f.code.toNat = b.toNat := by
    rw [functionOf, List.find?_isSome]
    simp [← BitVec.toNat_inj]
  rw [spelled]
  simp only [panelFunctions, List.mem_cons, List.not_mem_nil, or_false, exists_eq_or_imp, exists_eq_left, PanelFunction.code,
    BitVec.reduceToNat]
  omega

theorem functionOf_byte {b : Byte} {f : PanelFunction} (h : functionOf b = some f) : f.code = b :=
  of_decide_eq_true (List.find?_some (p := fun f : PanelFunction => decide (f.code = b)) h)

theorem output_iff (d : Direction) : d = .output ↔ d.code.toNat = 2 := by
  cases d <;> decide

theorem isOutput_iff (f : PanelFunction) : f.isOutput = true ↔
    f ∈ [PanelFunction.onAir, .micLive, .alertActive, .delaySafe, .fallback, .linkOk, .callerOn, .general] := by
  cases f <;> decide

theorem lineConfigOf_some {b l f : Byte} {d : Direction} {a : Bool} {g : PanelFunction} (direction : directionOf b = some d)
    (level : switchOf l = some a) (function : functionOf f = some g) :
    lineConfigOf b l f = if decide (d = .output) = g.isOutput then some ⟨d, a, g⟩ else none := by
  simp only [lineConfigOf, direction, level, function, Option.bind_eq_bind, Option.bind_some]

theorem lineConfigOf_codes (x : LineConfig) : lineConfigOf x.direction.code (if x.activeHigh then 1 else 0) x.function.code =
    if x.direction = .output ↔ x.function ∈ [PanelFunction.onAir, .micLive, .alertActive, .delaySafe, .fallback, .linkOk,
      .callerOn, .general] then some x else none := by
  have level : switchOf (if x.activeHigh then 1 else 0) = some x.activeHigh := by
    cases x.activeHigh <;> rfl
  rw [lineConfigOf_some (directionOf_code _) level (functionOf_code _)]
  refine if_congr ?_ rfl rfl
  rw [← isOutput_iff]
  by_cases output : x.direction = .output <;> simp [output]

/-- A direction, a level and a function that fit. -/
def Fits (d l f : Byte) : Prop :=
  l.toNat ≤ 1 ∧ (d.toNat ≤ 1 ∧ f.toNat ≤ 7 ∨ d.toNat = 2 ∧ 0x10 ≤ f.toNat ∧ f.toNat ≤ 0x17)

theorem lineConfigOf_isSome (d l f : Byte) : (lineConfigOf d l f).isSome = true ↔ Fits d l f := by
  have directions := directionOf_isSome d
  have functions := functionOf_isSome f
  have levels : (switchOf l).isSome = true ↔ l.toNat ≤ 1 := by
    rw [switchOf_eq]
    split <;> simp_all
  cases direction : directionOf d with
  | none =>
    have missing : lineConfigOf d l f = none := by simp [lineConfigOf, direction]
    rw [direction] at directions
    simp only [Option.isSome_none, Bool.false_eq_true, false_iff, not_le] at directions
    rw [missing]
    simp only [Option.isSome_none, Bool.false_eq_true, false_iff, Fits]
    omega
  | some x =>
    cases level : switchOf l with
    | none =>
      have missing : lineConfigOf d l f = none := by simp [lineConfigOf, direction, level]
      rw [level] at levels
      simp only [Option.isSome_none, Bool.false_eq_true, false_iff, not_le] at levels
      rw [missing]
      simp only [Option.isSome_none, Bool.false_eq_true, false_iff, Fits]
      omega
    | some a =>
      cases function : functionOf f with
      | none =>
        have missing : lineConfigOf d l f = none := by simp [lineConfigOf, direction, level, function]
        rw [function] at functions
        simp only [Option.isSome_none, Bool.false_eq_true, false_iff, not_or, not_and, not_le] at functions
        rw [missing]
        simp only [Option.isSome_none, Bool.false_eq_true, false_iff, Fits]
        omega
      | some g =>
        rw [direction] at directions
        rw [level] at levels
        rw [function] at functions
        have output : x = .output ↔ d.toNat = 2 := by rw [output_iff, directionOf_byte direction]
        have isOut : g.isOutput = true ↔ 0x10 ≤ f.toNat := by rw [PanelFunction.isOutput, functionOf_byte function, decide_eq_true_iff]
        have agree : (decide (x = .output) = g.isOutput) ↔ (d.toNat = 2 ↔ 0x10 ≤ f.toNat) := by
          rw [← output, ← isOut]
          by_cases h : x = .output <;> simp [h]
        simp only [Option.isSome_some, true_iff] at directions levels functions
        rw [lineConfigOf_some direction level function, Fits]
        by_cases fit : decide (x = .output) = g.isOutput
        · have fit' := agree.mp fit
          rw [if_pos fit]
          simp only [Option.isSome_some, true_iff]
          omega
        · have unfit := mt agree.mpr fit
          rw [if_neg fit]
          simp only [Option.isSome_none, Bool.false_eq_true, false_iff]
          omega

-- the bytes of a panel's configuration

/-- The configuration that line `n`'s three bytes spell. -/
def lineBytes (ps : List Byte) (n : Fin 8) : Option LineConfig :=
  lineConfigOf (ps.getD (3 * n.val) 0) (ps.getD (3 * n.val + 1) 0) (ps.getD (3 * n.val + 2) 0)

theorem mem_panelLines (n : Fin 8) : n ∈ panelLines := by
  revert n
  decide

theorem panelSettingsOf_eq (ps : List Byte) : panelSettingsOf ps =
    if panelLines.all (fun n => (lineBytes ps n).isSome) && decide ((ps.getD 24 0).toNat ≤ 100) then
      some ⟨Vector.ofFn fun n => (lineBytes ps n).getD ⟨.input, false, .none⟩, (ps.getD 24 0).toNat⟩
    else none := rfl

theorem panelSettingsOf_spelled : (panelLines.all (fun n => (lineBytes ps n).isSome) && decide ((ps.getD 24 0).toNat ≤ 100)) = true ↔
    (∀ n : Fin 8, (lineBytes ps n).isSome = true) ∧ (ps.getD 24 0).toNat ≤ 100 := by
  simp [List.all_eq_true, mem_panelLines]

theorem panelSettingsOf_some (spelled : panelSettingsOf ps = some c) :
    (∀ n : Fin 8, lineBytes ps n = some c.lines[n]) ∧ c.cancelWindow = (ps.getD 24 0).toNat ∧ c.cancelWindow ≤ 100 := by
  rw [panelSettingsOf_eq] at spelled
  split at spelled
  · next fits =>
    obtain ⟨lines, window⟩ := panelSettingsOf_spelled.mp fits
    obtain rfl := Option.some.inj spelled
    refine ⟨fun n => ?_, rfl, window⟩
    obtain ⟨x, line⟩ := Option.isSome_iff_exists.mp (lines n)
    simp [line]
  · cases spelled

theorem panelBytes : Claims.PanelBytes := by
  refine ⟨rfl, rfl, ?_⟩
  intro fits
  refine ⟨lineConfigOf_isSome, fun ps _ => ?_⟩
  have taken : (panelSettingsOf ps).isSome = true ↔ (∀ n : Fin 8, (lineBytes ps n).isSome = true) ∧ (ps.getD 24 0).toNat ≤ 100 := by
    rw [panelSettingsOf_eq, ← panelSettingsOf_spelled]
    split <;> simp_all
  rw [taken]
  exact and_congr_left fun _ => forall_congr' fun n => lineConfigOf_isSome _ _ _

-- PANEL CONFIGURE

theorem configure_checks (h : Takes .C s) (whole : ps.length = 25) : failedCheck .C 0x3D ps (frameComplete .C s) = none :=
  checks_pass h [.C] (.exactly 25) rfl rfl (decide_eq_true whole)

theorem configure_set (h : Takes .C s) (whole : ps.length = 25) (spelled : panelSettingsOf ps = some c) :
    exec (.panelConfigure .C ps) s = .next (answered .C 0x3D .ok .none (configurePanel c s)) :=
  congrArg _ (command_ok h (configure_checks h whole) (by simp only [panelConfigureOwner, spelled]; rfl))

theorem panelOutputSet_checks (h : Takes .C s) (two : ps.length = 2) : failedCheck .C 0x3E ps (frameComplete .C s) = none :=
  checks_pass h [.C] (.exactly 2) rfl rfl (decide_eq_true two)

theorem panelLinesAreConfigured_set : Claims.PanelLinesAreConfigured := by
  refine ⟨lineConfigOf_codes, fun ps s takes whole => ⟨fun bad => ?_, fun c spelled => ?_⟩, fun b v n s takes line level => ?_⟩
  · exact congrArg _ (command_refused takes (configure_checks takes whole) (by simp only [panelConfigureOwner, bad]))
  · obtain ⟨lines, window, most⟩ := panelSettingsOf_some spelled
    refine ⟨lines, window, most, _, configure_set takes whole spelled, rfl, rfl, by simp [answered], fun n => ?_, rfl⟩
    show (Vector.ofFn fun n : Fin 8 => if c.lines[n] = s.panel.settings.lines[n] then s.panel.lines[n]
      else (⟨false, false, true, false, false⟩ : PanelLine))[n] = _
    simp
  · intro x general lines
    have named : panelLineOf b = some n := numberOf_val_succ line
    have switch : switchOf v = some (decide (v = 1)) := by rw [switchOf_eq, if_pos level]
    have owner : panelOutputSetOwner [b, v] (frameComplete .C s) =
        if general then .ok ((frameComplete .C s).setPanelLine n { s.panel.lines[n] with general := decide (v = 1) }) .none
        else .refuse .notFound := by
      simp only [panelOutputSetOwner, byteAt, List.getD_cons_zero, List.getD_cons_succ, named, switch]
      rfl
    exact ⟨fun yes => congrArg _ (command_ok takes (panelOutputSet_checks takes rfl) (owner.trans (if_pos yes))),
      fun no => congrArg _ (command_refused takes (panelOutputSet_checks takes rfl) (owner.trans (if_neg no)))⟩

-- a cancel window found closed before a new setting (R97)

theorem closeWindow_late {w : CancelWindow} (window : s.cue.window = some w) (late : s.panel.settings.cancelWindow ≤ w.count) :
    closeWindow s = { s with cue := { s.cue with window := none } } := by
  simp only [closeWindow, window, late, if_true]

theorem cancelSettingsFollowTheBoundary : Claims.CancelSettingsFollowTheBoundary := by
  intro ps c w s reaches whole spelled due window late
  have left : s.due.erase .cancelWindowClose = [] := by simp [due]
  have window' : ({ s with due := [] } : State).cue.window = some w := window
  have taken : take .cancelWindowClose s = { s with due := [], cue := { s.cue with window := none } } := by
    rw [take_happens (by simp [due]) (by simp [stillDue, window, late]), left]
    exact closeWindow_late window' late
  have ready := takes_after reaches due (by simp) (by rw [taken])
  have same := (commandsFollowTheBoundary (.panelConfigure .C ps) .C 0x3D ps s rfl reaches.1
    (live_of_reaches reaches) (due ▸ List.nodup_singleton _)).2.2 _ due (by simp)
  refine ⟨_, same.trans (configure_set ready whole spelled), by simp [answered], rfl, ?_⟩
  rw [taken]
  rfl

/-- Settles O49. -/
theorem panelLinesAreConfigured : Obligations.PanelLinesAreConfigured :=
  ⟨panelLinesAreConfigured_set, cancelSettingsFollowTheBoundary, panelBytes⟩

end Sys2Proof.PanelConfiguration
end

section
/-! R195, R203: SOFT RESET, the resets and what they keep. -/

namespace Sys2Proof.SoftReset

-- one thread: the check compiles under a limit on the process
set_option Elab.async false

open Sys2Proof.Machine Sys2Proof.Safety Sys2Proof.Laws Sys2Proof.TakenCommands Sys2Proof.LinkFrames

variable {s t : State} {l : Link} {d : Due}

-- RESET_DONE and the writes of the profile

/-- A link on which RESET_DONE is raised. -/
def told (k : ResetKind) (p : LinkPort) : LinkPort := { p with events := addEvent (.resetDone k) p.events }

theorem raiseResetDone_eq (k : ResetKind) (s : State) : raiseResetDone k s =
    { s with links := ⟨told k s.links.p, told k s.links.c, told k s.links.s, told k s.links.a⟩ } := rfl

theorem link_raiseResetDone (k : ResetKind) (l : Link) (s : State) : (raiseResetDone k s).link l = told k (s.link l) := by
  cases l <;> rfl

@[simp] theorem gens_broken (p : ProfileStore) (i : Fin 4) : p.broken.gens[i] = (p.gens[i]).broken := by
  simp [ProfileStore.broken]

/-- A write broken off leaves a check word that does not fit (R206). -/
theorem state_broken_writing (c : Settings) (n : Nat) : ((Generation.writing c n).broken).state = .failing := by
  have other : BitVec.ofNat 16 ((Config.brokenCrc c n).val + 1) ≠ 0#16 := by
    have bound := (Config.brokenCrc c n).isLt
    bv_omega
  simp only [Generation.broken, Generation.state]
  rw [if_neg]
  intro same
  have zero := congrArg ((Config.brokenContents c n).crc ^^^ ·) same
  simp only [BitVec.xor_self, ← BitVec.xor_assoc, BitVec.zero_xor] at zero
  exact other zero.symm

theorem broken_of_not_writing {g : Generation} (h : g.state ≠ .writing) : g.broken = g := by
  cases g with
  | writing c n => exact absurd rfl h
  | unprogrammed => rfl
  | written c crc => rfl

theorem state_broken (g : Generation) : g.broken.state = if g.state = .writing then .failing else g.state := by
  cases g with
  | writing c n => exact state_broken_writing c n
  | unprogrammed => rfl
  | written c crc =>
    simp only [Generation.broken, Generation.state]
    split <;> rfl

/-- What breaking the writes off makes of the generations (R203, R206). -/
theorem broken_gens (p : ProfileStore) (i : Fin 4) :
    ((p.gens[i]).state = .writing → (p.broken.gens[i]).state = .failing) ∧
      ((p.gens[i]).state ≠ .writing → p.broken.gens[i] = p.gens[i]) := by
  refine ⟨fun h => ?_, fun h => ?_⟩
  · rw [gens_broken, state_broken, if_pos h]
  · rw [gens_broken, broken_of_not_writing h]

-- the captures end

theorem settleCapture_mem (ch : Channel) (tr : Bool) (s : State) : (settleCapture ch tr s).mem = s.mem :=
  settleCapture_touches ch tr s .mem (by decide)

theorem settleCapture_channels (ch : Channel) (tr : Bool) (s : State) :
    (settleCapture ch tr s).clips.channels = s.clips.channels.set ch none := by
  unfold settleCapture
  split
  next h =>
    refine Vector.ext fun i hi => ?_
    by_cases same : ch.val = i
    · subst same
      rw [Vector.getElem_set_self]
      exact h
    · simp [Vector.getElem_set, same]
  next => rfl

theorem settleCapture_others (ch : Channel) (tr : Bool) (s : State) :
    { (settleCapture ch tr s).clips with channels := s.clips.channels, playout := s.clips.playout } = s.clips := by
  unfold settleCapture
  split <;> rfl

/-- The capture of a channel records clip `n`. -/
def records (n : ClipId) (x : Option Capture) : Bool := x.any fun c => decide (c.clip = n)

/-- The end of a capture settles its clip alone (R63). -/
theorem settleCapture_playout (ch : Channel) (tr : Bool) (n : ClipId) (s : State) :
    (settleCapture ch tr s).clips.playout[n] =
      if records n (s.channel ch) then (s.clips.playout[n]).settled tr else s.clips.playout[n] := by
  unfold settleCapture
  split
  next h => rw [h, records, Option.any_none, if_neg Bool.false_ne_true]
  next c h =>
    simp only [h, records, Option.any_some, decide_eq_true_eq, State.modClip]
    by_cases same : c.clip = n
    · subst same
      simp
    · have apart : c.clip.val ≠ n.val := fun e => same (Fin.ext e)
      simp [same, Vector.getElem_set, apart]

theorem state_settled (c : Clip) (tr : Bool) : (c.settled tr).state = if c.count = 0 then .empty else .ready := by
  unfold Clip.settled
  split <;> rfl

theorem count_settled (c : Clip) (tr : Bool) : (c.settled tr).count = c.count := by
  unfold Clip.settled
  split
  next h => exact h.symm
  next => rfl

-- the clips and the memory

/-- Memory that freeing an alert clip leaves as it is: all but the free list, the holders and the alert count. -/
structure PoolOnly (m m' : SampleMemory) : Prop where
  cells : m'.cells = m.cells
  ring : m'.ring = m.ring
  reserve : m'.reserve = m.reserve
  errors : m'.errors = m.errors
  general : m'.general = m.general

theorem PoolOnly.refl (m : SampleMemory) : PoolOnly m m := ⟨rfl, rfl, rfl, rfl, rfl⟩

theorem PoolOnly.trans {m m' m'' : SampleMemory} (h : PoolOnly m m') (k : PoolOnly m' m'') : PoolOnly m m'' :=
  ⟨k.cells.trans h.cells, k.ring.trans h.ring, k.reserve.trans h.reserve, k.errors.trans h.errors,
    k.general.trans h.general⟩

theorem freeOne_alert (k : AlertSlot) (m : SampleMemory) (n : Nat) : PoolOnly m (m.freeOne (.alert k) n) := by
  unfold SampleMemory.freeOne
  split
  · exact ⟨rfl, rfl, rfl, rfl, rfl⟩
  · exact PoolOnly.refl m

theorem freeAll_alert (k : AlertSlot) (ns : List Nat) (m : SampleMemory) : PoolOnly m (m.freeAll (.alert k) ns) := by
  unfold SampleMemory.freeAll
  induction ns generalizing m with
  | nil => exact PoolOnly.refl m
  | cons n ns ih => exact (freeOne_alert k m n).trans (ih _)

theorem emptyClip_alert (k : AlertSlot) (s : State) : PoolOnly s.mem (emptyClip (.alert k) s).mem ∧
    (emptyClip (.alert k) s).clips = { s.clips with alert := s.clips.alert.set k .empty } :=
  ⟨freeAll_alert k _ s.mem, rfl⟩

/-- Freeing the four alert clips (R73). -/
theorem emptyClips_alert (s : State) :
    let u := alertSlots.foldl (fun u k => emptyClip (.alert k) u) s
    PoolOnly s.mem u.mem ∧ u.clips = { s.clips with alert := Vector.replicate 4 .empty } := by
  let a := emptyClip (.alert 0) s
  let b := emptyClip (.alert 1) a
  let c := emptyClip (.alert 2) b
  have pool := (((emptyClip_alert 0 s).1.trans (emptyClip_alert 1 a).1).trans (emptyClip_alert 2 b).1).trans
    (emptyClip_alert 3 c).1
  refine ⟨pool, ?_⟩
  show { s.clips with alert := (((s.clips.alert.set 0 .empty).set 1 .empty).set 2 .empty).set 3 .empty } = _
  have emptied : (((s.clips.alert.set 0 Clip.empty).set 1 .empty).set 2 .empty).set 3 .empty = Vector.replicate 4 .empty := by
    refine Vector.ext fun i hi => ?_
    interval_cases i <;> simp [Vector.getElem_set]
  rw [emptied]

/-- The captures of both channels ended (R73). -/
def capturesEnded (s : State) : State := settleCapture 1 false (settleCapture 0 false s)

theorem capturesEnded_channels (s : State) : (capturesEnded s).clips.channels = Vector.replicate 2 none := by
  rw [capturesEnded, settleCapture_channels, settleCapture_channels]
  refine Vector.ext fun i hi => ?_
  interval_cases i <;> simp [Vector.getElem_set]

theorem capturesEnded_others (s : State) :
    { (capturesEnded s).clips with channels := s.clips.channels, playout := s.clips.playout } = s.clips :=
   (congrArg (fun x : ClipStore => { x with channels := s.clips.channels, playout := s.clips.playout })
    (settleCapture_others 1 false (settleCapture 0 false s))).trans (settleCapture_others 0 false s)

theorem channel_one (tr : Bool) (s : State) : (settleCapture 0 tr s).channel 1 = s.channel 1 := by
  unfold State.channel
  rw [settleCapture_channels]
  simp

theorem capturesEnded_kept {n : ClipId} (h : ∀ (ch : Channel) c, s.clips.channels[ch] = some c → c.clip ≠ n) :
    (capturesEnded s).clips.playout[n] = s.clips.playout[n] := by
  have idle (ch : Channel) : ¬records n (s.channel ch) = true := by
    rw [records, Option.any_eq_true]
    rintro ⟨c, busy, same⟩
    exact h ch c busy (of_decide_eq_true same)
  rw [capturesEnded, settleCapture_playout, channel_one, if_neg (idle 1), settleCapture_playout, if_neg (idle 0)]

/-- A clip that was being captured is READY, or EMPTY with nothing recorded (R63, R73). -/
theorem capturesEnded_state {ch : Channel} {c : Capture} (h : s.clips.channels[ch] = some c) :
    ((capturesEnded s).clips.playout[c.clip]).state = if (s.clips.playout[c.clip]).count = 0 then .empty else .ready := by
  rw [capturesEnded, settleCapture_playout, settleCapture_playout]
  have recorded : records c.clip (s.channel ch) = true := by simp [records, State.channel, h]
  match ch, recorded with
  | 0, recorded =>
    rw [if_pos recorded]
    split <;> simp only [state_settled, count_settled]
  | 1, recorded =>
    rw [channel_one, if_pos recorded]
    split <;> simp only [state_settled, count_settled]

/-- What SOFT RESET makes of the clips and the memory (R36, R73). -/
structure ClipsReset (s t : State) : Prop where
  mem : PoolOnly s.mem t.mem
  channels : t.clips.channels = Vector.replicate 2 none
  alert : t.clips.alert = Vector.replicate 4 Clip.empty
  alertCapture : t.clips.alertCapture = none
  readerA : t.clips.readerA = none
  readerB : t.clips.readerB = none
  readerAlert : t.clips.readerAlert = none
  fallback : t.clips.fallback = s.clips.fallback
  tone : t.clips.tone = s.clips.tone
  playout : ∀ n : ClipId, t.clips.playout[n] =
    { (capturesEnded s).clips.playout[n] with uses := s.clips.roles n }

theorem softResetClips_reset (s : State) : ClipsReset s (softResetClips s) := by
  obtain ⟨pool, clips⟩ := emptyClips_alert (capturesEnded s)
  have others := capturesEnded_others s
  have mem : (capturesEnded s).mem = s.mem := (settleCapture_mem 1 _ _).trans (settleCapture_mem 0 _ _)
  rw [mem] at pool
  unfold softResetClips
  change PoolOnly s.mem _ at pool
  have fallback : (capturesEnded s).clips.fallback = s.clips.fallback := (congrArg ClipStore.fallback others :)
  have tone : (capturesEnded s).clips.tone = s.clips.tone := (congrArg ClipStore.tone others :)
  refine ⟨pool, ?_, ?_, rfl, rfl, rfl, rfl, ?_, ?_, fun n => ?_⟩
  · exact (congrArg ClipStore.channels clips).trans (capturesEnded_channels s)
  · exact congrArg ClipStore.alert clips
  · exact (congrArg ClipStore.fallback clips).trans fallback
  · exact (congrArg ClipStore.tone clips).trans tone
  · have cell := congrArg (fun x : ClipStore => (x.playout[n]).keptWith (x.roles n)) clips
    have roles : (capturesEnded s).clips.roles n = s.clips.roles n := by simp only [ClipStore.roles, fallback, tone]
    simp only [Fin.getElem_fin, Vector.getElem_ofFn]
    refine cell.trans ?_
    simp only [Clip.keptWith, ← roles]
    rfl

-- the reset made

/-- The reset of which SOFT RESET's response has been sent (R203). -/
def resetMade (s : State) : State := (softReset s).modLink .C LinkPort.sent

theorem softResetClips_touches (s : State) : Touches [.mem, .clips] s (softResetClips s) := by
  refine Touches.trans ?_ ((clips_touches _ _).mono (by decide))
  refine Touches.trans ?_ (Touches.foldl _ (fun u k => emptyClip_touches (.alert k) u) _ _)
  exact ((settleCapture_touches 0 false s).mono (by decide)).trans ((settleCapture_touches 1 false _).mono (by decide))

theorem resetMade_link (l : Link) (s : State) : (resetMade s).link l =
    if l = .C then (told .soft ((s.link .C).softReset .C)).sent else told .soft ((s.link l).softReset l) := by
  have kept : (softResetClips s).links = s.links := softResetClips_touches s .links (by decide)
  unfold resetMade softReset
  rw [raiseResetDone_eq, kept]
  cases l <;> rfl

theorem resetMade_events (l : Link) (s : State) : ((resetMade s).link l).receiver = .hunting ∧
    ((resetMade s).link l).events = [⟨.resetDone .soft, 1⟩] ∧ ((resetMade s).link l).enabled = linkEvents l ∧
    ((resetMade s).link l).faults = (s.link l).faults ∧ ((resetMade s).link l).rate = (s.link l).rate := by
  have sent (p : LinkPort) : { p.sent with inFlight := p.inFlight, owed := p.owed } = p := by
    unfold LinkPort.sent
    split
    · split <;> rfl
    · rfl
  rw [resetMade_link]
  split
  next h =>
    subst h
    have kept := sent (told .soft ((s.link .C).softReset .C))
    exact ⟨(congrArg LinkPort.receiver kept :), (congrArg LinkPort.events kept :), (congrArg LinkPort.enabled kept :),
      (congrArg LinkPort.faults kept :), (congrArg LinkPort.rate kept :)⟩
  next => exact ⟨rfl, rfl, rfl, rfl, rfl⟩

/-- SOFT RESET's OK is being sent (R185). -/
def Answering (s : State) : Prop := (s.link .C).inFlight = some ⟨0x32, some ⟨0x32, .ok, .none⟩⟩

theorem softResetAnswered_of (h : Answering s) : s.softResetAnswered = true := by
  have flight : (s.link .C).inFlight = some ⟨0x32, some ⟨0x32, .ok, .none⟩⟩ := h
  rw [State.softResetAnswered, flight]
  rfl

theorem sent_of_answered {p : LinkPort} {f : InFlight} (h : p.inFlight = some f) (answer : f.answer.isSome = true) :
    p.sent = { p with inFlight := none } := by simp [LinkPort.sent, h, answer]

/-- After SOFT RESET's OK nothing is in flight or owed on link C (R195). -/
theorem resetMade_free (h : Answering s) :
    ((resetMade s).link .C).inFlight = none ∧ ((resetMade s).link .C).owed = [] := by
  have flight : (s.link .C).inFlight = some ⟨0x32, some ⟨0x32, .ok, .none⟩⟩ := h
  have reset : (told .soft ((s.link .C).softReset .C)).inFlight = some ⟨0x32, some ⟨0x32, .ok, .none⟩⟩ := by
    simp [told, LinkPort.softReset, flight]
  rw [resetMade_link, if_pos rfl, sent_of_answered reset rfl]
  exact ⟨rfl, by simp [told, LinkPort.softReset, flight]⟩

/-- With the response in flight and nothing left from the last boundary both rows make the reset (R185). -/
theorem rows_make_reset (running : s.dev.supply = .running) (h : Answering s) (settled : Settled s) :
    exec .softResetMade s = .next (resetMade s) ∧ exec (.responseSent .C) s = .next (resetMade s) := by
  have made : softResetMade s = resetMade s := by
    rw [softResetMade, softResetAnswered_of h, settleFound_settled settled, State.running, running]
    rfl
  have sent : responseSent .C s = resetMade s := by
    rw [responseSent, softResetAnswered_of h, settleFound_settled settled, State.running, running]
    rfl
  exact ⟨congrArg Host.Outcome.next made, congrArg Host.Outcome.next sent⟩

/-- The one event that the last boundary found is taken before the reset (log entry 4). -/
theorem reset_follows_boundary (live : s.live = true) (due : s.due = [d]) (timed : d ≠ .fillAnswer) (h : Answering s) :
    exec .softResetMade s = exec .softResetMade (take d s) ∧
      exec (.responseSent .C) s = exec .softResetMade (take d s) := by
  have settles := settleFound_single live timed due
  obtain ⟨keptSupply, -, kept⟩ := settleFound_keeps s
  have settled := settled_settleFound live (due ▸ List.nodup_singleton d : s.due.Nodup)
  rw [settles] at keptSupply kept settled
  have running : s.dev.supply = .running := by
    simp only [State.live, Bool.and_eq_true, decide_eq_true_eq] at live
    exact live.1
  have after : Answering (take d s) := by
    have same : ((take d s).link .C).inFlight = (s.link .C).inFlight := by
      simp_all [answers, State.link, Links.get]
    exact same.trans h
  have now : softResetMade s = resetMade (take d s) := by
    rw [softResetMade, softResetAnswered_of h, settles, State.running, running]
    rfl
  have sent : responseSent .C s = resetMade (take d s) := by
    rw [responseSent, softResetAnswered_of h, settles, State.running, running]
    rfl
  rw [(rows_make_reset (keptSupply.trans running) after settled).1]
  exact ⟨congrArg Host.Outcome.next now, congrArg Host.Outcome.next sent⟩

theorem exec_softReset (h : Takes .C s) : exec (.softReset .C []) s = .next (answered .C 0x32 .ok .none s) :=
  congrArg Host.Outcome.next (command_ok h (checks_pass h [.C] (.exactly 0) (by decide) (by decide) rfl) rfl)

/-- Settles O54. -/
theorem softResetIsMade : Obligations.SoftResetIsMade := by
  refine ⟨fun s h => exec_softReset h, fun d s live due timed h => reset_follows_boundary live due timed h,
    fun s running h settled => ?_⟩
  obtain ⟨made, sent⟩ := rows_make_reset running h settled
  have clips := softResetClips_reset s
  have touched := softResetClips_touches s
  have dev : (softResetClips s).dev = s.dev := touched .dev (by decide)
  have delay : (softResetClips s).delay = s.delay := touched .delay (by decide)
  have alerts : (softResetClips s).alerts = s.alerts := touched .alerts (by decide)
  have sup : (softResetClips s).sup = s.sup := touched .sup (by decide)
  have tx : (softResetClips s).tx = s.tx := touched .tx (by decide)
  have panel : (softResetClips s).panel = s.panel := touched .panel (by decide)
  have prof : (softResetClips s).prof = s.prof := touched .prof (by decide)
  refine ⟨resetMade s, made, sent, ?_, rfl, rfl, rfl, ?_, ?_, ?_, tx, ?_, ?_, fun i => ?_, clips.mem.cells,
    clips.mem.ring, clips.mem.reserve, clips.mem.errors, clips.mem.general, clips.channels, clips.alert,
    clips.alertCapture, clips.readerA, clips.readerB, clips.readerAlert, clips.fallback, clips.tone, fun n => ?_,
    fun n idle => ?_, fun ch c busy => ?_, fun l => resetMade_events l s, resetMade_free h⟩
  · exact congrArg (fun x : Device => { x with state := .standby }) dev
  · exact congrArg (fun x : Delay => Delay.initial x.target x.settings) delay
  · exact congrArg (fun x : Alerts => { Alerts.initial x.settings with history := x.history, lastLink := x.lastLink }) alerts
  · exact congrArg (fun x : Supervisor => Supervisor.initial x.settings) sup
  · exact congr (congrArg (fun (x : Panel) (y : TxLink) => Panel.initial x.settings (decide (y.state = .up))) panel) tx
  · exact congrArg (fun x : ProfileStore => x.broken.loaded) prof
  · have gens : (resetMade s).prof.gens[i] = s.prof.broken.gens[i] := congrArg (fun x : ProfileStore => x.broken.gens[i]) prof
    rw [gens]
    exact broken_gens s.prof i
  · exact congrArg Clip.uses (clips.playout n)
  · have cell : (resetMade s).clips.playout[n] = _ := clips.playout n
    rw [cell, capturesEnded_kept idle]
  · exact (congrArg Clip.state (clips.playout c.clip)).trans (capturesEnded_state busy)

end Sys2Proof.SoftReset
end

section
/-! R200, R205, R206: power-up, the profile loaded, power loss and the RESET line. -/

namespace Sys2Proof.PowerUp

-- one thread: the check compiles under a limit on the process
set_option Elab.async false

open Sys2Proof.Machine Sys2Proof.Safety Sys2Proof.Laws Sys2Proof.LinkFrames Sys2Proof.SoftReset Sys2Proof.MemoryAndProfile
open Sys2Proof.Boundaries Sys2Proof.DelayReads

variable {s t : State} {k : ResetKind} {i : Fin 4} {c : Settings} {n : Nat}

-- the highest generation with a property

theorem gensDown_falling : gensDown.Pairwise (· > ·) := by decide

/-- The first of a falling list with a property above a bound. -/
theorem find_above (p : Fin 4 → Bool) (i : Fin 4) : ∀ {js : List (Fin 4)}, js.Pairwise (· > ·) →
    js.find? (fun j => decide (i < j) && p j) = (js.find? p).filter fun j => decide (i < j)
  | [], _ => rfl
  | j :: js, falling => by
    obtain ⟨below, rest⟩ := List.pairwise_cons.mp falling
    have ih := find_above p i rest
    by_cases here : p j = true
    · by_cases above : i < j
      · simp [List.find?_cons, Option.filter, here, above]
      · have none_above : js.find? (fun j => decide (i < j) && p j) = none :=
          List.find?_eq_none.mpr fun x hx both => by
            have := below x hx
            simp only [Bool.and_eq_true, decide_eq_true_eq] at both
            omega
        simp [List.find?_cons, Option.filter, here, above, none_above]
    · simpa [List.find?_cons, here] using ih

theorem find_highest {p : Fin 4 → Bool} {i : Fin 4} (here : p i = true) (above : ∀ j, i < j → p j = false) :
    ∀ {js : List (Fin 4)}, js.Pairwise (· > ·) → i ∈ js → js.find? p = some i
  | j :: js, falling, hi => by
    obtain ⟨below, rest⟩ := List.pairwise_cons.mp falling
    rcases List.mem_cons.mp hi with rfl | later
    · simp [List.find?_cons, here]
    · have gone := above j (below i later)
      simpa [List.find?_cons, gone] using find_highest here above rest later

theorem highest_of {p : ProfileStore} {st : GenState} (here : (p.gens[i]).state = st)
    (above : ∀ j : Fin 4, i < j → (p.gens[j]).state ≠ st) : p.highest st = some i :=
  find_highest (decide_eq_true here) (fun j hj => decide_eq_false (above j hj)) gensDown_falling (mem_gensDown i)

theorem highest_none {p : ProfileStore} {st : GenState} (h : ∀ i : Fin 4, (p.gens[i]).state ≠ st) : p.highest st = none :=
  List.find?_eq_none.mpr fun i _ => by simpa using h i

/-- A store all of whose writes are broken off: what is VALID, and what is FAILING (R205, R206). -/
theorem valid_broken (p : ProfileStore) (i : Fin 4) :
    (p.broken.gens[i]).state = .valid ↔ (p.gens[i]).state = .valid := by
  rw [gens_broken, state_broken]
  split
  next h => exact iff_of_false (by decide) (by rw [h]; decide)
  next => rfl

theorem failing_broken {p : ProfileStore} (h : (p.gens[i]).state ≠ .valid) :
    (p.broken.gens[i]).state = .failing ↔ (p.gens[i]).state ≠ .unprogrammed := by
  rw [gens_broken, state_broken]
  cases state : (p.gens[i]).state <;> simp_all

-- PROFILE_FALLBACK

/-- The event set of link C once a load has told of a FAILING generation above it (R205). -/
def fallbackTold (loaded : Nat) (failing : Option (Fin 4)) (ps : List PendingEvent) : List PendingEvent :=
  match failing with
  | some i => if loaded < i.val + 1 then addEvent (.profileFallback loaded (i.val + 1)) ps else ps
  | none => ps

theorem raiseFallback_eq (s : State) : raiseFallback s = { s with links := { s.links with
    c := { s.links.c with events := fallbackTold s.prof.loaded (s.prof.highest .failing) s.links.c.events } } } := by
  unfold raiseFallback
  cases s.prof.highest .failing with
  | none => rfl
  | some i =>
    by_cases above : s.prof.loaded < i.val + 1
    · simp only [fallbackTold, if_pos above]
      rfl
    · simp only [fallbackTold, if_neg above]

/-- The event set, empty before, of link C: the one event, when a generation above the one loaded is FAILING. -/
theorem fallbackTold_empty (loaded : Nat) (failing : Option (Fin 4)) : fallbackTold loaded failing [] =
    ((failing.filter fun j => decide (loaded < j.val + 1)).map fun j =>
      [⟨.profileFallback loaded (j.val + 1), 1⟩]).getD [] := by
  cases failing with
  | none => rfl
  | some j => by_cases above : loaded < j.val + 1 <;> simp [fallbackTold, Option.filter, above, addEvent]

-- a write that the last boundary found complete

theorem settleWrite_idle (h : .profileDone ∉ s.due) : settleWrite s = s := by
  unfold settleWrite takeRow
  split
  · exact take_not_due h
  · rfl

/-- With no generation programmed there is no write to end. -/
theorem settleWrite_blank (h : ∀ i : Fin 4, s.prof.gens[i] = .unprogrammed) :
    (settleWrite s).prof = s.prof ∧ (settleWrite s).pending = s.pending := by
  refine ⟨?_, takeRow_touches _ s .pending (by decide)⟩
  unfold settleWrite takeRow take
  split
  · split
    · have idle : stillDue { s with due := s.due.erase .profileDone } .profileDone = false := by
        simp [stillDue, h, Generation.complete]
      dsimp only
      rw [idle]
      rfl
    · rfl
  · rfl

/-- A write found complete stands (R206). -/
theorem settleWrite_complete (found : Found .profileDone s) (writing : s.prof.gens[i] = .writing c n) (done : 20 ≤ n)
    (sole : ∀ j : Fin 4, j ≠ i → (s.prof.gens[j]).state ≠ .writing) :
    (settleWrite s).prof.gens[i] = .written c c.crc := by
  obtain ⟨live, due⟩ := found
  have still : stillDue { s with due := s.due.erase .profileDone } .profileDone = true :=
    List.any_eq_true.mpr ⟨i, mem_gensDown i, by simp [writing, Generation.complete, done]⟩
  have ended := endWrite_one (s := { s with due := s.due.erase .profileDone }) writing done sole
  rw [settleWrite, takeRow, if_pos live, LinkStatus.take_happens due still]
  refine (congrArg (fun t : State => t.prof.gens[i]) ended).trans ?_
  exact Vector.getElem_set_self _

-- POWER_UP begins

theorem beginPowerUp_prof (k : ResetKind) (s : State) :
    (beginPowerUp k s).prof = { s.prof.broken with loaded := s.prof.broken.loadNumber } := by
  rw [beginPowerUp, raiseFallback_eq]

theorem beginPowerUp_same (profile : s.prof = t.prof) (pending : s.pending = t.pending) :
    beginPowerUp k s = beginPowerUp k t := by
  unfold beginPowerUp
  rw [profile, pending]

theorem beginPowerUp_kind (k j : ResetKind) (s : State) : beginPowerUp j s =
    { beginPowerUp k s with dev := { (beginPowerUp k s).dev with kind := j } } := by
  simp only [beginPowerUp, raiseFallback_eq]

/-- What POWER_UP takes into use of the settings that a load gives (R205). -/
structure Loads (c : Settings) (number : Nat) (t : State) : Prop where
  dev : t.dev = ⟨.loading, .powerUp, .powerOn, .internal, 0, 0⟩
  loaded : t.prof.loaded = number
  mem : t.mem = .initial c.ring c.reserve
  delay : t.delay = .initial c.target c.delay
  sup : t.sup.settings = c.supervision
  alerts : t.alerts.settings = c.alert
  tx : t.tx.settings = c.link
  panel : t.panel.settings = c.panel
  rateP : (t.link .P).rate = c.rates[0]
  rateC : (t.link .C).rate = c.rates[1]
  rateS : (t.link .S).rate = c.rates[2]
  rateA : (t.link .A).rate = c.rates[3]

theorem beginPowerUp_loads (s : State) :
    Loads s.prof.broken.load s.prof.broken.loadNumber (beginPowerUp .powerOn s) := by
  rw [beginPowerUp, raiseFallback_eq]
  exact ⟨rfl, rfl, rfl, rfl, rfl, rfl, rfl, rfl, rfl, rfl, rfl, rfl⟩

theorem beginPowerUp_events (k : ResetKind) (s : State) : ((beginPowerUp k s).link .C).events =
    fallbackTold s.prof.broken.loadNumber (s.prof.broken.highest .failing) [] := by
  rw [beginPowerUp, raiseFallback_eq]
  rfl

/-- The settings and the number of the highest VALID generation (R205). -/
theorem load_valid (written : s.prof.gens[i] = .written c c.crc) (above : ∀ j : Fin 4, i < j → (s.prof.gens[j]).state ≠ .valid) :
    s.prof.broken.load = { c with target := min c.target (c.ring - 3) } ∧ s.prof.broken.loadNumber = i.val + 1 := by
  have valid : (s.prof.broken.gens[i]).state = .valid := by
    rw [valid_broken, written]
    simp only [Generation.state, if_true]
  have highest : s.prof.broken.highest .valid = some i :=
    highest_of valid fun j hj => by
      rw [Ne, valid_broken]
      exact above j hj
  have contents : (s.prof.broken.gens[i]).contents = some c := by
    rw [gens_broken, written]
    rfl
  simp only [ProfileStore.load, ProfileStore.loadNumber, highest, contents, Option.getD_some, and_self]

theorem load_factory (h : ∀ i : Fin 4, (s.prof.gens[i]).state ≠ .valid) :
    s.prof.broken.load = Config.factory ∧ s.prof.broken.loadNumber = 0 := by
  have highest : s.prof.broken.highest .valid = none := highest_none fun i => by
    rw [Ne, valid_broken]
    exact h i
  simp only [ProfileStore.load, ProfileStore.loadNumber, highest, and_true]
  rfl

/-- The FAILING generation of which a load tells is the highest above it that has been programmed (R205). -/
theorem failing_above (h : ∀ j : Fin 4, i < j → (s.prof.gens[j]).state ≠ .valid) :
    (s.prof.broken.highest .failing).filter (fun j => decide (i.val + 1 < j.val + 1)) =
      [(3 : Fin 4), 2, 1].find? fun j => decide (i < j ∧ (s.prof.gens[j]).state ≠ .unprogrammed) := by
  have same : (fun j : Fin 4 => decide (i < j) && decide ((s.prof.broken.gens[j]).state = .failing)) =
      fun j => decide (i < j ∧ (s.prof.gens[j]).state ≠ .unprogrammed) := by
    funext j
    by_cases above : i < j
    · simp only [above, decide_true, Bool.true_and, true_and]
      exact decide_eq_decide.mpr (failing_broken (h j above))
    · simp [above]
  have found := find_above (fun j => decide ((s.prof.broken.gens[j]).state = .failing)) i gensDown_falling
  rw [same] at found
  have places : gensDown = [3, 2, 1] ++ [0] := rfl
  have lowest : [(0 : Fin 4)].find? (fun j => decide (i < j ∧ (s.prof.gens[j]).state ≠ .unprogrammed)) = none := by
    simp
  rw [places, List.find?_append, lowest, Option.or_none] at found
  rw [found]
  congr 1
  funext j
  simp

/-- POWER_UP ends (R200). -/
theorem endPowerUp_happens (state : s.dev.state = .powerUp) (supply : s.dev.supply = .running ∨ s.dev.supply = .loading) :
    endPowerUp s = raiseResetDone s.dev.kind
      { s with dev := { s.dev with supply := .running, state := .standby } } := by
  obtain ⟨⟨supplied, _, kind, _⟩, _⟩ := s
  obtain rfl : _ = DeviceState.powerUp := state
  rcases supply with rfl | rfl <;> rfl

theorem endPowerUp_nothing (h : s.dev.state ≠ .powerUp ∨ s.dev.supply = .failed ∨ s.dev.supply = .resetLow) :
    endPowerUp s = s := by
  unfold endPowerUp profileLoaded
  refine if_neg fun both => ?_
  split at both
  next loading =>
    rcases h with h | h | h
    · exact h both.2
    · simp [h] at loading
    · simp [h] at loading
  next =>
    rcases h with h | h | h
    · exact h both.2
    · simp [h] at both
    · simp [h] at both

theorem powerUpEnds : Claims.PowerUpEnds := by
  refine fun s => ⟨fun state supply => ?_, fun h => congrArg Host.Outcome.next (endPowerUp_nothing h)⟩
  refine ⟨_, congrArg Host.Outcome.next (endPowerUp_happens state supply), rfl, rfl, fun l => ?_⟩
  rw [link_raiseResetDone]
  exact ⟨rfl, mem_addEvent_self _ _, fun p other => LinkEvents.mem_addEvent_other other _⟩

/-- With no generation programmed POWER UP END leaves the reset state (R200). -/
theorem endPowerUp_blank (h : ∀ i : Fin 4, s.prof.gens[i] = .unprogrammed) :
    endPowerUp (beginPowerUp .powerOn s) = { State.reset with pending := s.pending } := by
  have states (i : Fin 4) : (s.prof.gens[i]).state = .unprogrammed := by rw [h i]; rfl
  obtain ⟨load, number⟩ := load_factory (s := s) fun i => by rw [states i]; decide
  have gens : s.prof.broken.gens = Vector.replicate 4 .unprogrammed := Vector.ext fun i hi => by
    have kept := (broken_gens s.prof ⟨i, hi⟩).2 (by rw [states]; decide)
    simpa [h ⟨i, hi⟩] using kept.trans (h ⟨i, hi⟩)
  have failing : ProfileStore.highest ⟨Vector.replicate 4 .unprogrammed, 0⟩ .failing = none := by decide
  unfold beginPowerUp
  simp only [load, number, gens, raiseFallback_eq, failing]
  rfl

theorem powerUpLoadsTheProfile : Claims.PowerUpLoadsTheProfile := by
  refine fun s => ⟨fun blank => ?_, fun supplied => ?_, fun i c written idle above => ?_⟩
  · obtain ⟨profile, pending⟩ := settleWrite_blank blank
    have states (i : Fin 4) : (s.prof.gens[i]).state ≠ .valid := by simp [blank i, Generation.state]
    have same : beginPowerUp .powerOn (settleWrite s) = beginPowerUp .powerOn s := beginPowerUp_same profile pending
    refine ⟨beginPowerUp .powerOn s, congrArg Host.Outcome.next same, ?_, ?_, ?_⟩
    · rw [(beginPowerUp_loads s).dev]
    · exact (beginPowerUp_loads s).loaded.trans (load_factory states).2
    · exact congrArg Host.Outcome.next (endPowerUp_blank blank)
  · refine ⟨beginPowerUp .powerOn (settleWrite s), rfl, congrArg Host.Outcome.next ?_⟩
    rw [if_neg supplied]
    exact beginPowerUp_kind .powerOn .hardware _
  · have begun : exec .powerOn s = .next (beginPowerUp .powerOn s) := by
      show Host.Outcome.next (beginPowerUp .powerOn (settleWrite s)) = _
      rw [settleWrite_idle idle]
    obtain ⟨load, number⟩ := load_valid written above
    have loads := beginPowerUp_loads s
    rw [load, number] at loads
    have mem := loads.mem
    have delay := loads.delay
    refine ⟨_, begun, loads.dev, loads.loaded, ?_, ?_, ?_, ?_, ?_, ?_, ?_, loads.sup, loads.alerts, loads.tx, loads.panel,
      loads.rateP, loads.rateC, loads.rateS, loads.rateA, ?_⟩
    · rw [mem]; rfl
    · rw [mem]; rfl
    · rw [mem]; rfl
    · rw [mem]; rfl
    · rw [delay]; rfl
    · rw [delay]; rfl
    · rw [delay]; rfl
    · rw [beginPowerUp_events, number, fallbackTold_empty, failing_above above]
      generalize [(3 : Fin 4), 2, 1].find? _ = found
      cases found <;> rfl

theorem factoryDefaultsAreLoaded : Claims.FactoryDefaultsAreLoaded := by
  intro s blank idle
  have begun : exec .powerOn s = .next (beginPowerUp .powerOn s) := by
    show Host.Outcome.next (beginPowerUp .powerOn (settleWrite s)) = _
    rw [settleWrite_idle idle]
  obtain ⟨load, number⟩ := load_factory blank
  have loads := beginPowerUp_loads s
  rw [load, number] at loads
  have mem := loads.mem
  have delay := loads.delay
  refine ⟨_, begun, loads.loaded, ?_, ?_, ?_, ?_, loads.sup, loads.alerts, loads.tx, fun l => ?_, ?_, ?_, ?_⟩
  · rw [mem]; rfl
  · rw [mem]; rfl
  · rw [delay]; rfl
  · rw [delay]; rfl
  · cases l
    · exact loads.rateP
    · exact loads.rateC
    · exact loads.rateS
    · exact loads.rateA
  · rw [loads.panel]; rfl
  · rw [loads.panel]; rfl
  · have failing : s.prof.broken.highest .failing =
        [(3 : Fin 4), 2, 1, 0].find? fun j => decide ((s.prof.gens[j]).state ≠ .unprogrammed) := by
      refine congrArg (fun p => gensDown.find? p) (funext fun j => ?_)
      exact decide_eq_decide.mpr (failing_broken (blank j))
    have all (x : Option (Fin 4)) : x.filter (fun j => decide (0 < j.val + 1)) = x := by cases x <;> simp
    rw [beginPowerUp_events, number, fallbackTold_empty, all, failing]
    generalize [(3 : Fin 4), 2, 1, 0].find? _ = found
    cases found <;> rfl

-- the part stopped

theorem not_live_of_stopped (h : s.dev.supply ≠ .running) : s.live = false ∧ s.running = false := by
  simp [State.live, State.running, h]

/-- While the part does not run no frame, boundary or event changes anything (R200). -/
theorem exec_stopped {e : Instr} (stopped : s.dev.supply ≠ .running) (loading : s.dev.supply = .loading → e ≠ .powerUpEnd)
    (on : e ≠ .powerOn) (reset : e ≠ .hardwareReset) (loss : e ≠ .powerLoss) (low : e ≠ .resetLineLow) :
    exec e s = .next s := by
  obtain ⟨live, running⟩ := not_live_of_stopped stopped
  have command (l : Link) (code : Nat) (ps : List Byte) (owner : State → Reply) : command l code ps owner s = s := by
    rw [Machine.command, running]
    rfl
  have row (d : Due) : takeRow d s = s := by
    rw [takeRow, live]
    rfl
  cases frame : e.frame with
  | some f =>
    obtain ⟨owner, run⟩ := frame_owner frame
    rw [run, command]
  | none =>
    cases e
    case unknownCommand l code ps =>
      refine congrArg Host.Outcome.next ?_
      split
      · rfl
      · exact command _ _ _ _
    case badFrame f => simp [exec, execBadFrame, badFrame, running]
    case frameWhileBusy l f => simp [exec, execFrameWhileBusy, frameWhileBusy, running]
    case frameAbandoned l bs cause => simp [exec, execFrameAbandoned, frameAbandoned, running]
    case responseSent l => simp [exec, execResponseSent, responseSent, running]
    case softResetMade => simp [exec, execSoftResetMade, softResetMade, running]
    case silentFillComplete => simp [exec, execSilentFillComplete, silentFillComplete, running]
    case powerUpEnd =>
      refine congrArg Host.Outcome.next (endPowerUp_nothing (.inr ?_))
      cases supply : s.dev.supply <;> simp_all
    case powerOn => exact absurd rfl on
    case hardwareReset => exact absurd rfl reset
    case powerLoss => exact absurd rfl loss
    case resetLineLow => exact absurd rfl low
    case inputBlockBoundary env => simp [exec, execInputBlockBoundary, inputBoundary, live]
    case outputBlockBoundary env => simp [exec, execOutputBlockBoundary, outputBoundary, live]
    case clockLost arrived => simp [exec, execClockLost, loseClock, row, live]
    case statusFrame b => simp [exec, execStatusFrame, receiveStatus, live]
    case invalidStatusFrame bs => simp [exec, execInvalidStatusFrame, receiveInvalidStatus, live]
    all_goals first
      | exact congrArg Host.Outcome.next (row _)
      | exact nomatch frame

theorem link_stopAll (l : Link) (s : State) : ((stopAll s).link l).inFlight = none ∧ ((stopAll s).link l).owed = [] := by
  cases l <;> exact ⟨rfl, rfl⟩

theorem stoppedPartsAreInert : Claims.StoppedPartsAreInert := by
  refine ⟨fun s idle => ?_, fun s t idle begun i writing => ?_,
    fun c s stopped loading on reset loss low => exec_stopped stopped loading on reset loss low⟩
  · let t := stopAll { s with dev := { s.dev with supply := .failed } }
    let u := stopAll { s with dev := { s.dev with supply := .resetLow }, prof := s.prof.broken }
    have lost : exec .powerLoss s = .next t := by
      show Host.Outcome.next (stopAll { settleWrite s with dev := { s.dev with supply := .failed } }) = _
      rw [settleWrite_idle idle]
    have dark (n : PanelLineNo) : t.pin n = none := by
      simp [State.pin, t, stopAll, State.live]
    refine ⟨t, u, lost, rfl, rfl, rfl, rfl, fun l => link_stopAll l _, dark, fun supplied => ?_⟩
    have held : exec .resetLineLow s = .next u := by
      refine congrArg Host.Outcome.next ?_
      rw [if_neg supplied, settleWrite_idle idle]
    exact ⟨held, rfl, fun l => link_stopAll l _, fun i => broken_gens s.prof i⟩
  · obtain rfl : beginPowerUp .powerOn (settleWrite s) = t := Host.Outcome.next.inj begun
    rw [settleWrite_idle idle, beginPowerUp_prof]
    exact (broken_gens s.prof i).1 writing

theorem completeWritesStand : Claims.CompleteWritesStand := by
  intro i c n s found writing done sole e he
  have supplied : s.dev.supply ≠ .failed := by
    obtain ⟨live, -⟩ := found
    intro failed
    simp [State.live, failed] at live
  have stands := settleWrite_complete found writing done sole
  have valid : (((settleWrite s).prof.gens[i]).state) ≠ .writing := by
    rw [stands]
    simp [Generation.state]
  have kept := ((broken_gens (settleWrite s).prof i).2 valid).trans stands
  simp only [List.mem_cons, List.not_mem_nil, or_false] at he
  rcases he with rfl | rfl | rfl | rfl
  · exact ⟨_, rfl, stands⟩
  · refine ⟨_, congrArg Host.Outcome.next (if_neg supplied), kept⟩
  · refine ⟨_, rfl, ?_⟩
    rw [beginPowerUp_prof]
    exact kept
  · refine ⟨_, congrArg Host.Outcome.next (if_neg supplied), ?_⟩
    rw [beginPowerUp_prof]
    exact kept

/-- Settles O53. -/
theorem powerUpAndPowerDown : Obligations.PowerUpAndPowerDown :=
  ⟨powerUpLoadsTheProfile, stoppedPartsAreInert, completeWritesStand, powerUpEnds, factoryDefaultsAreLoaded⟩

end Sys2Proof.PowerUp
end

section
/-! The Cue Engine, the callers and the takeover of the air, walked once: a relation between states that holds of each change
they are made of holds of what they do. -/

namespace Sys2Proof.Walks

-- one thread: the check compiles under a limit on the process
set_option Elab.async false

open Sys2Proof.Machine Sys2Proof.Safety Sys2Proof.Laws Sys2Proof.EventKeeping

/-- The parts that such a relation leaves free. -/
abbrev freeParts : List Part := [.delay, .cue, .callers, .sup, .due]

/-- The queued record `r` of slot `k` is AIRING (R133). -/
def aired (k : AlertSlot) (r : AlertRecord) (s : State) : State :=
  ({ s with alerts := { s.alerts with queue := s.alerts.queue.filter (· ≠ k), tone := none } } : State).setRecord k
    (some { r with phase := .airing })

/-- The Alert Controller's account changed. -/
def viewing (a : Alerts) (s : State) : State := { s with alerts := a }

/-- A relation that holds of every change of which the Cue Engine, the callers and a takeover of the air are made. -/
structure Walk where
  rel : State → State → Prop
  refl : ∀ s, rel s s
  trans : ∀ {s t u}, rel s t → rel t u → rel s u
  free : ∀ {s t}, Touches freeParts s t → rel s t
  raised : ∀ l (e : Event), decide (e.number = 0x20) = false → ∀ s, rel s (raise l e s)
  reported : ∀ (f : Reports → Reports) s, (∀ r, (f r).micLive = r.micLive) → rel s (s.report f)
  cuts : ∀ c, c ≠ .studio → ∀ s, rel s (cut c s)
  fades : ∀ c, c ≠ .studio → ∀ n s, rel s (fadeOut c n s)
  activates : ∀ c, c ≠ .studio → ∀ b g n k s, rel s (activate c b g n k s)
  claims : ∀ e s, rel s (releaseClaim e s)
  airs : ∀ k r s, k ∈ s.alerts.queue → rel s (aired k r s)
  views : ∀ s a, a.records = s.alerts.records → a.queue = s.alerts.queue → rel s (viewing a s)

variable {w : Walk} {s t u : State}

/-- One step of such a relation. -/
def Step (w : Walk) (s t : State) : Prop := w.rel s t

theorem Step.refl (w : Walk) (s : State) : Step w s s := w.refl s

theorem Step.trans (h : Step w s t) (k : Step w t u) : Step w s u := w.trans h k

theorem Step.foldl {α : Type} (f : State → α → State) (h : ∀ s a, Step w s (f s a)) (as : List α) :
    ∀ s, Step w s (as.foldl f s) := by
  induction as with
  | nil => exact fun s => Step.refl w s
  | cons a as ih => exact fun s => (h s a).trans (ih (f s a))

theorem calm {ps : List Part} (h : Touches ps s t) (hp : ps ⊆ freeParts := by decide) : Step w s t := w.free (h.mono hp)

theorem Step.raise (h : Step w s t) (l : Link) {e : Event} (he : decide (e.number = 0x20) = false := by rfl) :
    Step w s (raise l e t) := h.trans (w.raised l e he t)

theorem report_step (f : Reports → Reports) (s : State) (hf : ∀ r, (f r).micLive = r.micLive := by exact fun _ => rfl) :
    Step w s (s.report f) := w.reported f s hf

theorem slotContributor_ne (k : CallerSlot) : slotContributor k ≠ .studio := by
  unfold slotContributor
  split <;> decide

theorem voiceContributor_ne (v : Voice) : voiceContributor v ≠ .studio := by cases v <;> decide

theorem view_step {a : Alerts} (records : a.records = s.alerts.records) (queue : a.queue = s.alerts.queue) :
    Step w s { s with alerts := a } := w.views s a records queue

theorem claim_step (e : Entry) (s : State) : Step w s (releaseClaim e s) := w.claims e s

theorem cut_voice (v : Voice) (s : State) : Step w s (cut (voiceContributor v) s) := w.cuts _ (voiceContributor_ne v) s

theorem cut_slot (k : CallerSlot) (s : State) : Step w s (cut (slotContributor k) s) := w.cuts _ (slotContributor_ne k) s

theorem fadeOut_voice (v : Voice) (n : Nat) (s : State) : Step w s (fadeOut (voiceContributor v) n s) :=
  w.fades _ (voiceContributor_ne v) n s

theorem activate_voice (v : Voice) (b : Binding) (g n k : Nat) (s : State) : Step w s (activate (voiceContributor v) b g n k s) :=
  w.activates _ (voiceContributor_ne v) b g n k s

theorem activate_alert (b : Binding) (g n k : Nat) (s : State) : Step w s (activate .alert b g n k s) :=
  w.activates .alert (by decide) b g n k s

theorem cutVoices_step (s : State) : Step w s (cutVoices s) :=
  (((cut_voice .A s).trans (cut_voice .B _)).trans (calm (setVoice_touches .A _ _))).trans (calm (setVoice_touches .B _ _))

theorem soundEntry_step (e : Entry) (v : Voice) (s : State) : Step w s (soundEntry e v s) := by
  unfold soundEntry
  split
  · exact activate_voice v _ _ _ _ s
  · exact activate_voice v _ _ _ _ s
  · exact cut_voice v s

theorem releaseVoice_step (v : Voice) (n : Nat) (s : State) : Step w s (releaseVoice v n s) :=
  (fadeOut_voice v n s).trans (calm (setVoice_touches v _ _))

theorem setSlot_step (k : CallerSlot) (x : SlotRecord) (s : State) : Step w s (s.setSlot k x) := by
  have placed (c : Callers) : Step w s (({ s with callers := c } : State).report fun r => { r with callerOn := c.occupied }) :=
    (calm (callers_touches c s)).trans (report_step _ _)
  exact placed { s.callers with slots := s.callers.slots.set k x }

theorem raiseQueue_step (s : State) : Step w s (raiseQueue s) := (Step.refl w s).raise _

theorem settleRelease_step (cause : OffAirCause) (k : CallerSlot) (s : State) : Step w s (settleRelease cause k s) := by
  unfold settleRelease
  split
  · next i d _ =>
    have emptied : Step w s (s.setSlot k ⟨none, none⟩) := setSlot_step k ⟨none, none⟩ s
    cases d with
    | hold => exact ((emptied.trans (calm (setLine_touches _ _ _))).trans (calm (joinQueue_touches i _))).raise _
    | drop => exact (emptied.trans (calm (setLine_touches i _ _))).raise _
  · exact Step.refl w s

theorem endRelease_step (k : CallerSlot) (s : State) : Step w s (endRelease k s) := by
  have settled : Step w s (settleRelease .released k s) := settleRelease_step .released k s
  unfold endRelease
  dsimp only
  split
  · exact settled
  · exact settled.trans (raiseQueue_step _)

theorem releaseSlot_step (k : CallerSlot) (d : Disposition) (s : State) : Step w s (releaseSlot k d s) := by
  unfold releaseSlot
  split
  · exact setSlot_step k _ s
  · next i _ =>
    have faded : Step w s (fadeOut (slotContributor k) s.mix.slotFade[k] (s.setSlot k ⟨some i, some d⟩)) :=
      (setSlot_step k _ s).trans (w.fades _ (slotContributor_ne k) _ _)
    dsimp only
    split
    · exact faded.trans (endRelease_step k _)
    · exact faded
  · exact Step.refl w s

theorem returnLine_step (cause : OffAirCause) (k : CallerSlot) (s : State) : Step w s (returnLine cause k s) := by
  unfold returnLine
  split
  · exact (((cut_slot k s).trans (setSlot_step k _ _)).trans (calm (setLine_touches _ _ _))).raise _
  · exact Step.refl w s

theorem cutRelease_step (cause : OffAirCause) (k : CallerSlot) (s : State) : Step w s (cutRelease cause k s) := by
  unfold cutRelease
  split
  · exact (cut_slot k s).trans (settleRelease_step _ k _)
  · exact Step.refl w s

theorem emptySlots_step (cause : OffAirCause) (s : State) : Step w s (emptySlots cause s) := by
  have emptied : Step w s (cutRelease cause 1 (cutRelease cause 0
      (requeueReturned s.linesToReturn (returnLine cause 1 (returnLine cause 0 s))))) :=
    ((((returnLine_step cause 0 s).trans (returnLine_step cause 1 _)).trans (calm (requeueReturned_touches _ _))).trans
      (cutRelease_step cause 0 _)).trans (cutRelease_step cause 1 _)
  unfold emptySlots
  dsimp only
  split
  · exact emptied
  · exact emptied.trans (raiseQueue_step _)

theorem enterSlot_step (i : PhoneLine) (k : CallerSlot) (s : State) : Step w s (enterSlot i k s) :=
  ((((calm (leaveQueue_touches i s)).trans (calm (setLine_touches i _ _))).trans (setSlot_step k _ _)).trans
    (w.activates _ (slotContributor_ne k) _ _ _ _ _)).raise _ |>.trans (raiseQueue_step _)

theorem setEntries_step (es : List Entry) (s : State) : Step w s (setEntries es s) := by
  unfold setEntries
  dsimp only
  split
  · exact (calm (cue_touches _ s)).raise _
  · exact calm (cue_touches _ s)

theorem itemEnded_step (e : Entry) (s : State) : Step w s (itemEnded e s) := (claim_step e s).raise _

theorem raiseAlertState_step (k : AlertSlot) (s : State) : Step w s (raiseAlertState k s) := by
  unfold raiseAlertState
  split
  · exact (Step.refl w s).raise _
  · exact Step.refl w s

theorem takeoverAir_step (s : State) : Step w s (takeoverAir s) := by
  unfold takeoverAir
  split
  · exact Step.refl w s
  · exact (calm (sup_touches _ _)).trans (report_step _ _)
  · exact Step.refl w s

theorem holdEngine_step (offer : Option Bool) (s : State) : Step w s (holdEngine offer s) := by
  unfold holdEngine
  split
  · exact Step.refl w s
  · have held (c : Cue) (v : EngineState) (t : State) :
        Step w t (raise .P .engineHeld { t with cue := c, alerts := { t.alerts with view := v } }) :=
      ((calm (cue_touches c t)).trans (view_step (s := { t with cue := c }) (a := { t.alerts with view := v }) rfl rfl)).raise .P
    exact ((cutVoices_step s).trans (Step.foldl _ (fun t e => itemEnded_step e t) _ _)).trans
      ((setEntries_step _ _).trans (held _ _ _))

theorem bindAlert_step (k : AlertSlot) (r : AlertRecord) (s : State) : Step w s (bindAlert k r s) := by
  unfold bindAlert
  split
  · exact activate_alert _ _ _ _ s
  · split
    · next t _ =>
      exact (view_step (a := { s.alerts with tone := some (t, 0) }) rfl rfl).trans (activate_alert _ _ _ _ _)
    · exact activate_alert _ _ _ _ s

/-- A window check gives the air to a record of the queue (R130). -/
theorem queued_of_windowTaker {c : Check} {k : AlertSlot} (h : windowTaker c s = some k) : k ∈ s.alerts.queue := by
  unfold windowTaker at h
  split at h
  · exact List.mem_of_find?_eq_some h
  · cases h

theorem takeover_step {k : AlertSlot} (queued : k ∈ s.alerts.queue) (offer : Option Bool) : Step w s (takeover k offer s) := by
  cases record : s.record k with
  | none =>
    rw [takeover_none record]
    exact Step.refl w s
  | some r =>
    have airs : Step w s (aired k r s) := w.airs k r s queued
    have told : Step w s (airTaken k r s) := (airs.trans (raiseAlertState_step k _)).raise .C
    have noticed : Step w s (airNotices offer (airTaken k r s)) :=
      ((told.trans (takeoverAir_step _)).trans (holdEngine_step offer _)).trans (emptySlots_step .alert _)
    have dumped (dumps : Bool) (t : State) : Step w t (if dumps then forcedDump t else t) := by
      split
      · exact calm (forcedDump_touches t)
      · exact Step.refl w t
    rw [takeover_eq record]
    exact (((noticed.trans (dumped _ _)).trans (bindAlert_step k r _)).trans (calm (workOutWait_touches _))).trans
      (report_step _ _)

theorem taken_step {c : Check} {k : AlertSlot} (h : windowTaker c s = some k) (offer : Option Bool) :
    Step w s (takeover k offer s) := takeover_step (queued_of_windowTaker h) offer

theorem windowCheck_step (c : Check) (s : State) : Step w s (windowCheck c s) := by
  unfold windowCheck
  split
  · next taken => exact taken_step taken none
  · exact Step.refl w s

theorem enterEngine_step (was st : EngineState) (s : State) : Step w s (enterEngine was st s) := by
  unfold enterEngine
  dsimp only
  split
  · exact calm (cue_touches _ s)
  · refine Step.trans ?_ (windowCheck_step _ _)
    exact (calm (cue_touches { s.cue with state := st } s)).trans (view_step rfl rfl)

theorem leaveVoice_step (v : Voice) (s : State) : Step w s (leaveVoice v s) := by
  unfold leaveVoice
  split
  · exact Step.refl w s
  · split
    · exact Step.refl w s
    · exact ((cut_voice v s).trans (calm (setVoice_touches v _ _))).trans
        (((itemEnded_step _ _).trans (setEntries_step _ _)).trans
          (calm (closeWindowOf_touches v _)))

theorem startIn_step (p : Entry → Bool) (v : Voice) (s : State) : Step w s (startIn p v s) := by
  unfold startIn
  split
  · exact Step.refl w s
  · exact ((soundEntry_step _ v s).trans (calm (setVoice_touches v _ _))).trans (calm (cue_touches _ _))

theorem takeVoice_step (v : Voice) (s : State) : Step w s (takeVoice v s) := by
  unfold takeVoice
  split
  · exact leaveVoice_step v s
  · exact Step.refl w s

theorem leaveMark_step (p : Entry → Bool) (s : State) : Step w s (leaveMark p s) :=
  (calm (cue_touches _ s)).trans (setEntries_step _ _)

theorem startEntry_step (fuel : Nat) (p : Entry → Bool) (s : State) : Step w s (startEntry fuel p s) := by
  induction fuel generalizing p s with
  | zero => unfold startEntry; exact Step.refl w s
  | succ n ih =>
    unfold startEntry
    split
    · exact Step.refl w s
    · exact Step.refl w s
    · rename_i m e hn he
      cases hn
      dsimp only
      split
      · split
        · rename_i hk
          exact ((leaveMark_step p s).trans (taken_step hk _)).trans (itemEnded_step e _)
        · split
          · exact ((leaveMark_step p s).trans (itemEnded_step e _)).trans (ih _ _)
          · exact (leaveMark_step p s).trans (itemEnded_step e _)
      · split
        · exact (takeVoice_step _ s).trans (startIn_step _ _ _)
        · exact Step.refl w s

theorem startHead_step (s : State) : Step w s (startHead s) := startEntry_step _ _ s

theorem settleFrom_step (was : EngineState) (s : State) : Step w s (settleFrom was s) := by
  unfold settleFrom
  split
  · exact Step.refl w s
  · dsimp only
    split
    · exact enterEngine_step _ _ s
    · exact (calm (cue_touches _ s)).trans (enterEngine_step _ _ _)

theorem endItem_step (v : Voice) (s : State) : Step w s (endItem v s) := by
  unfold endItem
  split
  · exact Step.refl w s
  · dsimp only
    split
    · rename_i hk
      exact (leaveVoice_step v s).trans (taken_step hk _)
    · split
      · exact (leaveVoice_step v s).trans (startHead_step _)
      · exact leaveVoice_step v s

theorem itemEnd_step (v : Voice) (s : State) : Step w s (itemEnd v s) :=
  (endItem_step v s).trans (settleFrom_step _ _)

theorem stopVoice_step (v : Voice) (s : State) : Step w s (stopVoice v s) := by
  unfold stopVoice
  split
  · exact Step.refl w s
  · split
    · exact Step.refl w s
    · split
      · exact calm (setVoice_touches v _ s)
      · exact ((releaseVoice_step v _ s))

theorem stopEntries_step (s : State) : Step w s (stopEntries s) :=
  ((stopVoice_step .A s).trans (stopVoice_step .B _)).trans (calm (cue_touches _ _))

theorem fadeFill_step (s : State) : Step w s (fadeFill s) := by
  unfold fadeFill
  dsimp only
  split
  · exact ((releaseVoice_step .A _ s)).trans (calm (cue_touches _ _))
  · exact calm (cue_touches _ s)

theorem fillEnd_step (s : State) : Step w s (fillEnd s) := by
  unfold fillEnd
  split
  · exact (fadeFill_step s).trans (settleFrom_step _ _)
  · split
    · exact calm (cue_touches _ s)
    · exact Step.refl w s
  · exact Step.refl w s

theorem endFallback_step (cause : LeftCause) (s : State) : Step w s (endFallback cause s) := by
  unfold endFallback
  split
  · have left : Step w s (raise .C (.fallbackLeft cause) (reportFallback
        { s with sup := { s.sup with mode := some .normal, counter := 0 } })) :=
      ((calm (sup_touches _ _)).trans (report_step _ _)).raise .C
    dsimp only
    split
    · exact left
    · exact left.trans (fillEnd_step _)
  · split
    · exact ((calm (sup_touches _ _)).raise .C).trans (fillEnd_step _)
    · exact Step.refl w s
  · exact Step.refl w s

theorem fillNotice_step (s : State) : Step w s (fillNotice s).1 := by
  unfold fillNotice
  split
  · exact Step.refl w s
  · dsimp only
    split
    · exact (((stopEntries_step s).trans (activate_voice .A _ _ _ _ _)).trans
        (calm (setVoice_touches .A _ _))).trans (enterEngine_step _ _ _)
    · exact (stopEntries_step s).trans (enterEngine_step _ _ _)

/-- What an owner's reply leaves, when it takes the command. -/
def ReplySteps (w : Walk) (s : State) : Reply → Prop
  | .ok t _ => Step w s t
  | .refuse _ => True
  | .later t => Step w s t

theorem manualSegue_step (s : State) : Step w s (manualSegue s) := by
  have head (c : Prop) [Decidable c] (t : State) (ht : Step w s t) : Step w s (if c then t else startHead t) := by
    split
    · exact ht
    · exact ht.trans (startHead_step t)
  unfold manualSegue
  split
  · exact Step.refl w s
  · split
    · split
      · exact calm (cue_touches _ s)
      · exact startHead_step s
    · refine head _ _ ?_
      split
      · split
        · exact (calm (cue_touches _ s)).trans (endItem_step _ _)
        · exact (calm (cue_touches _ s)).trans (fadeOut_voice _ _ _)
      · exact calm (cue_touches _ s)

theorem goCue_step (s : State) : ReplySteps w s (goCue s) := by
  unfold goCue
  split
  · trivial
  · trivial
  · exact (startHead_step s).trans (settleFrom_step _ _)
  · split
    · exact (manualSegue_step s).trans (settleFrom_step _ _)
    · trivial
  · split
    · exact (((fadeFill_step s).trans (endFallback_step _ _)).trans (startHead_step _)).trans
        (settleFrom_step _ _)
    · trivial

theorem stopCue_step (s : State) : Step w s (stopCue s) := by
  unfold stopCue
  split
  · exact (stopEntries_step s).trans (settleFrom_step _ _)
  · split
    · exact calm (cue_touches _ s)
    · exact Step.refl w s
  · exact Step.refl w s

theorem restartHeld_step (s : State) : Step w s (restartHeld s) := by
  refine Step.foldl _ (fun t e => ?_) _ s
  split
  · exact startIn_step _ _ t
  · exact Step.refl w t

theorem releaseEngine_step (s : State) : Step w s (releaseEngine s) := by
  unfold releaseEngine
  split
  · have resumed (c : Cue) : Step w s (raise .P .engineResumed { s with cue := c }) :=
      (calm (cue_touches c s)).raise .P
    dsimp only
    split
    · split
      · exact (((resumed _).trans (activate_voice .A _ _ _ _ _)).trans
          (calm (setVoice_touches .A _ _))).trans (enterEngine_step _ _ _)
      · exact (resumed _).trans (enterEngine_step _ _ _)
    · exact (((resumed _).trans (restartHeld_step _)).trans (startEntry_step _ _ _)).trans (settleFrom_step _ _)
  · exact Step.refl w s

theorem voiceEndOfAudio_step (v : Voice) (s : State) : Step w s (voiceEndOfAudio v s) := by
  unfold voiceEndOfAudio
  split
  · exact itemEnd_step v s
  · exact (cut_voice v s).trans (calm (setVoice_touches v _ _))
  · split
    · exact activate_voice v _ _ _ _ s
    · exact Step.refl w s
  · exact Step.refl w s

theorem voiceFadedOut_step (v : Voice) (s : State) : Step w s (voiceFadedOut v s) := by
  unfold voiceFadedOut
  split
  · exact calm (setVoice_touches v _ s)
  · split
    · exact itemEnd_step v s
    · exact Step.refl w s
  · exact Step.refl w s

theorem beginEnd_step (v : Voice) (s : State) : Step w s (beginEnd v s) := by
  unfold beginEnd
  split
  · split
    · have faded (c : Cue) (n : Nat) : Step w s (fadeOut (voiceContributor v) n { s with cue := c }) :=
        (calm (cue_touches c s)).trans (fadeOut_voice v n _)
      refine Step.trans ?_ (settleFrom_step _ _)
      dsimp only
      split
      · exact (faded _ _).trans (startHead_step _)
      · exact faded _ _
    · exact Step.refl w s
  · exact Step.refl w s

theorem endAtLimit_step (v : Voice) (s : State) : Step w s (endAtLimit v s) := by
  unfold endAtLimit
  split
  · exact itemEnd_step v s
  · exact Step.refl w s

theorem goEdge_step (s : State) : ReplySteps w s (goEdge s) := by
  unfold goEdge
  split
  · exact (((cut_voice _ s).trans (calm (setVoice_touches _ _ _))).trans (calm (cue_touches _ _))).trans
      (settleFrom_step _ _)
  · have went : ReplySteps w s (goCue s) := goCue_step s
    split
    · rename_i t r ht
      rw [ht] at went
      have went : Step w s t := went
      split
      · split
        · exact went
        · exact went.trans (calm (cue_touches _ t))
      · exact went
    · exact went

theorem takeLine_step (i : PhoneLine) (s : State) : Step w s (takeLine i s) := by
  unfold takeLine
  split
  · exact (enterSlot_step i _ s).trans (endFallback_step _ _)
  · exact Step.refl w s

theorem takeNext_step (s : State) : ReplySteps w s (takeNext s) := by
  unfold takeNext
  split
  · trivial
  · split
    · exact takeLine_step _ s
    · trivial

theorem releaseCallers_step (s : State) : ReplySteps w s (releaseCallers s) := by
  unfold releaseCallers
  split
  · exact (releaseSlot_step 0 .hold s).trans (releaseSlot_step 1 .hold _)
  · trivial

theorem operatorDump_step (s : State) : ReplySteps w s (operatorDump s) := by
  unfold operatorDump
  split
  · trivial
  · exact calm (delay_touches _ s)

-- the panel functions, where STUDIO's switch is such a change

theorem studioSwitch_step (switched : ∀ on g n s, Step w s (switchStudio on g n s)) (on : Bool) (g n : Nat) (s : State)
    (told : ∀ f s, Step w s (s.report f)) : Step w s (studioSwitch on g n s) := by
  have shown : Step w s ((switchStudio on g n s).report fun r => { r with micLive := (switchStudio on g n s).studioOn }) :=
    (switched on g n s).trans (told _ _)
  unfold studioSwitch
  dsimp only
  split
  · exact shown.trans (endFallback_step _ _)
  · exact shown

theorem panelOwner_step (switched : ∀ on g n s, Step w s (switchStudio on g n s)) (told : ∀ f s, Step w s (s.report f))
    (f : PanelFunction) (on : Bool) (s : State) : ReplySteps w s (panelOwner f on s) := by
  unfold panelOwner
  split
  · exact operatorDump_step s
  · exact goEdge_step s
  · exact goCue_step s
  · exact stopCue_step s
  · exact stopCue_step s
  · exact takeNext_step s
  · exact releaseCallers_step s
  · exact studioSwitch_step switched _ _ _ s told
  · exact Step.refl w s

theorem panelAction_step (switched : ∀ on g n s, Step w s (switchStudio on g n s)) (told : ∀ f s, Step w s (s.report f))
    (n : PanelLineNo) (on : Bool) (s : State) : Step w s (panelAction n on s) := by
  have owned : ReplySteps w s (panelOwner (s.panelConfig n).function on s) := panelOwner_step switched told _ on s
  unfold panelAction
  split
  · rename_i t r ht
    rw [ht] at owned
    exact owned
  · exact (Step.refl w s).raise _
  · rename_i t ht
    rw [ht] at owned
    exact owned

end Sys2Proof.Walks
end

section
/-! R172, R173, R195: what the events of a boundary leave of the panel and of the event sets: whatever happens, the panel
lines, their configuration and a PANEL_INPUT pending stay, and a CLOCK_RESTORED pending stays so. -/

namespace Sys2Proof.PanelKeeping

-- one thread: the check compiles under a limit on the process
set_option Elab.async false

open Sys2Proof.Machine Sys2Proof.Safety Sys2Proof.Laws Sys2Proof.LinkEvents Sys2Proof.EventKeeping Sys2Proof.Walks

/-- The panel lines, what is pending of them, and a pending CLOCK_RESTORED are kept. -/
structure Heeds (s t : State) : Prop where
  settings : t.panel.settings = s.panel.settings
  lines : t.panel.lines = s.panel.lines
  inputs : ∀ p ∈ (s.link .C).events, p.event.number = 0x20 → p ∈ (t.link .C).events
  restored : Pending .C .clockRestored s → Pending .C .clockRestored t

variable {s t u : State}

theorem Heeds.refl (s : State) : Heeds s s := ⟨rfl, rfl, fun _ hp _ => hp, id⟩

theorem Heeds.trans (h : Heeds s t) (k : Heeds t u) : Heeds s u :=
  ⟨k.settings.trans h.settings, k.lines.trans h.lines, fun p hp hn => k.inputs p (h.inputs p hp hn) hn,
    fun hp => k.restored (h.restored hp)⟩

theorem Heeds.foldl {α : Type} (f : State → α → State) (h : ∀ s a, Heeds s (f s a)) (as : List α) :
    ∀ s, Heeds s (as.foldl f s) := by
  induction as with
  | nil => exact fun s => Heeds.refl s
  | cons a as ih => exact fun s => (h s a).trans (ih (f s a))

/-- A change of other parts. -/
theorem calm {ps : List Part} (h : Touches ps s t) (hp : Part.panel ∉ ps ∧ Part.links ∉ ps := by decide) : Heeds s t := by
  have panel : t.panel = s.panel := h .panel hp.1
  have links : t.links = s.links := h .links hp.2
  have link : t.link .C = s.link .C := congrArg (Links.get · .C) links
  exact ⟨by rw [panel], by rw [panel], fun p hm _ => link ▸ hm, fun hm => by
    rw [Pending, link]
    exact hm⟩

/-- A report to the panel changes no line. -/
theorem report_heeds (f : Reports → Reports) (s : State) : Heeds s (s.report f) := ⟨rfl, rfl, fun _ hp _ => hp, id⟩

/-- An event raised, but PANEL_INPUT. -/
theorem raise_heeds (l : Link) {e : Event} (told : decide (e.number = 0x20) = false) (s : State) : Heeds s (raise l e s) := by
  have he : e.number ≠ 0x20 := of_decide_eq_false told
  have kept := raise_raises l e s
  refine ⟨rfl, rfl, fun p hp hn => kept .C p hp (by simp [hn, Ne.symm he]), fun hp => ?_⟩
  by_cases same : e.number = Event.clockRestored.number
  · obtain rfl : e = .clockRestored := by cases e <;> first | rfl | cases same
    cases l with
    | C => exact pending_raised _ _ _
    | P => exact hp
    | S => exact hp
    | A => exact hp
  · exact kept.pending hp (by simpa [eq_comm] using same)

theorem Heeds.raise (h : Heeds s t) (l : Link) {e : Event} (he : decide (e.number = 0x20) = false := by rfl) : Heeds s (raise l e t) :=
  h.trans (raise_heeds l he t)

/-- What the Cue Engine, the callers and a takeover of the air do is made of such changes. -/
def heeds : Walk where
  rel := Heeds
  refl := Heeds.refl
  trans := Heeds.trans
  free h := calm h
  raised l _ he s := raise_heeds l he s
  reported f s _ := report_heeds f s
  cuts c _ s := calm (cut_touches c s)
  fades c _ n s := calm (fadeOut_touches c n s)
  activates c _ b g n k s := calm (activate_touches c b g n k s)
  claims e s := calm (releaseClaim_touches e s)
  airs k r s _ := calm ((records_touches _ s).trans (setRecord_touches k _ _))
  views s a _ _ := calm (records_touches a s)

-- the Alert Controller

theorem measureDone_heeds (s : State) : Heeds s (measureDone s) := by
  unfold measureDone
  split
  · split
    · exact ((calm (setLine_touches _ _ s)).trans (calm (callers_touches _ _))).raise _
    · exact Heeds.refl s
  · exact Heeds.refl s

theorem releaseAirMode_heeds (s : State) : Heeds s (releaseAirMode s) := by
  unfold releaseAirMode
  split
  · exact (calm (sup_touches _ _)).trans (report_heeds _ _)
  · exact Heeds.refl s

theorem discardAlertClip_heeds (k : AlertSlot) (s : State) : Heeds s (discardAlertClip k s) := by
  have ended (c : Prop) [Decidable c] : Heeds s
      (if c then { s with clips := { s.clips with alertCapture := none } } else s) := by
    split
    · exact calm (clips_touches _ s)
    · exact Heeds.refl s
  unfold discardAlertClip
  dsimp only
  refine Heeds.trans ?_ (calm (emptyClip_touches _ _))
  split
  · split
    · exact (ended _).trans (calm (setReader_touches _ _ _))
    · exact ended _
  · exact ended _

theorem finish_heeds (k : AlertSlot) (o : AlertOutcome) (s : State) : Heeds s (finish k o s) := by
  unfold finish
  split
  · exact Heeds.refl s
  · have left : Heeds s (s.setRecord k none) := calm (setRecord_touches k _ _)
    exact ((left.trans (calm (records_touches _ _))).trans (raise_heeds _ rfl _)).trans (calm (workOutWait_touches _))

theorem releaseAir_heeds (s : State) : Heeds s (releaseAir s) :=
  (((releaseAirMode_heeds s).trans (report_heeds _ _)).trans (calm (workOutWait_touches _))).trans
    (releaseEngine_step (w := heeds) _)

theorem afterAiring_heeds (s : State) : Heeds s (afterAiring s) := by
  unfold afterAiring
  split
  · rename_i hj
    exact taken_step (w := heeds) hj none
  · exact releaseAir_heeds s

theorem stopAlertAudio_heeds (k : AlertSlot) (r : AlertRecord) (s : State) : Heeds s (stopAlertAudio k r s) := by
  have stopped : Heeds s (cut .alert { s with alerts := { s.alerts with tone := none } }) :=
    (calm (records_touches _ _)).trans (calm (cut_touches _ _))
  unfold stopAlertAudio
  dsimp only
  split
  · exact stopped
  · exact stopped.trans (discardAlertClip_heeds k _)

theorem endAiring_heeds (k : AlertSlot) (cancelled : Bool) (s : State) : Heeds s (endAiring k cancelled s) := by
  unfold endAiring
  split
  · exact Heeds.refl s
  · rename_i r _
    have off : Heeds s (raise .C (.alertOffAir r.id cancelled) (stopAlertAudio k r s)) :=
      (stopAlertAudio_heeds k r s).trans (raise_heeds _ rfl _)
    have confirming (t : State) : Heeds t
        (raiseAlertState k (t.modRecord k fun x => { x with phase := .confirming })) :=
      (calm (modRecord_touches k _ t)).trans (raiseAlertState_step (w := heeds) k _)
    dsimp only
    refine Heeds.trans ?_ (afterAiring_heeds _)
    split
    · exact off.trans (finish_heeds k _ _)
    · split
      · exact (off.trans (confirming _)).trans (finish_heeds k _ _)
      · exact off.trans (confirming _)

theorem captureEnded_heeds (k : AlertSlot) (n : Nat) (truncated : Bool) (s : State) :
    Heeds s (captureEnded k n truncated s) := by
  unfold captureEnded
  split
  · exact Heeds.refl s
  · rename_i r hr
    split
    · refine Heeds.trans ?_ (finish_heeds k _ _)
      exact calm (setRecord_touches _ _ _)
    · refine Heeds.trans ?_ (windowCheck_step (w := heeds) _ _)
      exact (((calm (setRecord_touches k _ _)).trans (calm (records_touches _ _))).trans (raiseAlertState_step (w := heeds) k _)).trans
        (calm (workOutWait_touches _))

theorem endAlertCapture_heeds (truncated : Bool) (s : State) : Heeds s (endAlertCapture truncated s) := by
  unfold endAlertCapture
  split
  · exact Heeds.refl s
  · exact ((calm (clips_touches _ s)).trans (calm (modClip_touches _ _ _))).trans (captureEnded_heeds _ _ _ _)

theorem alertCaptureFull_heeds (s : State) : Heeds s (alertCaptureFull s) := by
  unfold alertCaptureFull
  split
  · split
    · exact endAlertCapture_heeds true s
    · exact Heeds.refl s
  · exact Heeds.refl s

theorem expire_heeds (k : AlertSlot) (s : State) : Heeds s (expire k s) := by
  unfold expire
  split
  · split
    · exact (discardAlertClip_heeds k s).trans (finish_heeds k _ _)
    · exact Heeds.refl s
  · exact Heeds.refl s

theorem becomeOverdue_heeds (k : AlertSlot) (s : State) : Heeds s (becomeOverdue k s) := by
  unfold becomeOverdue
  split
  · rename_i r hr
    split
    · refine Heeds.trans ?_ (windowCheck_step (w := heeds) _ _)
      exact calm (setRecord_touches _ _ _)
    · exact Heeds.refl s
  · exact Heeds.refl s

theorem liveLimit_heeds (s : State) : Heeds s (liveLimit s) := by
  unfold liveLimit
  split
  · split
    · rename_i r hr
      split
      · refine Heeds.trans ?_ (endAiring_heeds _ _ _)
        exact calm (setRecord_touches _ _ _)
      · exact Heeds.refl s
    · exact Heeds.refl s
  · exact Heeds.refl s

theorem alertEndOfAudio_heeds (s : State) : Heeds s (alertEndOfAudio s) := by
  unfold alertEndOfAudio
  split
  · exact Heeds.refl s
  · split
    · exact (calm (records_touches _ _)).trans (calm (activate_touches _ _ _ _ _ _))
    · exact endAiring_heeds _ _ s

theorem endConfirmWindow_heeds (k : AlertSlot) (s : State) : Heeds s (endConfirmWindow k s) := by
  unfold endConfirmWindow
  split
  · split
    · exact finish_heeds k _ s
    · exact Heeds.refl s
  · exact Heeds.refl s

-- the Transmitter Link Unit

theorem linkReport_heeds (l : LinkHealth) (s : State) : Heeds s (linkReport l s) := by
  have told : Heeds s { s with alerts := { s.alerts with lastLink := l } } := calm (records_touches _ s)
  unfold linkReport
  dsimp only
  split
  · refine (told.trans (calm (mapRecords_touches _ _ _))).trans (Heeds.foldl _ (fun t k => ?_) _ _)
    split
    · exact finish_heeds k _ t
    · exact Heeds.refl t
  · exact told

theorem changeLink_heeds (l : LinkHealth) (s : State) : Heeds s (changeLink l s) := by
  unfold changeLink
  split
  · exact Heeds.refl s
  · exact (((calm (tx_touches _ _)).trans (raise_heeds _ rfl _)).trans (raise_heeds _ rfl _)).trans
      ((linkReport_heeds l _).trans (report_heeds _ _))

-- the readers and the Mix Engine

theorem completeFade_heeds (c : Contributor) (s : State) : Heeds s (completeFade c s) := by
  unfold completeFade
  dsimp only
  split
  · split
    · split
      · exact calm (setContrib_touches _ _ s)
      · have out : Heeds s ((closeReaderOf c s).setContrib c (s.contrib c).inactive) :=
          (calm (closeReaderOf_touches c s)).trans (calm (setContrib_touches c _ _))
        refine out.trans ?_
        unfold fadedOut
        split
        · exact voiceFadedOut_step (w := heeds) _ _
        · exact voiceFadedOut_step (w := heeds) _ _
        · exact endRelease_step (w := heeds) _ _
        · exact endRelease_step (w := heeds) _ _
        · exact Heeds.refl _
    · exact Heeds.refl s
  · exact Heeds.refl s

-- the due events

theorem beginFallback_heeds (s : State) : Heeds s (beginFallback s) := by
  have noticed (t : State) (a : Option FillAnswer) (d : List Due) :
      Heeds t { t with sup := { t.sup with answer := a }, due := d } :=
    (calm (sup_touches { t.sup with answer := a } t)).trans (calm (due_touches d _))
  exact (fillNotice_step (w := heeds) s).trans (noticed _ _ _)

theorem enterFallback_heeds (s : State) : Heeds s (enterFallback s) := by
  unfold enterFallback
  split
  · exact (calm (sup_touches _ _)).trans (report_heeds _ _)
  · exact calm (sup_touches _ s)
  · exact Heeds.refl s

theorem takeFillAnswer_heeds (s : State) : Heeds s (takeFillAnswer s) := by
  have answered : Heeds s (enterFallback { s with sup := { s.sup with answer := none } }) :=
    (calm (sup_touches _ s)).trans (enterFallback_heeds _)
  unfold takeFillAnswer
  dsimp only
  split
  · exact (answered.trans (raise_heeds _ rfl _)).trans (raise_heeds _ rfl _)
  · exact (answered.trans (raise_heeds _ rfl _)).trans (raise_heeds _ rfl _)
  · exact calm (sup_touches _ s)

theorem endCapture_heeds (ch : Channel) (cause : CaptureCause) (s : State) : Heeds s (endCapture ch cause s) := by
  unfold endCapture
  split
  · exact Heeds.refl s
  · exact (calm (settleCapture_touches ch _ s)).raise _

theorem endWrite_heeds (s : State) : Heeds s (endWrite s) := by
  have written (x : ProfileStore) : Heeds s { s with prof := x } := ⟨rfl, rfl, fun _ hp _ => hp, id⟩
  unfold endWrite
  split
  · split
    · exact (written _).raise _
    · exact Heeds.refl s
  · exact Heeds.refl s

theorem restoreClock_heeds (s : State) : Heeds s (restoreClock s) := by
  have changed (x : Device) : Heeds s { s with dev := x } := ⟨rfl, rfl, fun _ hp _ => hp, id⟩
  exact (changed _).raise _

theorem happen_heeds (d : Due) (s : State) : Heeds s (happen d s) := by
  cases d with
  | endOfAudio r =>
    cases r
    · exact voiceEndOfAudio_step (w := heeds) .A s
    · exact voiceEndOfAudio_step (w := heeds) .B s
    · exact alertEndOfAudio_heeds s
  | alertNoSegment => exact endAlertCapture_heeds true s
  | panelAction n on => exact panelAction_step (w := heeds) (fun on g n s => calm (switchStudio_touches on g n s)) report_heeds n on s
  | fadeComplete c => exact completeFade_heeds c s
  | measureDone => exact measureDone_heeds s
  | captureMaxLength ch => exact endCapture_heeds ch .maxLength s
  | alertCaptureFull => exact alertCaptureFull_heeds s
  | liveAlertLimit => exact liveLimit_heeds s
  | durationLimit v => exact endAtLimit_step (w := heeds) v s
  | endFadeStart v => exact beginEnd_step (w := heeds) v s
  | cancelWindowClose => exact calm (closeWindow_touches s)
  | alertExpiry k => exact expire_heeds k s
  | holdLimitReached k => exact becomeOverdue_heeds k s
  | confirmWindowExpiry k => exact endConfirmWindow_heeds k s
  | silenceWindow => exact beginFallback_heeds s
  | fillAnswer => exact takeFillAnswer_heeds s
  | profileDone => exact endWrite_heeds s
  | clockRestored => exact restoreClock_heeds s
  | statusAgeLimit => exact changeLink_heeds .degraded s
  | linkTimeout => exact changeLink_heeds .down s

theorem take_heeds (d : Due) (s : State) : Heeds s (take d s) := by
  have struck : Heeds s { s with due := s.due.erase d } := calm (due_touches _ s)
  unfold take
  split
  · dsimp only
    split
    · exact struck.trans (happen_heeds d _)
    · exact struck
  · exact Heeds.refl s

theorem takeEach_heeds (ds : List Due) (s : State) : Heeds s (takeEach ds s) :=
  Heeds.foldl _ (fun t d => take_heeds d t) ds s
theorem settleDue_heeds (first : List Due) (leave : Bool) (s : State) : Heeds s (settleDue first leave s) :=
  (takeEach_heeds first s).trans (takeEach_heeds _ _)

end Sys2Proof.PanelKeeping
end

section
/-! R3, R4: the loss and the return of the word clock. -/

namespace Sys2Proof.WordClock

-- one thread: the check compiles under a limit on the process
set_option Elab.async false

open Sys2Proof.Machine Sys2Proof.Safety Sys2Proof.Laws Sys2Proof.Boundaries Sys2Proof.BlockForming Sys2Proof.FadeSteps
open Sys2Proof.EventKeeping Sys2Proof.PanelKeeping Sys2Proof.LinkStatus Sys2Proof.LawKeeping Sys2Proof.FormedBlocks
open Sys2Proof.EngineNotices

variable {s t : State} {d : Due}

/-- The word clock has been there for as long as its return takes (R4). -/
def Returned (x : Device) : Prop := x.clock = .internal ∧ 100 ≤ x.returnCount

theorem stillDue_clockRestored (s : State) : stillDue s .clockRestored = true ↔ Returned s.dev := by
  simp [stillDue, Returned]

/-- Only CLOCK RESTORED changes the device. -/
theorem happen_dev (other : d ≠ .clockRestored) (s : State) : (happen d s).dev = s.dev := by
  cases d with
  | endOfAudio r =>
    cases r
    · exact voiceEndOfAudio_touches .A s .dev (by decide)
    · exact voiceEndOfAudio_touches .B s .dev (by decide)
    · exact alertEndOfAudio_touches s .dev (by decide)
  | alertNoSegment => exact endAlertCapture_touches true s .dev (by decide)
  | panelAction n on => exact panelAction_touches n on s .dev (by decide)
  | fadeComplete c => exact completeFade_touches c s .dev (by decide)
  | measureDone => exact measureDone_touches s .dev (by decide)
  | captureMaxLength ch => exact endCapture_touches ch .maxLength s .dev (by decide)
  | alertCaptureFull => exact alertCaptureFull_touches s .dev (by decide)
  | liveAlertLimit => exact liveLimit_touches s .dev (by decide)
  | durationLimit v => exact endAtLimit_touches v s .dev (by decide)
  | endFadeStart v => exact beginEnd_touches v s .dev (by decide)
  | cancelWindowClose => exact closeWindow_touches s .dev (by decide)
  | alertExpiry k => exact expire_touches k s .dev (by decide)
  | holdLimitReached k => exact becomeOverdue_touches k s .dev (by decide)
  | confirmWindowExpiry k => exact endConfirmWindow_touches k s .dev (by decide)
  | silenceWindow =>
    have notice : (fillNotice s).1.dev = s.dev := fillNotice_touches s .dev (by decide)
    exact notice
  | fillAnswer => exact takeFillAnswer_touches s .dev (by decide)
  | profileDone => exact endWrite_touches s .dev (by decide)
  | clockRestored => exact absurd rfl other
  | statusAgeLimit => exact changeLink_touches .degraded s .dev (by decide)
  | linkTimeout => exact changeLink_touches .down s .dev (by decide)

theorem take_dev (h : d = .clockRestored → ¬Returned s.dev) : (take d s).dev = s.dev := by
  unfold take
  split
  · dsimp only
    split
    next still =>
      by_cases restored : d = .clockRestored
      · subst restored
        exact absurd ((stillDue_clockRestored _).mp still) (h rfl)
      · exact happen_dev restored _
    next => rfl
  · rfl

theorem takeEach_dev (ds : List Due) : ∀ {s : State}, ¬Returned s.dev → (takeEach ds s).dev = s.dev := by
  induction ds with
  | nil => exact fun _ => rfl
  | cons d ds ih =>
    intro s h
    have same : (take d s).dev = s.dev := take_dev fun _ => h
    exact (ih (same ▸ h)).trans same

/-- Taking another event leaves the return of the clock due. -/
theorem take_leaves (other : d ≠ .clockRestored) (due : .clockRestored ∈ s.due) : .clockRestored ∈ (take d s).due := by
  have left : .clockRestored ∈ s.due.erase d := (List.mem_erase_of_ne (Ne.symm other)).mpr due
  unfold take
  split
  · dsimp only
    split
    · by_cases silence : d = .silenceWindow
      · subst silence
        rw [silenceWindow_due]
        exact List.mem_append_left _ left
      · rw [happen_due silence]
        exact left
    · exact left
  · exact due

theorem takeEach_leaves (ds : List Due) : ∀ {s : State}, .clockRestored ∉ ds → .clockRestored ∈ s.due →
    .clockRestored ∈ (takeEach ds s).due ∧ (takeEach ds s).dev = s.dev := by
  induction ds with
  | nil => exact fun _ due => ⟨due, rfl⟩
  | cons d ds ih =>
    intro s h due
    rw [List.mem_cons, not_or] at h
    obtain ⟨left, dev⟩ := ih h.2 (take_leaves (Ne.symm h.1) due)
    exact ⟨left, dev.trans (take_dev fun e => absurd e.symm h.1)⟩

/-- The events taken in the usual order restore the clock once its return is found, and tell of it (R4). -/
theorem takeEach_restores (due : .clockRestored ∈ s.due) (returned : Returned s.dev) :
    (takeEach defaultOrder s).dev = { s.dev with clock := .wordClock, returnCount := 0 } ∧
      Pending .C .clockRestored (takeEach defaultOrder s) := by
  obtain ⟨before, after, order, first⟩ := List.eq_append_cons_of_mem (by decide : Due.clockRestored ∈ defaultOrder)
  obtain ⟨left, dev⟩ := takeEach_leaves before first due
  let u := takeEach before s
  have still : stillDue { u with due := u.due.erase .clockRestored } .clockRestored = true := by
    rw [stillDue_clockRestored]
    show Returned u.dev
    rw [dev]
    exact returned
  have restored : take .clockRestored u = restoreClock { u with due := u.due.erase .clockRestored } := take_happens left still
  have parts : takeEach defaultOrder s = takeEach after (take .clockRestored u) := by
    rw [order, takeEach, List.foldl_append]
    rfl
  have told : Pending .C .clockRestored (take .clockRestored u) := by
    rw [restored]
    exact pending_raised _ _ _
  have changed : (take .clockRestored u).dev = { s.dev with clock := .wordClock, returnCount := 0 } := by
    rw [restored, ← dev]
    rfl
  rw [parts]
  refine ⟨(takeEach_dev after ?_).trans changed, (takeEach_heeds after _).restored told⟩
  rw [changed]
  exact fun back => by cases back.1

/-- The device once an input block boundary has counted the clock (R3, R4). -/
theorem completed_dev (env : InputBoundary) (s : State) : (completed env s).dev =
    if s.dev.clock = .internal then { s.dev with
      arrived := 0
      returnCount := match env.clock with
        | .throughout => s.dev.returnCount + 1
        | .brief => s.dev.returnCount
        | .long => 0 } else { s.dev with arrived := 0 } := by
  unfold completed countReturn
  split
  next h => exact (if_pos h).symm
  next h => exact (if_neg h).symm

/-- Sampling the panel leaves what waits. -/
theorem samplePanels_keeps (pins : Vector Contact 8) {s : State} (h : d ∈ s.due) : d ∈ (samplePanels pins s).due := by
  have one (n : PanelLineNo) (t : State) (h : d ∈ t.due) : d ∈ (samplePanel pins n t).due := by
    unfold samplePanel
    dsimp only
    split
    · split
      · exact List.mem_append_left _ h
      · exact h
    · exact h
  unfold samplePanels
  induction panelLines generalizing s with
  | nil => exact h
  | cons n ns ih => exact ih (one n s h)

/-- The device, and the return of the clock where it is found, after an input block boundary's work and findings. -/
theorem found_dev (env : InputBoundary) (s : State) :
    let v := samplePanels env.pins (findToneEnd (findDue inputDue (inputRest env (formBlock (completed env (applyUpsets env.upsets s))))))
    v.dev = (completed env s).dev ∧ (Returned v.dev → .clockRestored ∈ v.due) := by
  let u := inputRest env (formBlock (completed env (applyUpsets env.upsets s)))
  have rest : u.dev = (formBlock (completed env (applyUpsets env.upsets s))).dev := inputRest_parts env _ .dev (by decide)
  have formed : (formBlock (completed env (applyUpsets env.upsets s))).dev = (completed env (applyUpsets env.upsets s)).dev :=
    formBlock_touches _ .dev (by decide)
  have work : u.dev = (completed env s).dev := (rest.trans formed).trans (by rw [completed_dev, completed_dev]; rfl)
  intro v
  have found : v.dev = u.dev := by
    have sampled : v.dev = (findToneEnd (findDue inputDue u)).dev := samplePanels_touches _ _ .dev (by decide)
    have toned : (findToneEnd (findDue inputDue u)).dev = (findDue inputDue u).dev := findToneEnd_touches _ .dev (by decide)
    exact sampled.trans toned
  refine ⟨found.trans work, fun returned => ?_⟩
  have due : .clockRestored ∈ (findDue inputDue u).due := by
    refine List.mem_append_right _ (List.mem_filter.mpr ⟨by decide, ?_⟩)
    rw [stillDue_clockRestored, ← found]
    exact returned
  have toned : .clockRestored ∈ (findToneEnd (findDue inputDue u)).due := by
    unfold findToneEnd
    split
    · exact List.mem_append_left _ due
    · exact due
  exact samplePanels_keeps env.pins toned

/-- An input block boundary that takes all that it finds in the usual order. -/
theorem boundary_taken (env : InputBoundary) (live : s.live = true) (due : s.due = []) (first : env.first = [])
    (leave : env.leave = false) : ∃ v, exec (.inputBlockBoundary env) s = .next (takeEach defaultOrder v) ∧
      v.dev = (completed env s).dev ∧ (Returned v.dev → .clockRestored ∈ v.due) := by
  have none_first (u : State) : takeEach [] u = u := rfl
  have run := exec_inputBoundary (env := env) live due
  rw [inputEvents, settleDue, first, leave, if_neg Bool.false_ne_true, none_first] at run
  exact ⟨_, run, found_dev env s⟩

theorem loseClock_happens {arrived : Nat} (live : s.live = true) (clock : s.dev.clock = .wordClock) (early : arrived < 480) :
    loseClock arrived s = raise .C .clockLost { s with dev := { s.dev with clock := .internal, returnCount := 0, arrived := arrived } } := by
  rw [loseClock, live, clock, Nat.min_eq_left early.le]
  rfl

theorem clocksAreLostAndRestored : Claims.ClocksAreLostAndRestored := by
  refine ⟨fun arrived s live early => ⟨fun clock idle => ?_, fun due clock count => ?_⟩, fun s found clock count => ?_,
    fun env s live due first leave count => ?_⟩
  · refine congrArg Host.Outcome.next ?_
    rw [takeRow, if_pos live, take_not_due idle]
    exact loseClock_happens live clock early
  · have still : stillDue { s with due := s.due.erase .clockRestored } .clockRestored = true :=
      (stillDue_clockRestored _).mpr ⟨clock, count⟩
    have restored : take .clockRestored s = restoreClock { s with due := [] } := by
      rw [take_happens (by simp [due]) still, due]
      rfl
    refine congrArg Host.Outcome.next ?_
    rw [takeRow, if_pos live, restored]
    exact loseClock_happens (s := restoreClock { s with due := [] }) live rfl early
  · exact congrArg Host.Outcome.next (takeRow_found found ((stillDue_clockRestored _).mpr ⟨clock, count⟩))
  · obtain ⟨v, executed, dev, waits⟩ := boundary_taken env live due first leave
    rw [completed_dev] at dev
    refine ⟨_, executed, fun clock => ?_, fun clock seen early => ?_, fun clock seen => ?_, fun clock seen => ?_,
      fun clock seen last => ?_⟩
    · rw [if_neg (by simp [clock])] at dev
      rw [takeEach_dev _ (by simp [Returned, dev, clock]), dev]
    · rw [if_pos clock, seen] at dev
      rw [takeEach_dev _ (by simp [Returned, dev]; omega), dev]
    · rw [if_pos clock, seen] at dev
      rw [takeEach_dev _ (by simp [Returned, dev]; omega), dev]
    · rw [if_pos clock, seen] at dev
      rw [takeEach_dev _ (by simp [Returned, dev]), dev]
    · rw [if_pos clock, seen] at dev
      have returned : Returned v.dev := by simp [Returned, dev, clock, last]
      obtain ⟨restored, told⟩ := takeEach_restores (waits returned) returned
      refine ⟨?_, told⟩
      rw [restored, dev]

/-- Settles O11. -/
theorem inputBlocksFollowTheClock : Obligations.InputBlocksFollowTheClock :=
  ⟨inputBlocksComplete, clocksAreLostAndRestored⟩

end Sys2Proof.WordClock
end

section
/-! R129, R138, R141, R142: the records that finish without airing further. -/

namespace Sys2Proof.AlertsFinishing

-- one thread: the check compiles under a limit on the process
set_option Elab.async false

open Sys2Proof.Machine Sys2Proof.Safety Sys2Proof.Laws Sys2Proof.TakenCommands Sys2Proof.EngineNotices Sys2Proof.AlertReading
open Sys2Proof.FinishedRecords

variable {s : State} {k : AlertSlot} {r : AlertRecord} {o : AlertOutcome} {l : Link}

/-- A record that keeps the boundary wait set waits beside slot `k` (R132). -/
def waitsBeside (k : AlertSlot) (s : State) : Bool := [0, 1, 2, 3].any fun j : AlertSlot => decide (j ≠ k) &&
  match s.record j with
  | some x => decide (x.phase = .pending ∧ x.cls ≠ .immediate)
  | none => false

/-- The state in which the record `r` of slot `k` has finished (R142). -/
def finishedAs (k : AlertSlot) (r : AlertRecord) (o : AlertOutcome) (s : State) : State :=
  raise .A (.alertState r.id r.origin (.finished o) r.truncated r.damaged) { s with
    alerts := { s.alerts with
      records := s.alerts.records.set k none
      queue := s.alerts.queue.filter fun j => decide (j ≠ k)
      history := (ended r o :: s.alerts.history).take 8 }
    cue := { s.cue with boundaryWait := waitsBeside k s } }

/-- The wait notice of a slot's record (R132). -/
def waits (x : Option AlertRecord) : Bool := x.any fun r => decide (r.phase = .pending ∧ r.cls ≠ .immediate)

theorem workOutWait_eq (s : State) : workOutWait s = { s with cue := { s.cue with
    boundaryWait := alertSlots.any fun j => waits (s.record j) } } := by
  have same : (fun j => waits (s.record j)) = fun j => match s.record j with
      | some r => decide (r.phase = .pending) && decide (r.cls ≠ .immediate)
      | none => false := by
    funext j
    cases s.record j with
    | none => rfl
    | some r => exact Bool.decide_and _ _
  rw [same]
  rfl

theorem waitsBeside_eq (k : AlertSlot) (s : State) :
    waitsBeside k s = alertSlots.any fun j => decide (j ≠ k) && waits (s.record j) := by
  have same : (fun j : AlertSlot => decide (j ≠ k) && waits (s.record j)) = fun j => decide (j ≠ k) && match s.record j with
      | some x => decide (x.phase = .pending ∧ x.cls ≠ .immediate)
      | none => false := by
    funext j
    cases s.record j <;> rfl
  rw [same]
  rfl

theorem record_set_none (k j : AlertSlot) (s : State) {a : Alerts} (h : a.records = s.alerts.records.set k none) :
    State.record { s with alerts := a } j = if j = k then none else s.record j := by
  unfold State.record
  by_cases here : j = k
  · subst here
    simp [h]
  · have apart : k.val ≠ j.val := fun e => here (Fin.ext e.symm)
    simp [h, here, apart]

theorem finish_eq (record : s.record k = some r) (o : AlertOutcome) : finish k o s = finishedAs k r o s := by
  have out (j : AlertSlot) : waits (State.record { s with alerts := { s.alerts with
      records := s.alerts.records.set k none
      queue := s.alerts.queue.filter (· ≠ k)
      history := (ended r o :: s.alerts.history).take 8 } } j) = (decide (j ≠ k) && waits (s.record j)) := by
    rw [record_set_none k j s rfl]
    by_cases here : j = k <;> simp [here, waits]
  simp only [finish, record, workOutWait_eq, finishedAs, waitsBeside_eq]
  simp only [← out]
  rfl

/-- The state in which the alert clip of slot `k` is discarded, no reader on it (R65). -/
def discarded (k : AlertSlot) (s : State) : State := { s with
  mem := s.mem.freeAll (.alert k) (s.segments (.alert k))
  clips := { s.clips with
    alert := s.clips.alert.set k Clip.empty
    alertCapture := if s.clips.alertCapture = some k then none else s.clips.alertCapture } }

theorem discardAlertClip_closed (closed : s.clips.readerAlert = none) : discardAlertClip k s = discarded k s := by
  by_cases capturing : s.clips.alertCapture = some k
  · simp only [discardAlertClip, if_pos capturing, closed]
    simp only [discarded, if_pos capturing, closed]
    rfl
  · simp only [discardAlertClip, if_neg capturing, closed]
    simp only [discarded, if_neg capturing]
    rfl

theorem finish_discarded (record : s.record k = some r) (closed : s.clips.readerAlert = none) (o : AlertOutcome) :
    finish k o (discardAlertClip k s) = finishedAs k r o (discarded k s) := by
  rw [discardAlertClip_closed closed]
  exact finish_eq (s := discarded k s) record o

-- ALERT CANCEL

theorem alertCancel_checks (h : Takes l s) (link : l = .A ∨ l = .C) (ps : List Byte) (two : ps.length = 2) :
    failedCheck l 0x48 ps (frameComplete l s) = none :=
  checks_pass h [.C, .A] (.exactly 2) rfl (by rcases link with rfl | rfl <;> rfl) (decide_eq_true two)

theorem alertCancelOwner_eq {h b : Byte} {t : State} (named : h.toNat * 256 + b.toNat = r.id) (given : r.id ≠ 0)
    (slot : t.slotOfAlert r.id = some k) : alertCancelOwner l [h, b] t =
      if cancelForbidden l k t then .refuse .notPermitted else .ok (cancelRecord k t) .none := by
  have id : u16At [h, b] 0 = r.id := named
  rw [alertCancelOwner, id, if_neg given, slot]

theorem cancelForbidden_eq {t : State} (record : t.record k = some r) : cancelForbidden l k t = true ↔
    l = .C ∧ (r.cls = .warning ∨ r.cls = .immediate) := by
  simp only [cancelForbidden, record, Bool.and_eq_true, decide_eq_true_eq]
  cases r.cls <;> simp [AlertClass.mandatory]

theorem cancelRecord_confirming {t : State} (record : t.record k = some r) (phase : r.phase = .confirming) :
    cancelRecord k t = finish k .cancelled t := by
  simp only [cancelRecord, record, phase]

theorem cancelRecord_waiting {t : State} (record : t.record k = some r) (phase : r.phase = .receiving ∨ r.phase = .pending) :
    cancelRecord k t = finish k .cancelled (discardAlertClip k t) := by
  rcases phase with phase | phase <;> simp only [cancelRecord, record, phase]

/-- Settles O41. -/
theorem alertsFinish : Obligations.AlertsFinish := by
  intro k r s record finished discards
  have mayCancel {l : Link} (allowed : l = .A ∨ r.cls = .test ∨ r.cls = .advisory) :
      ¬(l = .C ∧ (r.cls = .warning ∨ r.cls = .immediate)) := by
    rintro ⟨rfl, mandatory⟩
    rcases allowed with other | other | other
    · cases other
    · simp [other] at mandatory
    · simp [other] at mandatory
  refine ⟨fun l h b link takes named given sole => ?_, fun found phase age closed => ?_, fun found phase sent window => ?_⟩
  · have checks := alertCancel_checks takes link [h, b] rfl
    have slot : (frameComplete l s).slotOfAlert r.id = some k := slotOfAlert_one (s := frameComplete l s) record sole
    have owner := alertCancelOwner_eq (l := l) named given slot
    have forbidden := cancelForbidden_eq (l := l) (t := frameComplete l s) record
    refine ⟨fun console mandatory => ?_, fun allowed => ⟨fun confirming => ?_, fun waiting closed => ?_⟩⟩
    · rw [if_pos (forbidden.mpr ⟨console, mandatory⟩)] at owner
      exact congrArg Host.Outcome.next (command_refused takes checks owner)
    · rw [if_neg, cancelRecord_confirming (t := frameComplete l s) record confirming, finish_eq (s := frameComplete l s) record] at owner
      · refine congrArg Host.Outcome.next (command_ok takes checks (owner.trans ?_))
        rcases link with rfl | rfl <;> rfl
      · exact fun ban => mayCancel allowed (forbidden.mp ban)
    · rw [if_neg, cancelRecord_waiting (t := frameComplete l s) record waiting, finish_discarded (s := frameComplete l s) record closed] at owner
      · refine congrArg Host.Outcome.next (command_ok takes checks (owner.trans ?_))
        rcases link with rfl | rfl <;> rfl
      · exact fun ban => mayCancel allowed (forbidden.mp ban)
  · have due : r.expired = true := by
      simp only [AlertRecord.expired, Bool.and_eq_true, Bool.or_eq_true, decide_eq_true_eq]
      exact ⟨phase, age⟩
    have expired (t : State) (h : t.record k = some r) : stillDue t (.alertExpiry k) = true ∧
        expire k t = finish k .expired (discardAlertClip k t) := by
      simp only [stillDue, expire, h, due, if_true, and_self]
    obtain ⟨still, expires⟩ := expired { s with due := s.due.erase (.alertExpiry k) } record
    refine congrArg Host.Outcome.next ((takeRow_found found still).trans (expires.trans ?_))
    exact finish_discarded (s := { s with due := s.due.erase (.alertExpiry k) }) record closed .expired
  · have due : confirmExpired r = true := by
      simp [confirmExpired, AlertRecord.lastSent, phase, sent, window]
    have closes (t : State) (h : t.record k = some r) : stillDue t (.confirmWindowExpiry k) = true ∧
        endConfirmWindow k t = finish k .unconfirmed t := by
      simp only [stillDue, endConfirmWindow, h, due, if_true, and_self]
    obtain ⟨still, ends⟩ := closes { s with due := s.due.erase (.confirmWindowExpiry k) } record
    refine congrArg Host.Outcome.next ((takeRow_found found still).trans (ends.trans ?_))
    exact finish_eq (s := { s with due := s.due.erase (.confirmWindowExpiry k) }) record .unconfirmed

end Sys2Proof.AlertsFinishing
end

section
/-! R59, R61 to R63: playout captures start and end. -/

namespace Sys2Proof.Captures

-- one thread: the check compiles under a limit on the process
set_option Elab.async false

open Sys2Proof.Machine Sys2Proof.Safety Sys2Proof.Laws Sys2Proof.TakenCommands Sys2Proof.EngineNotices
open Sys2Proof.SettingsSet Sys2Proof.ClipCommands Sys2Proof.SoftReset

variable {s t : State} {ch : Channel} {c : Capture} {n : ClipId} {id src l1 l0 prot flags t1 t0 : Byte}

-- CLIP CAPTURE START

/-- The parameters of CLIP CAPTURE START are in range (R59). -/
def InRange (id src l1 l0 prot flags t1 t0 : Byte) : Prop :=
  1 ≤ id.toNat ∧ id.toNat ≤ 63 ∧ src.toNat ≤ 8 ∧ 1 ≤ l1.toNat * 256 + l0.toNat ∧ l1.toNat * 256 + l0.toNat ≤ 12000 ∧
    prot.toNat ≤ 1 ∧ (flags.getLsbD 1 = true → t1.toNat * 256 + t0.toNat ≠ 0)

theorem captureSourceOf_some {x : CaptureSource} (h : captureSourceOf src = some x) : src.toNat ≤ 8 := by
  unfold captureSourceOf at h
  split at h
  · omega
  · split at h
    next eight => simp [eight]
    next => cases h

theorem protectionOf_eq (prot : Byte) : protectionOf prot = if prot.toNat ≤ 1 then some (decide (prot = 1)) else none :=
  switchOf_eq prot

theorem captureOrderOf_bad (bad : ¬InRange id src l1 l0 prot flags t1 t0) :
    captureOrderOf [id, src, l1, l0, prot, flags, t1, t0] = none := by
  cases order : captureOrderOf [id, src, l1, l0, prot, flags, t1, t0] with
  | none => rfl
  | some o =>
    exfalso
    apply bad
    simp only [captureOrderOf, Option.bind_eq_bind, Option.bind_eq_some_iff] at order
    obtain ⟨i, hi, x, hx, p, hp, tag, htag, whole⟩ := order
    have clip : 1 ≤ id.toNat ∧ id.toNat ≤ 63 := by
      by_contra outside
      have : clipIdOf id = none := clipIdOf_out_of_range (by omega)
      simp [byteAt, this] at hi
    have source := captureSourceOf_some (src := src) hx
    have protection : prot.toNat ≤ 1 := by
      by_contra above
      have none_protection : protectionOf prot = none := (protectionOf_eq prot).trans (if_neg above)
      simp [byteAt, none_protection] at hp
    have tagged : flags.getLsbD 1 = true → t1.toNat * 256 + t0.toNat ≠ 0 := by
      intro given zero
      simp [givenField, byteAt, u16At, u16, given, zero] at htag
    have length : 1 ≤ l1.toNat * 256 + l0.toNat ∧ l1.toNat * 256 + l0.toNat ≤ 12000 := by
      by_contra outside
      rw [if_neg (by exact outside)] at whole
      cases whole
    exact ⟨clip.1, clip.2, source, length.1, length.2, protection, tagged⟩

theorem captureOrderOf_good (good : InRange id src l1 l0 prot flags t1 t0) (hid : id.toNat = n.val + 1) {x : CaptureSource}
    (source : captureSourceOf src = some x) : captureOrderOf [id, src, l1, l0, prot, flags, t1, t0] = some
      ⟨n, x, l1.toNat * 256 + l0.toNat, decide (prot = 1), flags.getLsbD 0,
        if flags.getLsbD 1 = true then some (t1.toNat * 256 + t0.toNat) else none⟩ := by
  obtain ⟨-, -, -, low, high, protection, tagged⟩ := good
  have clip := clipIdOf_val_succ hid
  have protected' : protectionOf prot = some (decide (prot = 1)) := (protectionOf_eq prot).trans (if_pos protection)
  have tag : givenField (flags.getLsbD 1) (fun n => decide (n ≠ 0)) (t1.toNat * 256 + t0.toNat) =
      some (if flags.getLsbD 1 = true then some (t1.toNat * 256 + t0.toNat) else none) := by
    unfold givenField
    split
    next given => rw [if_pos (decide_eq_true (tagged given))]
    next => rfl
  have bytes : u16At [id, src, l1, l0, prot, flags, t1, t0] 6 = t1.toNat * 256 + t0.toNat := rfl
  have lengths : u16At [id, src, l1, l0, prot, flags, t1, t0] 2 = l1.toNat * 256 + l0.toNat := rfl
  simp only [captureOrderOf, byteAt, List.getD_cons_zero, List.getD_cons_succ, clip, source, protected', bytes, tag, lengths,
    Option.bind_eq_bind, Option.bind_some]
  exact if_pos ⟨low, high⟩

theorem captureStart_checks (h : Takes .P s) {ps : List Byte} (eight : ps.length = 8) :
    failedCheck .P 0x10 ps (frameComplete .P s) = none :=
  checks_pass h [.P] (.exactly 8) rfl rfl (decide_eq_true eight)

theorem captureStop_checks (h : Takes .P s) (id : Byte) : failedCheck .P 0x11 [id] (frameComplete .P s) = none :=
  checks_pass h [.P] (.exactly 1) rfl rfl rfl

/-- The channel that takes a capture is the lower-numbered free one (R59). -/
theorem freeChannel_first (idle : s.clips.channels[ch] = none) (lower : ch = 1 → s.clips.channels[0].isSome = true) :
    s.freeChannel = some ch := by
  unfold State.freeChannel
  match ch, idle, lower with
  | 0, idle, _ =>
    have free : (s.channel 0).isNone = true := by simp only [State.channel, idle, Option.isNone_none]
    exact if_pos free
  | 1, idle, lower =>
    have busy : (s.channel 0).isNone = false := by simpa [State.channel, Option.isNone_eq_false_iff] using lower rfl
    have free : (s.channel 1).isNone = true := by simp only [State.channel, idle, Option.isNone_none]
    rw [busy, if_neg Bool.false_ne_true, if_pos free]

theorem freeChannel_full (busy0 : s.clips.channels[0].isSome = true) (busy1 : s.clips.channels[1].isSome = true) :
    s.freeChannel = none := by
  have first : (s.channel 0).isNone = false := by simpa [State.channel, Option.isNone_eq_false_iff] using busy0
  have second : (s.channel 1).isNone = false := by simpa [State.channel, Option.isNone_eq_false_iff] using busy1
  unfold State.freeChannel
  rw [first, second, if_neg Bool.false_ne_true, if_neg Bool.false_ne_true]

/-- A good source byte names the source with its number, or PGM_LIVE (R59). -/
theorem captureSourceOf_named {x : CaptureSource}
    (named : match x with | .source m => src.toNat = m.val | .pgmLive => src.toNat = 8) : captureSourceOf src = some x := by
  cases x with
  | source m =>
    have small : src.toNat < 8 := named ▸ m.isLt
    rw [captureSourceOf, dif_pos small]
    exact congrArg (fun k => some (CaptureSource.source k)) (Fin.ext named)
  | pgmLive =>
    have eight : src = 8 := BitVec.eq_of_toNat_eq named
    subst eight
    rfl

theorem captureSourceOf_isSome (h : src.toNat ≤ 8) : ∃ x, captureSourceOf src = some x := by
  by_cases small : src.toNat < 8
  · exact ⟨_, dif_pos small⟩
  · have eight : src = 8 := BitVec.eq_of_toNat_eq (by simp; omega)
    subst eight
    exact ⟨.pgmLive, rfl⟩

theorem capturesStart : Claims.CapturesStart := by
  intro id src l1 l0 prot flags t1 t0 s takes ps length tag tagged good
  have checks := captureStart_checks takes (ps := ps) rfl
  refine ⟨fun bad => ?_, fun n hid good => ?_⟩
  · refine congrArg Host.Outcome.next (command_refused takes checks ?_)
    rw [captureStartOwner, captureOrderOf_bad bad]
  · obtain ⟨x, source⟩ := captureSourceOf_isSome good.2.2.1
    have order := captureOrderOf_good good hid source
    refine ⟨fun used => ?_, fun empty busy0 busy1 => ?_, fun ch empty idle lower y named => ?_⟩
    · refine congrArg Host.Outcome.next (command_refused takes checks ?_)
      rw [captureStartOwner, order]
      exact if_pos used
    · refine congrArg Host.Outcome.next (command_refused takes checks ?_)
      have full : (frameComplete .P s).freeChannel = none := freeChannel_full (s := frameComplete .P s) busy0 busy1
      rw [captureStartOwner, order]
      simp only [full]
      exact if_neg (not_not.mpr empty)
    · obtain rfl : x = y := Option.some.inj (source.symm.trans (captureSourceOf_named named))
      refine congrArg Host.Outcome.next (command_ok takes checks ?_)
      have first : (frameComplete .P s).freeChannel = some ch := freeChannel_first (s := frameComplete .P s) idle lower
      rw [captureStartOwner, order]
      simp only [first]
      exact (if_neg (not_not.mpr empty)).trans rfl

-- the end of a playout capture

/-- A playout capture that has not been refused a segment has ended (R61, R63). -/
def captureOver (ch : Channel) (c : Capture) (cause : CaptureCause) (s : State) : State :=
  raise .P (.captureDone c.clip (s.clips.playout[c.clip]).count cause (decide ((s.clips.playout[c.clip]).count = 0)))
    { s with clips := { s.clips with
      channels := s.clips.channels.set ch none
      playout := s.clips.playout.set c.clip ((s.clips.playout[c.clip]).settled false) } }

theorem endCapture_eq (recording : s.clips.channels[ch] = some c) {cause : CaptureCause} (granted : cause ≠ .noSegment) :
    endCapture ch cause s = captureOver ch c cause s := by
  have busy : s.channel ch = some c := recording
  have kept : decide (cause = .noSegment) = false := decide_eq_false granted
  simp only [endCapture, settleCapture, busy, kept]
  rfl

theorem channelOf_one (recording : s.clips.channels[ch] = some c)
    (sole : ∀ j : Channel, j ≠ ch → ∀ d, s.clips.channels[j] = some d → d.clip ≠ c.clip) : s.channelOf c.clip = some ch := by
  have busy : s.channel ch = some c := recording
  unfold State.channelOf
  match ch, busy, sole with
  | 0, busy, _ => simp [busy]
  | 1, busy, sole =>
    cases other : s.channel 0 with
    | none => simp [busy, other]
    | some d =>
      have apart := sole 0 (by decide) d other
      simp [busy, other, apart]

theorem capturesEnd : Claims.CapturesEnd := by
  intro ch c s recording sole clip settled ended
  refine ⟨fun id takes hid capturing => ?_, fun found reached => ?_⟩
  · refine congrArg Host.Outcome.next (command_ok takes (captureStop_checks takes id) ?_)
    have channel : (frameComplete .P s).channelOf c.clip = some ch := channelOf_one (s := frameComplete .P s) recording sole
    have stopped : endCapture ch .stopped (frameComplete .P s) = captureOver ch c .stopped (frameComplete .P s) :=
      endCapture_eq (s := frameComplete .P s) recording (by decide)
    simp only [captureStopOwner, byteAt, List.getD_cons_zero, clipIdOf_val_succ hid, channel, stopped]
    exact (if_neg (not_not.mpr capturing)).trans rfl
  · have still : stillDue { s with due := s.due.erase (.captureMaxLength ch) } (.captureMaxLength ch) = true := by
      have busy : State.channel { s with due := s.due.erase (.captureMaxLength ch) } ch = some c := recording
      simp only [stillDue, captureAtMax, busy]
      exact decide_eq_true reached
    refine congrArg Host.Outcome.next ((takeRow_found found still).trans ?_)
    exact endCapture_eq (s := { s with due := s.due.erase (.captureMaxLength ch) }) recording (by decide)

theorem settled_not_capturing (x : Clip) (tr : Bool) : (x.settled tr).state ≠ .capturing := by
  rw [state_settled]
  split <;> decide

theorem stopsAreRefused : Claims.StopsAreRefused := by
  refine fun id s takes => ⟨fun outside => ?_, fun n hid idle => ?_⟩
  · refine congrArg Host.Outcome.next (command_refused takes (captureStop_checks takes id) ?_)
    simp only [captureStopOwner, byteAt, List.getD_cons_zero, clipIdOf_out_of_range outside]
  · refine congrArg Host.Outcome.next (command_refused takes (captureStop_checks takes id) ?_)
    simp only [captureStopOwner, byteAt, List.getD_cons_zero, clipIdOf_val_succ hid]
    exact if_pos idle

theorem stopsFollowTheBoundary : Claims.StopsFollowTheBoundary := by
  intro ch c id s reaches due recording reached hid clip settled
  have still : stillDue { s with due := s.due.erase (.captureMaxLength ch) } (.captureMaxLength ch) = true := by
    have busy : State.channel { s with due := s.due.erase (.captureMaxLength ch) } ch = some c := recording
    simp only [stillDue, captureAtMax, busy]
    exact decide_eq_true reached
  have taken : take (.captureMaxLength ch) s = captureOver ch c .maxLength { s with due := [] } := by
    rw [LinkStatus.take_happens (by simp [due]) still, due]
    refine (endCapture_eq (s := { s with due := [Due.captureMaxLength ch].erase (.captureMaxLength ch) }) recording (by decide)).trans ?_
    simp
  have takes : Takes .P (take (.captureMaxLength ch) s) := takes_after reaches due (by simp) (by rw [taken]; rfl)
  have row : exec (.captureMaxLength ch) s = .next (take (.captureMaxLength ch) s) := by
    refine congrArg Host.Outcome.next ?_
    rw [takeRow, if_pos (live_of_reaches reaches)]
  have follows := exec_after_row (i := .clipCaptureStop .P [id]) rfl reaches due (by simp) rfl row
  have ended : ((take (.captureMaxLength ch) s).clips.playout[c.clip]).state ≠ .capturing := by
    rw [taken]
    have cell : ((captureOver ch c .maxLength { s with due := [] }).clips.playout[c.clip]) =
      (s.clips.playout[c.clip]).settled false := Vector.getElem_set_self _
    rw [cell]
    exact settled_not_capturing _ _
  rw [follows, (stopsAreRefused id _ takes).2 c.clip hid ended, taken]
  rfl

end Sys2Proof.Captures
end

section
/-! R60, R61, R64: what a capture records at an input block boundary, and what the panel's actions leave of it. -/

namespace Sys2Proof.CaptureBlocks

-- one thread: the check compiles under a limit on the process
set_option Elab.async false

open Sys2Proof.Machine Sys2Proof.Safety Sys2Proof.Laws Sys2Proof.Boundaries Sys2Proof.BlockForming Sys2Proof.EventKeeping
open Sys2Proof.Walks Sys2Proof.IdleEvents Sys2Proof.PoolRequests Sys2Proof.MemoryKeeping Sys2Proof.FormedBlocks
open Sys2Proof.LawKeeping Sys2Proof.EngineNotices

variable {s t u : State} {c : ClipRef} {k : AlertSlot}

-- what the panel's actions leave of the captures

/-- The memory, the captures, the clips but for their use counts, the records not queued and the blocks formed are kept. -/
structure Recording (s t : State) : Prop where
  mem : t.mem = s.mem
  channels : t.clips.channels = s.clips.channels
  capture : t.clips.alertCapture = s.clips.alertCapture
  clips : ∀ c, ∃ n, t.clip c = { s.clip c with uses := n }
  records : ∀ k, k ∉ s.alerts.queue → t.record k = s.record k
  queue : ∀ k ∈ t.alerts.queue, k ∈ s.alerts.queue
  inputs : t.inputs = s.inputs
  formed : t.formed = s.formed

theorem Recording.refl (s : State) : Recording s s :=
  ⟨rfl, rfl, rfl, fun _ => ⟨_, rfl⟩, fun _ _ => rfl, fun _ h => h, rfl, rfl⟩

theorem Recording.trans (h : Recording s t) (k : Recording t u) : Recording s u where
  mem := k.mem.trans h.mem
  channels := k.channels.trans h.channels
  capture := k.capture.trans h.capture
  clips c := by
    obtain ⟨n, hn⟩ := h.clips c
    obtain ⟨m, hm⟩ := k.clips c
    exact ⟨m, by rw [hm, hn]⟩
  records j hj := (k.records j fun hq => hj (h.queue j hq)).trans (h.records j hj)
  queue j hj := h.queue j (k.queue j hj)
  inputs := k.inputs.trans h.inputs
  formed := k.formed.trans h.formed

/-- A change of other parts. -/
theorem calm {ps : List Part} (h : Touches ps s t)
    (hp : ∀ p ∈ [Part.mem, .clips, .alerts, .inputs, .formed], p ∉ ps := by decide) : Recording s t := by
  have clips : t.clips = s.clips := h .clips (hp .clips (by simp))
  have alerts : t.alerts = s.alerts := h .alerts (hp .alerts (by simp))
  refine ⟨h .mem (hp .mem (by simp)), by rw [clips], by rw [clips], fun c => ⟨(s.clip c).uses, ?_⟩, fun j _ => ?_, fun j hj => ?_,
    h .inputs (hp .inputs (by simp)), h .formed (hp .formed (by simp))⟩
  · cases c <;> simp only [State.clip, clips]
  · simp only [State.record, alerts]
  · rwa [← alerts]

theorem setReader_recording (r : ReaderOf) (x : Option Reader) (s : State) : Recording s (s.setReader r x) := by
  cases r <;>
    exact ⟨rfl, rfl, rfl, fun c => ⟨(s.clip c).uses, by cases c <;> rfl⟩, fun _ _ => rfl, fun _ h => h, rfl, rfl⟩

theorem useClip_recording (up : Bool) (c : ClipRef) (s : State) : Recording s (useClip up c s) := by
  cases c with
  | alert k => exact Recording.refl s
  | playout n =>
    refine ⟨rfl, rfl, rfl, fun d => ?_, fun _ _ => rfl, fun _ h => h, rfl, rfl⟩
    cases d with
    | alert k => exact ⟨(s.clips.alert[k]).uses, rfl⟩
    | playout m =>
      by_cases same : m = n
      · subst same
        exact ⟨if up then s.clips.playout[m].uses + 1 else s.clips.playout[m].uses - 1, by
          simp [useClip, State.modClip, State.clip]⟩
      · have other : n.val ≠ m.val := fun e => same (Fin.ext e.symm)
        exact ⟨(s.clips.playout[m]).uses, by simp [useClip, State.modClip, State.clip, Vector.getElem_set_ne, other]⟩

theorem closeReaderOf_recording (c : Contributor) (s : State) : Recording s (closeReaderOf c s) := by
  unfold closeReaderOf
  split
  · unfold closeReader
    split
    · exact Recording.refl s
    · exact (setReader_recording _ _ s).trans (useClip_recording _ _ _)
  · exact Recording.refl s

theorem setContrib_recording (c : Contributor) (x : Contrib) (s : State) : Recording s (s.setContrib c x) :=
  calm (setContrib_touches c x s)

theorem cut_recording (c : Contributor) (s : State) : Recording s (cut c s) := by
  unfold cut
  split
  · exact (closeReaderOf_recording c s).trans (setContrib_recording _ _ _)
  · exact Recording.refl s

theorem fadeOut_recording (c : Contributor) (n : Nat) (s : State) : Recording s (fadeOut c n s) := by
  unfold fadeOut
  split
  · exact cut_recording c s
  · split
    · exact setContrib_recording _ _ s
    · exact Recording.refl s

theorem activate_recording (c : Contributor) (b : Binding) (g n p : Nat) (s : State) : Recording s (activate c b g n p s) := by
  unfold activate
  split
  · split
    · refine Recording.trans ?_ (setContrib_recording _ _ _)
      refine Recording.trans ?_ ((setReader_recording _ _ _).trans (useClip_recording _ _ _))
      unfold closeReader
      split
      · exact Recording.refl s
      · exact (setReader_recording _ _ s).trans (useClip_recording _ _ _)
    · exact Recording.refl s
  · exact (closeReaderOf_recording c s).trans (setContrib_recording _ _ _)

/-- A switch of the studio is a change of its contributor alone, or a fade of it. -/
theorem switchStudio_recording (on : Bool) (g n : Nat) (s : State) : Recording s (switchStudio on g n s) := by
  unfold switchStudio
  dsimp only
  split
  · split
    · exact activate_recording _ _ _ _ _ s
    · split
      · exact setContrib_recording _ _ s
      · split <;> exact setContrib_recording _ _ s
  · split
    · exact (setContrib_recording _ _ s).trans (fadeOut_recording _ _ _)
    · exact setContrib_recording _ _ s

/-- What the Cue Engine, the callers and a takeover of the air do leaves the captures as they are. -/
def recording : Walk where
  rel := Recording
  refl := Recording.refl
  trans := Recording.trans
  free h := calm h
  raised l e _ s := calm (raise_touches l e s)
  reported f s _ := calm (report_touches f s)
  cuts c _ s := cut_recording c s
  fades c _ n s := fadeOut_recording c n s
  activates c _ b g n k s := activate_recording c b g n k s
  claims e s := by
    unfold releaseClaim
    split
    · exact useClip_recording _ _ s
    · exact Recording.refl s
  airs k r s queued := by
    refine ⟨rfl, rfl, rfl, fun c => ⟨(s.clip c).uses, by cases c <;> rfl⟩, fun j hj => ?_, fun j hj => ?_, rfl, rfl⟩
    · have other : j ≠ k := fun e => hj (e ▸ queued)
      exact record_setRecord_ne other _ _
    · exact List.mem_of_mem_filter hj
  views s a records queue :=
    ⟨rfl, rfl, rfl, fun c => ⟨(s.clip c).uses, by cases c <;> rfl⟩, fun j _ => congrArg (·[j]) records, fun j hj => queue ▸ hj,
      rfl, rfl⟩

theorem panelAction_recording (n : PanelLineNo) (on : Bool) (s : State) : Recording s (panelAction n on s) :=
  panelAction_step (w := recording) switchStudio_recording (fun f s => calm (report_touches f s)) n on s

-- the events of a boundary that finds no more than panel actions and timed events left to their rows

/-- Where only panel actions are taken, a relation that they respect holds. -/
theorem takeEach_actions {R : State → State → Prop} (refl : ∀ s, R s s) (trans : ∀ {s t u}, R s t → R t u → R s u)
    (due : ∀ ds s, R s { s with due := ds }) (acts : ∀ n on s, R s (panelAction n on s)) (ds : List Due) :
    ∀ {s : State}, (∀ d ∈ ds, d ∈ s.due → ∃ n on, d = .panelAction n on) → R s (takeEach ds s) := by
  induction ds with
  | nil => exact fun _ => refl _
  | cons d ds ih =>
    intro s h
    have first : R s (take d s) ∧ ∀ e ∈ (take d s).due, e ∈ s.due := by
      unfold take
      split
      next found =>
        obtain ⟨n, on, rfl⟩ := h d List.mem_cons_self (by simpa using found)
        dsimp only
        split
        · refine ⟨trans (due _ s) (acts n on _), fun e he => ?_⟩
          rw [happen_due (by simp)] at he
          exact List.mem_of_mem_erase he
        · exact ⟨due _ s, fun e he => List.mem_of_mem_erase he⟩
      next => exact ⟨refl s, fun _ he => he⟩
    exact trans first.1 (ih fun e he hd => h e (List.mem_cons_of_mem _ he) (first.2 e hd))

/-- With the timed events left to their rows and no tone at its end, what an input block boundary takes is panel actions. -/
theorem inputEvents_actions {env : InputBoundary} {R : State → State → Prop} (refl : ∀ s, R s s)
    (trans : ∀ {s t u}, R s t → R t u → R s u) (due : ∀ ds s, R s { s with due := ds }) (sampled : ∀ s, R s (samplePanels env.pins s))
    (acts : ∀ n on s, R s (panelAction n on s)) (first : env.first = []) (leave : env.leave = true) (nothing : s.due = [])
    (tone : s.alerts.tone = none) : R s (inputEvents env s) := by
  have noTone : findToneEnd (findDue inputDue s) = findDue inputDue s := by
    refine if_neg ?_
    have tone' : (findDue inputDue s).alerts.tone = none := tone
    simp [toneOver, tone']
  have none_first (u : State) : takeEach [] u = u := rfl
  rw [inputEvents, noTone, settleDue, first, leave, if_pos rfl, none_first]
  refine trans (trans (due _ s) (sampled (findDue inputDue s))) ?_
  refine takeEach_actions refl trans due acts _ fun d hd found => ?_
  rcases samplePanels_due env.pins _ d found with timed | ⟨n, on, rfl, -⟩
  · have isTimed : d ∈ inputDue := by
      rw [findDue, nothing] at timed
      exact List.mem_of_mem_filter (by simpa using timed)
    exact absurd hd (rowless_of_timed isTimed)
  · exact ⟨n, on, rfl⟩

theorem samplePanels_raises (pins : Vector Contact 8) (s : State) : Raises [0x20] s (samplePanels pins s) := by
  refine Raises.foldl _ (fun s n => ?_) _ s
  have set (x : PanelLine) (u : State) : Raises [0x20] u (u.setPanelLine n x) := fun _ _ hp _ => hp
  unfold samplePanel
  dsimp only
  split
  · split
    · exact Raises.raise (fun _ _ hp _ => hp) _ _ (by simp [Event.number])
    · exact set _ s
  · exact Raises.refl _ s

/-- Such a boundary's events leave the captures as they are, and raise no event of theirs. -/
theorem inputEvents_recording {env : InputBoundary} (first : env.first = []) (leave : env.leave = true) (nothing : s.due = [])
    (tone : s.alerts.tone = none) :
    Recording s (inputEvents env s) ∧ Raises (0x20 :: panelEvents) s (inputEvents env s) :=
  ⟨inputEvents_actions Recording.refl Recording.trans (fun ds s => calm (due_touches ds s))
      (fun s => calm (samplePanels_touches _ s)) panelAction_recording first leave nothing tone,
    inputEvents_actions (Raises.refl _) Raises.trans (fun _ _ _ _ hp _ => hp) (fun s => (samplePanels_raises _ s).mono (by decide))
      (fun n on s => (panelAction_raises n on s).mono (by decide)) first leave nothing tone⟩

end Sys2Proof.CaptureBlocks
end

section
/-! R31, R60, R61, R64: a capture's block recorded at an input block boundary, or refused its segment. -/

namespace Sys2Proof.CaptureRecords

-- one thread: the check compiles under a limit on the process
set_option Elab.async false

open Sys2Proof.Machine Sys2Proof.Safety Sys2Proof.Laws Sys2Proof.Boundaries Sys2Proof.BlockForming Sys2Proof.EventKeeping
open Sys2Proof.IdleEvents Sys2Proof.PoolRequests Sys2Proof.MemoryKeeping Sys2Proof.FormedBlocks Sys2Proof.CaptureBlocks
open Sys2Proof.Captures Sys2Proof.FadeSteps

variable {s t u w : State} {c : ClipRef} {k : AlertSlot} {env : InputBoundary}

-- the one capture of a boundary (R32)

/-- The capture records. -/
def Active (s : State) : Capturer → Prop
  | .channel ch => s.clips.channels[ch] ≠ none
  | .alert => s.clips.alertCapture ≠ none

theorem captureInto_idle {d : Capturer} (h : ¬Active s d) : captureInto d s = s := by
  cases d with
  | channel ch =>
    have idle : s.channel ch = none := not_not.mp h
    simp only [captureInto, idle]
  | alert =>
    have idle : s.clips.alertCapture = none := not_not.mp h
    simp only [captureInto, idle]

/-- A capture in a channel takes its block, or ends when it is refused a segment. -/
theorem captureInto_channel {ch : Channel} {x : Capture} (capture : s.clips.channels[ch] = some x) : captureInto (.channel ch) s =
    (appendBlock (.playout x.clip) (captureBlock x.source s).1 (captureBlock x.source s).2 s).getD (endCapture ch .noSegment s) := by
  have held : s.channel ch = some x := capture
  simp only [captureInto, held]

theorem captureInto_alert (capture : s.clips.alertCapture = some k) : captureInto .alert s =
    (appendBlock (.alert k) (captureBlock (.source 7) s).1 (captureBlock (.source 7) s).2 s).getD
      { s with due := s.due ++ [.alertNoSegment] } := by
  simp only [captureInto, capture]

/-- A playout capture that is refused a segment. -/
theorem endCapture_refused {ch : Channel} {x : Capture} (capture : s.clips.channels[ch] = some x) : endCapture ch .noSegment s =
    raise .P (.captureDone x.clip (s.clip (.playout x.clip)).count .noSegment true)
      ({ s with clips := { s.clips with channels := s.clips.channels.set ch none } }.modClip (.playout x.clip) fun r =>
        r.settled true) := by
  have held : s.channel ch = some x := capture
  simp only [endCapture, settleCapture, held]
  rfl

/-- At most the channel of the capturer `d` is changed. -/
def Elsewhere (d : Capturer) (s u : State) : Prop := u.clips.alertCapture = s.clips.alertCapture ∧
  ∀ ch, d ≠ .channel ch → u.clips.channels[ch] = s.clips.channels[ch]

theorem elsewhere_appendBlock {d : Capturer} {b : Block} {p : Nat} {v : State} (refused : Elsewhere d s v) :
    Elsewhere d s ((appendBlock c b p s).getD v) := by
  cases granted : appendBlock c b p s with
  | none => exact refused
  | some u =>
    unfold appendBlock at granted
    split at granted
    · cases granted
    · cases granted
      cases c <;> exact ⟨rfl, fun _ _ => rfl⟩

/-- What a capture does to the channels and to the alert capture: at most its own channel is freed. -/
theorem captureInto_channels (d : Capturer) (s : State) : Elsewhere d s (captureInto d s) := by
  by_cases active : Active s d
  · cases d with
    | channel ch =>
      obtain ⟨x, capture⟩ := Option.ne_none_iff_exists'.mp active
      rw [captureInto_channel capture]
      refine elsewhere_appendBlock ?_
      rw [endCapture_refused capture]
      refine ⟨rfl, fun e other => ?_⟩
      have ne : ch.val ≠ e.val := fun same => other (by rw [Fin.ext same])
      exact Vector.getElem_set_ne ch.isLt e.isLt ne
    | alert =>
      obtain ⟨x, capture⟩ := Option.ne_none_iff_exists'.mp active
      rw [captureInto_alert capture]
      exact elsewhere_appendBlock ⟨rfl, fun _ _ => rfl⟩
  · rw [captureInto_idle active]
    exact ⟨rfl, fun _ _ => rfl⟩

theorem active_of_captureInto {d e : Capturer} (other : e ≠ d) (h : ¬Active s e) : ¬Active (captureInto d s) e := by
  obtain ⟨alert, channels⟩ := captureInto_channels d s
  cases e with
  | alert => simpa only [Active, alert] using h
  | channel ch => simpa only [Active, channels ch (Ne.symm other)] using h

theorem foldl_idle {ds : List Capturer} (h : ∀ d ∈ ds, ¬Active s d) : ds.foldl (fun t c => captureInto c t) s = s := by
  induction ds with
  | nil => rfl
  | cons d ds ih =>
    rw [List.foldl_cons, captureInto_idle (h d List.mem_cons_self)]
    exact ih fun e he => h e (List.mem_cons_of_mem _ he)

theorem eraseDups_nodup (n : Nat) : ∀ cs : List Capturer, cs.length ≤ n → cs.eraseDups.Nodup := by
  induction n with
  | zero =>
    intro cs h
    rw [List.length_eq_zero_iff.mp (Nat.le_zero.mp h)]
    simp
  | succ n ih =>
    intro cs h
    cases cs with
    | nil => simp
    | cons a as =>
      rw [List.eraseDups_cons, List.nodup_cons]
      refine ⟨by simp [List.mem_eraseDups], ih _ ?_⟩
      exact (List.length_filter_le _ _).trans (by simpa using h)

theorem captureOrder_nodup (named : List Capturer) : (captureOrder named).Nodup := by
  refine List.nodup_append.mpr ⟨eraseDups_nodup _ named le_rfl, List.Nodup.filter _ (by decide), fun a ha b hb => ?_⟩
  rintro rfl
  have listed : a ∈ named := List.mem_eraseDups.mp ha
  have free := (List.mem_filter.mp hb).2
  simp [listed] at free

theorem mem_captureOrder (named : List Capturer) (d : Capturer) : d ∈ captureOrder named := by
  have all : d ∈ [Capturer.channel 0, .channel 1, .alert] := by
    cases d with
    | channel ch =>
      have two : ∀ ch : Channel, Capturer.channel ch ∈ [Capturer.channel 0, .channel 1, .alert] := by decide
      exact two ch
    | alert => simp
  by_cases listed : d ∈ named
  · exact List.mem_append_left _ (List.mem_eraseDups.mpr listed)
  · exact List.mem_append_right _ (List.mem_filter.mpr ⟨all, by simp [listed]⟩)

/-- A boundary at which one capture records runs that one. -/
theorem runCaptures_one {d : Capturer} (named : List Capturer) (others : ∀ e, e ≠ d → ¬Active s e) :
    runCaptures named s = captureInto d s := by
  obtain ⟨before, after, order, fresh⟩ := List.eq_append_cons_of_mem (mem_captureOrder named d)
  have nodup := captureOrder_nodup named
  rw [order] at nodup
  have late : d ∉ after := (List.nodup_cons.mp (List.nodup_append.mp nodup).2.1).1
  rw [runCaptures, order, List.foldl_append, foldl_idle fun e he => others e fun same => fresh (same ▸ he), List.foldl_cons]
  exact foldl_idle fun e he => active_of_captureInto (fun same => late (same ▸ he)) (others e fun same => late (same ▸ he))

-- the state in which the captures of a boundary ask for their segments

/-- From `s` to `u` no more of the clips and the pool changed than the delay region's cells. -/
structure PoolSame (s u : State) : Prop where
  clips : u.clips = s.clips
  free : u.mem.free = s.mem.free
  held : u.mem.held = s.mem.held
  ring : u.mem.ring = s.mem.ring
  reserve : u.mem.reserve = s.mem.reserve
  general : u.mem.general = s.mem.general
  alertCount : u.mem.alertCount = s.mem.alertCount
  canonical : u.mem.wf = true
  reads : ∀ n, s.mem.ring ≤ n → u.mem.read n = s.mem.read n

theorem PoolSame.clip (h : PoolSame s u) (c : ClipRef) : u.clip c = s.clip c := by
  cases c <;> simp only [State.clip, h.clips]

theorem PoolSame.grants (h : PoolSame s u) (c : ClipRef) : u.mem.grants c = s.mem.grants c := by
  rw [Bool.eq_iff_iff, grants_iff, grants_iff, h.free, h.ring, h.reserve, h.general]

/-- Segments of the pool read the same, so their chains are the same. -/
theorem chain_same {m m' : SampleMemory} {ring : Nat} (reads : ∀ n, ring ≤ n → m'.read n = m.read n) (k : Nat) :
    ∀ o : Option Nat, (∀ n ∈ m.chain k o, ring ≤ n) → m'.chain k o = m.chain k o := by
  induction k with
  | zero => exact fun o _ => by cases o <;> rfl
  | succ k ih =>
    intro o inPool
    cases o with
    | none => rfl
    | some n =>
      have first : ring ≤ n := inPool n (by simp [SampleMemory.chain])
      simp only [SampleMemory.chain, reads n first]
      rw [ih _ fun j hj => inPool j (by simp [SampleMemory.chain, hj])]

theorem PoolSame.segments (h : PoolSame s u) (held : ∀ n ∈ s.segments c, s.mem.holder n = .clip c) :
    u.segments c = s.segments c := by
  rw [State.segments, h.clip]
  exact chain_same h.reads _ _ fun n hn => ring_le_of_holder (held n hn)

/-- The state with which the captures of a boundary begin. -/
def ready (env : InputBoundary) (s : State) : State := useFormed (formBlock (completed env s))

/-- What the block's forming and its write into the delay leave when no reader is open and no tone sounds. -/
structure Ready (env : InputBoundary) (s u : State) : Prop extends PoolSame s u where
  due : u.due = s.due
  inputs : u.inputs = (completed env s).inputs
  formed : ∃ f, u.formed = some f ∧ f.peak = blockPeak f.pgm
  tone : u.alerts.tone = none
  queue : u.alerts.queue = s.alerts.queue
  records : ∀ k, (u.record k).map AlertRecord.phase = (s.record k).map AlertRecord.phase

theorem countAlerts_queue (f : Formed) (s : State) : (countAlerts f s).alerts.queue = s.alerts.queue := rfl

theorem countAlerts_phase (f : Formed) (s : State) (k : AlertSlot) :
    ((countAlerts f s).record k).map AlertRecord.phase = (s.record k).map AlertRecord.phase := by
  have counted : (countAlerts f s).record k = _ := DelayReads.record_mapRecords _ _ s k
  rw [counted, Option.map_map]
  cases s.record k <;> rfl

theorem ready_of_closed (canonical : MemoryCanonical s) (head : s.delay.writeHead < s.mem.ring) (a : s.clips.readerA = none)
    (b : s.clips.readerB = none) (x : s.clips.readerAlert = none) (tone : s.alerts.tone = none) : Ready env s (ready env s) := by
  have completed := completed_touches env s
  have clips : (Boundaries.completed env s).clips = s.clips := completed .clips (by decide)
  have mem : (Boundaries.completed env s).mem = s.mem := completed .mem (by decide)
  have delay : (Boundaries.completed env s).delay = s.delay := completed .delay (by decide)
  have alerts : (Boundaries.completed env s).alerts = s.alerts := completed .alerts (by decide)
  let v := formBlock (Boundaries.completed env s)
  have closed : v = { Boundaries.completed env s with
      mix := (started (Boundaries.completed env s)).mix.map Contrib.stepFade
      formed := some (formedOf (Boundaries.completed env s)) } :=
    formBlock_closed (by rw [clips]; exact a) (by rw [clips]; exact b) (by rw [clips]; exact x)
  have vmem : v.mem = s.mem := by rw [closed]; exact mem
  have vdelay : v.delay = s.delay := by rw [closed]; exact delay
  have valerts : v.alerts = s.alerts := by rw [closed]; exact alerts
  have vformed : v.formed = some (formedOf (Boundaries.completed env s)) := by rw [closed]
  have used : Touches [.mem, .delay, .alerts] v (useFormed v) := useFormed_touches v
  have umem : (useFormed v).mem = (writeDelay (formedOf (Boundaries.completed env s)) v).mem := (useFormed_written vformed).1
  have kept : ∃ cells, (useFormed v).mem = { s.mem with cells := cells } := by
    rw [umem]
    by_cases off : v.delay.state = .off
    · rw [writeDelay, if_pos off]
      exact ⟨_, vmem⟩
    · rw [writeDelay_running off, ← vmem]
      exact ⟨_, rfl⟩
  obtain ⟨cells, kept⟩ := kept
  have uclips : (useFormed v).clips = v.clips := used .clips (by decide)
  have udue : (useFormed v).due = v.due := used .due (by decide)
  have uinputs : (useFormed v).inputs = v.inputs := used .inputs (by decide)
  have uformed : (useFormed v).formed = v.formed := used .formed (by decide)
  have walerts : (writeDelay (formedOf (Boundaries.completed env s)) v).alerts = s.alerts :=
    Eq.trans (writeDelay_touches _ v .alerts (by decide)) valerts
  have sdue : (Boundaries.completed env s).due = s.due := completed .due (by decide)
  refine { clips := ?_, free := by rw [ready, kept], held := by rw [ready, kept], ring := by rw [ready, kept], reserve := by rw [ready, kept],
           general := by rw [ready, kept], alertCount := by rw [ready, kept], canonical := ?_, reads := fun n hn => ?_, due := ?_, inputs := ?_,
           formed := ⟨_, uformed.trans vformed, formedOf_peak _⟩, tone := ?_, queue := ?_, records := fun k => ?_ }
  · exact uclips.trans (by rw [closed]; exact clips)
  · have wf : v.mem.wf = true := by rw [vmem]; exact canonical
    rw [ready, umem]
    exact (writeDelay_mem_kept _ _).canonical wf
  · have wf : v.mem.wf = true := by rw [vmem]; exact canonical
    rw [ready, umem, writeDelay_read _ wf, vmem, vdelay, if_neg fun h => by omega]
  · exact udue.trans (by rw [closed]; exact sdue)
  · exact uinputs.trans (by rw [closed])
  · exact useFormed_tone (by rw [valerts]; exact tone)
  · rw [ready, useFormed_some vformed, countAlerts_queue, walerts]
  · rw [ready, useFormed_some vformed, countAlerts_phase, State.record, walerts]
    rfl

-- a block joins a clip

/-- The block `b` has joined the clip `c` of `s`, where a segment was free. -/
def Recorded (s : State) (c : ClipRef) (b : Block) (t : State) : Prop := ∀ n rest, s.mem.free = n :: rest →
  t.mem.free = rest ∧ t.mem.holder n = .clip c ∧
  t.mem.read n = ⟨b, segmentCheck b, blockPeak b, none, none, LineSet.empty, none⟩ ∧
  (∀ k, (s.segments c).getLast? = some k → t.mem.read k = { s.mem.read k with link := some n }) ∧
  (t.clip c).first = some ((s.clip c).first.getD n) ∧ (t.clip c).count = (s.clip c).count + 1 ∧ (t.clip c).state = (s.clip c).state

/-- The segment in which a capture's block is stored (R60). -/
def captured (b : Block) : Segment := ⟨b, segmentCheck b, blockPeak b, none, none, LineSet.empty, none⟩

/-- The memory in which the segment at the head of the free list has been granted (R31). -/
def granted (c : ClipRef) (n : Nat) (rest : List Nat) (u : State) : SampleMemory :=
  { linkTo (u.segments c).getLast? n u.mem with
    free := rest
    held := holdSegment n c u.mem.held
    general := match c with | .playout _ => u.mem.general + 1 | .alert _ => u.mem.general
    alertCount := match c with | .playout _ => u.mem.alertCount | .alert _ => u.mem.alertCount + 1 }

/-- The state in which a block has joined a clip. -/
def appended (c : ClipRef) (b : Block) (n : Nat) (rest : List Nat) (u : State) : State :=
  { u with mem := (granted c n rest u).write n (captured b) }.modClip c
    fun r => { r with first := some (r.first.getD n), count := r.count + 1 }

theorem appendBlock_granted {b : Block} {n : Nat} {rest : List Nat} (grants : u.mem.grants c = true) (free : u.mem.free = n :: rest) :
    appendBlock c b (blockPeak b) u = some (appended c b n rest u) := by
  rw [appendBlock, allocate_granted _ grants free]
  rfl

theorem appendBlock_refused {b : Block} {p : Nat} (refused : u.mem.grants c = false) : appendBlock c b p u = none := by
  rw [appendBlock, allocate_refused _ refused]

theorem appended_mem (b : Block) (n : Nat) (rest : List Nat) :
    (appended c b n rest u).mem = (granted c n rest u).write n (captured b) := by cases c <;> rfl

theorem appended_clip (b : Block) (n : Nat) (rest : List Nat) : (appended c b n rest u).clip c =
    { u.clip c with first := some ((u.clip c).first.getD n), count := (u.clip c).count + 1 } := by
  cases c <;> simp [appended, State.modClip, State.clip]

/-- A block that has joined a clip is recorded there, when the pool is mapped and the clip holds its chain. -/
theorem recorded_of_appended {b : Block} {n : Nat} {rest : List Nat} (same : PoolSame s u) (mapped : PoolMapped s)
    (held : ∀ k ∈ s.segments c, s.mem.holder k = .clip c) (grants : u.mem.grants c = true) (free : s.mem.free = n :: rest)
    (mem : t.mem = (appended c b n rest u).mem) {uses : Nat} (clip : t.clip c = { (appended c b n rest u).clip c with uses := uses }) :
    Recorded s c b t := by
  intro m rest' listed
  obtain ⟨rfl, rfl⟩ := List.cons.inj (free.symm.trans listed)
  obtain ⟨nodup, range, -, -⟩ := mapped
  have inPool : s.mem.ring ≤ n ∧ n < 16384 := (range n).mp (List.mem_append_left _ (by rw [free]; simp))
  have fresh : ∀ h ∈ s.mem.held, h.1 ≠ n := by
    intro h hh e
    have there : n ∈ s.mem.held.map Prod.fst := List.mem_map.mpr ⟨h, hh, e⟩
    rw [free, List.cons_append, List.nodup_cons] at nodup
    exact nodup.1 (List.mem_append_right _ there)
  let m0 := granted c n rest u
  have whole : t.mem = m0.write n (captured b) := mem.trans (appended_mem b n rest)
  have wf : m0.wf = true := allocate_wf same.canonical (allocate_granted _ grants (same.free.trans free))
  have ring : m0.ring = s.mem.ring := by
    have kept := linkTo_kept (u.segments c).getLast? n u.mem
    exact (congrArg SampleMemory.ring kept :).trans same.ring
  refine ⟨by rw [whole]; rfl, ?_, by rw [whole]; exact read_write_same wf _ _, fun k last => ?_, ?_, ?_, ?_⟩
  · rw [whole]
    refine holder_of_entry (m := m0.write n _) (by rw [show (m0.write n _).ring = m0.ring from rfl, ring]; exact inPool.1) ?_
    exact (congrArg (·.find? fun h => decide (h.1 = n)) (congrArg (holdSegment n c) same.held :) :).trans (find_holdSegment_new fresh)
  · have listed : k ∈ s.segments c := List.mem_of_getLast? last
    have holder := held k listed
    have low := ring_le_of_holder holder
    have entry : k ∈ s.mem.held.map Prod.fst := by
      rw [SampleMemory.holder, if_neg (by omega)] at holder
      split at holder
      next j x found =>
        have isK : j = k := by simpa using List.find?_some found
        exact List.mem_map.mpr ⟨_, List.mem_of_find?_eq_some found, isK⟩
      next => cases holder
    have inRange : k < 16384 := ((range k).mp (List.mem_append_right _ entry)).2
    have other : k ≠ n := by
      obtain ⟨h, hh, e⟩ := List.mem_map.mp entry
      exact fun same => fresh h hh (e.trans same)
    rw [whole, read_write_ne other]
    refine (linkTo_read same.canonical (u.segments c).getLast? n k).trans ?_
    rw [if_pos ⟨by rw [same.segments held]; exact last, by rw [same.ring]; exact low, inRange⟩, same.reads k low]
  · rw [clip, appended_clip, same.clip]
  · rw [clip, appended_clip, same.clip]
  · rw [clip, appended_clip, same.clip]

-- the boundary

/-- The boundary's counts once its captures have run. -/
def counted (w : State) : State := countProfile (countWindow (countPlayed (countMeasure (countCaptured w))))

theorem counted_touches (w : State) : Touches [.alerts, .callers, .cue, .prof] w (counted w) :=
  (((((Touches.refl _ w).and (countCaptured_touches _)).and (countMeasure_touches _)).and (countPlayed_touches _)).and
    (countWindow_touches _)).and (prof_touches _ _)

theorem counted_alerts (w : State) : (counted w).alerts = (countCaptured w).alerts := by
  have rest : Touches [.callers, .cue, .prof] (countCaptured w) (counted w) :=
    ((((Touches.refl _ _).and (countMeasure_touches _)).and (countPlayed_touches _)).and (countWindow_touches _)).and (prof_touches _ _)
  exact rest .alerts (by decide)

theorem countCaptured_kept (w : State) :
    (countCaptured w).alerts.tone = w.alerts.tone ∧ (countCaptured w).alerts.queue = w.alerts.queue := by
  unfold countCaptured
  split <;> exact ⟨rfl, rfl⟩

/-- The record being captured shows the segments captured so far (R121). -/
theorem countCaptured_record (capture : w.clips.alertCapture = some k) : (countCaptured w).record k =
    (w.record k).map fun r => { r with clip := some (k, (w.clip (.alert k)).count) } := by
  simp only [countCaptured, capture, State.modRecord]
  exact record_setRecord k _ w

/-- A boundary at which one capture records: what its captures make of the block formed, counted, and then panel actions. -/
theorem boundary_recording {d : Capturer} (live : s.live = true) (due : s.due = []) (upsets : env.upsets = []) (first : env.first = [])
    (leave : env.leave = true) (ok : Ready env s (ready env s)) (others : ∀ e, e ≠ d → ¬Active s e) :
    ∃ t, exec (.inputBlockBoundary env) s = .next t ∧ (w = captureInto d (ready env s) → w.due = [] → w.alerts.tone = none →
      Recording (counted w) t ∧ Raises (0x20 :: panelEvents) (counted w) t) := by
  have active : ∀ e, e ≠ d → ¬Active (ready env s) e := by
    intro e other
    cases e with
    | channel ch => simpa only [Active, ok.clips] using others _ other
    | alert => simpa only [Active, ok.clips] using others _ other
  have run := exec_inputBoundary (env := env) live due
  rw [upsets, applyUpsets_none] at run
  refine ⟨_, run, fun into nothing tone => ?_⟩
  have work : inputRest env (formBlock (completed env s)) = counted w := by
    rw [inputRest, ← ready, runCaptures_one _ active, ← into]
    rfl
  rw [work]
  have due' : (counted w).due = w.due := counted_touches w .due (by decide)
  refine inputEvents_recording first leave (due'.trans nothing) ?_
  rw [counted_alerts, (countCaptured_kept w).1, tone]

theorem appended_touches (c : ClipRef) (b : Block) (n : Nat) (rest : List Nat) (u : State) :
    Touches [.mem, .clips] u (appended c b n rest u) := by
  cases c <;> (intro p hp; cases p <;> first | rfl | exact absurd (by decide) hp)

/-- What a capture's block recorded leaves for the boundary to end with. -/
theorem recorded_at_end {b : Block} {n : Nat} {rest : List Nat} (same : PoolSame s u) (mapped : PoolMapped s)
    (held : ∀ k ∈ s.segments c, s.mem.holder k = .clip c) (grants : u.mem.grants c = true) (free : s.mem.free = n :: rest)
    (after : Recording (counted (appended c b n rest u)) t) : Recorded s c b t ∧ t.mem = (appended c b n rest u).mem ∧
      t.clips.channels = (appended c b n rest u).clips.channels ∧ t.inputs = u.inputs ∧ t.formed = u.formed := by
  have touches := counted_touches (appended c b n rest u)
  have mem : (counted (appended c b n rest u)).mem = (appended c b n rest u).mem := touches .mem (by decide)
  have clips : (counted (appended c b n rest u)).clips = (appended c b n rest u).clips := touches .clips (by decide)
  have before := appended_touches c b n rest u
  have inputs : (counted (appended c b n rest u)).inputs = u.inputs :=
    Eq.trans (touches .inputs (by decide)) (before .inputs (by decide))
  have formed : (counted (appended c b n rest u)).formed = u.formed :=
    Eq.trans (touches .formed (by decide)) (before .formed (by decide))
  obtain ⟨uses, clip⟩ := after.clips c
  have clip' : (counted (appended c b n rest u)).clip c = (appended c b n rest u).clip c := by cases c <;> simp only [State.clip, clips]
  exact ⟨recorded_of_appended same mapped held grants free (after.mem.trans mem) (clip.trans (by rw [clip'])), after.mem.trans mem,
    after.channels.trans (by rw [clips]), after.inputs.trans inputs, after.formed.trans formed⟩

/-- The block that a capture asks for is stored with its own peak. -/
theorem captureBlock_peak (ok : Ready env s u) (x : CaptureSource) : (captureBlock x u).2 = blockPeak (captureBlock x u).1 := by
  obtain ⟨f, formed, peak⟩ := ok.formed
  cases x with
  | source m => rfl
  | pgmLive => simp only [captureBlock, formed, peak]

theorem alertBlockRecorded (live : s.live = true) (due : s.due = []) (upsets : env.upsets = []) (first : env.first = [])
    (leave : env.leave = true) (ok : Ready env s (ready env s)) (mapped : PoolMapped s)
    (held : ∀ n ∈ s.segments (.alert k), s.mem.holder n = .clip (.alert k)) (idle : s.clips.channels = Vector.replicate 2 none)
    (capture : s.clips.alertCapture = some k) : ∃ t, exec (.inputBlockBoundary env) s = .next t ∧
      Recorded s (.alert k) t.inputs[7] t ∧ (s.mem.free ≠ [] → t.mem.alertCount = s.mem.alertCount + 1 ∧
        ∀ r, s.record k = some r → r.phase = .receiving →
          (∀ j ∈ s.alerts.queue, ∃ y, s.record j = some y ∧ y.phase = .pending) →
          ∃ x, t.record k = some x ∧ x.phase = .receiving ∧ x.clip = some (k, (s.clip (.alert k)).count + 1)) := by
  have others : ∀ e, e ≠ Capturer.alert → ¬Active s e := by
    intro e other
    cases e with
    | channel ch => simp [Active, idle]
    | alert => exact absurd rfl other
  let u := ready env s
  obtain ⟨t, executed, ends⟩ := boundary_recording (w := captureInto .alert u) live due upsets first leave ok others
  refine ⟨t, executed, ?_⟩
  cases free : s.mem.free with
  | nil => exact ⟨fun n rest listed => absurd (free.symm.trans listed) (by simp), fun some_free => absurd rfl some_free⟩
  | cons n rest =>
    have grants : u.mem.grants (.alert k) = true := by
      rw [ok.grants, grants_iff, free]
      exact ⟨by simp, fun _ e => by cases e⟩
    have into : captureInto .alert u = appended (.alert k) u.inputs[7] n rest u := by
      have capture' : u.clips.alertCapture = some k := by rw [ok.clips]; exact capture
      rw [captureInto_alert capture', captureBlock_peak ok, appendBlock_granted grants (ok.free.trans free)]
      rfl
    rw [into] at ends
    have before := appended_touches (.alert k) u.inputs[7] n rest u
    have nothing : (appended (.alert k) u.inputs[7] n rest u).due = [] :=
      Eq.trans (before .due (by decide)) (ok.due.trans due)
    have alerts : (appended (.alert k) u.inputs[7] n rest u).alerts = u.alerts := before .alerts (by decide)
    obtain ⟨after, -⟩ := ends rfl nothing (by rw [alerts]; exact ok.tone)
    obtain ⟨recorded, mem, -, inputs, -⟩ := recorded_at_end ok.toPoolSame mapped held grants free after
    rw [inputs]
    refine ⟨recorded, fun _ => ⟨?_, fun r hr receiving queued => ?_⟩⟩
    · rw [mem, appended_mem, ← ok.alertCount]
      rfl
    · have queue : (counted (appended (.alert k) u.inputs[7] n rest u)).alerts.queue = s.alerts.queue := by
        rw [counted_alerts, (countCaptured_kept _).2, alerts]
        exact ok.queue
      have notQueued : k ∉ s.alerts.queue := by
        intro hk
        obtain ⟨y, hy, pending⟩ := queued k hk
        rw [hr] at hy
        cases hy
        rw [receiving] at pending
        cases pending
      have phase := ok.records k
      rw [hr, Option.map_some, receiving] at phase
      obtain ⟨x, hx, px⟩ := Option.map_eq_some_iff.mp phase
      have record : (counted (appended (.alert k) u.inputs[7] n rest u)).record k =
          some { x with clip := some (k, (s.clip (.alert k)).count + 1) } := by
        have capture' : (appended (.alert k) u.inputs[7] n rest u).clips.alertCapture = some k :=
          Eq.trans rfl (by rw [← capture, ← ok.clips]; rfl)
        have same : (appended (.alert k) u.inputs[7] n rest u).record k = some x := by rw [State.record, alerts]; exact hx
        have counts := countCaptured_record capture'
        rw [same, appended_clip, ok.clip] at counts
        rw [State.record, counted_alerts]
        exact counts
      exact ⟨_, (after.records k (by rw [queue]; exact notQueued)).trans record, px, rfl⟩

theorem playoutBlockRecorded {n : ClipId} {ch : Channel} {x : Capture} (live : s.live = true) (due : s.due = [])
    (upsets : env.upsets = []) (first : env.first = []) (leave : env.leave = true) (ok : Ready env s (ready env s))
    (mapped : PoolMapped s) (held : ∀ m ∈ s.segments (.playout n), s.mem.holder m = .clip (.playout n))
    (idle : s.clips.alertCapture = none) (capture : s.clips.channels[ch] = some x) (named : x.clip = n)
    (alone : ∀ j : Channel, j ≠ ch → s.clips.channels[j] = none) : ∃ t, exec (.inputBlockBoundary env) s = .next t ∧
      (s.mem.general < 16384 - s.mem.ring - s.mem.reserve →
        (∀ m, x.source = .source m → Recorded s (.playout n) t.inputs[m] t) ∧
        (∀ f, x.source = .pgmLive → t.formed = some f → Recorded s (.playout n) f.pgm t) ∧
        (s.mem.free ≠ [] → t.mem.general = s.mem.general + 1 ∧ t.clips.channels = s.clips.channels)) ∧
      (s.mem.free = [] ∨ 16384 - s.mem.ring - s.mem.reserve ≤ s.mem.general →
        t.clips.channels[ch] = none ∧
        ((s.clip (.playout n)).count = 0 → (t.clips.playout[n]).state = .empty ∧ (t.clips.playout[n]).count = 0) ∧
        (0 < (s.clip (.playout n)).count → (t.clips.playout[n]).state = .ready ∧ (t.clips.playout[n]).truncated = true ∧
          (t.clips.playout[n]).count = (s.clip (.playout n)).count ∧ (t.clips.playout[n]).first = (s.clip (.playout n)).first) ∧
        (∃ p ∈ (t.link .P).events, p.event = .captureDone n (s.clip (.playout n)).count .noSegment true) ∧
        t.mem.free = s.mem.free ∧ t.mem.general = s.mem.general) := by
  subst named
  have others : ∀ e, e ≠ Capturer.channel ch → ¬Active s e := by
    intro e other
    cases e with
    | channel j => exact not_not.mpr (alone j fun same => other (by rw [same]))
    | alert => exact not_not.mpr idle
  let u := ready env s
  have capture' : u.clips.channels[ch] = some x := by rw [ok.clips]; exact capture
  obtain ⟨t, executed, ends⟩ := boundary_recording (w := captureInto (.channel ch) u) live due upsets first leave ok others
  refine ⟨t, executed, fun room => ?_, fun refused => ?_⟩
  · cases free : s.mem.free with
    | nil =>
      have never (b : Block) : Recorded s (.playout x.clip) b t := fun n rest listed => absurd (free.symm.trans listed) (by simp)
      exact ⟨fun _ _ => never _, fun _ _ _ => never _, fun some_free => absurd rfl some_free⟩
    | cons n rest =>
      have grants : u.mem.grants (.playout x.clip) = true := by
        rw [ok.grants, grants_iff, free]
        exact ⟨by simp, fun _ _ => room⟩
      let b := (captureBlock x.source u).1
      have into : captureInto (.channel ch) u = appended (.playout x.clip) b n rest u := by
        rw [captureInto_channel capture', captureBlock_peak ok, appendBlock_granted grants (ok.free.trans free)]
        rfl
      rw [into] at ends
      have before := appended_touches (.playout x.clip) b n rest u
      have alerts : (appended (.playout x.clip) b n rest u).alerts = u.alerts := before .alerts (by decide)
      obtain ⟨after, -⟩ := ends rfl (Eq.trans (before .due (by decide)) (ok.due.trans due)) (by rw [alerts]; exact ok.tone)
      obtain ⟨recorded, mem, channels, inputs, formed⟩ := recorded_at_end ok.toPoolSame mapped held grants free after
      refine ⟨fun m source => ?_, fun f source isFormed => ?_, fun _ => ⟨?_, ?_⟩⟩
      · have block : b = t.inputs[m] := by rw [inputs]; simp only [b, u, captureBlock, source]
        exact block ▸ recorded
      · rw [formed] at isFormed
        have block : b = f.pgm := by simp only [b, captureBlock, source, u, isFormed]
        exact block ▸ recorded
      · rw [mem, appended_mem, ← ok.general]
        rfl
      · rw [channels, ← ok.clips]
        rfl
  · have grants : u.mem.grants (.playout x.clip) = false := by
      rw [ok.grants, Bool.eq_false_iff, Ne, grants_iff]
      rintro ⟨some_free, room⟩
      rcases refused with empty | full
      · exact some_free empty
      · exact absurd (room _ rfl) (by omega)
    have into : captureInto (.channel ch) u = endCapture ch .noSegment u := by
      rw [captureInto_channel capture', appendBlock_refused grants, Option.getD_none]
    rw [into] at ends
    have before := endCapture_touches ch .noSegment u
    have alerts : (endCapture ch .noSegment u).alerts = u.alerts := before .alerts (by decide)
    have mem : (endCapture ch .noSegment u).mem = u.mem := before .mem (by decide)
    obtain ⟨after, told⟩ := ends rfl (Eq.trans (before .due (by decide)) (ok.due.trans due)) (by rw [alerts]; exact ok.tone)
    have touches := counted_touches (endCapture ch .noSegment u)
    have mem' : (counted (endCapture ch .noSegment u)).mem = u.mem := Eq.trans (touches .mem (by decide)) mem
    have clips : (counted (endCapture ch .noSegment u)).clips = (endCapture ch .noSegment u).clips := touches .clips (by decide)
    have links : (counted (endCapture ch .noSegment u)).links = (endCapture ch .noSegment u).links := touches .links (by decide)
    obtain ⟨uses, clip⟩ := after.clips (.playout x.clip)
    have settled : (counted (endCapture ch .noSegment u)).clip (.playout x.clip) = (s.clip (.playout x.clip)).settled true := by
      rw [State.clip, clips, endCapture_refused capture', ← ok.clip]
      simp [u, raise, State.modClip, State.clip]
    have ended : t.clips.playout[x.clip] = { (s.clip (.playout x.clip)).settled true with uses := uses } := by
      have whole : t.clip (.playout x.clip) = _ := clip
      rw [settled] at whole
      exact whole
    refine ⟨?_, fun zero => ?_, fun some_segments => ?_, ?_, ?_, ?_⟩
    · rw [after.channels, clips, endCapture_refused capture']
      exact Vector.getElem_set_self _
    · rw [ended, Clip.settled, if_pos zero]
      exact ⟨rfl, rfl⟩
    · rw [ended, Clip.settled, if_neg (by omega)]
      exact ⟨rfl, rfl, rfl, rfl⟩
    · have raised : Pending .P (.captureDone x.clip (s.clip (.playout x.clip)).count .noSegment true) (endCapture ch .noSegment u) := by
        rw [endCapture_refused capture', ok.clip]
        exact pending_raised _ _ _
      have same : Pending .P (.captureDone x.clip (s.clip (.playout x.clip)).count .noSegment true) (counted (endCapture ch .noSegment u)) := by
        rw [Pending, State.link, links]
        exact raised
      exact told.pending same (by simp [Event.number])
    · rw [after.mem, mem', ok.free]
    · rw [after.mem, mem', ok.general]

theorem capturesRecordBlocks : Claims.CapturesRecordBlocks := by
  intro env c s live due upsets first leave canonical mapped head a b x tone held
  have ok := ready_of_closed (env := env) canonical head a b x tone
  have run := exec_inputBoundary (env := env) live due
  refine ⟨_, run, fun k isAlert idle capture => ?_, fun n ch y isPlayout idle capture named alone => ?_⟩
  · subst isAlert
    obtain ⟨t, executed, recorded⟩ := alertBlockRecorded live due upsets first leave ok mapped held idle capture
    cases run.symm.trans executed
    exact recorded
  · subst isPlayout
    obtain ⟨t, executed, recorded⟩ := playoutBlockRecorded live due upsets first leave ok mapped held idle capture named alone
    cases run.symm.trans executed
    exact recorded

/-- Settles O24. -/
theorem capturesStartAndEnd : Obligations.CapturesStartAndEnd :=
  ⟨capturesStart, capturesEnd, stopsFollowTheBoundary, stopsAreRefused, capturesRecordBlocks⟩

end Sys2Proof.CaptureRecords
end

section
/-! R115, R117, R118: where the lines in the caller slots go when both slots are emptied. -/

namespace Sys2Proof.ReturnedLines

-- one thread: the check compiles under a limit on the process
set_option Elab.async false

open Sys2Proof.Machine Sys2Proof.Safety Sys2Proof.Laws Sys2Proof.HoldQueue Sys2Proof.CallerReleases Sys2Proof.CallerSlots
open Sys2Proof.EventKeeping
open Sys2Proof.LinePlaces (placeInQueue_perm)

variable {s t : State} {k j : CallerSlot} {i : PhoneLine} {cause : OffAirCause}

/-- The line that a slot holds with no release in progress. -/
def returning (s : State) (k : CallerSlot) : Option PhoneLine := if (s.slot k).release = none then (s.slot k).occupant else none

theorem returning_eq_some : returning s k = some i ↔ s.slot k = ⟨some i, none⟩ := by
  unfold returning
  cases record : s.slot k with
  | mk occupant release => cases release <;> simp

/-- A slot without an occupant has no release in progress. -/
def SlotsIdle (s : State) : Prop := ∀ k, (s.slot k).occupant = none → (s.slot k).release = none

-- the lines without a release in progress (R117)

/-- What the return of a slot's line makes of the callers, but for its number and place. -/
structure LineHome (k : CallerSlot) (s t : State) : Prop where
  queue : t.callers.queue = s.callers.queue
  next : t.callers.nextNumber = s.callers.nextNumber
  slots : ∀ j, t.slot j = if j = k ∧ (s.slot k).release = none then ⟨none, none⟩ else s.slot j
  lines : ∀ i, t.line i = if returning s k = some i then { s.line i with state := .held, slot := none } else s.line i

theorem slot_setSlot (k : CallerSlot) (x : SlotRecord) (s : State) (j : CallerSlot) :
    (s.setSlot k x).slot j = if j = k then x else s.slot j := by
  by_cases same : j = k
  · subst same
    rw [if_pos rfl]
    exact slot_set j x s
  · have ne : k.val ≠ j.val := fun e => same (Fin.ext e.symm)
    rw [if_neg same]
    exact Vector.getElem_set_ne k.isLt j.isLt ne

theorem line_set (i : PhoneLine) (x : LineRecord) (s : State) (m : PhoneLine) :
    (s.setLine i x).line m = if m = i then x else s.line m := by
  by_cases same : m = i
  · subst same
    rw [if_pos rfl]
    exact getElem_set_same _ _ _
  · rw [if_neg same]
    exact getElem_set_other _ same _

/-- A slot that holds a line without a release. -/
theorem returnLine_held (slot : s.slot k = ⟨some i, none⟩) : returnLine cause k s = raise .S (.lineOffAir i k cause)
    (((cut (slotContributor k) s).setSlot k ⟨none, none⟩).setLine i { s.line i with state := .held, slot := none }) := by
  simp only [returnLine, slot]

theorem returnLine_other (slot : ∀ i, s.slot k ≠ ⟨some i, none⟩) : returnLine cause k s = s := by
  unfold returnLine
  split
  next i held => exact absurd held (slot i)
  next => rfl

theorem returnLine_home (cause : OffAirCause) (k : CallerSlot) (s : State) : LineHome k s (returnLine cause k s) := by
  have callers : (cut (slotContributor k) s).callers = s.callers := cut_touches _ s .callers (by decide)
  have held (i : PhoneLine) : returning s k = some i ↔ s.slot k = ⟨some i, none⟩ := returning_eq_some
  by_cases some_line : ∃ i, s.slot k = ⟨some i, none⟩
  · obtain ⟨i, slot⟩ := some_line
    have cutSlot (j : CallerSlot) : (cut (slotContributor k) s).slot j = s.slot j := by simp only [State.slot, callers]
    have cutLine (m : PhoneLine) : (cut (slotContributor k) s).line m = s.line m := by simp only [State.line, callers]
    rw [returnLine_held slot]
    refine ⟨(congrArg Callers.queue callers :), (congrArg Callers.nextNumber callers :), fun j => ?_, fun m => ?_⟩
    · refine (slot_setSlot k ⟨none, none⟩ (cut (slotContributor k) s) j).trans ?_
      rw [cutSlot, slot]
      simp only [and_true]
    · refine (line_set i _ _ m).trans ?_
      rw [(returning_eq_some (s := s)).mpr slot]
      simp only [Option.some.injEq]
      by_cases same : m = i
      · rw [if_pos same, if_pos same.symm, same]
      · rw [if_neg same, if_neg (Ne.symm same)]
        exact cutLine m
  · have none_held : ∀ i, s.slot k ≠ ⟨some i, none⟩ := fun i h => some_line ⟨i, h⟩
    rw [returnLine_other none_held]
    refine ⟨rfl, rfl, fun j => ?_, fun m => ?_⟩
    · split
      next h =>
        obtain ⟨rfl, free⟩ := h
        cases record : s.slot j with
        | mk occupant release =>
          rw [record] at free
          cases occupant with
          | none => rw [show release = none from free]
          | some i => exact absurd (show s.slot j = ⟨some i, none⟩ by rw [record, show release = none from free]) (none_held i)
      next => rfl
    · rw [if_neg fun h => none_held m ((held m).mp h)]

/-- Both slots' lines without a release brought home. -/
def broughtHome (cause : OffAirCause) (s : State) : State := returnLine cause 1 (returnLine cause 0 s)

structure LinesHome (s t : State) : Prop where
  queue : t.callers.queue = s.callers.queue
  next : t.callers.nextNumber = s.callers.nextNumber
  slots : ∀ j, t.slot j = if (s.slot j).release = none then ⟨none, none⟩ else s.slot j
  lines : ∀ i, t.line i = if returning s 0 = some i ∨ returning s 1 = some i then { s.line i with state := .held, slot := none }
    else s.line i

theorem broughtHome_lines (cause : OffAirCause) (s : State) : LinesHome s (broughtHome cause s) := by
  have first := returnLine_home cause 0 s
  have second := returnLine_home cause 1 (returnLine cause 0 s)
  have other : (returnLine cause 0 s).slot 1 = s.slot 1 := by rw [first.slots, if_neg (by simp)]
  have same : returning (returnLine cause 0 s) 1 = returning s 1 := by rw [returning, returning, other]
  refine ⟨second.queue.trans first.queue, second.next.trans first.next, fun j => ?_, fun i => ?_⟩
  · rw [broughtHome, second.slots, other]
    rcases slot_cases j with rfl | rfl
    · rw [if_neg (by simp), first.slots]
      simp
    · simp [other]
  · rw [broughtHome, second.lines, first.lines, same]
    by_cases one : returning s 1 = some i <;> by_cases zero : returning s 0 = some i <;> simp [one, zero]

-- their numbers and places (R117)

/-- A hold queue in order, each line once and numbered below the next number. -/
structure Queued (s : State) : Prop where
  once : s.callers.queue.Nodup
  ordered : QueueInOrder s.callers.lines s.callers.queue
  below : ∀ j ∈ s.callers.queue, (s.line j).number.getD 0 < s.callers.nextNumber

theorem linesToReturn_eq (s : State) : s.linesToReturn = (returning s 0).toList ++ (returning s 1).toList := by
  cases zero : s.slot 0 with
  | mk o r =>
    cases one : s.slot 1 with
    | mk p q =>
      simp only [State.linesToReturn, returning, zero, one, List.filterMap_cons, List.filterMap_nil]
      cases r <;> cases q <;> cases o <;> cases p <;> rfl

/-- How many lines are brought home. -/
def homeCount (a b : Option PhoneLine) : Nat := a.toList.length + b.toList.length

/-- A queued line once `n` lines have been brought home (R117). -/
def numberedBehind (n : Nat) (s : State) (i : PhoneLine) : LineRecord := { s.line i with
  number := if n = 0 then (s.line i).number else some (n + 1 + smaller s.callers.lines s.callers.queue i) }

/-- The numbers and places that the lines brought home take, `a` of slot 1 and `b` of slot 2. -/
structure Requeued (a b : Option PhoneLine) (s t : State) : Prop where
  slots : ∀ j, t.slot j = s.slot j
  next : t.callers.nextNumber = if homeCount a b = 0 then s.callers.nextNumber else homeCount a b + s.callers.queue.length + 1
  first : ∀ i, a = some i → t.line i = { s.line i with number := some 1 }
  second : ∀ i, b = some i → t.line i = { s.line i with number := some (a.toList.length + 1) }
  queued : ∀ i ∈ s.callers.queue, t.line i = numberedBehind (homeCount a b) s i
  others : ∀ i, i ∉ s.callers.queue → a ≠ some i → b ≠ some i → t.line i = s.line i
  members : ∀ i, i ∈ t.callers.queue ↔ i ∈ s.callers.queue ∨ a = some i ∨ b = some i
  kept : a = none → b = none → t.callers.queue = s.callers.queue
  sound : Queued t

theorem line_renumber (base : Nat) (s : State) (i : PhoneLine) : ({ s with callers := s.callers.renumber base } : State).line i =
    if i ∈ s.callers.queue then { s.line i with number := some (base + 1 + smaller s.callers.lines s.callers.queue i) }
    else s.line i := renumber_line _ _ _

/-- A renumbered queue is sound for the numbers from `base + 1`. -/
theorem renumber_below (base : Nat) (s : State) (j : PhoneLine) (hj : j ∈ s.callers.queue) :
    let n := (({ s with callers := s.callers.renumber base } : State).line j).number.getD 0
    base < n ∧ n < base + s.callers.queue.length + 1 := by
  have less := smaller_lt_length (ls := s.callers.lines) hj
  intro n
  have value : n = base + 1 + smaller s.callers.lines s.callers.queue j := by
    simp only [n, line_renumber, if_pos hj, Option.getD_some]
  omega

/-- One line brought home to the number `m`, the queue's others numbered above `base`. -/
theorem requeueReturned_one {m : PhoneLine} (fresh : m ∉ s.callers.queue) : requeueReturned [m] s =
    placeLine m (({ s with callers := s.callers.renumber 1 } : State).setLine m { s.line m with number := some 1 }) := by
  have line : ({ s with callers := s.callers.renumber 1 } : State).line m = s.line m := (line_renumber 1 s m).trans (if_neg fresh)
  simp only [requeueReturned, List.isEmpty_cons, Bool.false_eq_true, if_false, List.length_singleton, List.zipIdx_cons,
    List.zipIdx_nil, List.foldl_cons, List.foldl_nil, line]

theorem requeueReturned_two {m n : PhoneLine} (freshM : m ∉ s.callers.queue) (freshN : n ∉ s.callers.queue) (other : m ≠ n) :
    requeueReturned [m, n] s = placeLine n (placeLine m ((({ s with callers := s.callers.renumber 2 } : State).setLine m
      { s.line m with number := some 1 }).setLine n { s.line n with number := some 2 })) := by
  have lineM : ({ s with callers := s.callers.renumber 2 } : State).line m = s.line m := (line_renumber 2 s m).trans (if_neg freshM)
  have lineN : (({ s with callers := s.callers.renumber 2 } : State).setLine m { s.line m with number := some 1 }).line n = s.line n := by
    rw [line_set, if_neg (Ne.symm other), line_renumber, if_neg freshN]
  simp only [requeueReturned, List.isEmpty_cons, Bool.false_eq_true, if_false, List.length_cons, List.length_nil, List.zipIdx_cons,
    List.zipIdx_nil, List.foldl_cons, List.foldl_nil, lineM, Nat.zero_add, Nat.reduceAdd, lineN]

theorem mem_placeLine (i j : PhoneLine) (s : State) : j ∈ (placeLine i s).callers.queue ↔ j = i ∨ j ∈ s.callers.queue :=
  (placeInQueue_perm _ _ _).mem_iff.trans List.mem_cons

/-- A line with a number of its own joins a sound queue. -/
theorem Queued.place (h : Queued s) (fresh : i ∉ s.callers.queue) (below : (s.line i).number.getD 0 < s.callers.nextNumber)
    (differ : ∀ y ∈ s.callers.queue, (s.line i).number.getD 0 ≠ (s.line y).number.getD 0) : Queued (placeLine i s) := by
  refine ⟨?_, placeInQueue_inOrder h.ordered differ, fun j hj => ?_⟩
  · exact (placeInQueue_perm _ _ _).nodup_iff.mpr (List.nodup_cons.mpr ⟨fresh, h.once⟩)
  · rcases (mem_placeLine i j s).mp hj with rfl | hj
    · exact below
    · exact h.below j hj

/-- The renumbered queue is sound, and stays so when a line not in it is changed. -/
theorem renumbered_queued (base : Nat) (h : Queued s) : Queued { s with callers := s.callers.renumber base } :=
  ⟨h.once, renumber_inOrder base h.ordered, fun j hj => (renumber_below base s j hj).2⟩

theorem Queued.setLine (h : Queued s) (fresh : i ∉ s.callers.queue) (x : LineRecord) : Queued (s.setLine i x) := by
  have other {m : PhoneLine} (hm : m ∈ s.callers.queue) : (s.setLine i x).line m = s.line m := by
    have ne : m ≠ i := fun e => fresh (e ▸ hm)
    rw [line_set, if_neg ne]
  refine ⟨h.once, queueInOrder_congr (fun m hm => ?_) h.ordered, fun m hm => ?_⟩
  · have same : (s.setLine i x).callers.lines[m] = s.callers.lines[m] := other hm
    rw [same]
    exact ⟨rfl, rfl⟩
  · rw [other hm]
    exact h.below m hm

theorem requeueReturned_one_requeued {m : PhoneLine} (h : Queued s) (fresh : m ∉ s.callers.queue) {a b : Option PhoneLine}
    (one : a = some m ∧ b = none ∨ a = none ∧ b = some m) : Requeued a b s (requeueReturned [m] s) := by
  rw [requeueReturned_one fresh]
  have not_queued {i : PhoneLine} (hi : i ∈ s.callers.queue) : i ≠ m := fun e => fresh (e ▸ hi)
  let u : State := { s with callers := s.callers.renumber 1 }
  let v := u.setLine m { s.line m with number := some 1 }
  have not_none : ¬(a = none ∧ b = none) := by rcases one with ⟨rfl, rfl⟩ | ⟨rfl, rfl⟩ <;> simp
  have single : homeCount a b = 1 := by rcases one with ⟨rfl, rfl⟩ | ⟨rfl, rfl⟩ <;> rfl
  have named (i : PhoneLine) : a = some i ∨ b = some i ↔ i = m := by
    rcases one with ⟨rfl, rfl⟩ | ⟨rfl, rfl⟩ <;> simp [eq_comm]
  have self : v.line m = { s.line m with number := some 1 } := by rw [line_set, if_pos rfl]
  have queued {i : PhoneLine} (hi : i ∈ s.callers.queue) : v.line i = { s.line i with
      number := some (1 + 1 + smaller s.callers.lines s.callers.queue i) } := by
    rw [line_set, if_neg (not_queued hi), line_renumber, if_pos hi]
  have sound : Queued v := (renumbered_queued 1 h).setLine fresh _
  refine ⟨fun _ => rfl, ?_, fun i hi => ?_, fun i hi => ?_, fun i hi => ?_, fun i hi ha hb => ?_, fun i => ?_, fun ha hb => ?_, ?_⟩
  · rw [single]
    rfl
  · obtain rfl : i = m := (named i).mp (.inl hi)
    exact self
  · obtain rfl : i = m := (named i).mp (.inr hi)
    have none_first : a = none := by
      rcases one with ⟨-, rfl⟩ | ⟨rfl, -⟩
      · cases hi
      · rfl
    subst none_first
    exact self
  · rw [single]
    exact queued hi
  · have other : i ≠ m := fun e => ((named i).mpr e).elim ha hb
    refine (line_set m _ u i).trans ?_
    rw [if_neg other, line_renumber, if_neg hi]
  · rw [mem_placeLine, named, or_comm]
    rfl
  · exact absurd ⟨ha, hb⟩ not_none
  · refine sound.place fresh ?_ fun y hy => ?_
    · rw [self]
      exact (by omega : 1 < 1 + s.callers.queue.length + 1)
    · rw [self, queued hy]
      simp only [Option.getD_some]
      omega

theorem requeueReturned_two_requeued {m n : PhoneLine} (h : Queued s) (freshM : m ∉ s.callers.queue) (freshN : n ∉ s.callers.queue)
    (other : m ≠ n) : Requeued (some m) (some n) s (requeueReturned [m, n] s) := by
  rw [requeueReturned_two freshM freshN other]
  let u : State := { s with callers := s.callers.renumber 2 }
  let v := (u.setLine m { s.line m with number := some 1 }).setLine n { s.line n with number := some 2 }
  have lineM : v.line m = { s.line m with number := some 1 } := by rw [line_set, if_neg other, line_set, if_pos rfl]
  have lineN : v.line n = { s.line n with number := some 2 } := by rw [line_set, if_pos rfl]
  have queued {i : PhoneLine} (hi : i ∈ s.callers.queue) : v.line i = { s.line i with
      number := some (2 + 1 + smaller s.callers.lines s.callers.queue i) } := by
    have notM : i ≠ m := fun e => freshM (e ▸ hi)
    have notN : i ≠ n := fun e => freshN (e ▸ hi)
    rw [line_set, if_neg notN, line_set, if_neg notM, line_renumber, if_pos hi]
  have sound : Queued v := ((renumbered_queued 2 h).setLine freshM _).setLine freshN _
  have next : v.callers.nextNumber = 2 + s.callers.queue.length + 1 := rfl
  have first : Queued (placeLine m v) := by
    refine sound.place freshM ?_ fun y hy => ?_
    · rw [lineM, next]
      simp only [Option.getD_some]
      omega
    · rw [lineM, queued hy]
      simp only [Option.getD_some]
      omega
  have notN : n ∉ (placeLine m v).callers.queue := by
    rw [mem_placeLine]
    exact fun hn => hn.elim (Ne.symm other) freshN
  refine ⟨fun _ => rfl, ?_, fun i hi => ?_, fun i hi => ?_, fun i hi => ?_, fun i hi ha hb => ?_, fun i => ?_, fun ha => ?_, ?_⟩
  · exact next
  · cases hi
    exact lineM
  · cases hi
    exact lineN
  · exact queued hi
  · refine (line_set n _ _ i).trans ?_
    rw [if_neg fun e => hb (by rw [e]), line_set, if_neg fun e => ha (by rw [e]), line_renumber, if_neg hi]
  · rw [mem_placeLine, mem_placeLine]
    simp only [Option.some.injEq, eq_comm (a := n), eq_comm (a := m)]
    exact ⟨fun h => h.elim (.inr ∘ .inr) fun h => h.elim (.inr ∘ .inl) .inl, fun h => h.elim (.inr ∘ .inr) fun h => h.elim (.inr ∘ .inl) .inl⟩
  · cases ha
  · refine first.place notN ?_ fun y hy => ?_
    · refine lt_of_eq_of_lt (congrArg (fun r : LineRecord => r.number.getD 0) lineN) ?_
      exact (by simp only [Option.getD_some]; omega : (some 2 : Option Nat).getD 0 < 2 + s.callers.queue.length + 1)
    · have valueN : ((placeLine m v).line n).number.getD 0 = 2 := congrArg (fun r : LineRecord => r.number.getD 0) lineN
      rw [valueN]
      rcases (mem_placeLine m y v).mp hy with rfl | hy
      · have valueM : ((placeLine y v).line y).number.getD 0 = 1 := congrArg (fun r : LineRecord => r.number.getD 0) lineM
        omega
      · have value : ((placeLine m v).line y).number.getD 0 = 2 + 1 + smaller s.callers.lines s.callers.queue y :=
          congrArg (fun r : LineRecord => r.number.getD 0) (queued hy)
        omega

/-- The lines brought home take the first numbers, and those queued follow (R117). -/
theorem requeueReturned_requeued {a b : Option PhoneLine} (h : Queued s) (fresh : ∀ i, a = some i ∨ b = some i → i ∉ s.callers.queue)
    (other : ∀ i, a = some i → b ≠ some i) : Requeued a b s (requeueReturned (a.toList ++ b.toList) s) := by
  cases a with
  | none =>
    cases b with
    | none =>
      refine ⟨fun _ => rfl, rfl, fun i hi => by simp at hi, fun i hi => by simp at hi, fun i _ => rfl, fun i _ _ _ => rfl,
        fun i => ?_, fun _ _ => rfl, h⟩
      simp [requeueReturned]
    | some n => exact requeueReturned_one_requeued h (fresh n (.inr rfl)) (.inr ⟨rfl, rfl⟩)
  | some m =>
    cases b with
    | none => exact requeueReturned_one_requeued h (fresh m (.inl rfl)) (.inl ⟨rfl, rfl⟩)
    | some n =>
      exact requeueReturned_two_requeued h (fresh m (.inl rfl)) (fresh n (.inr rfl)) fun e => other m rfl (by rw [e])

end Sys2Proof.ReturnedLines
end

section
/-! R115, R117, R118: the releases that end when both slots are emptied, and where all the lines are then. -/

namespace Sys2Proof.ReturnedLines

-- one thread: the check compiles under a limit on the process
set_option Elab.async false

open Sys2Proof.Machine Sys2Proof.Safety Sys2Proof.Laws Sys2Proof.HoldQueue Sys2Proof.CallerReleases Sys2Proof.CallerSlots
open Sys2Proof.EventKeeping
open Sys2Proof.HoldQueueCommands (number_lt)
open Sys2Proof.LinePlaces (placeInQueue_perm)

variable {s t : State} {k j : CallerSlot} {i : PhoneLine} {d : Disposition} {cause : OffAirCause}

-- a release that ends (R115)

theorem joinQueue_next (room : s.callers.nextNumber ≠ 65535) : joinQueue i s = placeLine i { s with callers := { s.callers with
    lines := s.callers.lines.set i { s.line i with number := some s.callers.nextNumber }
    nextNumber := s.callers.nextNumber + 1 } } := by
  rw [joinQueue, giveNumber_next room]

/-- What the end of a slot's release makes of the callers. -/
structure LetGo (k : CallerSlot) (s t : State) : Prop where
  slots : ∀ j, t.slot j = if j = k ∧ (s.slot k).occupant ≠ none ∧ (s.slot k).release ≠ none then ⟨none, none⟩ else s.slot j
  line : ∀ i d, s.slot k = ⟨some i, some d⟩ → t.line i = releasedLine (s.line i) d s.callers.nextNumber
  others : ∀ i, (∀ d, s.slot k ≠ ⟨some i, some d⟩) → t.line i = s.line i
  still : (∀ i, s.slot k ≠ ⟨some i, some .hold⟩) → t.callers.queue = s.callers.queue ∧ t.callers.nextNumber = s.callers.nextNumber
  next : t.callers.nextNumber ≤ s.callers.nextNumber + 1
  members : ∀ i, i ∈ t.callers.queue ↔ i ∈ s.callers.queue ∨ s.slot k = ⟨some i, some .hold⟩
  sound : Queued s → (∀ i d, s.slot k = ⟨some i, some d⟩ → i ∉ s.callers.queue) → Queued t

theorem cutRelease_other (slot : ∀ i d, s.slot k ≠ ⟨some i, some d⟩) : cutRelease cause k s = s := by
  unfold cutRelease
  split
  next i d held => exact absurd held (slot i d)
  next => rfl

/-- The slot that a release leaves. -/
theorem cutRelease_ending (slot : s.slot k = ⟨some i, some d⟩) : cutRelease cause k s =
    settleRelease (releaseCause cause) k (cut (slotContributor k) s) := by
  simp only [cutRelease, slot]

/-- The state in which a release has emptied its slot. -/
def cutLoose (k : CallerSlot) (s : State) : State := (cut (slotContributor k) s).setSlot k ⟨none, none⟩

theorem cutLoose_kept (k : CallerSlot) (s : State) : (cutLoose k s).callers.queue = s.callers.queue ∧
    (cutLoose k s).callers.nextNumber = s.callers.nextNumber ∧ (cutLoose k s).callers.lines = s.callers.lines ∧
    ∀ j, (cutLoose k s).slot j = if j = k then ⟨none, none⟩ else s.slot j := by
  have callers : (cut (slotContributor k) s).callers = s.callers := cut_touches _ s .callers (by decide)
  refine ⟨(congrArg Callers.queue callers :), (congrArg Callers.nextNumber callers :), (congrArg Callers.lines callers :), fun j => ?_⟩
  rw [cutLoose, slot_setSlot]
  simp only [State.slot, callers]

theorem settleRelease_drop (slot : s.slot k = ⟨some i, some .drop⟩) (cause : OffAirCause) : settleRelease cause k s =
    raise .S (.lineOffAir i k cause) ((s.setSlot k ⟨none, none⟩).setLine i (s.line i).freed) := by
  simp only [settleRelease, slot]

theorem settleRelease_hold (slot : s.slot k = ⟨some i, some .hold⟩) (cause : OffAirCause) : settleRelease cause k s =
    raise .S (.lineOffAir i k cause) (joinQueue i ((s.setSlot k ⟨none, none⟩).setLine i
      { s.line i with state := .held, slot := none })) := by
  simp only [settleRelease, slot]

theorem cutRelease_drop (slot : s.slot k = ⟨some i, some .drop⟩) : cutRelease cause k s =
    raise .S (.lineOffAir i k (releaseCause cause)) ((cutLoose k s).setLine i (s.line i).freed) := by
  have callers : (cut (slotContributor k) s).callers = s.callers := cut_touches _ s .callers (by decide)
  have slot' : (cut (slotContributor k) s).slot k = ⟨some i, some .drop⟩ := by rw [State.slot, callers]; exact slot
  have line : (cut (slotContributor k) s).line i = s.line i := by simp only [State.line, callers]
  rw [cutRelease_ending slot, settleRelease_drop slot', line]
  rfl

theorem cutRelease_hold (slot : s.slot k = ⟨some i, some .hold⟩) : cutRelease cause k s =
    raise .S (.lineOffAir i k (releaseCause cause)) (joinQueue i ((cutLoose k s).setLine i
      { s.line i with state := .held, slot := none })) := by
  have callers : (cut (slotContributor k) s).callers = s.callers := cut_touches _ s .callers (by decide)
  have slot' : (cut (slotContributor k) s).slot k = ⟨some i, some .hold⟩ := by rw [State.slot, callers]; exact slot
  have line : (cut (slotContributor k) s).line i = s.line i := by simp only [State.line, callers]
  rw [cutRelease_ending slot, settleRelease_hold slot', line]
  rfl

theorem cutRelease_letGo (cause : OffAirCause) (k : CallerSlot) (room : s.callers.nextNumber ≠ 65535) : LetGo k s (cutRelease cause k s) := by
  obtain ⟨queue, next, lines, slots⟩ := cutLoose_kept k s
  have looseLine (m : PhoneLine) : (cutLoose k s).line m = s.line m := by simp only [State.line, lines]
  by_cases releasing : ∃ i d, s.slot k = ⟨some i, some d⟩
  · obtain ⟨i, d, slot⟩ := releasing
    have slots' (j : CallerSlot) : (cutLoose k s).slot j = if j = k ∧ (s.slot k).occupant ≠ none ∧ (s.slot k).release ≠ none then ⟨none, none⟩
        else s.slot j := by
      rw [slots, slot]
      simp
    have named {m : PhoneLine} {e : Disposition} (h : s.slot k = ⟨some m, some e⟩) : m = i ∧ e = d := by
      rw [slot] at h
      cases h
      exact ⟨rfl, rfl⟩
    cases d with
    | drop =>
      rw [cutRelease_drop slot]
      have line (m : PhoneLine) : ((cutLoose k s).setLine i (s.line i).freed).line m = if m = i then (s.line i).freed else s.line m := by
        rw [line_set, looseLine]
      refine ⟨slots', fun m e h => ?_, fun m h => ?_, fun _ => ⟨queue, next⟩, ?_, fun m => ?_, fun sound fresh => ?_⟩
      · obtain ⟨rfl, rfl⟩ := named h
        exact (line m).trans (if_pos rfl)
      · have other : m ≠ i := by rintro rfl; exact h _ slot
        exact (line m).trans (if_neg other)
      · exact next.trans_le (Nat.le_succ _)
      · have never : s.slot k ≠ ⟨some m, some .hold⟩ := fun h => by cases (named h).2
        rw [or_iff_left never]
        exact iff_of_eq (congrArg (m ∈ ·) queue)
      · have same : Queued (cutLoose k s) := ⟨queue ▸ sound.once, by rw [lines, queue]; exact sound.ordered, fun j hj => by
          rw [looseLine, next]
          exact sound.below j (queue ▸ hj)⟩
        have loose := same.setLine (i := i) (by rw [queue]; exact fresh i _ slot) (s.line i).freed
        exact ⟨loose.once, loose.ordered, loose.below⟩
    | hold =>
      let held := (cutLoose k s).setLine i { s.line i with state := .held, slot := none }
      have heldLine : held.line i = { s.line i with state := .held, slot := none } := by rw [line_set, if_pos rfl]
      have heldNext : held.callers.nextNumber = s.callers.nextNumber := next
      let numbered : State := { held with callers := { held.callers with
        lines := held.callers.lines.set i { held.line i with number := some held.callers.nextNumber }
        nextNumber := held.callers.nextNumber + 1 } }
      have joined : joinQueue i held = placeLine i numbered := joinQueue_next (by rw [heldNext]; exact room)
      have line (m : PhoneLine) : numbered.line m =
          if m = i then { s.line i with state := .held, slot := none, number := some s.callers.nextNumber } else s.line m := by
        by_cases same : m = i
        · subst same
          rw [if_pos rfl]
          refine (getElem_set_same _ _ _).trans ?_
          rw [heldLine, heldNext]
        · rw [if_neg same]
          refine (getElem_set_other _ same _).trans ?_
          have kept : held.line m = s.line m := by rw [line_set, if_neg same, looseLine]
          exact kept
      rw [cutRelease_hold slot, joined]
      refine ⟨slots', fun m e h => ?_, fun m h => ?_, fun h => absurd slot (h i), ?_, fun m => ?_, fun sound fresh => ?_⟩
      · obtain ⟨rfl, rfl⟩ := named h
        exact (line m).trans (if_pos rfl)
      · have other : m ≠ i := by rintro rfl; exact h _ slot
        exact (line m).trans (if_neg other)
      · exact le_of_eq (congrArg (· + 1) heldNext)
      · refine (mem_placeLine i m numbered).trans ?_
        have same : numbered.callers.queue = s.callers.queue := queue
        rw [same, or_comm]
        refine or_congr_right ⟨fun e => by rw [e]; exact slot, fun h => (named h).1⟩
      · have fresh' : i ∉ s.callers.queue := fresh i _ slot
        have numberedQueue : numbered.callers.queue = s.callers.queue := queue
        have numberedLine {m : PhoneLine} (hm : m ∈ s.callers.queue) : numbered.line m = s.line m := by
          have other : m ≠ i := by rintro rfl; exact fresh' hm
          rw [line, if_neg other]
        have whole : Queued numbered := by
          refine ⟨numberedQueue ▸ sound.once, ?_, fun j hj => ?_⟩
          · rw [numberedQueue]
            refine queueInOrder_congr (fun m hm => ?_) sound.ordered
            have same : numbered.callers.lines[m] = s.callers.lines[m] := numberedLine hm
            rw [same]
            exact ⟨rfl, rfl⟩
          · have hj' : j ∈ s.callers.queue := numberedQueue ▸ hj
            rw [numberedLine hj']
            exact (sound.below j hj').trans_le (le_of_eq_of_le heldNext.symm (Nat.le_succ _))
        have value : (numbered.line i).number.getD 0 = s.callers.nextNumber := by rw [line, if_pos rfl]; rfl
        have placed : Queued (placeLine i numbered) := by
          refine whole.place (by rw [numberedQueue]; exact fresh') ?_ fun y hy => ?_
          · rw [value]
            exact lt_of_eq_of_lt heldNext.symm (Nat.lt_succ_self _)
          · have hy' : y ∈ s.callers.queue := numberedQueue ▸ hy
            rw [value, numberedLine hy']
            exact (sound.below y hy').ne'
        exact ⟨placed.once, placed.ordered, placed.below⟩
  · have none_releasing : ∀ i d, s.slot k ≠ ⟨some i, some d⟩ := fun i d h => releasing ⟨i, d, h⟩
    rw [cutRelease_other none_releasing]
    refine ⟨fun j => ?_, fun i d h => absurd h (none_releasing i d), fun _ _ => rfl, fun _ => ⟨rfl, rfl⟩, Nat.le_succ _, fun i => ?_,
      fun sound _ => sound⟩
    · rw [if_neg]
      rintro ⟨-, occupied, released⟩
      obtain ⟨i, hi⟩ := Option.ne_none_iff_exists'.mp occupied
      obtain ⟨d, hd⟩ := Option.ne_none_iff_exists'.mp released
      exact none_releasing i d (slot_of_parts hi hd)
    · rw [or_iff_left (none_releasing i .hold)]

theorem cutRelease_told (slot : s.slot k = ⟨some i, some d⟩) : Pending .S (.lineOffAir i k (releaseCause cause)) (cutRelease cause k s) := by
  cases d with
  | drop =>
    rw [cutRelease_drop slot]
    exact pending_raised _ _ _
  | hold =>
    rw [cutRelease_hold slot]
    exact pending_raised _ _ _

-- both slots emptied

/-- The callers once both slots have been emptied, less QUEUE_CHANGED. -/
def emptied (cause : OffAirCause) (s : State) : State :=
  cutRelease cause 1 (cutRelease cause 0 (requeueReturned s.linesToReturn (broughtHome cause s)))

theorem emptySlots_eq (cause : OffAirCause) (s : State) : emptySlots cause s =
    if (emptied cause s).callers.queue = s.callers.queue then emptied cause s else raiseQueue (emptied cause s) := rfl

theorem emptySlots_callers (cause : OffAirCause) (s : State) : (emptySlots cause s).callers = (emptied cause s).callers := by
  rw [emptySlots_eq]
  split <;> rfl

theorem queue_short {q : List PhoneLine} (once : q.Nodup) : q.length ≤ 4 := by
  have short := once.length_le_card
  simpa using short

theorem queued_of_numbered (kept : LinesKept s) (numbered : QueueNumbered s) : Queued s := by
  obtain ⟨-, once, -⟩ := kept
  obtain ⟨ordered, -, given, -⟩ := numbered
  exact ⟨once, ordered, fun j hj => number_lt given j hj⟩

/-- The stages in which both slots are emptied. -/
structure Emptying (s a b c t : State) : Prop where
  home : LinesHome s a
  requeued : Requeued (returning s 0) (returning s 1) a b
  first : LetGo 0 b c
  second : LetGo 1 c t
  sound : Queued t

/-- A line in a slot is in no other slot, and not in the queue. -/
structure Seated (s : State) : Prop where
  apart : ∀ i j k, (s.slot j).occupant = some i → (s.slot k).occupant = some i → j = k
  unqueued : ∀ i k, (s.slot k).occupant = some i → i ∉ s.callers.queue

theorem seated_of_kept (kept : LinesKept s) : Seated s := by
  obtain ⟨placed, -, seated⟩ := kept
  refine ⟨fun i j k hj hk => ?_, fun i k hk queued => ?_⟩
  · have slotJ := ((seated i j).mp hj).2
    have slotK := ((seated i k).mp hk).2
    exact Option.some.inj (slotJ.symm.trans slotK)
  · have onAir := ((seated i k).mp hk).1
    have held := (placed i).1.mp queued
    rw [onAir] at held
    cases held

theorem occupant_of_returning (h : returning s k = some i) : (s.slot k).occupant = some i := by
  rw [returning_eq_some.mp h]

theorem emptied_stages (cause : OffAirCause) (kept : LinesKept s) (numbered : QueueNumbered s) :
    ∃ a b c, Emptying s a b c (emptied cause s) ∧ b = requeueReturned s.linesToReturn (broughtHome cause s) ∧
      c = cutRelease cause 0 b ∧ emptied cause s = cutRelease cause 1 c := by
  have seated := seated_of_kept kept
  have home := broughtHome_lines cause s
  let a := broughtHome cause s
  have queued := queued_of_numbered kept numbered
  have fresh : ∀ i, returning s 0 = some i ∨ returning s 1 = some i → i ∉ s.callers.queue := fun i h =>
    h.elim (fun h => seated.unqueued i 0 (occupant_of_returning h)) fun h => seated.unqueued i 1 (occupant_of_returning h)
  have homeLine {m : PhoneLine} (hm : m ∈ s.callers.queue) : a.line m = s.line m := by
    rw [home.lines, if_neg fun h => fresh m h hm]
  have homeQueued : Queued a := by
    refine ⟨home.queue ▸ queued.once, ?_, fun j hj => ?_⟩
    · rw [home.queue]
      refine queueInOrder_congr (fun m hm => ?_) queued.ordered
      have same : a.callers.lines[m] = s.callers.lines[m] := homeLine hm
      rw [same]
      exact ⟨rfl, rfl⟩
    · have hj' : j ∈ s.callers.queue := home.queue ▸ hj
      rw [homeLine hj', home.next]
      exact queued.below j hj'
  have requeued := requeueReturned_requeued (a := returning s 0) (b := returning s 1) homeQueued
    (fun i h => by rw [home.queue]; exact fresh i h)
    (fun i h h' => by cases seated.apart i 0 1 (occupant_of_returning h) (occupant_of_returning h'))
  rw [← linesToReturn_eq] at requeued
  let b := requeueReturned s.linesToReturn a
  have next : b.callers.nextNumber < 65534 := by
    rw [requeued.next]
    have few : homeCount (returning s 0) (returning s 1) ≤ 2 := by
      unfold homeCount
      cases returning s 0 <;> cases returning s 1 <;> simp
    have short := queue_short homeQueued.once
    have bound := numbered.2.1
    rw [home.next]
    split <;> omega
  have first : LetGo 0 b (cutRelease cause 0 b) := cutRelease_letGo cause 0 (by omega)
  let c := cutRelease cause 0 b
  have second : LetGo 1 c (cutRelease cause 1 c) := cutRelease_letGo cause 1 (by
    have grown := first.next
    change (cutRelease cause 0 b).callers.nextNumber ≠ 65535
    omega)
  have slotB (j : CallerSlot) : b.slot j = if (s.slot j).release = none then ⟨none, none⟩ else s.slot j := (requeued.slots j).trans (home.slots j)
  have goingB {j : CallerSlot} {i : PhoneLine} {d : Disposition} (h : b.slot j = ⟨some i, some d⟩) : s.slot j = ⟨some i, some d⟩ := by
    rw [slotB] at h
    split at h
    · cases h
    · exact h
  have goingC {i : PhoneLine} {d : Disposition} (h : c.slot 1 = ⟨some i, some d⟩) : s.slot 1 = ⟨some i, some d⟩ := by
    rw [first.slots, if_neg (by simp)] at h
    exact goingB h
  have membersB (i : PhoneLine) : i ∈ b.callers.queue → i ∈ s.callers.queue ∨ returning s 0 = some i ∨ returning s 1 = some i := by
    rw [requeued.members, home.queue]
    exact id
  have freshB {j : CallerSlot} {i : PhoneLine} {d : Disposition} (h : s.slot j = ⟨some i, some d⟩) : i ∉ b.callers.queue := by
    have occupant : (s.slot j).occupant = some i := by rw [h]
    have never (m : CallerSlot) : returning s m ≠ some i := fun hm => by
      cases seated.apart i j m occupant (occupant_of_returning hm)
      rw [returning_eq_some.mp hm] at h
      cases h
    exact fun hi => (membersB i hi).elim (seated.unqueued i j occupant) fun h => h.elim (never 0) (never 1)
  have soundC : Queued c := first.sound requeued.sound fun i d h => freshB (goingB h)
  have soundT : Queued (cutRelease cause 1 c) := second.sound soundC fun i d h hi => by
    rcases (first.members i).mp hi with hi | hold
    · exact freshB (goingC h) hi
    · have zero := goingB hold
      have one := goingC h
      cases seated.apart i 0 1 (by rw [zero]) (by rw [one])
  exact ⟨a, b, c, ⟨home, requeued, first, second, soundT⟩, rfl, rfl, rfl⟩

theorem slot_second (cause : OffAirCause) (s : State) : (returnLine cause 0 s).slot 1 = s.slot 1 := by
  rw [(returnLine_home cause 0 s).slots, if_neg (by simp)]

/-- LINE_OFF_AIR tells of the line that comes home last. -/
theorem toldHome_second (slot : s.slot 1 = ⟨some i, none⟩) : Pending .S (.lineOffAir i 1 cause) (broughtHome cause s) := by
  rw [broughtHome, returnLine_held (i := i) (by rw [slot_second, slot])]
  exact pending_raised _ _ _

theorem toldHome_first (slot : s.slot 0 = ⟨some i, none⟩) (other : ∀ m, s.slot 1 ≠ ⟨some m, none⟩) :
    Pending .S (.lineOffAir i 0 cause) (broughtHome cause s) := by
  rw [broughtHome, returnLine_other (by rw [slot_second]; exact other), returnLine_held slot]
  exact pending_raised _ _ _

/-- The number of lines brought home, as it is counted over the slots. -/
theorem homeCount_eq (s : State) : homeCount (returning s 0) (returning s 1) =
    [(0 : CallerSlot), 1].countP fun k => (s.slot k).occupant.isSome && (s.slot k).release.isNone := by
  have one (k : CallerSlot) : (returning s k).toList.length =
      if ((s.slot k).occupant.isSome && (s.slot k).release.isNone) = true then 1 else 0 := by
    unfold returning
    cases s.slot k with
    | mk o r => cases o <;> cases r <;> rfl
  rw [homeCount, one, one, List.countP_cons, List.countP_cons, List.countP_nil]
  omega

-- what the stages make of each line

section Stages

variable {a b c : State}

theorem notHome {m : CallerSlot} (seated : Seated s) (slot : s.slot k = ⟨some i, some d⟩) : s.slot m ≠ ⟨some i, none⟩ := fun h => by
  cases seated.apart i m k (by rw [h]) (by rw [slot])
  rw [slot] at h
  cases h

theorem notGoing {m : CallerSlot} (seated : Seated s) (slot : s.slot k = ⟨some i, none⟩) : s.slot m ≠ ⟨some i, some d⟩ := fun h =>
  notHome seated h slot

theorem notSeated {r : Option Disposition} (seated : Seated s) (queued : i ∈ s.callers.queue) : s.slot k ≠ ⟨some i, r⟩ := fun h =>
  seated.unqueued i k (by rw [h]) queued

/-- A slot without a release ends none. -/
theorem quiet_of_none (h : (s.slot j).release = none) (i : PhoneLine) (d : Disposition) : s.slot j ≠ ⟨some i, some d⟩ := fun e => by
  rw [e] at h
  cases h

theorem Emptying.slot_requeued (h : Emptying s a b c t) (j : CallerSlot) :
    b.slot j = if (s.slot j).release = none then ⟨none, none⟩ else s.slot j := (h.requeued.slots j).trans (h.home.slots j)

theorem Emptying.going (h : Emptying s a b c t) : b.slot j = ⟨some i, some d⟩ ↔ s.slot j = ⟨some i, some d⟩ := by
  rw [h.slot_requeued]
  constructor
  · intro record
    split at record
    · cases record
    · exact record
  · intro record
    rw [if_neg (by rw [record]; simp)]
    exact record

theorem Emptying.slot_one (h : Emptying s a b c t) : c.slot 1 = b.slot 1 := by rw [h.first.slots, if_neg (by simp)]

theorem Emptying.going_one (h : Emptying s a b c t) : c.slot 1 = ⟨some i, some d⟩ ↔ s.slot 1 = ⟨some i, some d⟩ := by
  rw [h.slot_one, h.going]

theorem Emptying.slots_empty (h : Emptying s a b c t) (idle : SlotsIdle s) (k : CallerSlot) : t.slot k = ⟨none, none⟩ := by
  have requeued : b.slot k = ⟨none, none⟩ ∨ (b.slot k).occupant ≠ none ∧ (b.slot k).release ≠ none := by
    rw [h.slot_requeued]
    split
    next => exact .inl rfl
    next releasing => exact .inr ⟨fun e => releasing (idle k e), releasing⟩
  rcases slot_cases k with rfl | rfl
  · rw [h.second.slots, if_neg (by simp), h.first.slots]
    rcases requeued with none_left | going
    · rw [none_left]; simp
    · rw [if_pos ⟨rfl, going⟩]
  · rw [h.second.slots, h.slot_one]
    rcases requeued with none_left | going
    · rw [none_left]; simp
    · rw [if_pos ⟨rfl, going⟩]

/-- A line that no release ends keeps its record of the requeueing. -/
theorem Emptying.line_stays (h : Emptying s a b c t) (none_going : ∀ k d, s.slot k ≠ ⟨some i, some d⟩) : t.line i = b.line i := by
  rw [h.second.others i fun d e => none_going 1 d (h.going_one.mp e), h.first.others i fun d e => none_going 0 d (h.going.mp e)]

/-- A line that comes home by no return keeps its record. -/
theorem Emptying.home_stays (h : Emptying s a b c t) (none_home : ∀ k, s.slot k ≠ ⟨some i, none⟩) : a.line i = s.line i := by
  rw [h.home.lines, if_neg]
  rintro (zero | one)
  · exact none_home 0 (returning_eq_some.mp zero)
  · exact none_home 1 (returning_eq_some.mp one)

theorem Emptying.line_home (h : Emptying s a b c t) (seated : Seated s) (slot : s.slot k = ⟨some i, none⟩) : t.line i = { s.line i with
    state := .held
    slot := none
    number := some (if k = 1 ∧ ((s.slot 0).occupant.isSome && (s.slot 0).release.isNone) = true then 2 else 1) } := by
  rw [h.line_stays fun _ _ => notGoing seated slot]
  have returns : returning s k = some i := returning_eq_some.mpr slot
  have homeLine : a.line i = { s.line i with state := .held, slot := none } := by
    rw [h.home.lines, if_pos]
    rcases slot_cases k with rfl | rfl
    · exact .inl returns
    · exact .inr returns
  rcases slot_cases k with rfl | rfl
  · rw [h.requeued.first i returns, homeLine, if_neg (by simp)]
  · rw [h.requeued.second i returns, homeLine]
    have number : (returning s 0).toList.length + 1 =
        if (1 : CallerSlot) = 1 ∧ ((s.slot 0).occupant.isSome && (s.slot 0).release.isNone) = true then 2 else 1 := by
      unfold returning
      cases s.slot 0 with
      | mk o r => cases o <;> cases r <;> rfl
    rw [number]

theorem Emptying.line_released (h : Emptying s a b c t) (seated : Seated s) (slot : s.slot k = ⟨some i, some d⟩)
    (alone : ∀ j, j ≠ k → (s.slot j).release = none) : t.line i = releasedLine (s.line i) d
      (if homeCount (returning s 0) (returning s 1) = 0 then s.callers.nextNumber
        else homeCount (returning s 0) (returning s 1) + s.callers.queue.length + 1) := by
  have fresh (m : CallerSlot) : s.slot m ≠ ⟨some i, none⟩ := notHome seated slot
  have notQueued : i ∉ a.callers.queue := by rw [h.home.queue]; exact seated.unqueued i k (by rw [slot])
  have lineB : b.line i = s.line i := by
    rw [h.requeued.others i notQueued (fun e => fresh 0 (returning_eq_some.mp e)) (fun e => fresh 1 (returning_eq_some.mp e)),
      h.home_stays fresh]
  rw [← h.home.next, ← h.home.queue, ← h.requeued.next]
  rcases slot_cases k with rfl | rfl
  · have elsewhere (e : Disposition) : c.slot 1 ≠ ⟨some i, some e⟩ := fun r => by
      cases seated.apart i 1 0 (by rw [h.going_one.mp r]) (by rw [slot])
    rw [h.second.others i elsewhere, h.first.line i d (h.going.mpr slot), lineB]
  · have none_first (m : PhoneLine) (e : Disposition) : b.slot 0 ≠ ⟨some m, some e⟩ := fun r =>
      quiet_of_none (alone 0 (by simp)) m e (h.going.mp r)
    rw [h.second.line i d (h.going_one.mpr slot), h.first.others i fun e => none_first i e, (h.first.still fun m => none_first m .hold).2, lineB]

theorem Emptying.line_queued (h : Emptying s a b c t) (seated : Seated s) (queued : i ∈ s.callers.queue) :
    t.line i = numberedBehind (homeCount (returning s 0) (returning s 1)) s i := by
  have stays {m : PhoneLine} (hm : m ∈ s.callers.queue) : a.line m = s.line m := h.home_stays fun k => notSeated seated hm
  have same : smaller a.callers.lines a.callers.queue i = smaller s.callers.lines s.callers.queue i := by
    have key {m : PhoneLine} (hm : m ∈ s.callers.queue) : a.callers.lines[m] = s.callers.lines[m] := stays hm
    unfold smaller
    rw [h.home.queue]
    exact List.countP_congr fun m hm => by rw [key hm, key queued]
  rw [h.line_stays fun k d => notSeated seated queued, h.requeued.queued i (by rw [h.home.queue]; exact queued), numberedBehind, numberedBehind,
    stays queued, same]

theorem Emptying.members (h : Emptying s a b c t) (i : PhoneLine) :
    i ∈ t.callers.queue ↔ i ∈ s.callers.queue ∨ ∃ k, s.slot k = ⟨some i, none⟩ ∨ s.slot k = ⟨some i, some .hold⟩ := by
  rw [h.second.members, h.first.members, h.requeued.members, h.home.queue, h.going_one, h.going, returning_eq_some, returning_eq_some]
  constructor
  · rintro (((queued | zero | one) | zero) | one)
    · exact .inl queued
    · exact .inr ⟨0, .inl zero⟩
    · exact .inr ⟨1, .inl one⟩
    · exact .inr ⟨0, .inr zero⟩
    · exact .inr ⟨1, .inr one⟩
  · rintro (queued | ⟨k, held | hold⟩)
    · exact .inl (.inl (.inl queued))
    · rcases slot_cases k with rfl | rfl
      · exact .inl (.inl (.inr (.inl held)))
      · exact .inl (.inl (.inr (.inr held)))
    · rcases slot_cases k with rfl | rfl
      · exact .inl (.inr hold)
      · exact .inr hold

end Stages

-- LINE_OFF_AIR (R116)

/-- LINE_OFF_AIR, raised as both slots are emptied, stays pending. -/
theorem pending_emptySlots {x : OffAirCause} (h : Pending .S (.lineOffAir i k x) (emptied cause s)) :
    Pending .S (.lineOffAir i k x) (emptySlots cause s) := by
  rw [emptySlots_eq]
  split
  · exact h
  · exact ((Raises.refl [0x33] _).raise .S _ (by simp [Event.number])).pending h (by simp [Event.number])

/-- LINE_OFF_AIR tells of the release that ends last, else of the line that comes home last. -/
theorem told_emptySlots (kept : LinesKept s) (numbered : QueueNumbered s) :
    (∀ i d, s.slot 1 = ⟨some i, some d⟩ → Pending .S (.lineOffAir i 1 (releaseCause cause)) (emptySlots cause s)) ∧
    (∀ i d, (s.slot 1).release = none → s.slot 0 = ⟨some i, some d⟩ → Pending .S (.lineOffAir i 0 (releaseCause cause)) (emptySlots cause s)) ∧
    ((s.slot 0).release = none → (s.slot 1).release = none → ∀ i, (s.slot 1).occupant = some i →
      Pending .S (.lineOffAir i 1 cause) (emptySlots cause s)) ∧
    ((s.slot 0).release = none → (s.slot 1).release = none → ∀ i, (s.slot 1).occupant = none → (s.slot 0).occupant = some i →
      Pending .S (.lineOffAir i 0 cause) (emptySlots cause s)) := by
  obtain ⟨a, b, c, stages, isB, isC, isT⟩ := emptied_stages cause kept numbered
  have quietT (h : (s.slot 1).release = none) : emptied cause s = c := by
    rw [isT, cutRelease_other fun i d e => quiet_of_none h i d (stages.going_one.mp e)]
  have quietC (h : (s.slot 0).release = none) : c = b := by
    rw [isC, cutRelease_other fun i d e => quiet_of_none h i d (stages.going.mp e)]
  have home {e : Event} (h : Pending .S e (broughtHome cause s)) : Pending .S e b := by
    rw [isB]
    exact (silent (requeueReturned_touches _ _) : Raises [] _ _).pending h (by simp)
  refine ⟨fun i d slot => pending_emptySlots ?_, fun i d none_one slot => pending_emptySlots ?_,
    fun none_zero none_one i slot => pending_emptySlots ?_, fun none_zero none_one i empty slot => pending_emptySlots ?_⟩
  · rw [isT]
    exact cutRelease_told (stages.going_one.mpr slot)
  · rw [quietT none_one, isC]
    exact cutRelease_told (stages.going.mpr slot)
  · rw [quietT none_one, quietC none_zero]
    exact home (toldHome_second (slot_of_parts slot none_one))
  · rw [quietT none_one, quietC none_zero]
    exact home (toldHome_first (slot_of_parts slot none_zero) (by rw [slot_of_parts empty none_one]; simp))

/-- Both slots emptied put the lines back as R115, R117 and R118 give it. -/
theorem linesReturned_emptySlots (cause : OffAirCause) (kept : LinesKept s) (numbered : QueueNumbered s) (idle : SlotsIdle s) :
    Claims.linesReturned cause s (emptySlots cause s) := by
  obtain ⟨a, b, c, stages, -⟩ := emptied_stages cause kept numbered
  have seated := seated_of_kept kept
  have callers := emptySlots_callers cause s
  have line (i : PhoneLine) : (emptySlots cause s).line i = (emptied cause s).line i := by simp only [State.line, callers]
  have slot (j : CallerSlot) : (emptySlots cause s).slot j = (emptied cause s).slot j := by simp only [State.slot, callers]
  obtain ⟨told1, told0, toldHome1, toldHome0⟩ := told_emptySlots (cause := cause) kept numbered
  unfold Claims.linesReturned
  intro back n next letGo told
  have count : homeCount (returning s 0) (returning s 1) = n := homeCount_eq s
  have letGo_eq : letGo = releaseCause cause := by cases cause <;> rfl
  refine ⟨fun k => (slot k).trans (stages.slots_empty idle k), fun k i held => (line i).trans (stages.line_home seated held),
    fun k i d going alone => ?_, fun i queued => ?_, callers ▸ stages.sound.once, callers ▸ stages.sound.ordered,
    fun i => callers ▸ stages.members i, fun moved => ?_, fun i occupant releasing => ?_, fun i none_one occupant releasing => ?_,
    fun i none_releasing => toldHome1 (none_releasing 0) (none_releasing 1) i,
    fun i none_releasing => toldHome0 (none_releasing 0) (none_releasing 1) i⟩
  · rw [line, stages.line_released seated going alone, count]
    cases d <;> rfl
  · rw [line, stages.line_queued seated queued, count]
    rfl
  · rw [callers] at moved
    rw [emptySlots_eq, if_neg moved]
    exact DelayReads.raised_pending .S _ _
  · obtain ⟨d, hd⟩ := Option.isSome_iff_exists.mp releasing
    rw [letGo_eq]
    exact told1 i d (slot_of_parts occupant hd)
  · obtain ⟨d, hd⟩ := Option.isSome_iff_exists.mp releasing
    rw [letGo_eq]
    exact told0 i d none_one (slot_of_parts occupant hd)

end Sys2Proof.ReturnedLines
end

section
/-! R202: AIR STOP, with each block's part (R43, R96, R118, R143, R164). -/

namespace Sys2Proof.LeavingTheAir

-- one thread: the check compiles under a limit on the process
set_option Elab.async false

open Sys2Proof.Machine Sys2Proof.Safety Sys2Proof.Laws Sys2Proof.TakenCommands Sys2Proof.EventKeeping Sys2Proof.ReturnedLines
open Sys2Proof.AlertsFinishing Sys2Proof.CallerSlots Sys2Proof.DelayReads Sys2Proof.SoftReset Sys2Proof.EngineNotices

variable {s t u : State} {k : AlertSlot} {cause : OffAirCause}

-- the Cue Engine out of the air (R96)

/-- No record takes the air while the device is not ON_AIR (R130). -/
theorem windowTaker_offAir (off : s.onAir = false) (c : Check) : windowTaker c s = none := by
  simp [windowTaker, off]

theorem windowCheck_offAir (off : s.onAir = false) (c : Check) : windowCheck c s = s := by
  simp only [windowCheck, windowTaker_offAir off]

/-- Out of the air the engine settles with no takeover: only its state, its marks and the Alert Controller's view of it change. -/
structure Settled (s t : State) : Prop where
  parts : Touches [.cue, .alerts] s t
  entries : t.cue.entries = s.cue.entries
  records : ∀ k, t.record k = s.record k

theorem enterEngine_offAir (off : s.onAir = false) (was st : EngineState) : Settled s (enterEngine was st s) := by
  have cue (c : Cue) : Touches [.cue, .alerts] s { s with cue := c } := (Touches.refl _ s).and (cue_touches c s)
  have noted (c : Cue) (a : Alerts) : Touches [.cue, .alerts] s { s with cue := c, alerts := a } :=
    (cue c).and (records_touches a { s with cue := c })
  unfold enterEngine
  dsimp only
  split
  · exact ⟨cue _, rfl, fun _ => rfl⟩
  · have none_takes (c : Cue) (a : Alerts) : windowCheck .ordinary { s with cue := c, alerts := a } = { s with cue := c, alerts := a } :=
      windowCheck_offAir (s := { s with cue := c, alerts := a }) off _
    rw [none_takes]
    exact ⟨noted _ _, rfl, fun _ => rfl⟩

theorem settleFrom_offAir (off : s.onAir = false) (was : EngineState) : Settled s (settleFrom was s) := by
  unfold settleFrom
  split
  · exact ⟨Touches.refl _ s, rfl, fun _ => rfl⟩
  · dsimp only
    split
    · exact enterEngine_offAir off _ _
    · have settled := enterEngine_offAir (s := { s with cue := { s.cue with goPending := false } }) off was (followList s.cue.entries)
      exact ⟨((Touches.refl _ s).and (cue_touches _ s)).trans settled.parts, settled.entries, settled.records⟩

/-- A PLAYING entry set back to its start (R86). -/
theorem setBack_eq (e : Entry) : e.setBack = { e with
    state := .waiting, ending := false, successorStarted := false, played := 0, resume := none, voice := none, released := false } := rfl

/-- What the AIR STOP notice makes of the engine, the device no longer ON_AIR. -/
structure CueStopped (s t : State) : Prop where
  parts : Touches [.mix, .clips, .cue, .alerts] s t
  records : ∀ k, t.record k = s.record k
  entries : s.cue.state = .playing → t.cue.entries = s.cue.entries.map fun e => if e.state = .playing then e.setBack else e

theorem airStopCue_stopped (off : s.onAir = false) : CueStopped s (airStopCue s) := by
  have same_onAir {t : State} (h : Touches [.mix, .clips, .cue] s t) : t.onAir = false := by
    have dev : t.dev = s.dev := h .dev (by decide)
    rw [State.onAir, dev]
    exact off
  unfold airStopCue
  split
  next filling =>
    unfold fillEnd
    split
    · have faded : Touches [.mix, .clips, .cue] s (fadeFill s) := by
        rw [FillEnds.fadeFill_eq]
        exact (FillEnds.fillReleased_touches s).and (cue_touches _ _)
      have settled := settleFrom_offAir (same_onAir faded) .filling
      have alerts : (fadeFill s).alerts = s.alerts := faded .alerts (by decide)
      refine ⟨((Touches.refl _ s).and faded).and settled.parts, fun k => ?_, fun playing => by rw [filling] at playing; cases playing⟩
      rw [settled.records, State.record, alerts, ← State.record]
    · next held _ => rw [filling] at held; cases held
    · exact ⟨Touches.refl _ s, fun _ => rfl, fun playing => by rw [filling] at playing; cases playing⟩
  next playing =>
    have stopped := CueList.stopEntries_parts s
    have stops : stopCue s = settleFrom .playing (stopEntries s) := by simp only [stopCue, playing]
    have settled := settleFrom_offAir (same_onAir stopped) .playing
    have alerts : (stopEntries s).alerts = s.alerts := stopped .alerts (by decide)
    rw [stops]
    refine ⟨((Touches.refl _ s).and stopped).and settled.parts, fun k => ?_, fun _ => ?_⟩
    · rw [settled.records, State.record, alerts, ← State.record]
    · refine settled.entries.trans (List.map_congr_left fun e _ => ?_)
      by_cases plays : e.state = .playing <;> simp [Entry.playing, plays]
  next _ other =>
    exact ⟨Touches.refl _ s, fun _ => rfl, fun playing => absurd playing other⟩

-- the slots, whatever the queue holds (R118)

theorem slot_of_slots {t : State} (h : t.callers.slots = s.callers.slots) (k : CallerSlot) : t.slot k = s.slot k := by
  simp only [State.slot, h]

theorem joinQueue_slots (i : PhoneLine) (s : State) : (joinQueue i s).callers.slots = s.callers.slots := by
  unfold joinQueue placeLine giveNumber
  dsimp only
  split <;> rfl

theorem requeueReturned_slots (back : List PhoneLine) (s : State) : (requeueReturned back s).callers.slots = s.callers.slots := by
  have places (is : List PhoneLine) (t : State) : (is.foldl (fun t i => placeLine i t) t).callers.slots = t.callers.slots := by
    induction is generalizing t with
    | nil => rfl
    | cons i is ih => exact ih _
  have numbers (xs : List (PhoneLine × Nat)) (t : State) : (xs.foldl (fun (t : State) x =>
      t.setLine x.1 { t.line x.1 with number := some (x.2 + 1) }) t).callers.slots = t.callers.slots := by
    induction xs generalizing t with
    | nil => rfl
    | cons x xs ih => exact ih _
  unfold requeueReturned
  split
  · rfl
  · exact (places _ _).trans (numbers _ _)

theorem settleRelease_slot (cause : OffAirCause) (k : CallerSlot) (s : State) (j : CallerSlot) : (settleRelease cause k s).slot j =
    if j = k ∧ (s.slot k).occupant ≠ none ∧ (s.slot k).release ≠ none then ⟨none, none⟩ else s.slot j := by
  have emptied : (s.setSlot k ⟨none, none⟩).slot j = if j = k then ⟨none, none⟩ else s.slot j := slot_setSlot k ⟨none, none⟩ s j
  unfold settleRelease
  split
  next i d slot =>
    have both : (j = k ∧ (s.slot k).occupant ≠ none ∧ (s.slot k).release ≠ none) ↔ j = k := by rw [slot]; simp
    simp only [both]
    rw [← emptied]
    cases d with
    | drop => exact slot_of_slots rfl j
    | hold => exact slot_of_slots (joinQueue_slots i _) j
  next other =>
    refine (if_neg ?_).symm
    rintro ⟨-, occupied, released⟩
    obtain ⟨i, hi⟩ := Option.ne_none_iff_exists'.mp occupied
    obtain ⟨d, hd⟩ := Option.ne_none_iff_exists'.mp released
    exact other i d (CallerReleases.slot_of_parts hi hd)

theorem cutRelease_slot (cause : OffAirCause) (k : CallerSlot) (s : State) (j : CallerSlot) : (cutRelease cause k s).slot j =
    if j = k ∧ (s.slot k).occupant ≠ none ∧ (s.slot k).release ≠ none then ⟨none, none⟩ else s.slot j := by
  by_cases releasing : ∃ i d, s.slot k = ⟨some i, some d⟩
  · obtain ⟨i, d, slot⟩ := releasing
    have callers : (cut (slotContributor k) s).callers = s.callers := cut_touches _ s .callers (by decide)
    rw [cutRelease_ending slot, settleRelease_slot]
    have same (m : CallerSlot) : (cut (slotContributor k) s).slot m = s.slot m := by simp only [State.slot, callers]
    rw [same, same]
  · rw [cutRelease_other fun i d h => releasing ⟨i, d, h⟩, if_neg]
    rintro ⟨-, occupied, released⟩
    obtain ⟨i, hi⟩ := Option.ne_none_iff_exists'.mp occupied
    obtain ⟨d, hd⟩ := Option.ne_none_iff_exists'.mp released
    exact releasing ⟨i, d, CallerReleases.slot_of_parts hi hd⟩

/-- Both slots emptied hold no line, whatever the queue. -/
theorem emptySlots_unoccupied (cause : OffAirCause) (s : State) (k : CallerSlot) : ((emptySlots cause s).slot k).occupant = none := by
  have home := (broughtHome_lines cause s).slots
  let b := requeueReturned s.linesToReturn (broughtHome cause s)
  have slotB (j : CallerSlot) : b.slot j = if (s.slot j).release = none then ⟨none, none⟩ else s.slot j :=
    (slot_of_slots (requeueReturned_slots _ _) j).trans (home j)
  have loose (j : CallerSlot) : (b.slot j).occupant = none ∨ (b.slot j).occupant ≠ none ∧ (b.slot j).release ≠ none := by
    rw [slotB]
    split
    next => exact .inl rfl
    next releasing => exact (em _).imp_right fun h => ⟨h, releasing⟩
  have same : (emptySlots cause s).slot k = (emptied cause s).slot k := by simp only [State.slot, emptySlots_callers]
  have slots : (emptied cause s).slot k = _ := cutRelease_slot cause 1 (cutRelease cause 0 b) k
  have one : (cutRelease cause 0 b).slot 1 = b.slot 1 := by rw [cutRelease_slot, if_neg (by simp)]
  have zero : (cutRelease cause 0 b).slot 0 = _ := cutRelease_slot cause 0 b 0
  rw [same, slots, one]
  rcases slot_cases k with rfl | rfl
  · rw [if_neg (by simp), zero]
    rcases loose 0 with empty | going
    · rw [if_neg fun h => h.2.1 empty]
      exact empty
    · rw [if_pos ⟨rfl, going⟩]
  · rcases loose 1 with empty | going
    · rw [if_neg fun h => h.2.1 empty, one]
      exact empty
    · rw [if_pos ⟨rfl, going⟩]

-- the Alert Controller (R143)

/-- The record ends at AIR STOP (R143). -/
def ends (r : AlertRecord) : Bool :=
  decide (r.cls = .test ∨ r.cls = .advisory) && decide (r.phase = .pending ∨ r.phase = .receiving)

theorem mandatory_eq (c : AlertClass) : c.mandatory = decide (c = .warning ∨ c = .immediate) := by cases c <;> rfl

theorem ends_eq (r : AlertRecord) : (!r.cls.mandatory && (decide (r.phase = .receiving) || decide (r.phase = .pending))) = ends r := by
  have optional : (!r.cls.mandatory) = decide (r.cls = .test ∨ r.cls = .advisory) := by cases r.cls <;> rfl
  have waits : (decide (r.phase = .receiving) || decide (r.phase = .pending)) = decide (r.phase = .pending ∨ r.phase = .receiving) := by
    cases r.phase <;> rfl
  rw [ends, optional, waits]

/-- What the cancel of the records that AIR STOP ends keeps. -/
structure Cancelled (s t : State) : Prop where
  parts : Touches [.mem, .clips, .alerts, .cue, .links] s t
  cells : t.mem.cells = s.mem.cells
  entries : t.cue.entries = s.cue.entries
  raises : Raises [0x40] s t

theorem Cancelled.refl (s : State) : Cancelled s s := ⟨Touches.refl _ s, rfl, rfl, Raises.refl _ s⟩

theorem Cancelled.trans (h : Cancelled s t) (k : Cancelled t u) : Cancelled s u :=
  ⟨h.parts.trans k.parts, k.cells.trans h.cells, k.entries.trans h.entries, h.raises.trans k.raises⟩

theorem freeAll_cells (c : ClipRef) (ns : List Nat) : ∀ m : SampleMemory, (m.freeAll c ns).cells = m.cells := by
  induction ns with
  | nil => exact fun _ => rfl
  | cons n ns ih =>
    intro m
    refine (ih _).trans ?_
    unfold SampleMemory.freeOne
    split <;> rfl

theorem discardAlertClip_cells (k : AlertSlot) (s : State) : (discardAlertClip k s).mem.cells = s.mem.cells := by
  unfold discardAlertClip
  dsimp only
  have emptied (t : State) : (emptyClip (.alert k) t).mem.cells = t.mem.cells := freeAll_cells _ _ _
  rw [emptied]
  split
  · split
    · split <;> rfl
    · split <;> rfl
  · split <;> rfl

theorem finishedAs_cancelled {r : AlertRecord} (o : AlertOutcome) : Cancelled s (finishedAs k r o s) := by
  have alerted (a : Alerts) (c : Cue) : Touches [.mem, .clips, .alerts, .cue, .links] s { s with alerts := a, cue := c } :=
    ((Touches.refl _ s).and (records_touches a s)).and (cue_touches c _)
  refine ⟨(alerted _ _).and (raise_touches _ _ _), rfl, rfl, ?_⟩
  have quiet (a : Alerts) (c : Cue) : Raises [0x40] s { s with alerts := a, cue := c } := fun _ _ hp _ => hp
  exact (quiet _ _).raise _ _ (by simp [Event.number])

/-- A waiting record cancelled. -/
theorem cancelRecord_cancelled {r : AlertRecord} (record : s.record k = some r) (waits : r.phase = .receiving ∨ r.phase = .pending) :
    Cancelled s (cancelRecord k s) ∧ ∀ j, (cancelRecord k s).record j = if j = k then none else s.record j := by
  have parts := discardAlertClip_touches k s
  have alerts : (discardAlertClip k s).alerts = s.alerts := parts .alerts (by decide)
  have cue : (discardAlertClip k s).cue = s.cue := parts .cue (by decide)
  have record' (j : AlertSlot) : (discardAlertClip k s).record j = s.record j := by simp only [State.record, alerts]
  have discarded : Cancelled s (discardAlertClip k s) :=
    ⟨(Touches.refl _ s).and parts, discardAlertClip_cells k s, by rw [cue], silent parts⟩
  rw [cancelRecord_waiting record waits, finish_eq ((record' k).trans record)]
  refine ⟨discarded.trans (finishedAs_cancelled _), fun j => ?_⟩
  have out : (finishedAs k r .cancelled (discardAlertClip k s)).record j = if j = k then none else (discardAlertClip k s).record j :=
    record_set_none k j (discardAlertClip k s) rfl
  rw [out, record']

/-- AIR STOP ends the record of a slot, when it is one that it ends. -/
def endOptional (k : AlertSlot) (s : State) : State :=
  match s.record k with
  | some r => if ends r then cancelRecord k s else s
  | none => s

theorem airStopAlerts_eq (s : State) : airStopAlerts s = alertSlots.foldl (fun t k => endOptional k t) s := by
  have one : (fun (t : State) k => endOptional k t) = fun t k => match t.record k with
      | some r =>
        if !r.cls.mandatory && (decide (r.phase = .receiving) || decide (r.phase = .pending)) then cancelRecord k t else t
      | none => t := by
    funext t k
    unfold endOptional
    cases t.record k with
    | none => rfl
    | some r =>
      dsimp only
      rw [ends_eq]
  rw [one]
  rfl

theorem endOptional_cancelled (k : AlertSlot) (t : State) : Cancelled t (endOptional k t) ∧
    ∀ j, (endOptional k t).record j = if j = k then (t.record k).filter fun r => !ends r else t.record j := by
  have unchanged (kept : (t.record k).filter (fun r => !ends r) = t.record k) (j : AlertSlot) :
      t.record j = if j = k then (t.record k).filter fun r => !ends r else t.record j := by
    rw [kept]
    split
    next same => rw [same]
    next => rfl
  unfold endOptional
  cases record : t.record k with
  | none => exact ⟨Cancelled.refl t, fun j => (unchanged (by rw [record]; rfl) j).trans (by rw [record])⟩
  | some r =>
    dsimp only
    by_cases ended : ends r = true
    · have waits : r.phase = .receiving ∨ r.phase = .pending := by
        simp only [ends, Bool.and_eq_true, decide_eq_true_eq] at ended
        exact ended.2.symm
      obtain ⟨cancelled, records⟩ := cancelRecord_cancelled record waits
      rw [if_pos ended]
      refine ⟨cancelled, fun j => (records j).trans ?_⟩
      simp [Option.filter, ended]
    · rw [if_neg ended]
      exact ⟨Cancelled.refl t, fun j => (unchanged (by rw [record]; simp [Option.filter, ended]) j).trans (by rw [record])⟩

theorem airStopAlerts_cancelled (s : State) : Cancelled s (airStopAlerts s) ∧
    ∀ k, (airStopAlerts s).record k = (s.record k).filter fun r => !ends r := by
  have all (ks : List AlertSlot) : ks.Nodup → ∀ t : State, Cancelled t (ks.foldl (fun t k => endOptional k t) t) ∧
      ∀ j, (ks.foldl (fun t k => endOptional k t) t).record j = if j ∈ ks then (t.record j).filter fun r => !ends r else t.record j := by
    induction ks with
    | nil => exact fun _ t => ⟨Cancelled.refl t, fun j => by simp⟩
    | cons k ks ih =>
      intro nodup t
      obtain ⟨fresh, rest⟩ := List.nodup_cons.mp nodup
      obtain ⟨first, records⟩ := endOptional_cancelled k t
      obtain ⟨others, records'⟩ := ih rest (endOptional k t)
      refine ⟨first.trans others, fun j => (records' j).trans ?_⟩
      rw [records j]
      by_cases same : j = k
      · subst same
        simp [fresh]
      · simp [same]
  obtain ⟨cancelled, records⟩ := all alertSlots (by decide) s
  rw [airStopAlerts_eq]
  have every : ∀ k : AlertSlot, k ∈ alertSlots := by decide
  exact ⟨cancelled, fun k => (records k).trans (if_pos (every k))⟩

-- the Delay Unit and the Air Supervisor (R43, R164)

theorem stopDelay_delay (off : s.onAir = false) : (stopDelay s).delay =
    { s.delay with readPos := none, excess := 0, alertSegs := 0, dump := none, fed := false, state := .off } := by
  let u : State := { s with delay := { s.delay with readPos := none, excess := 0, alertSegs := 0, dump := none, fed := false } }
  have state : delayStateOf u.onAir u.delay.excess u.delay.targetSamples = .off := by
    have off' : u.onAir = false := off
    simp [delayStateOf, off']
  have worked : stopDelay s = workOutDelay u := rfl
  rw [worked, workOutDelay_of state]
  dsimp only
  split <;> rfl

theorem workOutDelay_raises (s : State) : Raises [0x22] s (workOutDelay s) := by
  unfold workOutDelay
  dsimp only
  split
  · exact fun _ _ hp _ => hp
  · have worked (x : Delay) : Raises [0x22] s { s with delay := x } := fun _ _ hp _ => hp
    have told (t : State) (f : Reports → Reports) : Raises [0x22] t (t.report f) := fun _ _ hp _ => hp
    exact ((worked _).raise .C _ (by simp [Event.number])).trans (told _ _)

theorem stopDelay_raises (s : State) : Raises [0x22] s (stopDelay s) := by
  have stopped (x : Delay) : Raises [0x22] s { s with delay := x } := fun _ _ hp _ => hp
  exact (stopped _).trans (workOutDelay_raises _)

theorem endAirMode_sup (s : State) : (endAirMode s).sup = { s.sup with mode := none, remembered := none, counter := 0 } := by
  unfold endAirMode
  dsimp only
  split <;> rfl

theorem endAirMode_raises (s : State) : Raises [0x25] s (endAirMode s) := by
  have told (x : Supervisor) : Raises [0x25] s (reportFallback { s with sup := x }) := fun _ _ hp _ => hp
  unfold endAirMode
  dsimp only
  split
  · exact (told _).raise _ _ (by simp [Event.number])
  · exact told _

-- AIR STOP

/-- The device, no longer ON_AIR. -/
def standing (s : State) : State := { s with dev := { s.dev with state := .standby } }

/-- AIR STOP once the engine and the slots have taken the notice. -/
def slotsLeft (s : State) : State := emptySlots .airStop (airStopCue (standing s))

theorem airStop_eq (s : State) : airStop s =
    (stopDelay (endAirMode (airStopAlerts (slotsLeft s)))).report fun r => { r with onAir := false } := rfl

theorem cueStopped (s : State) : CueStopped (standing s) (airStopCue (standing s)) := airStopCue_stopped rfl

theorem slotsLeft_parts (s : State) : Touches [.mix, .clips, .cue, .alerts, .callers, .panel, .links] (standing s) (slotsLeft s) :=
  ((Touches.refl _ _).and (cueStopped s).parts).and (emptySlots_touches .airStop _)

/-- What AIR STOP does once both slots are empty. -/
theorem airStop_rest (s : State) : Touches [.mem, .clips, .alerts, .cue, .links, .sup, .panel, .delay] (slotsLeft s) (airStop s) := by
  rw [airStop_eq]
  exact ((((Touches.refl _ _).and (airStopAlerts_cancelled _).1.parts).and (endAirMode_touches _)).and (stopDelay_touches _)).and
    (report_touches _ _)

theorem airStop_rest_raises (s : State) : Raises [0x22, 0x25, 0x40] (slotsLeft s) (airStop s) := by
  rw [airStop_eq]
  have told (t : State) : Raises [0x22, 0x25, 0x40] t (t.report fun r => { r with onAir := false }) := fun _ _ hp _ => hp
  exact ((((Raises.refl _ _).and (airStopAlerts_cancelled _).1.raises).and (endAirMode_raises _)).and (stopDelay_raises _)).trans (told _)

theorem airStop_callers (s : State) : (airStop s).callers = (slotsLeft s).callers := airStop_rest s .callers (by decide)

theorem report_delay (f : Reports → Reports) (s : State) : (s.report f).delay = s.delay := rfl

theorem report_reports (f : Reports → Reports) (s : State) : (s.report f).panel.reports = f s.panel.reports := rfl

/-- What AIR STOP leaves (R202). -/
structure AirLeft (s t : State) : Prop where
  dev : t.dev = { s.dev with state := .standby }
  delay : t.delay = { s.delay with readPos := none, excess := 0, alertSegs := 0, dump := none, fed := false, state := .off }
  sup : t.sup = { s.sup with mode := none, remembered := none, counter := 0 }
  slots : ∀ k, (t.slot k).occupant = none
  records : ∀ k, t.record k = (s.record k).filter fun r => !ends r
  entries : s.cue.state = .playing → t.cue.entries = s.cue.entries.map fun e => if e.state = .playing then e.setBack else e
  lamp : t.panel.reports.onAir = false
  cells : t.mem.cells = s.mem.cells
  tx : t.tx = s.tx
  prof : t.prof = s.prof
  inputs : t.inputs = s.inputs
  formed : t.formed = s.formed

/-- The answer leaves it so. -/
theorem AirLeft.answered (h : AirLeft (frameComplete .C s) t) : AirLeft s (respond .C 0x31 .ok .none t) :=
  ⟨h.dev, h.delay, h.sup, h.slots, h.records, h.entries, h.lamp, h.cells, h.tx, h.prof, h.inputs, h.formed⟩

theorem airStop_left (s : State) : AirLeft s (airStop s) := by
  have before := slotsLeft_parts s
  have rest := airStop_rest s
  obtain ⟨cancelled, ended⟩ := airStopAlerts_cancelled (slotsLeft s)
  have moded : Touches [.sup, .panel, .links] (airStopAlerts (slotsLeft s)) (endAirMode (airStopAlerts (slotsLeft s))) := endAirMode_touches _
  have stopped : Touches [.delay, .links, .panel] (endAirMode (airStopAlerts (slotsLeft s))) (stopDelay (endAirMode (airStopAlerts (slotsLeft s)))) :=
    stopDelay_touches _
  have afterMode : Touches [.delay, .links, .panel] (endAirMode (airStopAlerts (slotsLeft s))) (airStop s) := by
    rw [airStop_eq]
    exact stopped.and (report_touches _ _)
  have afterAlerts : Touches [.sup, .panel, .links, .delay] (airStopAlerts (slotsLeft s)) (airStop s) :=
    ((Touches.refl _ _).and moded).and afterMode
  have emptied := emptySlots_touches .airStop (airStopCue (standing s))
  have delay : (endAirMode (airStopAlerts (slotsLeft s))).delay = s.delay := by
    have a : (endAirMode (airStopAlerts (slotsLeft s))).delay = (airStopAlerts (slotsLeft s)).delay := moded .delay (by decide)
    have b : (airStopAlerts (slotsLeft s)).delay = (slotsLeft s).delay := cancelled.parts .delay (by decide)
    have c : (slotsLeft s).delay = s.delay := before .delay (by decide)
    rw [a, b, c]
  have off : (endAirMode (airStopAlerts (slotsLeft s))).onAir = false := by
    have a : (endAirMode (airStopAlerts (slotsLeft s))).dev = (airStopAlerts (slotsLeft s)).dev := moded .dev (by decide)
    have b : (airStopAlerts (slotsLeft s)).dev = (slotsLeft s).dev := cancelled.parts .dev (by decide)
    have c : (slotsLeft s).dev = (standing s).dev := before .dev (by decide)
    rw [State.onAir, a, b, c]
    rfl
  refine ⟨?_, ?_, ?_, fun k => ?_, fun k => ?_, fun playing => ?_, ?_, ?_, ?_, ?_, ?_, ?_⟩
  · exact Eq.trans (rest .dev (by decide)) (before .dev (by decide))
  · rw [airStop_eq, report_delay, stopDelay_delay off, delay]
  · have a : (airStop s).sup = (endAirMode (airStopAlerts (slotsLeft s))).sup := afterMode .sup (by decide)
    have b : (airStopAlerts (slotsLeft s)).sup = (slotsLeft s).sup := cancelled.parts .sup (by decide)
    have c : (slotsLeft s).sup = s.sup := before .sup (by decide)
    rw [a, endAirMode_sup, b, c]
  · have same : (airStop s).slot k = (slotsLeft s).slot k := by simp only [State.slot, airStop_callers]
    rw [same]
    exact emptySlots_unoccupied _ _ k
  · have a : (airStop s).alerts = (airStopAlerts (slotsLeft s)).alerts := afterAlerts .alerts (by decide)
    have b : (slotsLeft s).alerts = (airStopCue (standing s)).alerts := emptied .alerts (by decide)
    rw [State.record, a, ← State.record, ended, State.record, b, ← State.record, (cueStopped s).records]
    rfl
  · have a : (airStop s).cue = (airStopAlerts (slotsLeft s)).cue := afterAlerts .cue (by decide)
    have b : (slotsLeft s).cue = (airStopCue (standing s)).cue := emptied .cue (by decide)
    rw [a, cancelled.entries, b, (cueStopped s).entries playing]
    rfl
  · rw [airStop_eq, report_reports]
  · have a : (airStop s).mem = (airStopAlerts (slotsLeft s)).mem := afterAlerts .mem (by decide)
    have b : (slotsLeft s).mem = s.mem := before .mem (by decide)
    rw [a, cancelled.cells, b]
  · exact Eq.trans (rest .tx (by decide)) (before .tx (by decide))
  · exact Eq.trans (rest .prof (by decide)) (before .prof (by decide))
  · exact Eq.trans (rest .inputs (by decide)) (before .inputs (by decide))
  · exact Eq.trans (rest .formed (by decide)) (before .formed (by decide))

/-- The record forbids AIR STOP (R202). -/
def forbids (r : AlertRecord) : Bool := decide (r.phase = .airing) ||
  (decide (r.cls = .warning ∨ r.cls = .immediate) && decide (r.phase = .pending ∨ r.phase = .receiving))

theorem airStopRefused_iff (s : State) : airStopRefused s = true ↔
    0 < s.delay.alertSegs ∨ ∃ k r, s.record k = some r ∧ forbids r = true := by
  have airing : s.airing.isSome = true ↔ ∃ k r, s.record k = some r ∧ r.phase = .airing := by
    rw [← not_iff_not, Bool.not_eq_true, Option.isSome_eq_false_iff, Option.isNone_iff_eq_none, airing_isNone_iff]
    simp
  have slots : (alertSlots.any fun k => match s.record k with
      | some r => r.cls.mandatory && (decide (r.phase = .pending) || decide (r.phase = .receiving))
      | none => false) = true ↔ ∃ k r, s.record k = some r ∧
        (decide (r.cls = .warning ∨ r.cls = .immediate) && decide (r.phase = .pending ∨ r.phase = .receiving)) = true := by
    have every : ∀ k : AlertSlot, k ∈ alertSlots := by decide
    rw [List.any_eq_true]
    refine exists_congr fun k => ?_
    cases s.record k with
    | none => simp
    | some r => simp [every k, mandatory_eq]
  have both : (∃ k r, s.record k = some r ∧ forbids r = true) ↔ (∃ k r, s.record k = some r ∧ r.phase = .airing) ∨
      ∃ k r, s.record k = some r ∧ (decide (r.cls = .warning ∨ r.cls = .immediate) && decide (r.phase = .pending ∨ r.phase = .receiving)) = true := by
    simp only [forbids, Bool.or_eq_true, decide_eq_true_eq, and_or_left, exists_or]
  unfold airStopRefused
  rw [Bool.or_eq_true, Bool.or_eq_true, decide_eq_true_eq, both, ← slots, ← airing]
  tauto

theorem airStop_checks (h : Takes .C s) (onAir : s.dev.state = .onAir) : failedCheck .C 0x31 [] (frameComplete .C s) = none := by
  refine checks_taken ⟨0x31, [.C], false, true, true, true, .exactly 0⟩ rfl rfl ?_ rfl
  have given : s.sup.mode.isSome = true := by
    obtain ⟨-, standby | ⟨-, given⟩, -⟩ := h
    · rw [onAir] at standby
      cases standby
    · exact given
  cases mode : s.sup.mode with
  | none => simp [mode] at given
  | some m => cases m <;> simp [CommandRow.taken, onAir, mode]

theorem airStopOwner_refused (h : airStopRefused s = true) : airStopOwner s = .refuse .notNow := if_pos h

theorem airStopOwner_taken (h : airStopRefused s = false) : airStopOwner s = .ok (airStop s) .none := by
  rw [airStopOwner, h]
  rfl

theorem conclude_taken (l : Link) (code : Nat) (s t : State) (r : Result) :
    conclude l code s (.ok t r) = respond l code .ok r t := rfl

/-- AIR STOP, taken. -/
theorem exec_airStop (h : Takes .C s) (onAir : s.dev.state = .onAir) (taken : airStopRefused s = false) :
    exec (.airStop .C []) s = .next (respond .C 0x31 .ok .none (airStop (frameComplete .C s))) := by
  have owner : airStopOwner (frameComplete .C s) = .ok (airStop (frameComplete .C s)) .none :=
    airStopOwner_taken (s := frameComplete .C s) taken
  have run : exec (.airStop .C []) s = .next (command .C 0x31 [] airStopOwner s) := rfl
  rw [run, command_taken h _ (airStop_checks h onAir), owner, conclude_taken]

theorem airStopEndsTheAir_blocks : Claims.AirStopEndsTheAir := by
  intro s h onAir forbids' ends'
  refine ⟨fun refused => ?_, fun unheld none_forbids => ?_⟩
  · have owner : airStopOwner (frameComplete .C s) = .refuse .notNow := airStopOwner_refused ((airStopRefused_iff s).mpr refused)
    exact congrArg _ (command_refused h (airStop_checks h onAir) owner)
  · have taken : airStopRefused s = false := by
      rw [Bool.eq_false_iff, Ne, airStopRefused_iff]
      rintro (held | ⟨k, r, hr, forbidden⟩)
      · omega
      · exact absurd forbidden (by rw [show forbids r = forbids' r from rfl, none_forbids k r hr]; simp)
    have left := (airStop_left (frameComplete .C s)).answered
    refine ⟨_, exec_airStop h onAir taken, ?_, left.dev, ?_, left.sup, left.slots 0, left.slots 1, left.records, left.entries, left.lamp, left.cells,
      left.tx, left.prof, left.inputs, left.formed⟩
    · simp [respond, link_modLink]
    · refine left.delay.trans ?_
      rw [← unheld]

/-- What is said of the lines rests on the callers before and after, and on the screener's events. -/
theorem linesReturned_congr {v : State} (before : u.callers = s.callers) (after : v.callers = t.callers)
    (events : ∀ e : Event, e.number = 0x32 ∨ e.number = 0x33 → Pending .S e t → Pending .S e v)
    (h : Claims.linesReturned cause u t) : Claims.linesReturned cause s v := by
  unfold Claims.linesReturned at h ⊢
  simp only [State.slot, State.line, before] at h ⊢
  obtain ⟨slots, home, released, queued, once, ordered, members, changed, told1, told0, toldHome1, toldHome0⟩ := h
  have told {i : PhoneLine} {k : CallerSlot} {c : OffAirCause} : Pending .S (.lineOffAir i k c) t → Pending .S (.lineOffAir i k c) v :=
    events _ (.inl rfl)
  rw [after]
  exact ⟨slots, home, released, queued, once, ordered, members, fun moved => events _ (.inr rfl) (changed moved),
    fun i occupied releasing => told (told1 i occupied releasing), fun i none_one occupied releasing => told (told0 i none_one occupied releasing),
    fun i none_releasing occupied => told (toldHome1 i none_releasing occupied),
    fun i none_releasing empty occupied => told (toldHome0 i none_releasing empty occupied)⟩

theorem linesKept_congr (same : t.callers = s.callers) (h : LinesKept s) : LinesKept t := by
  unfold LinesKept LinesPlaced at h ⊢
  simp only [State.slot, State.line, same] at h ⊢
  exact h

theorem queueNumbered_congr (same : t.callers = s.callers) (h : QueueNumbered s) : QueueNumbered t := by
  unfold QueueNumbered at h ⊢
  simp only [State.line, same] at h ⊢
  exact h

theorem airStopReturnsTheLines : Claims.AirStopReturnsTheLines := by
  intro s h onAir unheld records kept numbered idle
  have taken : airStopRefused s = false := by
    rw [Bool.eq_false_iff, Ne, airStopRefused_iff]
    rintro (held | ⟨k, r, hr, forbidden⟩)
    · omega
    · obtain ⟨notAiring, notWaiting⟩ := records k r hr
      simp only [forbids, Bool.or_eq_true, Bool.and_eq_true, decide_eq_true_eq] at forbidden
      rcases forbidden with airing | ⟨mandatory, pending | receiving⟩
      · exact notAiring airing
      · exact (notWaiting mandatory).1 pending
      · exact (notWaiting mandatory).2 receiving
  refine ⟨_, exec_airStop h onAir taken, ?_⟩
  let v := frameComplete .C s
  have before : (airStopCue (standing v)).callers = s.callers := (cueStopped v).parts .callers (by decide)
  have returned : Claims.linesReturned .airStop (airStopCue (standing v)) (slotsLeft v) := linesReturned_emptySlots .airStop (linesKept_congr before kept) (queueNumbered_congr before numbered)
    fun k empty => by
      simp only [State.slot, before] at empty ⊢
      exact idle k empty
  have after : (respond .C 0x31 .ok .none (airStop v)).callers = (slotsLeft v).callers :=
    Eq.trans (respond_touches .C 0x31 .ok .none (airStop v) .callers (by decide)) (airStop_callers v)
  refine linesReturned_congr before after (fun e number pending => ?_) returned
  have raised := (airStop_rest_raises v).pending pending (by rcases number with n | n <;> simp [n])
  exact (respond_raises (ns := []) .C 0x31 .ok .none (airStop v)).pending raised (by simp)

/-- Settles O22. -/
theorem airStopEndsTheAir : Obligations.AirStopEndsTheAir := ⟨airStopEndsTheAir_blocks, airStopReturnsTheLines⟩

end Sys2Proof.LeavingTheAir
end

section
/-! R121, R124 to R126, R199: how an alert's arrival is spelled, refused, captured, and makes room for itself. -/

namespace Sys2Proof.Arrivals

-- one thread: the check compiles under a limit on the process
set_option Elab.async false

open Sys2Proof.Machine Sys2Proof.Safety Sys2Proof.Laws Sys2Proof.TakenCommands Sys2Proof.EngineNotices Sys2Proof.AlertsFinishing
open Sys2Proof.CallerSlots Sys2Proof.EventKeeping Sys2Proof.LeavingTheAir

variable {s t : State} {k : AlertSlot} {r : AlertRecord} {a : Arrival} {ps : List Byte}

-- the bytes (R199)

theorem isDigit_iff (b : Byte) : isDigit b = true ↔ 0x30 ≤ b.toNat ∧ b.toNat ≤ 0x39 := by simp [isDigit]

theorem isCode_iff (b : Byte) : isCode b = true ↔ (0x30 ≤ b.toNat ∧ b.toNat ≤ 0x39) ∨ 0x41 ≤ b.toNat ∧ b.toNat ≤ 0x5A := by
  simp [isCode, isDigit_iff]

/-- Area codes of six bytes each are read as they were written, at most `n` of them. -/
theorem areasOf_flatten (n : Nat) : ∀ areas : List (List Byte), (∀ x ∈ areas, x.length = 6) → areasOf n areas.flatten = areas.take n := by
  induction n with
  | zero => exact fun _ _ => rfl
  | succ n ih =>
    intro areas six
    cases areas with
    | nil => rfl
    | cons x xs =>
      have length : x.length = 6 := six x List.mem_cons_self
      obtain ⟨b, bs, rfl⟩ := List.exists_cons_of_length_pos (l := x) (by omega)
      have read : areasOf (n + 1) ((b :: bs) ++ xs.flatten) =
          ((b :: bs) ++ xs.flatten).take 6 :: areasOf n (((b :: bs) ++ xs.flatten).drop 6) := rfl
      rw [List.flatten_cons, read, List.take_left' length, List.drop_left' length, ih xs fun y hy => six y (List.mem_cons_of_mem _ hy)]
      rfl

/-- The code of a class (R199). -/
theorem classOf_code (cls : AlertClass) :
    classOf (match cls with | .test => 0x00 | .advisory => 0x01 | .warning => 0x02 | .immediate => 0x03) = some cls := by
  cases cls <;> rfl

theorem classOf_some {c : Byte} {cls : AlertClass} (h : classOf c = some cls) : c.toNat ≤ 3 := by
  unfold classOf at h
  split at h
  · next e => rw [e]; decide
  · split at h
    · next e => rw [e]; decide
    · split at h
      · next e => rw [e]; decide
      · split at h
        · next e => rw [e]; decide
        · cases h

/-- What R124 asks of an arrival's fields. -/
def InRange (a : Arrival) : Prop := a.id ≠ 0 ∧ a.origin.all isCode ∧ a.event.all isCode ∧ a.areas ≠ [] ∧ a.areas.length ≤ 8 ∧
  a.areas.all (fun c => decide (c.length = 6) && c.all isDigit) ∧ 1 ≤ a.valid ∧ a.valid ≤ 1440

theorem arrivalOf_eq (i1 i0 o1 o2 o3 e1 e2 e3 c v1 v0 : Byte) (rest : List Byte) (a : Arrival) :
    arrivalOf ([i1, i0, o1, o2, o3, e1, e2, e3, c, v1, v0] ++ rest) = some a ↔ ∃ cls, classOf c = some cls ∧
      a = ⟨i1.toNat * 256 + i0.toNat, [o1, o2, o3], [e1, e2, e3], cls, areasOf 42 rest, v1.toNat * 256 + v0.toNat⟩ ∧ InRange a := by
  have read (cls : AlertClass) : (⟨u16At ([i1, i0, o1, o2, o3, e1, e2, e3, c, v1, v0] ++ rest) 0,
      (([i1, i0, o1, o2, o3, e1, e2, e3, c, v1, v0] ++ rest).drop 2).take 3, (([i1, i0, o1, o2, o3, e1, e2, e3, c, v1, v0] ++ rest).drop 5).take 3,
      cls, areasOf 42 (([i1, i0, o1, o2, o3, e1, e2, e3, c, v1, v0] ++ rest).drop 11), u16At ([i1, i0, o1, o2, o3, e1, e2, e3, c, v1, v0] ++ rest) 9⟩
        : Arrival) = ⟨i1.toNat * 256 + i0.toNat, [o1, o2, o3], [e1, e2, e3], cls, areasOf 42 rest, v1.toNat * 256 + v0.toNat⟩ := rfl
  have code : byteAt ([i1, i0, o1, o2, o3, e1, e2, e3, c, v1, v0] ++ rest) 8 = c := rfl
  unfold arrivalOf
  simp only [Option.bind_eq_bind, Option.bind_eq_some_iff, read, code]
  refine exists_congr fun cls => and_congr_right fun _ => ?_
  constructor
  · intro h
    split at h
    next good =>
      cases h
      exact ⟨rfl, good⟩
    next => cases h
  · rintro ⟨rfl, good⟩
    exact if_pos good

theorem arrivalsAreSpelled : Claims.ArrivalsAreSpelled := by
  intro i1 i0 o1 o2 o3 e1 e2 e3 c v1 v0 areas six ps id valid digit code good
  have taken : areas.length ≤ 8 → areasOf 42 areas.flatten = areas := fun few => by
    rw [areasOf_flatten 42 areas six, List.take_of_length_le (by omega)]
  have codes (x y z : Byte) : [x, y, z].all isCode = true ↔ code x ∧ code y ∧ code z := by
    simp only [List.all_cons, List.all_nil, Bool.and_true, Bool.and_eq_true, isCode_iff]
    rfl
  have digits : (areas.all fun c => decide (c.length = 6) && c.all isDigit) = true ↔ ∀ x ∈ areas, ∀ b ∈ x, digit b := by
    simp only [List.all_eq_true, Bool.and_eq_true, decide_eq_true_eq, isDigit_iff]
    exact ⟨fun h x hx => (h x hx).2, fun h x hx => ⟨six x hx, h x hx⟩⟩
  constructor
  · rintro ⟨nonzero, coded, -, some_area, few, allDigits, long, short⟩ cls rfl
    refine (arrivalOf_eq _ _ _ _ _ _ _ _ _ _ _ _ _).mpr ⟨cls, classOf_code cls, by rw [taken few], nonzero, ?_, ?_, ?_, few, ?_, long, short⟩
    · exact (codes o1 o2 o3).mpr ⟨coded o1 (by simp), coded o2 (by simp), coded o3 (by simp)⟩
    · exact (codes e1 e2 e3).mpr ⟨coded e1 (by simp), coded e2 (by simp), coded e3 (by simp)⟩
    · exact List.ne_nil_of_length_pos some_area
    · exact digits.mpr allDigits
  · intro bad
    cases spelled : arrivalOf ps with
    | none => rfl
    | some a =>
      exfalso
      obtain ⟨cls, named, rfl, nonzero, origin, event, some_area, few, allDigits, long, short⟩ := (arrivalOf_eq _ _ _ _ _ _ _ _ _ _ _ _ _).mp spelled
      have read : areasOf 42 areas.flatten = areas.take 42 := areasOf_flatten 42 areas six
      have fewer : areas.length ≤ 8 := by
        have length : (areas.take 42).length ≤ 8 := read ▸ few
        rw [List.length_take] at length
        omega
      rw [taken fewer] at some_area allDigits
      obtain ⟨c1, c2, c3⟩ := (codes o1 o2 o3).mp origin
      obtain ⟨d1, d2, d3⟩ := (codes e1 e2 e3).mp event
      refine bad ⟨nonzero, fun b hb => ?_, classOf_some named, List.length_pos_of_ne_nil some_area, fewer, digits.mp allDigits, long, short⟩
      simp only [List.mem_cons, List.not_mem_nil, or_false] at hb
      rcases hb with rfl | rfl | rfl | rfl | rfl | rfl <;> assumption

-- the command

theorem mode_given (h : Takes .A s) (onAir : s.dev.state = .onAir) : s.sup.mode.isSome = true := by
  obtain ⟨-, standby | ⟨-, given⟩, -⟩ := h
  · rw [onAir] at standby
    cases standby
  · exact given

theorem alertBegin_checks (h : Takes .A s) (onAir : s.dev.state = .onAir) (long : 11 ≤ ps.length) (whole : (ps.length - 11) % 6 = 0) :
    failedCheck .A 0x60 ps (frameComplete .A s) = none := by
  refine checks_taken ⟨0x60, [.A], false, true, true, true, .arrival⟩ rfl rfl ?_ (by simp [ParamBytes.admits, long, whole])
  have given := mode_given h onAir
  cases mode : s.sup.mode with
  | none => simp [mode] at given
  | some m => cases m <;> simp [CommandRow.taken, onAir, mode]

theorem anyRecord_iff (p : AlertRecord → Bool) (s : State) : s.anyRecord p = true ↔ ∃ k r, s.record k = some r ∧ p r = true := by
  have every : ∀ k : AlertSlot, k ∈ alertSlots := by decide
  unfold State.anyRecord
  rw [List.any_eq_true]
  refine exists_congr fun k => ?_
  cases s.record k <;> simp [every k]

theorem freeAlertSlot_isNone (s : State) : s.freeAlertSlot.isNone = true ↔ ∀ k, (s.record k).isSome = true := by
  have every : ∀ k : AlertSlot, k ∈ alertSlots := by decide
  simp only [State.freeAlertSlot, Option.isNone_iff_eq_none, List.find?_eq_none, Option.isSome_iff_ne_none]
  exact ⟨fun h k => h k (every k), fun h k _ => h k⟩

theorem evictable_isNone (cls : AlertClass) (s : State) : (s.evictable cls).isNone = true ↔
    ∀ k r, s.alerts.queue.getLast? = some k → s.record k = some r → cls.rank ≤ r.cls.rank := by
  unfold State.evictable
  cases last : s.alerts.queue.getLast? with
  | none => simp
  | some k =>
    cases record : s.record k with
    | none =>
      simp only [record, Option.isNone_none, true_iff]
      intro j r tail hr
      cases tail
      rw [record] at hr
      cases hr
    | some r =>
      by_cases lower : r.cls.rank < cls.rank
      · simp [record, lower]
      · simp only [record, if_neg lower, Option.isNone_none, true_iff]
        intro j x tail hr
        cases tail
        rw [record] at hr
        cases hr
        omega

theorem evictable_tail {cls : AlertClass} (last : s.alerts.queue.getLast? = some k) (record : s.record k = some r)
    (lower : r.cls.rank < cls.rank) : s.evictable cls = some k := by
  simp only [State.evictable, last, record, if_pos lower]

theorem taking_iff (r : AlertRecord) : r.taking = true ↔ r.phase = .receiving ∨ r.cutThrough = true ∧ r.phase = .airing := by
  simp [AlertRecord.taking]

theorem onAir_of (onAir : s.dev.state = .onAir) : s.onAir = true := decide_eq_true onAir

theorem alertBeginOwner_bad (onAir : s.dev.state = .onAir) (bad : arrivalOf ps = none) : alertBeginOwner ps s = .refuse .badParam := by
  simp only [alertBeginOwner, onAir_of onAir, Bool.not_true, Bool.false_eq_true, if_false, bad]

theorem alertBeginOwner_refused {c : Status} (onAir : s.dev.state = .onAir) (spelled : arrivalOf ps = some a)
    (refused : arrivalRefused a s = some c) : alertBeginOwner ps s = .refuse c := by
  simp only [alertBeginOwner, onAir_of onAir, Bool.not_true, Bool.false_eq_true, if_false, spelled, refused]

theorem alertBeginOwner_arrives (onAir : s.dev.state = .onAir) (spelled : arrivalOf ps = some a) (accepted : arrivalRefused a s = none)
    (free : (makeRoom a.cls s).freeAlertSlot = some k) : alertBeginOwner ps s = arrive a k (makeRoom a.cls s) := by
  simp only [alertBeginOwner, onAir_of onAir, Bool.not_true, Bool.false_eq_true, if_false, spelled, accepted, free]

theorem alertsAreRefused : Claims.AlertsAreRefused := by
  intro ps s h onAir long whole refused active past
  have onAir' : (frameComplete .A s).dev.state = .onAir := onAir
  have answers {c : Status} (owner : alertBeginOwner ps (frameComplete .A s) = .refuse c) : refused c :=
    congrArg _ (command_refused h (alertBegin_checks h onAir long whole) owner)
  refine ⟨fun bad => answers (alertBeginOwner_bad onAir' bad), fun a spelled => ?_⟩
  intro same other taking duplicate inUse
  have judged {c : Status} (h : arrivalRefused a (frameComplete .A s) = some c) : refused c :=
    answers (alertBeginOwner_refused onAir' spelled h)
  have anyActive (p : AlertRecord → Bool) : (frameComplete .A s).anyRecord p = true ↔ active fun r => p r = true := anyRecord_iff p _
  have isSame (r : AlertRecord) : (decide (r.id = a.id) && decide (r.origin = a.origin)) = true ↔ same r := by simp [same]
  have isOther (r : AlertRecord) : (decide (r.id = a.id) && decide (r.origin ≠ a.origin)) = true ↔ other r := by simp [other]
  have dup : ((frameComplete .A s).anyRecord (fun r => decide (r.id = a.id) && decide (r.origin = a.origin)) ||
      (frameComplete .A s).alerts.history.any fun r => decide (r.id = a.id) && decide (r.origin = a.origin)) = true ↔ duplicate := by
    rw [Bool.or_eq_true, anyActive, List.any_eq_true]
    simp only [isSame]
    rfl
  have used : ((frameComplete .A s).anyRecord (fun r => decide (r.id = a.id) && decide (r.origin ≠ a.origin)) ||
      ((frameComplete .A s).alerts.history.any (fun r => decide (r.id = a.id) && decide (r.origin ≠ a.origin)) &&
        decide (0 < (frameComplete .A s).delay.alertSegs))) = true ↔ inUse := by
    rw [Bool.or_eq_true, anyActive, Bool.and_eq_true, List.any_eq_true, decide_eq_true_eq]
    simp only [isOther]
    rfl
  have takes : (frameComplete .A s).anyRecord AlertRecord.taking = true ↔ active taking := by
    rw [anyActive]
    simp only [taking_iff]
    rfl
  refine ⟨fun isDup => judged ?_, fun notDup isUsed => judged ?_, fun notDup notUsed isTaking => judged ?_,
    fun notDup notUsed notTaking filled tail => judged ?_⟩
  · exact if_pos (dup.mpr isDup)
  · exact (if_neg (mt dup.mp notDup)).trans (if_pos (used.mpr isUsed))
  · exact (if_neg (mt dup.mp notDup)).trans ((if_neg (mt used.mp notUsed)).trans (if_pos (takes.mpr isTaking)))
  · have noSlot : (frameComplete .A s).freeAlertSlot.isNone = true := (freeAlertSlot_isNone _).mpr filled
    have noRoom : ((frameComplete .A s).evictable a.cls).isNone = true := (evictable_isNone _ _).mpr tail
    refine (if_neg (mt dup.mp notDup)).trans ((if_neg (mt used.mp notUsed)).trans ((if_neg (mt takes.mp notTaking)).trans (if_pos ?_)))
    rw [noSlot, noRoom]
    rfl

-- an arrival accepted (R124)

theorem arrivalRefused_none (records : ∀ j r, s.record j = some r → r.id ≠ a.id ∧ r.phase ≠ .receiving ∧
      ¬(r.cutThrough = true ∧ r.phase = .airing))
    (history : ∀ r ∈ s.alerts.history, r.id ≠ a.id ∨ r.origin ≠ a.origin ∧ s.delay.alertSegs = 0)
    (room : s.freeAlertSlot.isNone = true → (s.evictable a.cls).isNone = false) : arrivalRefused a s = none := by
  have none_active {p : AlertRecord → Bool} (h : ∀ r, p r = true → r.id = a.id) : s.anyRecord p = false := by
    rw [Bool.eq_false_iff, Ne, anyRecord_iff]
    rintro ⟨k, r, hr, picked⟩
    exact (records k r hr).1 (h r picked)
  have none_same : (s.anyRecord (fun r => decide (r.id = a.id) && decide (r.origin = a.origin)) ||
      s.alerts.history.any fun r => decide (r.id = a.id) && decide (r.origin = a.origin)) = false := by
    rw [none_active (by simp; tauto), Bool.false_or, List.any_eq_false]
    intro r hr
    rcases history r hr with other | ⟨other, -⟩ <;> simp [other]
  have none_other : (s.anyRecord (fun r => decide (r.id = a.id) && decide (r.origin ≠ a.origin)) ||
      (s.alerts.history.any (fun r => decide (r.id = a.id) && decide (r.origin ≠ a.origin)) && decide (0 < s.delay.alertSegs))) = false := by
    rw [none_active (by simp; tauto), Bool.false_or, Bool.and_eq_false_iff, List.any_eq_false]
    by_cases unheld : s.delay.alertSegs = 0
    · exact .inr (by simp [unheld])
    · refine .inl fun r hr => ?_
      rcases history r hr with other | ⟨-, zero⟩
      · simp [other]
      · exact absurd zero unheld
  have none_taking : s.anyRecord AlertRecord.taking = false := by
    rw [Bool.eq_false_iff, Ne, anyRecord_iff]
    rintro ⟨k, r, hr, takes⟩
    rcases (taking_iff r).mp takes with receiving | through
    · exact (records k r hr).2.1 receiving
    · exact (records k r hr).2.2 through
  have roomy : (s.freeAlertSlot.isNone && (s.evictable a.cls).isNone) = false := by
    cases filled : s.freeAlertSlot.isNone with
    | false => rfl
    | true => rw [room filled]; rfl
  simp only [arrivalRefused, none_same, none_other, none_taking, roomy, Bool.false_eq_true, if_false]

theorem freeAlertSlot_first (free : s.record k = none) (lower : ∀ j, j < k → (s.record j).isSome = true) : s.freeAlertSlot = some k := by
  have taken {j : AlertSlot} (hj : j < k) : (s.record j).isNone = false :=
    Option.isNone_eq_false_iff.mpr (lower j hj)
  have isFree : (s.record k).isNone = true := by rw [free]; rfl
  unfold State.freeAlertSlot alertSlots
  rcases (by decide : ∀ k : AlertSlot, k = 0 ∨ k = 1 ∨ k = 2 ∨ k = 3) k with rfl | rfl | rfl | rfl
  · simp [isFree]
  · simp [isFree, taken (show (0 : AlertSlot) < 1 by decide)]
  · simp [isFree, taken (show (0 : AlertSlot) < 2 by decide), taken (show (1 : AlertSlot) < 2 by decide)]
  · simp [isFree, taken (show (0 : AlertSlot) < 3 by decide), taken (show (1 : AlertSlot) < 3 by decide),
      taken (show (2 : AlertSlot) < 3 by decide)]

theorem makeRoom_free {cls : AlertClass} (free : s.freeAlertSlot = some k) : makeRoom cls s = s := if_pos (by rw [free]; rfl)

/-- An accepted alert reaches its slot. -/
theorem alertBeginOwner_accepted (onAir : s.dev.state = .onAir) (spelled : arrivalOf ps = some a) (accepted : AlertAccepted a k s) :
    alertBeginOwner ps s = arrive a k s := by
  obtain ⟨records, history, free, lower, -⟩ := accepted
  have slot := freeAlertSlot_first free lower
  have room := makeRoom_free (cls := a.cls) slot
  have allowed : arrivalRefused a s = none := arrivalRefused_none records history fun filled => by rw [slot] at filled; cases filled
  rw [alertBeginOwner_arrives onAir spelled allowed (by rw [room]; exact slot), room]

-- a captured arrival (R126)

theorem segments_empty (empty : s.clips.alert[k] = Clip.empty) : s.segments (.alert k) = [] := by
  have count : (s.clip (.alert k)).count = 0 := by
    have clip : s.clip (.alert k) = Clip.empty := empty
    rw [clip]
    rfl
  rw [State.segments, count]
  cases (s.clip (.alert k)).first <;> rfl

/-- The state in which the alert capture has started for a slot. -/
def capturing (k : AlertSlot) (s : State) : State := { s with clips := { s.clips with
  alert := s.clips.alert.set k { Clip.empty with state := .capturing }
  alertCapture := some k } }

theorem startAlertCapture_empty (idle : s.clips.alertCapture = none) (empty : s.clips.alert[k] = Clip.empty) :
    startAlertCapture k s = capturing k s := by
  have freed : emptyClip (.alert k) s = { s with clips := { s.clips with alert := s.clips.alert.set k Clip.empty } } := by
    rw [emptyClip, segments_empty empty]
    rfl
  simp only [startAlertCapture, idle, Option.isSome_none, Bool.false_eq_true, if_false, freed, State.modClip, Vector.set_set, capturing]

theorem raiseAlertState_of (record : s.record k = some r) :
    raiseAlertState k s = raise .A (.alertState r.id r.origin r.phase r.truncated r.damaged) s := by
  simp only [raiseAlertState, record]

/-- The record that a captured arrival has, and its report. -/
def received (a : Arrival) (k : AlertSlot) (s : State) : State :=
  raise .A (.alertState a.id a.origin .receiving false false) (s.setRecord k (some (a.record k false)))

theorem arrive_captured (captured : (decide (a.cls = .immediate) && s.airing.isNone) = false) (idle : s.clips.alertCapture = none)
    (empty : s.clips.alert[k] = Clip.empty) : arrive a k s = .ok (capturing k (received a k s)) (.alertTaken k false) := by
  have told : raiseAlertState k (s.setRecord k (some (a.record k false))) = received a k s :=
    raiseAlertState_of (record_setRecord k _ s)
  simp only [arrive, captured, Bool.false_eq_true, if_false, told]
  rw [startAlertCapture_empty (s := received a k s) idle empty]

theorem captured_of {s : State} (h : a.cls ≠ .immediate ∨ ∃ j r, s.record j = some r ∧ r.phase = .airing) :
    (decide (a.cls = .immediate) && s.airing.isNone) = false := by
  rcases h with other | ⟨j, r, hr, airing⟩
  · simp [other]
  · have taken : s.airing.isNone = false := by
      rw [Bool.eq_false_iff, Ne, Option.isNone_iff_eq_none, airing_isNone_iff]
      exact fun none_airing => none_airing j r hr airing
    rw [taken, Bool.and_false]

theorem alertsAreCaptured : Claims.AlertsAreCaptured := by
  intro ps a k s h onAir long whole spelled accepted captured empty record clips
  have accepted' : AlertAccepted a k (frameComplete .A s) := accepted
  have owner := alertBeginOwner_accepted (s := frameComplete .A s) onAir spelled accepted'
  obtain ⟨-, -, -, -, idle⟩ := accepted
  rw [arrive_captured (captured_of (s := frameComplete .A s) captured) (by exact idle) empty] at owner
  refine congrArg _ (command_ok h (alertBegin_checks h onAir long whole) (owner.trans (congrArg (Reply.ok · (.alertTaken k false)) ?_)))
  have same : clips = { s.clips with
      alert := s.clips.alert.set k { Clip.empty with state := .capturing }
      alertCapture := some k } := by simp only [clips, empty]
  rw [same, ← raise_frameComplete]
  rfl

-- an arrival that makes room (R125, R142)

/-- The discard of an alert clip that no reader reads. -/
theorem discardAlertClip_unread (idle : s.clips.alertCapture = none) (unread : s.clips.readerAlert.map Reader.clip ≠ some (.alert k)) :
    discardAlertClip k s = emptyClip (.alert k) s := by
  unfold discardAlertClip
  dsimp only
  rw [idle, if_neg (by simp)]
  cases reader : s.clips.readerAlert with
  | none => rfl
  | some x =>
    have other : x.clip ≠ .alert k := by simpa [reader] using unread
    dsimp only
    rw [if_neg other]

theorem makeRoom_evicts {cls : AlertClass} (filled : ∀ j, (s.record j).isSome = true) (tail : s.evictable cls = some k) :
    makeRoom cls s = finish k .discarded (discardAlertClip k s) := by
  have none_free : s.freeAlertSlot.isSome = false := by
    have isNone := (freeAlertSlot_isNone s).mpr filled
    cases slot : s.freeAlertSlot with
    | none => rfl
    | some j => rw [slot] at isNone; cases isNone
  simp only [makeRoom, none_free, Bool.false_eq_true, if_false, tail]

/-- The state in which the queue's tail has made room. -/
def evicted (k : AlertSlot) (r : AlertRecord) (s : State) : State := finishedAs k r .discarded (emptyClip (.alert k) s)

theorem evicted_record (k : AlertSlot) (r : AlertRecord) (s : State) (j : AlertSlot) :
    (evicted k r s).record j = if j = k then none else s.record j := record_set_none k j (emptyClip (.alert k) s) rfl

theorem alertsEvict : Claims.AlertsEvict := by
  intro ps a k r s h onAir long whole spelled records history captured tail record pending lower idle unread
  let v := frameComplete .A s
  have filled (j : AlertSlot) : (v.record j).isSome = true := by
    obtain ⟨x, hx, -⟩ := records j
    exact Option.isSome_iff_exists.mpr ⟨x, hx⟩
  have tailOut : v.evictable a.cls = some k := evictable_tail (s := v) tail record lower
  have allowed : arrivalRefused a v = none := by
    refine arrivalRefused_none (s := v) (fun j x hx => ?_) history fun _ => by rw [tailOut]; rfl
    obtain ⟨y, hy, other⟩ := records j
    cases (show s.record j = some x from hx).symm.trans hy
    exact other
  have room : makeRoom a.cls v = evicted k r v := by
    rw [makeRoom_evicts filled tailOut, discardAlertClip_unread (s := v) idle unread]
    exact finish_eq (s := emptyClip (.alert k) v) record .discarded
  have free : (evicted k r v).freeAlertSlot = some k := by
    refine freeAlertSlot_first ?_ fun j below => ?_
    · rw [evicted_record, if_pos rfl]
    · rw [evicted_record, if_neg (ne_of_lt below)]
      exact filled j
  have notThrough : (decide (a.cls = .immediate) && (evicted k r v).airing.isNone) = false := by
    refine captured_of (captured.imp_right ?_)
    rintro ⟨j, x, other, hx, airing⟩
    refine ⟨j, x, ?_, airing⟩
    rw [evicted_record, if_neg other]
    exact hx
  have emptied : (evicted k r v).clips.alert[k] = Clip.empty := Vector.getElem_set_self _
  have owner := alertBeginOwner_arrives (s := v) onAir spelled allowed (by rw [room]; exact free)
  rw [room, arrive_captured notThrough (s := evicted k r v) idle emptied] at owner
  have run : exec (.alertBegin .A ps) s =
      .next (respond .A 0x60 .ok (.alertTaken k false) (capturing k (received a k (evicted k r v)))) := by
    refine congrArg _ ((command_taken h _ (alertBegin_checks h onAir long whole)).trans ?_)
    rw [owner]
    rfl
  refine ⟨_, run, by simp [respond, link_modLink], ⟨a.record k false, ?_, rfl, rfl, rfl, rfl⟩, fun j other => ?_, rfl, rfl, rfl, rfl, ?_⟩
  · exact record_setRecord k _ (evicted k r v)
  · have kept := record_setRecord_ne other (some (a.record k false)) (evicted k r v)
    rw [evicted_record, if_neg other] at kept
    exact kept
  · exact Vector.getElem_set_self _

end Sys2Proof.Arrivals
end

section
/-! R92, R117, R126, R133, R168: an IMMEDIATE alert takes the air by cut-through. -/

namespace Sys2Proof.CutThrough

-- one thread: the check compiles under a limit on the process
set_option Elab.async false

open Sys2Proof.Machine Sys2Proof.Safety Sys2Proof.Laws Sys2Proof.TakenCommands Sys2Proof.EngineNotices Sys2Proof.EventKeeping
open Sys2Proof.CallerSlots Sys2Proof.Takeovers Sys2Proof.StartedItems Sys2Proof.Arrivals Sys2Proof.ReturnedLines
open Sys2Proof.LeavingTheAir Sys2Proof.AlertsFinishing Sys2Proof.CallerReleases

variable {s t u : State} {k : AlertSlot} {r : AlertRecord} {a : Arrival} {ps : List Byte} {offer : Option Bool}

-- the voices' contributors and readers

/-- The voices keep their contributors and their readers. -/
structure VoicesKept (s t : State) : Prop where
  voiceA : t.mix.voiceA = s.mix.voiceA
  voiceB : t.mix.voiceB = s.mix.voiceB
  readerA : t.clips.readerA = s.clips.readerA
  readerB : t.clips.readerB = s.clips.readerB

theorem VoicesKept.refl (s : State) : VoicesKept s s := ⟨rfl, rfl, rfl, rfl⟩

theorem VoicesKept.trans (h : VoicesKept s t) (g : VoicesKept t u) : VoicesKept s u :=
  ⟨g.voiceA.trans h.voiceA, g.voiceB.trans h.voiceB, g.readerA.trans h.readerA, g.readerB.trans h.readerB⟩

/-- A change of other parts keeps the voices. -/
theorem voicesKept_of {ps : List Part} (h : Touches ps s t) (mix : Part.mix ∉ ps := by decide) (clips : Part.clips ∉ ps := by decide) :
    VoicesKept s t := by
  have mixed : t.mix = s.mix := h .mix mix
  have stored : t.clips = s.clips := h .clips clips
  exact ⟨(congrArg Mix.voiceA mixed :), (congrArg Mix.voiceB mixed :), (congrArg ClipStore.readerA stored :), (congrArg ClipStore.readerB stored :)⟩

theorem VoicesKept.foldl {α : Type} {f : State → α → State} (h : ∀ s a, VoicesKept s (f s a)) (as : List α) :
    ∀ s, VoicesKept s (as.foldl f s) := by
  induction as with
  | nil => exact VoicesKept.refl
  | cons a as ih => exact fun s => (h s a).trans (ih _)

theorem useClip_voices (up : Bool) (c : ClipRef) (s : State) : VoicesKept s (useClip up c s) := by
  cases c <;> exact ⟨rfl, rfl, rfl, rfl⟩

theorem itemEnded_voices (e : Entry) (s : State) : VoicesKept s (itemEnded e s) := by
  have claimed : VoicesKept s (releaseClaim e s) := by
    unfold releaseClaim
    split
    · exact useClip_voices _ _ s
    · exact VoicesKept.refl s
  exact claimed.trans (voicesKept_of (raise_touches _ _ _))

theorem cut_slot_voices (j : CallerSlot) (s : State) : VoicesKept s (cut (slotContributor j) s) := by
  unfold cut
  rw [closeReaderOf_slot]
  split
  · rcases slot_cases j with rfl | rfl <;> exact ⟨rfl, rfl, rfl, rfl⟩
  · exact VoicesKept.refl s

theorem emptySlots_voices (cause : OffAirCause) (s : State) : VoicesKept s (emptySlots cause s) := by
  have returned (j : CallerSlot) (t : State) : VoicesKept t (returnLine cause j t) := by
    unfold returnLine
    split
    · exact (cut_slot_voices j t).trans (((voicesKept_of (setSlot_touches j _ _)).trans
        (voicesKept_of (setLine_touches _ _ _))).trans (voicesKept_of (raise_touches .S _ _)))
    · exact VoicesKept.refl t
  have released (j : CallerSlot) (t : State) : VoicesKept t (cutRelease cause j t) := by
    unfold cutRelease
    split
    · exact (cut_slot_voices j t).trans (voicesKept_of (settleRelease_touches _ j _))
    · exact VoicesKept.refl t
  have all : VoicesKept s (cutRelease cause 1 (cutRelease cause 0
      (requeueReturned s.linesToReturn (returnLine cause 1 (returnLine cause 0 s))))) :=
    ((((returned 0 s).trans (returned 1 _)).trans (voicesKept_of (requeueReturned_touches _ _))).trans (released 0 _)).trans (released 1 _)
  unfold emptySlots
  dsimp only
  split
  · exact all
  · exact all.trans (voicesKept_of (raiseQueue_touches _))

theorem setReader_voices (x : Option Reader) (s : State) : VoicesKept s (s.setReader .alert x) := ⟨rfl, rfl, rfl, rfl⟩

theorem activate_alert_voices (c : ClipRef) (s : State) : VoicesKept s (activate .alert (.clip c) 32768 0 0 s) ∧
    VoicesKept s (activate .alert (.source 7) 32768 0 0 s) := by
  have closed (t : State) : VoicesKept t (closeReader .alert t) := by
    unfold closeReader
    split
    · exact VoicesKept.refl t
    · exact (setReader_voices none t).trans (useClip_voices _ _ _)
  refine ⟨?_, (closed s).trans ⟨rfl, rfl, rfl, rfl⟩⟩
  show VoicesKept s (if (s.clip c).state = .ready then
    (openReader .alert c 0 (closeReader .alert s)).setContrib .alert (.activated (.clip c) 32768 0) else s)
  split
  · have opened : VoicesKept (closeReader .alert s) (openReader .alert c 0 (closeReader .alert s)) :=
      (setReader_voices _ _).trans (useClip_voices _ _ _)
    exact ((closed s).trans opened).trans ⟨rfl, rfl, rfl, rfl⟩
  · exact VoicesKept.refl s

theorem bindAlert_voices (k : AlertSlot) (r : AlertRecord) (s : State) : VoicesKept s (bindAlert k r s) := by
  unfold bindAlert
  split
  · exact (activate_alert_voices (.alert k) s).2
  · split
    · exact (voicesKept_of (records_touches _ s)).trans (activate_alert_voices _ _).1
    · exact (activate_alert_voices _ s).1

/-- Both voices silenced: no contributor bound, and the readers of those that were bound closed. -/
structure Silenced (s t : State) : Prop where
  voiceA : t.mix.voiceA.binding = none
  voiceB : t.mix.voiceB.binding = none
  readerA : s.mix.voiceA.binding.isSome → t.clips.readerA = none
  readerB : s.mix.voiceB.binding.isSome → t.clips.readerB = none

theorem Silenced.kept (h : Silenced s t) (g : VoicesKept t u) : Silenced s u where
  voiceA := by rw [g.voiceA]; exact h.voiceA
  voiceB := by rw [g.voiceB]; exact h.voiceB
  readerA bound := g.readerA.trans (h.readerA bound)
  readerB bound := g.readerB.trans (h.readerB bound)

theorem Silenced.after (g : VoicesKept s t) (h : Silenced t u) : Silenced s u where
  voiceA := h.voiceA
  voiceB := h.voiceB
  readerA bound := h.readerA (by rw [g.voiceA]; exact bound)
  readerB bound := h.readerB (by rw [g.voiceB]; exact bound)

theorem closeReader_reader (q : ReaderOf) (s : State) : (closeReader q s).clips.reader q = none := by
  unfold closeReader
  split
  · assumption
  · next x _ =>
    obtain ⟨c, _, _, _⟩ := x
    cases c <;> cases q <;> rfl

theorem closeReader_other {q p : ReaderOf} (other : p ≠ q) (s : State) : (closeReader q s).clips.reader p = s.clips.reader p := by
  unfold closeReader
  split
  · rfl
  · next x _ =>
    obtain ⟨c, _, _, _⟩ := x
    cases c <;> cases q <;> cases p <;> first | rfl | exact absurd rfl other

theorem cut_binding (c : Contributor) (s : State) : ((cut c s).contrib c).binding = none := by
  unfold cut
  split
  · cases c <;> rfl
  · next idle =>
    cases bound : (s.contrib c).binding with
    | none => rfl
    | some b => exact absurd (by rw [Contrib.active, bound]; rfl) idle

theorem cutVoices_silenced (s : State) : Silenced s (cutVoices s) := by
  have cutA : (cut .voiceA s).mix.voiceB = s.mix.voiceB ∧ (cut .voiceA s).clips.readerB = s.clips.readerB := by
    unfold cut
    split
    · have mix : (closeReader .voiceA s).mix = s.mix := closeReader_touches .voiceA s .mix (by decide)
      exact ⟨(congrArg Mix.voiceB mix :), closeReader_other (q := .voiceA) (p := .voiceB) (by decide) s⟩
    · exact ⟨rfl, rfl⟩
  have cutB (t : State) : (cut .voiceB t).mix.voiceA = t.mix.voiceA ∧ (cut .voiceB t).clips.readerA = t.clips.readerA := by
    unfold cut
    split
    · have mix : (closeReader .voiceB t).mix = t.mix := closeReader_touches .voiceB t .mix (by decide)
      exact ⟨(congrArg Mix.voiceA mix :), closeReader_other (q := .voiceB) (p := .voiceA) (by decide) t⟩
    · exact ⟨rfl, rfl⟩
  have closesA : s.mix.voiceA.binding.isSome → (cut .voiceA s).clips.readerA = none := fun bound => by
    rw [cut, if_pos (by exact bound)]
    exact closeReader_reader .voiceA s
  have closesB (t : State) : t.mix.voiceB.binding.isSome → (cut .voiceB t).clips.readerB = none := fun bound => by
    rw [cut, if_pos (by exact bound)]
    exact closeReader_reader .voiceB t
  refine ⟨?_, cut_binding .voiceB _, fun bound => (cutB _).2.trans (closesA bound), fun bound => closesB _ (by rw [cutA.1]; exact bound)⟩
  show (cut .voiceB (cut .voiceA s)).mix.voiceA.binding = none
  rw [(cutB _).1]
  exact cut_binding .voiceA s

theorem holdEngine_silenced (running : s.cue.state ≠ .held) (offer : Option Bool) : Silenced s (holdEngine offer s) := by
  have ended (es : List Entry) : Silenced s (setEntries es ((endedBy s.cue).foldl (fun t e => itemEnded e t) (cutVoices s))) :=
    (cutVoices_silenced s).kept ((VoicesKept.foldl (fun t e => itemEnded_voices e t) _ _).trans (voicesKept_of (setEntries_touches es _)))
  rw [holdEngine, if_neg running]
  exact (ended (heldEntries s.clips s.cue offer)).kept ⟨rfl, rfl, rfl, rfl⟩

theorem airBound_voices (k : AlertSlot) (r : AlertRecord) (dumps : Bool) (s : State) : VoicesKept s (airBound k r dumps s) := by
  have dumped : VoicesKept s (if dumps then forcedDump s else s) := by
    split
    · exact voicesKept_of (forcedDump_touches s)
    · exact VoicesKept.refl s
  exact (dumped.trans (bindAlert_voices k r _)).trans ((voicesKept_of (workOutWait_touches _)).trans (voicesKept_of (report_touches _ _)))

/-- A takeover silences the voices of an engine that is not held. -/
theorem takeover_silenced (record : s.record k = some r) (running : s.cue.state ≠ .held) (offer : Option Bool) :
    Silenced s (takeover k offer s) := by
  have taken : VoicesKept s (takeoverAir (airTaken k r s)) :=
    (voicesKept_of (airTaken_parts k r s)).trans (voicesKept_of (takeoverAir_touches _))
  have cue : (takeoverAir (airTaken k r s)).cue = s.cue :=
    Eq.trans (takeoverAir_touches _ .cue (by decide)) (airTaken_parts k r s .cue (by decide))
  have held : Silenced s (holdEngine offer (takeoverAir (airTaken k r s))) := .after taken (holdEngine_silenced (by rw [cue]; exact running) offer)
  rw [takeover_eq record]
  exact (held.kept (emptySlots_voices .alert _)).kept (airBound_voices k r _ _)

-- the other blocks that it reaches

theorem takeover_alert (record : s.record k = some r) (through : r.cutThrough = true) (offer : Option Bool) :
    (takeover k offer s).mix.alert = ⟨some (.source 7), 32768, 32768, none, none⟩ := by
  have bound (t : State) : (bindAlert k r t).mix.alert = ⟨some (.source 7), 32768, 32768, none, none⟩ := by
    rw [bindAlert, if_pos through]
    rfl
  rw [takeover_eq record]
  exact bound _

theorem forcedDump_delay (s : State) : (forcedDump s).delay =
    { s.delay with dump := if 0 < s.delay.alertSegs then s.delay.dump else some .unlimited } := by
  have joined : joinDump s.delay.dump .unlimited = .unlimited := by
    rcases s.delay.dump with _ | d
    · rfl
    · cases d <;> rfl
  unfold forcedDump
  split
  · rfl
  · rw [joined]

theorem takeover_delay (record : s.record k = some r) (immediate : r.cls = .immediate) (offer : Option Bool) :
    (takeover k offer s).delay =
      { s.delay with dump := if 0 < s.delay.alertSegs then s.delay.dump else some .unlimited } := by
  have taken : (airTaken k r s).delay = s.delay := airTaken_parts k r s .delay (by decide)
  have told : (airNotices offer (airTaken k r s)).delay = s.delay := by
    have air := takeoverAir_touches (airTaken k r s) .delay (by decide)
    have held := holdEngine_touches offer (takeoverAir (airTaken k r s)) .delay (by decide)
    have slots := emptySlots_touches .alert (holdEngine offer (takeoverAir (airTaken k r s))) .delay (by decide)
    exact (Eq.trans slots (Eq.trans held air)).trans taken
  have bound (t : State) : ((workOutWait (bindAlert k r t)).report fun x => { x with alertActive := true }).delay = t.delay :=
    Eq.trans (workOutWait_touches _ .delay (by decide)) (bindAlert_touches k r t .delay (by decide))
  have dumps : r.dumps s.alerts.settings.warningDump = true := by rw [AlertRecord.dumps, immediate]; rfl
  rw [takeover_eq record, airBound, bound, if_pos dumps, forcedDump_delay, told]

theorem takeover_slot (record : s.record k = some r) (offer : Option Bool) (j : CallerSlot) :
    ((takeover k offer s).slot j).occupant = none := by
  have callers : (takeover k offer s).callers = (airNotices offer (airTaken k r s)).callers := by
    rw [takeover_eq record]
    exact airBound_touches k r _ _ .callers (by decide)
  rw [slot_of_slots (congrArg Callers.slots callers)]
  exact emptySlots_unoccupied .alert _ j

theorem takeover_reports (record : s.record k = some r) (offer : Option Bool) :
    (takeover k offer s).panel.reports.alertActive = true := by
  rw [takeover_eq record, airBound, report_reports]

/-- What a takeover does not reach. -/
theorem takeover_rest (k : AlertSlot) (offer : Option Bool) (s : State) : (takeover k offer s).mem = s.mem ∧
    (takeover k offer s).tx = s.tx ∧ (takeover k offer s).prof = s.prof ∧ (takeover k offer s).dev = s.dev ∧
    (takeover k offer s).due = s.due := by
  have touched := takeover_touches k offer s
  exact ⟨touched .mem (by decide), touched .tx (by decide), touched .prof (by decide), touched .dev (by decide), touched .due (by decide)⟩

theorem takeover_linesReturned (record : s.record k = some r) (kept : LinesKept s) (numbered : QueueNumbered s) (idle : SlotsIdle s)
    (offer : Option Bool) : Claims.linesReturned .alert s (takeover k offer s) := by
  have callers : (holdEngine offer (takeoverAir (airTaken k r s))).callers = s.callers :=
    Eq.trans (holdEngine_touches offer _ .callers (by decide))
      (Eq.trans (takeoverAir_touches _ .callers (by decide)) (airTaken_parts k r s .callers (by decide)))
  have returned := linesReturned_emptySlots .alert (linesKept_congr callers kept) (queueNumbered_congr callers numbered)
    fun j empty => by
      rw [slot_of_slots (congrArg Callers.slots callers)] at empty ⊢
      exact idle j empty
  rw [takeover_eq record]
  have bound := airBound_touches k r (r.dumps s.alerts.settings.warningDump) (airNotices offer (airTaken k r s))
  exact linesReturned_congr callers (bound .callers (by decide))
    (fun e _ pending => (silent (ns := []) bound).pending pending (by simp)) returned

-- the command (R126)

/-- The state in which a cut-through arrival takes the air. -/
def cutIn (a : Arrival) (k : AlertSlot) (s : State) : State :=
  raise .A (.alertState a.id a.origin .airing false false) (s.setRecord k (some (a.record k true)))

theorem cutIn_touches (a : Arrival) (k : AlertSlot) (s : State) : Touches [.alerts, .links] s (cutIn a k s) :=
  ((Touches.refl _ s).and (setRecord_touches k _ s)).and (raise_touches _ _ _)

theorem cutIn_record (a : Arrival) (k : AlertSlot) (s : State) : (cutIn a k s).record k = some (a.record k true) :=
  record_setRecord k _ s

theorem cutIn_other {j : AlertSlot} (other : j ≠ k) (a : Arrival) (s : State) : (cutIn a k s).record j = s.record j :=
  record_setRecord_ne other _ s

theorem arrive_cut (immediate : a.cls = .immediate) (free : ∀ j r, s.record j = some r → r.phase ≠ .airing) :
    arrive a k s = .ok (takeover k none (cutIn a k s)) (.alertTaken k true) := by
  have through : (decide (a.cls = .immediate) && s.airing.isNone) = true := by
    have none_airing : s.airing.isNone = true := Option.isNone_iff_eq_none.mpr ((airing_isNone_iff s).mpr free)
    rw [none_airing, decide_eq_true immediate]
    rfl
  have told : raiseAlertState k (s.setRecord k (some (a.record k true))) = cutIn a k s :=
    raiseAlertState_of (record_setRecord k _ s)
  simp only [arrive, through, if_true, told]

/-- The state that an IMMEDIATE alert's takeover leaves. -/
def cutTaken (a : Arrival) (k : AlertSlot) (s : State) : State := takeover k none (cutIn a k (frameComplete .A s))

theorem exec_alertBegin_cut (h : Takes .A s) (onAir : s.dev.state = .onAir) (long : 11 ≤ ps.length) (whole : (ps.length - 11) % 6 = 0)
    (spelled : arrivalOf ps = some a) (accepted : AlertAccepted a k s) (immediate : a.cls = .immediate)
    (free : ∀ j r, s.record j = some r → r.phase ≠ .airing) :
    exec (.alertBegin .A ps) s = .next (respond .A 0x60 .ok (.alertTaken k true) (cutTaken a k s)) := by
  have accepted' : AlertAccepted a k (frameComplete .A s) := accepted
  have owner := alertBeginOwner_accepted (s := frameComplete .A s) onAir spelled accepted'
  rw [arrive_cut (s := frameComplete .A s) immediate free] at owner
  refine congrArg _ ((command_taken h _ (alertBegin_checks h onAir long whole)).trans ?_)
  rw [owner]
  rfl

theorem respond_link (l : Link) (c : Nat) (st : Status) (res : Result) (s : State) :
    ((respond l c st res s).link l).inFlight = some ⟨c, some ⟨c, st, res⟩⟩ := by simp [respond, link_modLink]

/-- The event that a state holds pending, its answer does too. -/
theorem Pending.answered {l : Link} {e : Event} (h : Pending l e s) (m : Link) (c : Nat) (st : Status) (res : Result) :
    Pending l e (respond m c st res s) :=
  (respond_raises (ns := []) m c st res s).pending h (by simp)

theorem supTaken_running {x : Supervisor} {m : AirMode} (mode : x.mode = some m) (notAlert : m ≠ .alert) :
    supTaken x = { x with mode := some .alert, remembered := some m } := by
  cases m with
  | alert => exact absurd rfl notAlert
  | normal => simp only [supTaken, mode]
  | fallback => simp only [supTaken, mode]

theorem immediateAlertsCutThrough : Claims.ImmediateAlertsCutThrough := by
  intro ps a k m s h onAir long whole spelled accepted immediate free mode notAlert running
  let v := frameComplete .A s
  have record : (cutIn a k v).record k = some (a.record k true) := cutIn_record a k v
  have before := cutIn_touches a k v
  have supBefore : (cutIn a k v).sup = s.sup := before .sup (by decide)
  have delayBefore : (cutIn a k v).delay = s.delay := before .delay (by decide)
  have cueBefore : (cutIn a k v).cue = s.cue := before .cue (by decide)
  have memBefore : (cutIn a k v).mem = s.mem := before .mem (by decide)
  have txBefore : (cutIn a k v).tx = s.tx := before .tx (by decide)
  have profBefore : (cutIn a k v).prof = s.prof := before .prof (by decide)
  have devBefore : (cutIn a k v).dev = s.dev := before .dev (by decide)
  have dueBefore : (cutIn a k v).due = s.due := before .due (by decide)
  have running' : (cutIn a k v).cue.state ≠ .held := by rw [cueBefore]; exact running
  have silenced : Silenced (cutIn a k v) (cutTaken a k s) := takeover_silenced record running' none
  obtain ⟨w, cue⟩ := takeover_cue record none
  have cue : (cutTaken a k s).cue = { heldCue (cutIn a k v).clips (cutIn a k v).cue none with boundaryWait := w } := cue
  rw [heldCue, if_neg running'] at cue
  have sup : (cutTaken a k s).sup = { s.sup with mode := some .alert, remembered := some m } := by
    rw [cutTaken, takeover_sup record, supBefore]
    exact supTaken_running mode notAlert
  have delay : (cutTaken a k s).delay = { s.delay with dump := if 0 < s.delay.alertSegs then s.delay.dump else some .unlimited } := by
    rw [cutTaken, takeover_delay record (show (a.record k true).cls = .immediate from immediate), delayBefore]
  obtain ⟨mem, tx, prof, dev, due⟩ := takeover_rest k none (cutIn a k v)
  have aired : (cutTaken a k s).record k = some { a.record k true with phase := .airing } := takeover_record record none
  have others (j : AlertSlot) (hj : j ≠ k) : (cutTaken a k s).record j = s.record j :=
    (takeover_record_other hj none).trans (cutIn_other hj a v)
  have alert := takeover_alert record rfl none
  have slots := takeover_slot record none
  have lamp := takeover_reports record none
  have told : Pending .C (.alertOnAir a.id .immediate) (cutTaken a k s) := by
    have raised := takeover_alertOnAir record none
    rw [show (a.record k true).cls = .immediate from immediate] at raised
    exact raised
  have answered := Pending.answered told .A 0x60 .ok (.alertTaken k true)
  refine ⟨_, exec_alertBegin_cut h onAir long whole spelled accepted immediate free, respond_link _ _ _ _ _,
    ⟨_, aired, rfl, rfl, immediate, rfl, rfl, rfl⟩, others, alert, ?_, ?_, ?_, silenced.voiceA, silenced.voiceB, slots 0, slots 1,
    sup, delay, lamp, answered, mem.trans memBefore, tx.trans txBefore, prof.trans profBefore, dev.trans devBefore, due.trans dueBefore⟩
  · exact (congrArg Cue.state cue :)
  · exact (congrArg Cue.voiceA cue :)
  · exact (congrArg Cue.voiceB cue :)

theorem takeoversReturnTheLines : Claims.TakeoversReturnTheLines := by
  intro ps a k s h onAir long whole spelled accepted immediate free kept numbered idle
  let v := frameComplete .A s
  have before : (cutIn a k v).callers = s.callers := cutIn_touches a k v .callers (by decide)
  have returned : Claims.linesReturned .alert (cutIn a k v) (cutTaken a k s) :=
    takeover_linesReturned (cutIn_record a k v) (linesKept_congr before kept) (queueNumbered_congr before numbered)
      (fun j empty => by
        rw [slot_of_slots (congrArg Callers.slots before)] at empty ⊢
        exact idle j empty) none
  refine ⟨_, exec_alertBegin_cut h onAir long whole spelled accepted immediate free, ?_⟩
  exact linesReturned_congr before (respond_touches .A 0x60 .ok (.alertTaken k true) (cutTaken a k s) .callers (by decide))
    (fun e _ pending => Pending.answered pending _ _ _ _) returned

theorem takeoversHoldTheEngine : Claims.TakeoversHoldTheEngine := by
  intro ps a k s h onAir long whole spelled accepted immediate free running position leaves held kept reserves
  let v := frameComplete .A s
  have record : (cutIn a k v).record k = some (a.record k true) := cutIn_record a k v
  have cueBefore : (cutIn a k v).cue = s.cue := cutIn_touches a k v .cue (by decide)
  have clipsBefore : (cutIn a k v).clips = s.clips := cutIn_touches a k v .clips (by decide)
  have mixBefore : (cutIn a k v).mix = s.mix := cutIn_touches a k v .mix (by decide)
  have running' : (cutIn a k v).cue.state ≠ .held := by rw [cueBefore]; exact running
  have silenced : Silenced (cutIn a k v) (cutTaken a k s) := takeover_silenced record running' none
  obtain ⟨w, cue⟩ := takeover_cue record none
  have cue : (cutTaken a k s).cue = { heldCue (cutIn a k v).clips (cutIn a k v).cue none with boundaryWait := w } := cue
  rw [heldCue, if_neg running', cueBefore, clipsBefore] at cue
  have resumes (e : Entry) : (e.voice.bind fun v => s.clips.reader (voiceReader v)).map Reader.position = e.voice.bind position := by
    rcases e.voice with _ | v
    · rfl
    · cases v <;> rfl
  have holdsEntry (e : Entry) : heldEntry s.clips e = held e := by
    cases kind : e.kind with
    | clip n => simp only [heldEntry, held, kind, resumes]
    | stream a => simp only [heldEntry, held, kind]
    | gap => simp only [heldEntry, held, kind]
    | mark => simp only [heldEntry, held, kind]
  have list : heldList s.clips s.cue.entries = kept := by
    refine List.map_congr_left fun e _ => ?_
    by_cases playing : e.state = .playing
    · rw [if_pos playing, if_pos (by exact decide_eq_true playing), holdsEntry]
    · rw [if_neg playing, if_neg (by simp [Entry.playing, playing])]
  have reserved : (s.cue.goPending || (endedBy s.cue).any Entry.leadsOn || (none : Option Bool) == some true) = true ↔ reserves := by
    simp only [Bool.or_eq_true, List.any_eq_true, endedBy, List.mem_filter, Entry.leadsOn, Bool.and_eq_true, Bool.not_eq_true',
      reserves, leaves, and_assoc, beq_iff_eq, reduceCtorEq, or_false]
    rfl
  have entries : (cutTaken a k s).cue.entries = if reserves then reserveHead kept else kept := by
    rw [cue, ← list]
    exact if_congr reserved rfl rfl
  have view : (cutTaken a k s).alerts.view = .held := by
    obtain ⟨tone, alerts⟩ := takeover_alerts record none
    have told := (congrArg Alerts.view alerts :)
    rw [cutTaken, told, if_neg running']
  have itemEnds (e : Entry) (last : (s.cue.entries.filter leaves).getLast? = some e) : Pending .P (.itemEnded e.tag) (cutTaken a k s) :=
    takeover_itemEnded record running' (by rw [cueBefore]; exact last)
  have emptied (listed : s.cue.entries ≠ []) (left : kept = []) : Pending .P .listEmpty (cutTaken a k s) := by
    refine takeover_listEmpty record running' (by rw [cueBefore]; exact listed) ?_
    rw [cueBefore, clipsBefore, heldEntries, list, left]
    exact ite_self _
  have holds : Pending .P .engineHeld (cutTaken a k s) := takeover_engineHeld record running'
  refine ⟨_, exec_alertBegin_cut h onAir long whole spelled accepted immediate free, ?_, ?_, (congrArg Cue.state cue :),
    (congrArg Cue.goPending cue :), (congrArg Cue.window cue :), view, (congrArg Cue.held cue :), fun e last => Pending.answered (itemEnds e last) _ _ _ _,
    fun listed left => Pending.answered (emptied listed left) _ _ _ _, Pending.answered holds _ _ _ _, ?_, ?_⟩
  · intro stays
    refine entries.trans ?_
    split
    next r =>
      have none_waits := stays.resolve_left (not_not.mpr r)
      exact changeFirst_none _ fun x hx => decide_eq_false (none_waits x hx)
    next => rfl
  · intro before head after r split ahead waits
    refine entries.trans ?_
    rw [if_pos r, split]
    exact changeFirst_at _ (fun x hx => decide_eq_false (ahead x hx)) (decide_eq_true waits)
  · intro x _ bound
    exact silenced.readerA (by rw [mixBefore, bound]; rfl)
  · intro x _ bound
    exact silenced.readerB (by rw [mixBefore, bound]; rfl)

/-- Settles O39. -/
theorem alertsArrive : Obligations.AlertsArrive :=
  ⟨alertsAreCaptured, immediateAlertsCutThrough, takeoversHoldTheEngine, alertsAreRefused, arrivalsAreSpelled, takeoversReturnTheLines,
    alertsEvict⟩

end Sys2Proof.CutThrough
end

section
/-! R123, R127, R128, R130, R131: captured records that end their capture, wait in the queue, and take the air. -/

namespace Sys2Proof.CapturedAlerts

-- one thread: the check compiles under a limit on the process
set_option Elab.async false

open Sys2Proof.Machine Sys2Proof.Safety Sys2Proof.Laws Sys2Proof.TakenCommands Sys2Proof.EngineNotices Sys2Proof.EventKeeping
open Sys2Proof.CallerSlots Sys2Proof.Takeovers Sys2Proof.Arrivals Sys2Proof.AlertsFinishing Sys2Proof.AlertReading
open Sys2Proof.CutThrough Sys2Proof.SettingsSet Sys2Proof.Walks Sys2Proof.CaptureBlocks

variable {s t u : State} {k : AlertSlot} {r : AlertRecord} {truncated : Bool}

-- the table (R130)

theorem windowTable : Claims.WindowTable := by
  intro view r
  refine ⟨fun overdue c => (eligible_iff c view r).mpr (.inl overdue), fun fresh => ?_⟩
  have marked (c : Check) {p : Prop} (h : _ ↔ p) := (eligible_iff c view r).trans ((or_iff_right (by simp [fresh])).trans h)
  exact ⟨marked .ordinary Iff.rfl, marked .itemOffer Iff.rfl, (marked .markOffer Iff.rfl).mpr trivial, marked .airingEnd Iff.rfl⟩

-- the end of a capture (R127)

/-- The record that a capture of `n` segments leaves. -/
def pendingRecord (r : AlertRecord) (k : AlertSlot) (n : Nat) (truncated : Bool) : AlertRecord :=
  { r with phase := .pending, truncated := truncated, clip := some (k, n), hold := 0, overdue := false }

/-- The wait notice, `r` being in slot `k` and PENDING (R132). -/
def waitsWith (k : AlertSlot) (r : AlertRecord) (s : State) : Bool :=
  alertSlots.any fun j => waits (if j = k then some { r with phase := .pending } else s.record j)

/-- The state in which the capture of a record has ended with segments, before its window check. -/
def pended (k : AlertSlot) (r : AlertRecord) (truncated : Bool) (s : State) : State :=
  raise .A (.alertState r.id r.origin .pending truncated r.damaged) { s with
    clips := { s.clips with
      alert := s.clips.alert.set k { s.clips.alert[k] with state := .ready, truncated := truncated }
      alertCapture := none }
    alerts := { s.alerts with
      records := s.alerts.records.set k (some (pendingRecord r k (s.clips.alert[k]).count truncated))
      queue := placeAlert (s.alerts.records.set k (some (pendingRecord r k (s.clips.alert[k]).count truncated))) r.cls k s.alerts.queue }
    cue := { s.cue with boundaryWait := waitsWith k r s } }

theorem endAlertCapture_pended (record : s.record k = some r) (capture : s.clips.alertCapture = some k)
    (captured : 0 < (s.clips.alert[k]).count) : endAlertCapture truncated s = windowCheck .ordinary (pended k r truncated s) := by
  have count : (s.clip (.alert k)).count = (s.clips.alert[k]).count := rfl
  have some_segment : (s.clips.alert[k]).count ≠ 0 := by omega
  let v : State := { s with clips := { s.clips with
    alert := s.clips.alert.set k { s.clips.alert[k] with state := .ready, truncated := truncated }
    alertCapture := none } }
  have held : v.record k = some r := record
  let n := (s.clips.alert[k]).count
  let w : State := v.setRecord k (some (pendingRecord r k n truncated))
  have pending : w.record k = some (pendingRecord r k n truncated) := record_setRecord k _ v
  have wait (q : List AlertSlot) : (alertSlots.any fun j => waits (State.record { w with alerts := { w.alerts with queue := q } } j)) =
      waitsWith k r s := by
    have same (j : AlertSlot) : waits (State.record { w with alerts := { w.alerts with queue := q } } j) =
        waits (if j = k then some { r with phase := .pending } else s.record j) := by
      by_cases here : j = k
      · subst here
        rw [if_pos rfl]
        exact (congrArg waits pending).trans rfl
      · rw [if_neg here]
        exact congrArg waits (record_setRecord_ne here _ v)
    simp only [same]
    rfl
  have ended : endAlertCapture truncated s = captureEnded k n truncated v := by
    simp only [endAlertCapture, capture, count, if_neg some_segment]
    rfl
  rw [ended, captureEnded, held]
  dsimp only
  rw [if_neg some_segment]
  have told : raiseAlertState k { w with alerts := { w.alerts with queue := placeAlert w.alerts.records r.cls k w.alerts.queue } } =
      raise .A (.alertState r.id r.origin .pending truncated r.damaged)
        { w with alerts := { w.alerts with queue := placeAlert w.alerts.records r.cls k w.alerts.queue } } :=
    raiseAlertState_of (s := { w with alerts := { w.alerts with queue := placeAlert w.alerts.records r.cls k w.alerts.queue } }) pending
  have worked : workOutWait (raise .A (.alertState r.id r.origin .pending truncated r.damaged)
      { w with alerts := { w.alerts with queue := placeAlert w.alerts.records r.cls k w.alerts.queue } }) = pended k r truncated s := by
    rw [workOutWait_eq, pended, ← wait]
    rfl
  exact congrArg (windowCheck .ordinary) ((congrArg workOutWait told).trans worked)

/-- A record becoming PENDING stands behind the records of its class and higher, ahead of the lower (R123). -/
theorem placeAlert_between {records : Vector (Option AlertRecord) 4} {cls : AlertClass} {before after : List AlertSlot}
    (ahead : ∀ j ∈ before, ∃ x, records[j] = some x ∧ cls.rank ≤ x.cls.rank)
    (behind : ∀ j ∈ after, ∃ x, records[j] = some x ∧ x.cls.rank < cls.rank) :
    placeAlert records cls k (before ++ after) = before ++ k :: after := by
  induction before with
  | nil =>
    cases after with
    | nil => rfl
    | cons j js =>
      obtain ⟨x, hx, lower⟩ := behind j List.mem_cons_self
      rw [List.nil_append, List.nil_append, placeAlert, hx]
      exact if_pos lower
  | cons j js ih =>
    obtain ⟨x, hx, higher⟩ := ahead j List.mem_cons_self
    rw [List.cons_append, placeAlert, hx]
    refine (if_neg (by omega)).trans ?_
    rw [ih fun i hi => ahead i (List.mem_cons_of_mem _ hi)]
    rfl

theorem pended_record (k : AlertSlot) (r : AlertRecord) (truncated : Bool) (s : State) :
    (pended k r truncated s).record k = some (pendingRecord r k (s.clips.alert[k]).count truncated) :=
  Vector.getElem_set_self _

theorem pended_other {j : AlertSlot} (other : j ≠ k) (r : AlertRecord) (truncated : Bool) (s : State) :
    (pended k r truncated s).record j = s.record j :=
  record_setRecord_ne other (some (pendingRecord r k (s.clips.alert[k]).count truncated)) s

theorem mem_placeAlert {records : Vector (Option AlertRecord) 4} {cls : AlertClass} {j : AlertSlot} :
    ∀ {q : List AlertSlot}, j ∈ placeAlert records cls k q → j = k ∨ j ∈ q
  | [], h => .inl (List.mem_singleton.mp h)
  | i :: is, h => by
    unfold placeAlert at h
    have here (h : j ∈ i :: placeAlert records cls k is) : j = k ∨ j ∈ i :: is := by
      rcases List.mem_cons.mp h with rfl | h
      · exact .inr List.mem_cons_self
      · exact (mem_placeAlert h).imp_right (List.mem_cons_of_mem _)
    split at h
    · split at h
      · exact List.mem_cons.mp h
      · exact here h
    · exact here h

/-- No record takes the air at the check that follows the end of a capture. -/
theorem pended_waits (receiving : r.phase = .receiving) (record : s.record k = some r)
    (others : NoneTakes .ordinary s.alerts.view s)
    (self : s.dev.state ≠ .onAir ∨ (∃ j x, s.record j = some x ∧ x.phase = .airing) ∨ r.cls = .advisory ∨
      r.cls = .warning ∧ (s.alerts.view = .playing ∨ s.alerts.view = .held) ∨ r.cls = .test ∧ s.alerts.view ≠ .idle) :
    windowCheck .ordinary (pended k r truncated s) = pended k r truncated s := by
  have stays {j : AlertSlot} {x : AlertRecord} (hx : s.record j = some x) (airing : x.phase = .airing) :
      (pended k r truncated s).record j = some x := by
    refine (pended_other ?_ r truncated s).trans hx
    rintro rfl
    rw [record] at hx
    cases hx
    rw [receiving] at airing
    cases airing
  have quiet : NoneTakes .ordinary s.alerts.view (pended k r truncated s) := by
    rcases others with off | ⟨j, x, hx, airing⟩ | unmarked
    · exact .inl off
    · exact .inr (.inl ⟨j, x, stays hx airing, airing⟩)
    · rcases self with off | ⟨j, x, hx, airing⟩ | cls
      · exact .inl off
      · exact .inr (.inl ⟨j, x, stays hx airing, airing⟩)
      · refine .inr (.inr fun j hj x hx => ?_)
        by_cases here : j = k
        · subst here
          rw [pended_record] at hx
          cases hx
          refine ⟨rfl, ?_⟩
          rcases cls with advisory | ⟨warning, view⟩ | ⟨test, view⟩
          · simp [pendingRecord, advisory]
          · simp [pendingRecord, warning, view]
          · simp [pendingRecord, test, view]
        · rw [pended_other here] at hx
          exact unmarked j ((mem_placeAlert hj).resolve_left here) x hx
  exact windowCheck_none quiet rfl rfl rfl rfl

-- ALERT AUDIO END (R128)

theorem alertAudioEnd_checks (h : Takes .A s) (ps : List Byte) (two : ps.length = 2) :
    failedCheck .A 0x61 ps (frameComplete .A s) = none :=
  checks_pass h [.A] (.exactly 2) rfl rfl (decide_eq_true two)

theorem alertAudioEndOwner_named {h l : Byte} (named : h.toNat * 256 + l.toNat = r.id) (given : r.id ≠ 0) (record : s.record k = some r)
    (sole : ∀ j x, s.record j = some x → x.id = r.id → j = k) : alertAudioEndOwner [h, l] s = .ok (alertAudioEnd k s) .none := by
  have id : u16At [h, l] 0 = r.id := named
  rw [alertAudioEndOwner, id, if_neg given, slotOfAlert_one record sole]

theorem alertAudioEnd_receiving (record : s.record k = some r) (receiving : r.phase = .receiving) :
    alertAudioEnd k s = endAlertCapture false s := by
  simp only [alertAudioEnd, record, receiving]

theorem takeRow_captureFull (found : Found .alertCaptureFull s) (capture : s.clips.alertCapture = some k)
    (full : 12000 ≤ (s.clips.alert[k]).count) : takeRow .alertCaptureFull s =
      endAlertCapture true { s with due := s.due.erase .alertCaptureFull } := by
  have whole : 12000 ≤ (s.clip (.alert k)).count := full
  rw [takeRow_found found]
  · simp only [happen, alertCaptureFull, capture]
    exact if_pos whole
  · simp only [stillDue, capture]
    exact decide_eq_true whole

theorem capturedAlertsWait : Claims.CapturedAlertsWait := by
  intro k r before after s record receiving capture captured queue ahead behind notQueued none_takes self n waits waiting
  have listed (m : Nat) (tr : Bool) : placeAlert (s.alerts.records.set k (some (pendingRecord r k m tr))) r.cls k s.alerts.queue =
      before ++ k :: after := by
    have kept {j : AlertSlot} (hj : j ∈ s.alerts.queue) : (s.alerts.records.set k (some (pendingRecord r k m tr)))[j] = s.record j :=
      Vector.getElem_set_ne _ _ fun e => notQueued (by rw [Fin.ext e]; exact hj)
    rw [queue]
    refine placeAlert_between (fun j hj => ?_) fun j hj => ?_
    · rw [kept (by rw [queue]; exact List.mem_append_left _ hj)]
      exact ahead j hj
    · rw [kept (by rw [queue]; exact List.mem_append_right _ hj)]
      exact behind j hj
  have wait : waitsWith k r s = waits := by
    refine congrArg (List.any _) (funext fun j => ?_)
    cases if j = k then some { r with phase := .pending } else s.record j <;> rfl
  have state (tr : Bool) (ds : List Due) (ls : Links) : pended k r tr { s with due := ds, links := ls } =
      waiting tr { s with due := ds, links := ls } := by
    have places := listed n tr
    simp only [pended, waiting]
    rw [places, show waitsWith k r { s with due := ds, links := ls } = waits from wait]
    rfl
  refine ⟨fun h l takes named given sole => ?_, fun found full => ?_⟩
  · have ends : alertAudioEnd k (frameComplete .A s) = pended k r false (frameComplete .A s) :=
      (alertAudioEnd_receiving (s := frameComplete .A s) record receiving).trans
        ((endAlertCapture_pended (s := frameComplete .A s) record capture captured).trans
          (pended_waits (s := frameComplete .A s) receiving record none_takes self))
    have owner := alertAudioEndOwner_named (s := frameComplete .A s) named given record sole
    refine congrArg _ (command_ok takes (alertAudioEnd_checks takes [h, l] rfl) (owner.trans (congrArg (Reply.ok · .none) ?_)))
    rw [ends]
    exact (state false s.due (frameComplete .A s).links).trans rfl
  · refine congrArg Host.Outcome.next ((takeRow_captureFull found capture full).trans ?_)
    refine (endAlertCapture_pended (s := { s with due := s.due.erase .alertCaptureFull }) record capture captured).trans ?_
    exact (pended_waits (s := { s with due := s.due.erase .alertCaptureFull }) receiving record none_takes self).trans (state true _ _)

-- the end that the last boundary found (R64)

/-- A window check changes of the records only the phase of the one that takes the air. -/
theorem windowCheck_record (c : Check) {j : AlertSlot} {x : AlertRecord} (record : s.record j = some x) :
    (windowCheck c s).record j = some x ∨ (windowCheck c s).record j = some { x with phase := .airing } := by
  unfold windowCheck
  split
  · next i _ =>
    by_cases here : j = i
    · subst here
      exact .inr (takeover_record record none)
    · exact .inl ((takeover_record_other here none).trans record)
  · exact .inl record

theorem windowCheck_free (c : Check) {j : AlertSlot} (free : s.record j = none) : (windowCheck c s).record j = none := by
  unfold windowCheck
  split
  · next i _ =>
    by_cases here : j = i
    · subst here
      rw [takeover_none free, free]
    · exact (takeover_record_other here none).trans free
  · exact free

theorem alertAudioEnd_ended (record : s.record k = some r) (captured : r.cutThrough = false)
    (ended : r.phase = .pending ∨ r.phase = .airing) : alertAudioEnd k s = s := by
  rcases ended with phase | phase <;> simp only [alertAudioEnd, record, phase, captured]

/-- A window check leaves the alert clips and the captures as they are. -/
theorem windowCheck_recording (c : Check) (s : State) : Recording s (windowCheck c s) := windowCheck_step (w := recording) c s

/-- What the end of a capture with segments leaves, whether the record then takes the air or not. -/
structure CaptureOver (k : AlertSlot) (r : AlertRecord) (truncated : Bool) (s t : State) : Prop where
  capture : t.clips.alertCapture = none
  ready : (t.clips.alert[k]).state = .ready
  marked : (t.clips.alert[k]).truncated = truncated
  record : t.record k = some (pendingRecord r k (s.clips.alert[k]).count truncated) ∨
    t.record k = some { pendingRecord r k (s.clips.alert[k]).count truncated with phase := .airing }
  others : ∀ j x, j ≠ k → t.record j = some x → ∃ y, s.record j = some y ∧ y.id = x.id

theorem captureOver (record : s.record k = some r) (capture : s.clips.alertCapture = some k) (captured : 0 < (s.clips.alert[k]).count) :
    CaptureOver k r truncated s (endAlertCapture truncated s) := by
  rw [endAlertCapture_pended record capture captured]
  have kept := windowCheck_recording .ordinary (pended k r truncated s)
  obtain ⟨n, clip⟩ := kept.clips (.alert k)
  have settled : (pended k r truncated s).clips.alert[k] = { s.clips.alert[k] with state := .ready, truncated := truncated } :=
    Vector.getElem_set_self _
  have clip' : (windowCheck .ordinary (pended k r truncated s)).clips.alert[k] =
      { s.clips.alert[k] with state := .ready, truncated := truncated, uses := n } := by
    have whole : (pended k r truncated s).clip (.alert k) = _ := settled
    rw [whole] at clip
    exact clip
  refine ⟨kept.capture, by rw [clip'], by rw [clip'], windowCheck_record .ordinary (pended_record k r truncated s), fun j x other hx => ?_⟩
  cases before : s.record j with
  | none =>
    have free := windowCheck_free .ordinary ((pended_other other r truncated s).trans before)
    rw [free] at hx
    cases hx
  | some y =>
    refine ⟨y, rfl, ?_⟩
    rcases windowCheck_record .ordinary ((pended_other other r truncated s).trans before) with same | airs
    · rw [same] at hx
      cases hx
      rfl
    · rw [airs] at hx
      cases hx
      rfl

theorem audioEndsFollowTheBoundary : Claims.AudioEndsFollowTheBoundary := by
  intro h l k r s reaches due record receiving capture full named given sole captured
  let v : State := { s with due := s.due.erase .alertCaptureFull }
  let u := endAlertCapture true v
  have live := live_of_reaches reaches
  have found : Found .alertCaptureFull s := ⟨live, by rw [due]; exact List.mem_singleton_self _⟩
  have row : takeRow .alertCaptureFull s = u := takeRow_captureFull found capture full
  have taken : take .alertCaptureFull s = u := by
    rw [← row, takeRow, if_pos live]
  have atEnd : CaptureOver k r true v u := captureOver (s := v) record capture (by exact Nat.lt_of_lt_of_le (by decide) full)
  have run : exec .alertCaptureFull s = .next u := congrArg Host.Outcome.next row
  have mode : u.sup.mode.isSome = s.sup.mode.isSome := by
    have pendedEnd : u = windowCheck .ordinary (pended k r true v) :=
      endAlertCapture_pended (s := v) record capture (by exact Nat.lt_of_lt_of_le (by decide) full)
    rw [pendedEnd, windowCheck_mode]
    rfl
  have takes : Takes .A u := taken ▸ takes_after reaches due (by simp) (by rw [taken]; exact mode)
  have only : ∀ j x, u.record j = some x → x.id = r.id → j = k := fun j x hx same => by
    by_contra other
    obtain ⟨y, hy, id⟩ := atEnd.others j x other hx
    exact other (sole j y hy (id.trans same))
  obtain ⟨x, hx, id, through, marked, ended⟩ : ∃ x, u.record k = some x ∧ x.id = r.id ∧ x.cutThrough = false ∧ x.truncated = true ∧
      (x.phase = .pending ∨ x.phase = .airing) := by
    rcases atEnd.record with same | airs
    · exact ⟨_, same, rfl, captured, rfl, .inl rfl⟩
    · exact ⟨_, airs, rfl, captured, rfl, .inr rfl⟩
  have owner : alertAudioEndOwner [h, l] (frameComplete .A u) = .ok (frameComplete .A u) .none := by
    have named' : h.toNat * 256 + l.toNat = x.id := named.trans id.symm
    refine (alertAudioEndOwner_named (s := frameComplete .A u) named' (by rw [id]; exact given) hx
      fun j y hy same => only j y hy (same.trans id)).trans ?_
    rw [alertAudioEnd_ended (s := frameComplete .A u) hx through ended]
  refine ⟨u, run, (exec_after_row rfl reaches due (by simp) rfl run).trans ?_, atEnd.ready, atEnd.marked, x, hx, marked, ended⟩
  exact congrArg _ (command_ok takes (alertAudioEnd_checks takes [h, l] rfl) owner)

-- the hold limit (R131)

/-- The record is overdue. -/
def overdueAt (k : AlertSlot) (r : AlertRecord) (s : State) : State := s.setRecord k (some { r with overdue := true })

theorem takeRow_holdLimit (found : Found (.holdLimitReached k) s) (record : s.record k = some r)
    (limit : r.reachesLimit s.alerts.settings = true) : takeRow (.holdLimitReached k) s =
      windowCheck .ordinary (overdueAt k r { s with due := s.due.erase (.holdLimitReached k) }) := by
  have record' : ({ s with due := s.due.erase (.holdLimitReached k) } : State).record k = some r := record
  rw [takeRow_found found]
  · simp only [happen, becomeOverdue, record', limit, if_true, overdueAt]
  · simp only [stillDue, record', limit]

theorem heldAlertsBecomeOverdue : Claims.HeldAlertsBecomeOverdue := by
  intro k r s found record pending fresh reached
  have row := takeRow_holdLimit found record (reachesLimit_of pending fresh reached)
  let v : State := { s with due := s.due.erase (.holdLimitReached k) }
  have own : (overdueAt k r v).record k = some { r with overdue := true } := record_setRecord k _ v
  have other {j : AlertSlot} (hj : j ≠ k) : (overdueAt k r v).record j = s.record j := record_setRecord_ne hj _ v
  have apart {j : AlertSlot} {x : AlertRecord} (hx : s.record j = some x) (airing : x.phase = .airing) : j ≠ k := by
    rintro rfl
    rw [record] at hx
    cases hx
    rw [pending] at airing
    cases airing
  refine ⟨fun ⟨j, x, hx, airing⟩ => ?_, fun free onAir head => ?_⟩
  · have quiet : NoneTakes .ordinary s.alerts.view (overdueAt k r v) :=
      .inr (.inl ⟨j, x, (other (apart hx airing)).trans hx, airing⟩)
    exact congrArg Host.Outcome.next (row.trans (windowCheck_none quiet rfl rfl rfl rfl))
  · obtain ⟨rest, queue⟩ : ∃ rest, s.alerts.queue = k :: rest := by
      cases hq : s.alerts.queue with
      | nil => simp [hq] at head
      | cons j rest => exact ⟨rest, by simpa [hq] using head⟩
    have takesAir : TakesAir .ordinary s.alerts.view k (overdueAt k r v) := by
      refine ⟨onAir, fun j x hx => ?_, [], rest, _, queue, own, .inl rfl, .inr (.inr fun j hj => by cases hj)⟩
      by_cases hj : j = k
      · subst hj
        rw [own] at hx
        cases hx
        simp [pending]
      · exact free j x ((other hj).symm.trans hx)
    have airs : takeRow (.holdLimitReached k) s = takeover k none (overdueAt k r v) := by
      rw [row, windowCheck, windowTaker_some takesAir rfl rfl rfl rfl]
    refine ⟨_, _, congrArg Host.Outcome.next airs, takeover_record own none, rfl, rfl, ?_, fun _ => takeover_held own none⟩
    rw [takeover_queue own]
    simp

-- a record that takes the air at the end of its capture (R130)

theorem capturedAlertsTakeTheAir : Claims.CapturedAlertsTakeTheAir := by
  intro h l k r s takes onAir named given record receiving sole free queue capture captured marked
  let v := frameComplete .A s
  let n := (s.clips.alert[k]).count
  have own : (pended k r false v).record k = some (pendingRecord r k n false) := pended_record k r false v
  have listed : (pended k r false v).alerts.queue = [k] := by
    show placeAlert _ _ k s.alerts.queue = [k]
    rw [queue]
    rfl
  have takesAir : TakesAir .ordinary s.alerts.view k (pended k r false v) := by
    refine ⟨onAir, fun j x hx => ?_, [], [], _, listed, own, .inr marked, .inr (.inr fun j hj => by cases hj)⟩
    by_cases hj : j = k
    · subst hj
      rw [own] at hx
      cases hx
      simp [pendingRecord]
    · exact free j x ((pended_other hj r false v).symm.trans hx)
  have airs : alertAudioEnd k v = takeover k none (pended k r false v) := by
    rw [alertAudioEnd_receiving (s := v) record receiving, endAlertCapture_pended (s := v) record capture captured, windowCheck,
      windowTaker_some takesAir rfl rfl rfl rfl]
  have owner := alertAudioEndOwner_named (s := v) named given record sole
  rw [airs] at owner
  have run : exec (.alertAudioEnd .A [h, l]) s =
      .next (respond .A 0x61 .ok .none (takeover k none (pended k r false v))) := by
    refine congrArg _ ((command_taken takes _ (alertAudioEnd_checks takes [h, l] rfl)).trans ?_)
    rw [owner]
    rfl
  have kept : Recording (pended k r false v) (takeover k none (pended k r false v)) :=
    takeover_step (w := recording) (by rw [listed]; exact List.mem_singleton_self k) none
  obtain ⟨m, clip⟩ := kept.clips (.alert k)
  have settled : (pended k r false v).clips.alert[k] = { s.clips.alert[k] with state := .ready, truncated := false } :=
    Vector.getElem_set_self _
  have ready : ((takeover k none (pended k r false v)).clips.alert[k]).state = .ready := by
    have whole : (pended k r false v).clip (.alert k) = _ := settled
    rw [whole] at clip
    exact (congrArg Clip.state clip :)
  have aired := takeover_record own none
  have mode : (takeover k none (pended k r false v)).sup.mode = some .alert := by
    rw [takeover_sup own]
    exact supTaken_mode (mode_given takes onAir)
  have left : (takeover k none (pended k r false v)).alerts.queue = [] := by
    rw [takeover_queue own, listed]
    simp
  have held := takeover_held own none
  have lamp := takeover_reports own none
  have told := takeover_alertOnAir own none
  exact ⟨_, run, respond_link _ _ _ _ _, aired, left, held, mode, ready, lamp, Pending.answered told .A 0x61 .ok .none⟩

end Sys2Proof.CapturedAlerts
end

section
/-! What an input block boundary makes of the one report that its work brings: of a reader at its end, or of the pool. -/

namespace Sys2Proof.BoundaryReports

-- one thread: the check compiles under a limit on the process
set_option Elab.async false

open Sys2Proof.Machine Sys2Proof.Safety Sys2Proof.Laws Sys2Proof.Boundaries Sys2Proof.EventKeeping Sys2Proof.IdleEvents
open Sys2Proof.CaptureBlocks Sys2Proof.PanelKeeping

variable {s t u : State} {d : Due} {env : InputBoundary}

theorem takeEach_absent {ds : List Due} (h : ∀ d ∈ ds, d ∉ s.due) : takeEach ds s = s := by
  induction ds with
  | nil => rfl
  | cons d ds ih =>
    have absent : ¬s.due.contains d = true := by simpa using h d List.mem_cons_self
    have none_taken : take d s = s := by rw [take, if_neg absent]
    show takeEach ds (take d s) = s
    rw [none_taken]
    exact ih fun e he => h e (List.mem_cons_of_mem _ he)

theorem take_happens (found : d ∈ s.due) (still : stillDue { s with due := s.due.erase d } d = true) :
    take d s = happen d { s with due := s.due.erase d } := by
  rw [take, if_pos (by simpa using found)]
  exact if_pos still

theorem samplePanels_settings (pins : Vector Contact 8) (s : State) : (samplePanels pins s).panel.settings = s.panel.settings := by
  have one (n : PanelLineNo) (t : State) : (samplePanel pins n t).panel.settings = t.panel.settings := by
    unfold samplePanel
    dsimp only
    split
    · split <;> rfl
    · rfl
  have all (ns : List PanelLineNo) (t : State) : (ns.foldl (fun t n => samplePanel pins n t) t).panel.settings = t.panel.settings := by
    induction ns generalizing t with
    | nil => rfl
    | cons n ns ih => exact (ih _).trans (one n t)
  unfold samplePanels
  exact all panelLines s

theorem samplePanels_keeps (pins : Vector Contact 8) (s : State) : ∀ d ∈ s.due, d ∈ (samplePanels pins s).due := by
  have one (n : PanelLineNo) (t : State) : ∀ d ∈ t.due, d ∈ (samplePanel pins n t).due := by
    intro d hd
    unfold samplePanel
    dsimp only
    split
    · split
      · exact List.mem_append_left _ hd
      · exact hd
    · exact hd
  have all (ns : List PanelLineNo) (t : State) : ∀ d ∈ t.due, d ∈ (ns.foldl (fun t n => samplePanel pins n t) t).due := by
    induction ns generalizing t with
    | nil => exact fun _ hd => hd
    | cons n ns ih => exact fun d hd => ih _ d (one n t d hd)
  unfold samplePanels
  exact all panelLines s

/-- The report is taken; the timed events are left to their rows and no panel line acts. -/
theorem inputEvents_report (report : d ∈ reportsDue) (first : env.first = []) (leave : env.leave = true) (due : s.due = [d])
    (tone : toneOver s = false) (panel : PanelIdle s)
    (still : ∀ w, Touches [.panel, .links, .due] s w → stillDue w d = true) :
    ∃ w, Touches [.panel, .links, .due] s w ∧ Raises [0x20] s w ∧ Touches [.due] (happen d w) (inputEvents env s) := by
  obtain ⟨f, isF⟩ : ∃ f, f = findDue inputDue s := ⟨_, rfl⟩
  have noTone : findToneEnd f = f := by
    refine if_neg ?_
    have same : toneOver f = toneOver s := by rw [isF]; rfl
    rw [same, tone]
    exact Bool.false_ne_true
  have found : d ∈ f.due := by
    rw [isF, findDue, due]
    exact List.mem_append_left _ (List.mem_singleton_self d)
  have foundOnly : ∀ e ∈ f.due, e = d ∨ e ∈ inputDue := by
    intro e he
    rw [isF, findDue, due] at he
    exact (List.mem_append.mp he).imp List.mem_singleton.mp List.mem_of_mem_filter
  have foundSettings : f.panel.settings = s.panel.settings := by rw [isF, findDue]
  have foundLinks : f.links = s.links := by rw [isF, findDue]
  have foundTouched : Touches [.due] s f := by rw [isF]; exact findDue_touches _ s
  obtain ⟨v, isV⟩ : ∃ v, v = samplePanels env.pins f := ⟨_, rfl⟩
  have foundV : d ∈ v.due := by rw [isV]; exact samplePanels_keeps env.pins f d found
  have touched : Touches [.panel, .links, .due] s v := by
    rw [isV]
    exact ((Touches.refl _ s).and foundTouched).and (samplePanels_touches _ _)
  have settings : v.panel.settings = s.panel.settings := by
    rw [isV]
    exact (samplePanels_settings env.pins f).trans foundSettings
  have rowless (e : Due) (he : e ∈ reportsDue ++ actionsDue) (hv : e ∈ v.due) : e = d ∨ IdleAction v e := by
    rcases samplePanels_due env.pins f e (isV ▸ hv) with old | ⟨n, on, rfl, input⟩
    · exact (foundOnly e old).imp id fun timed => absurd he (rowless_of_timed timed)
    · refine .inr ⟨n, on, rfl, ?_⟩
      rw [State.panelConfig, foundSettings] at input
      rw [State.panelConfig, settings]
      exact (panel n).resolve_left fun output => of_decide_eq_true input output
  obtain ⟨before, after, order, fresh⟩ := List.eq_append_cons_of_mem report
  have nodup : reportsDue.Nodup := by decide
  rw [order] at nodup
  have late : d ∉ after := (List.nodup_cons.mp (List.nodup_append.mp nodup).2.1).1
  have noAction (e : Due) (he : e ∈ reportsDue) : ¬∃ n on, e = .panelAction n on := by
    rintro ⟨n, on, rfl⟩
    simp [reportsDue] at he
  have ahead : takeEach before v = v := takeEach_absent fun e he hv => by
    have listed : e ∈ reportsDue := by rw [order]; exact List.mem_append_left _ he
    rcases rowless e (List.mem_append_left _ listed) hv with rfl | ⟨n, on, act, -⟩
    · exact fresh he
    · exact noAction e listed ⟨n, on, act⟩
  let w : State := { v with due := v.due.erase d }
  have touchedW : Touches [.panel, .links, .due] s w := touched.and (due_touches _ v)
  have events : inputEvents env s = takeEach (after ++ actionsDue) (happen d w) := by
    have none_first (u : State) : takeEach [] u = u := rfl
    rw [inputEvents, ← isF, noTone, ← isV, settleDue, first, leave, if_pos rfl, none_first, order, List.append_assoc, takeEach, List.foldl_append]
    show takeEach (d :: after ++ actionsDue) (takeEach before v) = _
    rw [ahead]
    show takeEach (after ++ actionsDue) (take d v) = _
    rw [take_happens foundV (still w touchedW)]
  refine ⟨w, touchedW, fun l p hp hn => ?_, ?_⟩
  · show p ∈ (v.link l).events
    rw [isV]
    refine samplePanels_raises env.pins f l p ?_ hn
    rw [State.link, foundLinks]
    exact hp
  · rw [events]
    refine takeEach_idle fun e he hd => ?_
    have notFill : d ≠ .silenceWindow := by
      rintro rfl
      simp [reportsDue] at report
    rw [LawKeeping.happen_due notFill] at hd
    have listed : e ∈ reportsDue ++ actionsDue := by
      rw [order]
      rcases List.mem_append.mp he with he | he
      · exact List.mem_append_left _ (List.mem_append_right _ (List.mem_cons_of_mem _ he))
      · exact List.mem_append_right _ he
    rcases rowless e listed (List.mem_of_mem_erase hd) with rfl | ⟨n, on, rfl, idle⟩
    · rcases List.mem_append.mp he with he | he
      · exact absurd he late
      · have isReport : e ∉ actionsDue := (by decide : ∀ e ∈ reportsDue, e ∉ actionsDue) e report
        exact absurd he isReport
    · refine ⟨n, on, rfl, ?_⟩
      rw [State.panelConfig, (happen_heeds d w).settings]
      exact idle

end Sys2Proof.BoundaryReports
end

section
/-! R127: the capture of an alert that ends without audio, or without room in the pool. -/

namespace Sys2Proof.CapturesEnding

-- one thread: the check compiles under a limit on the process
set_option Elab.async false

open Sys2Proof.Machine Sys2Proof.Safety Sys2Proof.Laws Sys2Proof.TakenCommands Sys2Proof.Boundaries Sys2Proof.BlockForming
open Sys2Proof.EventKeeping Sys2Proof.IdleEvents Sys2Proof.FormedBlocks Sys2Proof.CaptureRecords Sys2Proof.CapturedAlerts
open Sys2Proof.AlertsFinishing Sys2Proof.BoundaryReports Sys2Proof.CutThrough Sys2Proof.LinkFramesSent Sys2Proof.PoolRequests
open Sys2Proof.MemoryKeeping

variable {s t u : State} {k : AlertSlot} {r : AlertRecord} {env : InputBoundary}

-- a capture without a segment

/-- The record of a capture without a segment, before it finishes. -/
def soundless (k : AlertSlot) (r : AlertRecord) : AlertRecord := { r with truncated := true, clip := some (k, 0) }

/-- The state in which a capture without a segment has left no audio. -/
def silenced (k : AlertSlot) (r : AlertRecord) (s : State) : State :=
  State.setRecord { s with clips := { s.clips with alert := s.clips.alert.set k Clip.empty, alertCapture := none } } k
    (some (soundless k r))

theorem endAlertCapture_silent (record : s.record k = some r) (capture : s.clips.alertCapture = some k)
    (silent : (s.clips.alert[k]).count = 0) (truncated : Bool) :
    endAlertCapture truncated s = finishedAs k (soundless k r) .unconfirmed (silenced k r s) := by
  have count : (s.clip (.alert k)).count = 0 := silent
  let v : State := { s with clips := { s.clips with alert := s.clips.alert.set k Clip.empty, alertCapture := none } }
  have held : v.record k = some r := record
  have ended : endAlertCapture truncated s = captureEnded k 0 truncated v := by
    simp only [endAlertCapture, capture, count, if_true]
    rfl
  rw [ended, captureEnded, held]
  exact finish_eq (s := silenced k r s) (record_setRecord k _ v) .unconfirmed

/-- The record has finished UNCONFIRMED without audio. -/
def Unconfirmed (k : AlertSlot) (r : AlertRecord) (t : State) : Prop := t.record k = none ∧ t.clips.alertCapture = none ∧
  t.clips.alert[k] = Clip.empty ∧ (∃ x, t.alerts.history.head? = some x ∧ x.id = r.id ∧
    x.phase = .finished .unconfirmed ∧ x.truncated = true) ∧
  ∃ p ∈ (t.link .A).events, p.event = .alertState r.id r.origin (.finished .unconfirmed) true r.damaged

/-- The record `x` is `r` at a later count. -/
structure Counted (r x : AlertRecord) : Prop where
  id : x.id = r.id
  origin : x.origin = r.origin
  damaged : x.damaged = r.damaged
  phase : x.phase = r.phase

theorem unconfirmed_of_silent {x : AlertRecord} (same : Counted r x) :
    Unconfirmed k r (finishedAs k (soundless k x) .unconfirmed (silenced k x s)) := by
  refine ⟨?_, rfl, Vector.getElem_set_self _, ⟨_, rfl, same.id, rfl, rfl⟩, ?_⟩
  · have free := record_set_none k k (silenced k x s) (a := (finishedAs k (soundless k x) .unconfirmed (silenced k x s)).alerts) rfl
    rw [if_pos rfl] at free
    exact free
  · have told : Pending .A (.alertState x.id x.origin (.finished .unconfirmed) true x.damaged)
        (finishedAs k (soundless k x) .unconfirmed (silenced k x s)) := pending_raised _ _ _
    rw [same.id, same.origin, same.damaged] at told
    exact told

theorem Unconfirmed.later (h : Unconfirmed k r s) (alerts : t.alerts = s.alerts) (clips : t.clips = s.clips)
    (told : Raises [] s t) : Unconfirmed k r t := by
  obtain ⟨record, capture, clip, history, event⟩ := h
  refine ⟨by rw [State.record, alerts]; exact record, by rw [clips]; exact capture, by rw [clips]; exact clip,
    by rw [alerts]; exact history, told.pending (l := .A) event (by simp)⟩

-- the boundary without room

theorem upsets_touch (us : List (Nat × Block)) (s : State) : Touches [.mem] s (applyUpsets us s) := by
  intro p hp
  cases p <;> first | rfl | exact absurd (by decide) hp

theorem upset_free (us : List (Nat × Block)) (m : SampleMemory) : (m.upset us).free = m.free := by
  unfold SampleMemory.upset
  induction us generalizing m with
  | nil => rfl
  | cons u us ih => exact ih _

theorem writeDelay_free (f : Formed) (s : State) : (writeDelay f s).mem.free = s.mem.free := by
  by_cases off : s.delay.state = .off
  · rw [writeDelay, if_pos off]
  · rw [writeDelay_running off]
    rfl

/-- An input block boundary's work with no reader open: its alert capture, the only one that runs, is refused its segment. -/
theorem inputRest_refused (free : s.mem.free = []) (due : s.due = []) (idle : s.clips.channels = Vector.replicate 2 none)
    (capture : s.clips.alertCapture = some k) (record : s.record k = some r) (a : s.clips.readerA = none) (b : s.clips.readerB = none)
    (x : s.clips.readerAlert = none) (tone : s.alerts.tone = none) :
    ∃ u, inputRest env (formBlock (completed env (applyUpsets env.upsets s))) = u ∧ u.clips = s.clips ∧ u.due = [.alertNoSegment] ∧
      u.alerts.tone = none ∧ u.panel = s.panel ∧
      ∃ y, u.record k = some { y with clip := some (k, (s.clips.alert[k]).count) } ∧ Counted r y := by
  let c := completed env (applyUpsets env.upsets s)
  have touched : Touches [.mem, .inputs, .dev] s c :=
    ((Touches.refl _ s).and (upsets_touch env.upsets s)).and (completed_touches env _)
  have clips : c.clips = s.clips := touched .clips (by decide)
  have alerts : c.alerts = s.alerts := touched .alerts (by decide)
  have formed : formBlock c = { c with mix := (started c).mix.map Contrib.stepFade, formed := some (formedOf c) } :=
    formBlock_closed (by rw [clips]; exact a) (by rw [clips]; exact b) (by rw [clips]; exact x)
  let v := formBlock c
  have vformed : v.formed = some (formedOf c) := by rw [show v = _ from formed]
  have vfrom : Touches [.mem, .inputs, .dev, .mix, .formed] s v := by
    rw [show v = _ from formed]
    refine (touched.mono (by decide)).trans ?_
    intro p hp
    cases p <;> first | rfl | exact absurd (by decide) hp
  let u := useFormed v
  have used : Touches [.mem, .inputs, .dev, .mix, .formed, .delay, .alerts] s u :=
    (vfrom.mono (by decide)).trans ((useFormed_touches v).mono (by decide))
  have uclips : u.clips = s.clips := used .clips (by decide)
  have udue : u.due = s.due := used .due (by decide)
  have upanel : u.panel = s.panel := used .panel (by decide)
  have ufree : u.mem.free = [] := by
    have written : u.mem = (writeDelay (formedOf c) v).mem := (useFormed_written vformed).1
    rw [written, writeDelay_free, show v.mem = c.mem by rw [show v = _ from formed]]
    have fromUpset : c.mem = (applyUpsets env.upsets s).mem := completed_touches env _ .mem (by decide)
    rw [fromUpset]
    exact (upset_free env.upsets s.mem).trans free
  have utone : u.alerts.tone = none := by
    have valerts : v.alerts = s.alerts := vfrom .alerts (by decide)
    exact useFormed_tone (by rw [valerts]; exact tone)
  obtain ⟨y, urecord, counted⟩ : ∃ y, u.record k = some y ∧ Counted r y := by
    have valerts : (writeDelay (formedOf c) v).alerts = s.alerts :=
      Eq.trans (writeDelay_touches _ v .alerts (by decide)) (vfrom .alerts (by decide))
    have before : (writeDelay (formedOf c) v).record k = some r := by rw [State.record, valerts]; exact record
    have recorded := record_countAlerts (formedOf c) (writeDelay (formedOf c) v) k
    rw [before, Option.map_some] at recorded
    exact ⟨_, (congrArg (State.record · k) (useFormed_some vformed)).trans recorded, rfl, rfl, rfl, rfl⟩
  have only : ∀ e, e ≠ Capturer.alert → ¬Active u e := by
    intro e other
    cases e with
    | channel ch => simp [Active, uclips, idle]
    | alert => exact absurd rfl other
  have ucapture : u.clips.alertCapture = some k := by rw [uclips]; exact capture
  have refused : u.mem.grants (.alert k) = false := by
    rw [Bool.eq_false_iff, Ne, grants_iff, ufree]
    exact fun h => h.1 rfl
  have ran : runCaptures env.captures u = { u with due := u.due ++ [.alertNoSegment] } := by
    rw [runCaptures_one _ only, captureInto_alert ucapture, appendBlock_refused refused, Option.getD_none]
  have rest : inputRest env v = CaptureRecords.counted { u with due := u.due ++ [.alertNoSegment] } := by
    rw [inputRest, show useFormed v = u from rfl, ran]
    rfl
  let w : State := { u with due := u.due ++ [.alertNoSegment] }
  have after := counted_touches w
  have walerts : (CaptureRecords.counted w).alerts = (countCaptured w).alerts := counted_alerts w
  refine ⟨_, rest, Eq.trans (after .clips (by decide)) uclips, Eq.trans (after .due (by decide)) ?_, ?_,
    Eq.trans (after .panel (by decide)) upanel, y, ?_, counted⟩
  · show u.due ++ _ = _
    rw [udue, due]
    rfl
  · rw [walerts, (countCaptured_kept w).1]
    exact utone
  · have shown : (countCaptured w).record k = (w.record k).map fun r => { r with clip := some (k, (w.clip (.alert k)).count) } :=
      countCaptured_record ucapture
    rw [show w.record k = some y from urecord] at shown
    rw [State.record, walerts]
    refine shown.trans ?_
    rw [show w.clip (.alert k) = u.clips.alert[k] from rfl, uclips]
    rfl

theorem capturesWithoutRoom : Claims.CapturesWithoutRoom := by
  intro k r s record receiving sole capture unconfirmed
  refine ⟨fun h l takes named given silent => ?_, fun env live due first leave free idle a b x tone panel => ?_⟩
  · let v := frameComplete .A s
    have owner := alertAudioEndOwner_named (s := v) named given record sole
    rw [alertAudioEnd_receiving (s := v) record receiving, endAlertCapture_silent (s := v) record capture silent] at owner
    have run : exec (.alertAudioEnd .A [h, l]) s =
        .next (respond .A 0x61 .ok .none (finishedAs k (soundless k r) .unconfirmed (silenced k r v))) := by
      refine congrArg Host.Outcome.next ((command_taken takes _ (alertAudioEnd_checks takes [h, l] rfl)).trans ?_)
      rw [owner]
      rfl
    refine ⟨_, run, ?_⟩
    have finished : Unconfirmed k r (finishedAs k (soundless k r) .unconfirmed (silenced k r v)) :=
      unconfirmed_of_silent ⟨rfl, rfl, rfl, rfl⟩
    exact finished.later rfl rfl (respond_raises .A 0x61 .ok .none _)
  · obtain ⟨u, work, clips, udue, utone, upanel, y, urecord, counted⟩ := inputRest_refused (env := env) free due idle capture record a b x tone
    have run := exec_inputBoundary (env := env) live due
    rw [work] at run
    have idlePanel : PanelIdle u := by
      intro n
      rw [upanel]
      exact panel n
    have noTone : toneOver u = false := by simp only [toneOver, utone]
    obtain ⟨w, touched, -, ends⟩ := inputEvents_report (d := .alertNoSegment) (by decide) first leave udue noTone idlePanel fun w touched => by
      have same : w.clips = u.clips := touched .clips (by decide)
      show w.clips.alertCapture.isSome = true
      rw [same, clips, capture]
      rfl
    have wclips : w.clips = s.clips := Eq.trans (touched .clips (by decide)) clips
    have walerts : w.alerts = u.alerts := touched .alerts (by decide)
    have wrecord : w.record k = some { y with clip := some (k, (s.clips.alert[k]).count) } := by
      rw [State.record, walerts]
      exact urecord
    have wcapture : w.clips.alertCapture = some k := by rw [wclips]; exact capture
    have wcount : (w.clips.alert[k]).count = (s.clips.alert[k]).count := by rw [wclips]
    have happened : happen .alertNoSegment w = endAlertCapture true w := rfl
    rw [happened] at ends
    have tclips : (inputEvents env u).clips = (endAlertCapture true w).clips := ends .clips (by decide)
    have talerts : (inputEvents env u).alerts = (endAlertCapture true w).alerts := ends .alerts (by decide)
    rcases Nat.eq_zero_or_pos (s.clips.alert[k]).count with silent | captured
    · have ended := endAlertCapture_silent wrecord wcapture (wcount.trans silent) true
      have finished : Unconfirmed k r (inputEvents env u) := by
        rw [ended] at tclips talerts ends
        refine (unconfirmed_of_silent ⟨counted.id, counted.origin, counted.damaged, counted.phase⟩).later talerts tclips ?_
        exact EventKeeping.silent ends
      exact ⟨_, run, finished.2.1, fun _ => finished, fun captured => by omega⟩
    · have atEnd : CaptureOver k _ true w (endAlertCapture true w) := captureOver wrecord wcapture (by rw [wcount]; exact captured)
      refine ⟨_, run, by rw [tclips]; exact atEnd.capture, fun silent => by omega, fun _ => ⟨by rw [tclips]; exact atEnd.ready,
        by rw [tclips]; exact atEnd.marked, ?_⟩⟩
      have trecord : (inputEvents env u).record k = (endAlertCapture true w).record k := by rw [State.record, talerts]; rfl
      rcases atEnd.record with pending | airing
      · exact ⟨_, trecord.trans pending, counted.id, rfl, by rw [← wcount]; rfl, .inl rfl⟩
      · exact ⟨_, trecord.trans airing, counted.id, rfl, by rw [← wcount]; rfl, .inr rfl⟩

/-- Settles O40. -/
theorem alertsWaitForTheAir : Obligations.AlertsWaitForTheAir :=
  ⟨capturedAlertsWait, audioEndsFollowTheBoundary, heldAlertsBecomeOverdue, windowTable, capturedAlertsTakeTheAir, capturesWithoutRoom⟩

end Sys2Proof.CapturesEnding
end

section
/-! R66, R67: what an input block boundary's work leaves, when the one open reader comes to the end of its clip. -/

namespace Sys2Proof.LastReads

-- one thread: the check compiles under a limit on the process
set_option Elab.async false

open Sys2Proof.Machine Sys2Proof.Safety Sys2Proof.Laws Sys2Proof.Boundaries Sys2Proof.BlockForming Sys2Proof.IdleEvents
open Sys2Proof.FormedBlocks Sys2Proof.CaptureRecords Sys2Proof.CapturesEnding Sys2Proof.ReaderEnds Sys2Proof.LinkFramesSent
open Sys2Proof.MemoryKeeping Sys2Proof.PoolRequests

variable {s t u w : State} {q : ReaderOf} {x : Reader} {env : InputBoundary} {k : AlertSlot} {r : AlertRecord}

/-- The contributor that a reader reads for. -/
def ownContributor : ReaderOf → Contributor
  | .voiceA => .voiceA
  | .voiceB => .voiceB
  | .alert => .alert

-- the reader's read

/-- With the reader `q` alone open, a boundary's reads are its own. -/
theorem afterReaders_one (closed : ∀ p, p ≠ q → s.clips.reader p = none)
    (bound : (s.contrib (ownContributor q)).binding = some (.clip x.clip)) : afterReaders s = (readBlock q (started s)).2 := by
  have own : ((started s).contrib (ownContributor q)).binding = some (.clip x.clip) := (started_binding _ s).trans bound
  have reads : (contributorBlock (ownContributor q) q (started s)).2 = (readBlock q (started s)).2 :=
    congrArg Prod.snd (contributorBlock_clip own)
  have others {p : ReaderOf} (hp : p ≠ q) : (readBlock q (started s)).2.clips.reader p = none :=
    (readBlock_reader hp (started s)).trans (closed p hp)
  cases q with
  | voiceA =>
    have first : afterA s = (readBlock .voiceA (started s)).2 := reads
    have second : afterB s = (readBlock .voiceA (started s)).2 := by
      rw [afterB, first]
      exact contributorBlock_closed (r := .voiceB) (others (by decide))
    rw [afterReaders, second]
    exact contributorBlock_closed (r := .alert) (others (by decide))
  | voiceB =>
    have first : afterA s = started s := contributorBlock_closed (r := .voiceA) (closed .voiceA (by decide))
    have second : afterB s = (readBlock .voiceB (started s)).2 := by
      rw [afterB, first]
      exact reads
    rw [afterReaders, second]
    exact contributorBlock_closed (r := .alert) (others (by decide))
  | alert =>
    have first : afterA s = started s := contributorBlock_closed (r := .voiceA) (closed .voiceA (by decide))
    have second : afterB s = started s := by
      rw [afterB, first]
      exact contributorBlock_closed (r := .voiceB) (closed .voiceB (by decide))
    rw [afterReaders, second]
    exact reads

-- what the boundary's work leaves

/-- The record `y` is `r` at a later count, its audio block counted when it is AIRING and ALERT sounds. -/
structure CountedOn (sounds : Bool) (r y : AlertRecord) : Prop where
  same : y = { r with age := y.age, hold := y.hold, airBlocks := y.airBlocks, damaged := y.damaged }
  airBlocks : y.airBlocks = if r.phase = .airing ∧ sounds = true then r.airBlocks + 1 else r.airBlocks

/-- From `s` to `t` the boundary's work has run, the reader `q` having read the last segment of its clip. -/
structure LastRead (q : ReaderOf) (x : Reader) (s t : State) : Prop where
  due : t.due = [.endOfAudio q]
  reader : t.clips.reader q = some (atEnd x (s.clip x.clip).count)
  closed : ∀ p, p ≠ q → t.clips.reader p = none
  clip : ∀ c, ∃ d, t.clip c = { s.clip c with damaged := d }
  fallback : t.clips.fallback = s.clips.fallback
  capture : t.clips.alertCapture = s.clips.alertCapture
  cue : t.cue = (countWindow (countPlayed s)).cue
  binding : ∀ c, (t.contrib c).binding = (s.contrib c).binding
  alerts : t.alerts.queue = s.alerts.queue ∧ t.alerts.view = s.alerts.view ∧ t.alerts.history = s.alerts.history ∧
    t.alerts.settings = s.alerts.settings
  tone : t.alerts.tone.map Prod.fst = s.alerts.tone.map Prod.fst
  record : ∀ k r, s.record k = some r → ∃ y, t.record k = some y ∧ CountedOn s.mix.alert.binding.isSome r y
  unused : ∀ k, s.record k = none → t.record k = none
  state : t.dev.state = s.dev.state
  panel : t.panel = s.panel
  sup : t.sup = s.sup
  free : t.mem.free = s.mem.free
  alertCount : t.mem.alertCount = s.mem.alertCount
  held : t.mem.held = s.mem.held
  ring : t.mem.ring = s.mem.ring
  segments : MemoryCanonical s → s.delay.writeHead < s.mem.ring → ∀ c, (∀ n ∈ s.segments c, s.mem.holder n = .clip c) →
    t.segments c = s.segments c

-- the memory

/-- The pool's list and counts, and the links of its segments, are kept. -/
structure LinksKept (m m' : SampleMemory) : Prop where
  free : m'.free = m.free
  alertCount : m'.alertCount = m.alertCount
  held : m'.held = m.held
  ring : m'.ring = m.ring
  canonical : m.wf = true → m'.wf = true
  links : m.wf = true → ∀ n, m.ring ≤ n → (m'.read n).link = (m.read n).link

theorem LinksKept.refl (m : SampleMemory) : LinksKept m m := ⟨rfl, rfl, rfl, rfl, id, fun _ _ _ => rfl⟩

theorem LinksKept.trans {m m' m'' : SampleMemory} (h : LinksKept m m') (g : LinksKept m' m'') : LinksKept m m'' :=
  ⟨g.free.trans h.free, g.alertCount.trans h.alertCount, g.held.trans h.held, g.ring.trans h.ring, g.canonical ∘ h.canonical,
    fun wf n hn => (g.links (h.canonical wf) n (by rw [h.ring]; exact hn)).trans (h.links wf n hn)⟩

theorem upset_links (us : List (Nat × Block)) (m : SampleMemory) : LinksKept m (m.upset us) := by
  unfold SampleMemory.upset
  induction us generalizing m with
  | nil => exact LinksKept.refl m
  | cons u us ih =>
    refine LinksKept.trans (m' := m.write u.1 { m.read u.1 with frames := u.2 })
      ⟨rfl, rfl, rfl, rfl, fun wf => write_wf wf _ _, fun wf n _ => ?_⟩ (ih _)
    by_cases here : n = u.1
    · subst here
      rw [read_write_same wf]
    · rw [read_write_ne here]

theorem errors_links (m : SampleMemory) (e : Nat) : LinksKept m { m with errors := e } :=
  ⟨rfl, rfl, rfl, rfl, id, fun _ _ _ => rfl⟩

/-- Chains follow the links. -/
theorem chain_links {m m' : SampleMemory} {ring : Nat} (links : ∀ n, ring ≤ n → (m'.read n).link = (m.read n).link) (k : Nat) :
    ∀ o : Option Nat, (∀ n ∈ m.chain k o, ring ≤ n) → m'.chain k o = m.chain k o := by
  induction k with
  | zero => exact fun o _ => by cases o <;> rfl
  | succ k ih =>
    intro o inPool
    cases o with
    | none => rfl
    | some n =>
      have first : ring ≤ n := inPool n (by simp [SampleMemory.chain])
      simp only [SampleMemory.chain, links n first]
      rw [ih _ fun j hj => inPool j (by simp [SampleMemory.chain, hj])]

theorem writeDelay_links (f : Formed) (s : State) (head : s.delay.writeHead < s.mem.ring) : LinksKept s.mem (writeDelay f s).mem := by
  by_cases off : s.delay.state = .off
  · rw [writeDelay, if_pos off]
    exact LinksKept.refl _
  · rw [writeDelay_running off]
    refine ⟨rfl, rfl, rfl, rfl, fun wf => write_wf wf _ _, fun _ n hn => ?_⟩
    show ((s.mem.write _ _).read n).link = _
    rw [read_write_ne (by omega)]

theorem countPlayed_of_cue (same : t.cue = s.cue) : (countWindow (countPlayed t)).cue = (countWindow (countPlayed s)).cue := by
  have voices (v : Voice) : t.voice v = s.voice v := by cases v <;> simp only [State.voice, same]
  simp only [countWindow, countPlayed, voices, same]

/-- An input block boundary at which the one open reader reads the last segment of its clip. -/
theorem lastRead (due : s.due = []) (closed : ∀ p, p ≠ q → s.clips.reader p = none) (reader : s.clips.reader q = some x)
    (runs : x.ended = false) (attached : x.detached = false)
    (bound : (s.contrib (ownContributor q)).binding = some (.clip x.clip)) (noLoop : (s.clip x.clip).loop = false)
    (last : (s.clip x.clip).count ≤ x.ordinal + 1) (idle : s.clips.channels = Vector.replicate 2 none)
    (uncaptured : s.clips.alertCapture = none) :
    LastRead q x s (inputRest env (formBlock (completed env (applyUpsets env.upsets s)))) := by
  let c := completed env (applyUpsets env.upsets s)
  have touched : Touches [.mem, .inputs, .dev] s c :=
    ((Touches.refl _ s).and (upsets_touch env.upsets s)).and (completed_touches env _)
  have cmem : c.mem = s.mem.upset env.upsets := completed_touches env (applyUpsets env.upsets s) .mem (by decide)
  have cclips : c.clips = s.clips := touched .clips (by decide)
  have cmix : c.mix = s.mix := touched .mix (by decide)
  have calerts : c.alerts = s.alerts := touched .alerts (by decide)
  have cclip (d : ClipRef) : c.clip d = s.clip d := by cases d <;> simp only [State.clip, cclips]
  have cdue : (started c).due = [] := Eq.trans (touched .due (by decide)) due
  -- the reader reads
  let a := afterReaders c
  have read : a = { (fetched x (started c)).setReader q (some (atEnd x (s.clip x.clip).count)) with due := [.endOfAudio q] } := by
    have one : a = (readBlock q (started c)).2 :=
      afterReaders_one (x := x) (fun p hp => by rw [cclips]; exact closed p hp) (by rw [State.contrib, cmix]; exact bound)
    have sclip : (started c).clip x.clip = s.clip x.clip := cclip x.clip
    rw [one, readBlock_last (x := x) (by rw [show (started c).clips = s.clips from cclips]; exact reader) runs attached
      (by rw [sclip]; exact noLoop) (by rw [sclip]; exact last), cdue, sclip]
    rfl
  have handed : Handed (started c) a := by
    rw [read]
    refine ((fetched_handed x (started c)).trans (setReader_handed q (some (atEnd x (s.clip x.clip).count)) _)).trans ?_
    exact .of_kept ⟨⟨_, rfl⟩, (ReadKept.refl _).clip⟩ rfl rfl rfl rfl
  have fetchedParts : Touches [.mem, .clips, .alerts, .links] (started c) (fetched x (started c)) := fetched_touches x _
  have readParts : Touches [.mem, .clips, .alerts, .links, .due] (started c) a := by
    rw [read]
    exact (((Touches.refl _ _).and fetchedParts).and (setReader_touches q _ _)).and (due_touches _ _)
  -- the block is formed, written and counted
  let v := formBlock c
  have formed : v = { a with mix := a.mix.map Contrib.stepFade, formed := some (formedOf c) } := formBlock_eq c
  have vformed : v.formed = some (formedOf c) := by rw [formed]
  have valerts : v.alerts = a.alerts := by rw [formed]
  have vclips : v.clips = a.clips := by rw [formed]
  have vmem : v.mem = a.mem := by rw [formed]
  let g := useFormed v
  have used : Touches [.mem, .delay, .alerts] v g := useFormed_touches v
  have gclips : g.clips = a.clips := Eq.trans (used .clips (by decide)) vclips
  have achannels : a.clips.channels = s.clips.channels := handed.channels.trans (by rw [show (started c).clips = s.clips from cclips])
  have acapture : a.clips.alertCapture = s.clips.alertCapture := handed.capture.trans (by rw [show (started c).clips = s.clips from cclips])
  have none_runs : runCaptures env.captures g = g := foldl_idle fun e _ => by
    cases e with
    | channel ch => simp [Active, gclips, achannels, idle]
    | alert => simp [Active, gclips, acapture, uncaptured]
  have uncounted : countCaptured g = g := by
    rw [countCaptured, gclips, acapture, uncaptured]
  have rest : inputRest env v = countProfile (countWindow (countPlayed (countMeasure g))) := by
    rw [inputRest, none_runs, uncounted]
  let z := inputRest env v
  have zparts : Touches [.callers, .cue, .prof] g z := by
    rw [show z = _ from rest]
    exact ((((Touches.refl _ g).and (countMeasure_touches _)).and (countPlayed_touches _)).and (countWindow_touches _)).and (prof_touches _ _)
  have whole : Touches [.mem, .inputs, .dev, .mix, .formed, .delay, .clips, .alerts, .links, .due, .callers, .cue, .prof] s z := by
    have first : Touches [.mem, .inputs, .dev, .mix, .formed, .delay, .clips, .alerts, .links, .due, .callers, .cue, .prof] s c :=
      touched.mono (by decide)
    have begun : Touches [.mem, .inputs, .dev, .mix, .formed, .delay, .clips, .alerts, .links, .due, .callers, .cue, .prof] c (started c) :=
      fun p hp => by cases p <;> first | rfl | exact absurd (by decide) hp
    have mixed : Touches [.mem, .inputs, .dev, .mix, .formed, .delay, .clips, .alerts, .links, .due, .callers, .cue, .prof] a v := by
      rw [formed]
      intro p hp
      cases p <;> first | rfl | exact absurd (by decide) hp
    exact (((((first.trans begun).trans (readParts.mono (by decide))).trans mixed).trans (used.mono (by decide))).trans
      (zparts.mono (by decide)))
  have zclips : z.clips = a.clips := Eq.trans (zparts .clips (by decide)) gclips
  have zclip (d : ClipRef) : z.clip d = a.clip d := by cases d <;> simp only [State.clip, zclips]
  have zalerts : z.alerts = g.alerts := zparts .alerts (by decide)
  have walerts : (writeDelay (formedOf c) v).alerts = a.alerts := Eq.trans (writeDelay_touches _ v .alerts (by decide)) valerts
  have galerts : g.alerts = (countAlerts (formedOf c) (writeDelay (formedOf c) v)).alerts := congrArg State.alerts (useFormed_some vformed)
  have kept := handed.alerts
  rw [show (started c).alerts = s.alerts from calerts] at kept
  have counts (k : AlertSlot) : z.record k = (a.record k).map fun r => { r with
      age := countUp 8640000 r.age
      hold := if r.phase = .pending then countUp 360000 r.hold else r.hold
      airBlocks := if r.phase = .airing ∧ (formedOf c).alertId.isSome then r.airBlocks + 1 else r.airBlocks } := by
    have counted := record_countAlerts (formedOf c) (writeDelay (formedOf c) v) k
    rw [record_of_alerts walerts k] at counted
    exact (record_of_alerts (zalerts.trans galerts) k).trans counted
  have records (k : AlertSlot) : ∃ d : AlertRecord → Bool, a.record k = (s.record k).map fun r => { r with damaged := d r } := by
    obtain ⟨d, hd⟩ := handed.record k
    exact ⟨d, by rw [hd, record_of_alerts (show (started c).alerts = s.alerts from calerts) k]⟩
  have zmem : z.mem = g.mem := zparts .mem (by decide)
  have gmem : g.mem = (writeDelay (formedOf c) v).mem := (useFormed_written vformed).1
  obtain ⟨e, ae⟩ := handed.kept.mem
  have vmem' : v.mem = { s.mem.upset env.upsets with errors := e } := by
    rw [vmem, ae, show (started c).mem = c.mem from rfl, cmem]
  have upset : LinksKept s.mem v.mem := by
    rw [vmem']
    exact (upset_links env.upsets s.mem).trans (errors_links _ e)
  have vdelay : v.delay = s.delay := by
    have fromStart : a.delay = (started c).delay := readParts .delay (by decide)
    rw [formed]
    exact fromStart.trans (touched .delay (by decide))
  have pool : z.mem.free = s.mem.free ∧ z.mem.alertCount = s.mem.alertCount ∧ z.mem.held = s.mem.held ∧ z.mem.ring = s.mem.ring := by
    have written : (writeDelay (formedOf c) v).mem.free = v.mem.free ∧ (writeDelay (formedOf c) v).mem.alertCount = v.mem.alertCount ∧
        (writeDelay (formedOf c) v).mem.held = v.mem.held ∧ (writeDelay (formedOf c) v).mem.ring = v.mem.ring := by
      by_cases off : v.delay.state = .off
      · rw [writeDelay, if_pos off]
        exact ⟨rfl, rfl, rfl, rfl⟩
      · rw [writeDelay_running off]
        exact ⟨rfl, rfl, rfl, rfl⟩
    rw [zmem, gmem]
    exact ⟨written.1.trans upset.free, written.2.1.trans upset.alertCount, written.2.2.1.trans upset.held, written.2.2.2.trans upset.ring⟩
  refine {
    due := ?_, reader := ?_, closed := fun p hp => ?_, clip := fun d => ?_, fallback := ?_, capture := ?_, cue := ?_, binding := fun d => ?_
    alerts := ?_, tone := ?_, record := fun k r hr => ?_, unused := fun k hk => ?_, state := ?_, panel := whole .panel (by decide)
    sup := whole .sup (by decide), free := pool.1, alertCount := pool.2.1, held := pool.2.2.1, ring := pool.2.2.2
    segments := fun canonical head d holders => ?_ }
  · have vdue : v.due = a.due := by rw [formed]
    have gdue : g.due = v.due := used .due (by decide)
    refine (Eq.trans (zparts .due (by decide)) (gdue.trans vdue)).trans ?_
    rw [read]
  · rw [zclips, read]
    cases q <;> rfl
  · rw [zclips]
    have one : a = (readBlock q (started c)).2 :=
      afterReaders_one (x := x) (fun p hp => by rw [cclips]; exact closed p hp) (by rw [State.contrib, cmix]; exact bound)
    rw [one, readBlock_reader hp, show (started c).clips = s.clips from cclips]
    exact closed p hp
  · obtain ⟨b, hb⟩ := handed.kept.clip d
    exact ⟨b, by rw [zclip, hb, show (started c).clip d = s.clip d from cclip d]⟩
  · rw [zclips, handed.fallback, show (started c).clips = s.clips from cclips]
  · rw [zclips, acapture]
  · have gcue : (countMeasure g).cue = s.cue := by
      have fromG : (countMeasure g).cue = g.cue := countMeasure_touches g .cue (by decide)
      have vcue : v.cue = a.cue := by rw [formed]
      have acue : a.cue = (started c).cue := readParts .cue (by decide)
      exact fromG.trans ((Eq.trans (used .cue (by decide)) vcue).trans (acue.trans (touched .cue (by decide))))
    have same : z.cue = (countWindow (countPlayed (countMeasure g))).cue := by rw [show z = _ from rest]; rfl
    rw [same]
    exact countPlayed_of_cue gcue
  · have zmix : z.mix = v.mix := Eq.trans (zparts .mix (by decide)) (used .mix (by decide))
    have amix : a.mix = (started c).mix := readParts .mix (by decide)
    have stepped : z.mix = (started c).mix.map Contrib.stepFade := by
      rw [zmix, formed]
      exact congrArg (Mix.map · Contrib.stepFade) amix
    have step (y : Contrib) : y.stepFade.binding = y.binding := by
      unfold Contrib.stepFade
      split <;> rfl
    have stepOf : z.contrib d = ((started c).contrib d).stepFade := by
      rw [State.contrib, stepped]
      cases d <;> rfl
    rw [stepOf, step, started_binding, State.contrib, cmix]
    rfl
  · rw [zalerts, galerts]
    have same : (countAlerts (formedOf c) (writeDelay (formedOf c) v)).alerts.queue = (writeDelay (formedOf c) v).alerts.queue ∧
        (countAlerts (formedOf c) (writeDelay (formedOf c) v)).alerts.view = (writeDelay (formedOf c) v).alerts.view ∧
        (countAlerts (formedOf c) (writeDelay (formedOf c) v)).alerts.history = (writeDelay (formedOf c) v).alerts.history ∧
        (countAlerts (formedOf c) (writeDelay (formedOf c) v)).alerts.settings = (writeDelay (formedOf c) v).alerts.settings :=
      ⟨rfl, rfl, rfl, rfl⟩
    rw [walerts, kept] at same
    exact same
  · have tone : (countAlerts (formedOf c) (writeDelay (formedOf c) v)).alerts.tone =
        (writeDelay (formedOf c) v).alerts.tone.map fun x => if (formedOf c).alertId.isSome then (x.1, x.2 + 1) else x := rfl
    rw [zalerts, galerts, tone, walerts, kept, Option.map_map]
    refine congrArg (fun f => s.alerts.tone.map f) (funext fun y => ?_)
    show Prod.fst (if _ then _ else _) = _
    split <;> rfl
  · obtain ⟨d, hd⟩ := records k
    have crecord : c.record k = some r := (record_of_alerts calerts k).trans hr
    have recorded := counts k
    rw [hd, hr, Option.map_some, Option.map_some] at recorded
    refine ⟨_, recorded, rfl, ?_⟩
    refine if_congr (and_congr_right fun airing => ?_) rfl rfl
    show c.formedAlert.isSome = true ↔ _
    rw [State.formedAlert, show c.mix.alert.active = s.mix.alert.binding.isSome by rw [cmix]; rfl]
    cases s.mix.alert.binding.isSome
    · simp
    · simpa using airing_isSome crecord airing
  · obtain ⟨d, hd⟩ := records k
    rw [counts k, hd, hk]
    rfl
  · have zdev : z.dev = v.dev := Eq.trans (zparts .dev (by decide)) (used .dev (by decide))
    rw [zdev]
    exact formBlock_device env (applyUpsets env.upsets s)
  · have links : LinksKept s.mem z.mem := by
      rw [zmem, gmem]
      exact upset.trans (writeDelay_links _ v (by rw [vdelay, upset.ring]; exact head))
    obtain ⟨b, hb⟩ := handed.kept.clip d
    have zsame : z.clip d = { s.clip d with damaged := b } := by rw [zclip, hb, show (started c).clip d = s.clip d from cclip d]
    show z.mem.chain (z.clip d).count (z.clip d).first = _
    rw [zsame]
    exact chain_links (links.links canonical) _ _ fun n hn => ring_le_of_holder (holders n hn)

end Sys2Proof.LastReads
end

section
/-! R66, R67, R69, R89: a CLIP ends at the end of its audio, a GAP at its limit. -/

namespace Sys2Proof.ItemsEnd

-- one thread: the check compiles under a limit on the process
set_option Elab.async false

open Sys2Proof.Machine Sys2Proof.Safety Sys2Proof.Laws Sys2Proof.TakenCommands Sys2Proof.EngineNotices Sys2Proof.EventKeeping
open Sys2Proof.ItemEnds Sys2Proof.FillEnds Sys2Proof.StartedItems Sys2Proof.Boundaries Sys2Proof.BoundaryReports
open Sys2Proof.LastReads Sys2Proof.IdleEvents Sys2Proof.FadesComplete Sys2Proof.ReaderEnds

variable {s t : State} {e : Entry} {rest : List Entry} {o : Nat}

/-- The item of VOICE A, the first of the list, has ended with nothing following. -/
structure ItemEnded (e : Entry) (rest : List Entry) (t : State) : Prop where
  entries : t.cue.entries = rest
  voice : t.cue.voiceA = .free
  state : t.cue.state = if rest = [] then .idle else .armed
  ended : Pending .P (.itemEnded e.tag) t
  empty : rest = [] → Pending .P .listEmpty t

theorem followList_waiting (waits : ∀ x ∈ rest, x.state = .waiting) : followList rest = if rest = [] then .idle else .armed := by
  rw [followList_eq, if_neg]
  simpa using fun x hx => by rw [waits x hx]; decide

/-- The item in VOICE A, alone PLAYING, ends: no record takes the boundary or the air. -/
theorem itemEnd_first (list : s.cue.entries = e :: rest) (playing : e.state = .playing) (voiced : e.voice = some .A)
    (plain : e.segue = false) (waits : ∀ x ∈ rest, x.state = .waiting) (carries : s.cue.voiceA = .carrying o)
    (engine : s.cue.state = .playing) (noGo : s.cue.goPending = false) (declined : NoneTakes .itemOffer .playing s)
    (quietArmed : NoneTakes .ordinary .armed s) (quietIdle : NoneTakes .ordinary .idle s) :
    ItemEnded e rest (itemEnd .A s) ∧ (itemEnd .A s).mix = (cut .voiceA s).mix ∧
      (itemEnd .A s).clips = (releaseClaim e (cut .voiceA s)).clips ∧ (itemEnd .A s).mem = s.mem := by
  have carried : s.carried .A = some 0 := carried_of (before := []) carries list playing voiced (by simp)
  have entry : s.cue.entries[0]? = some e := by rw [list]; rfl
  have leads : e.leadsOn = false := by simp [Entry.leadsOn, plain]
  have left : s.cue.entries.eraseIdx 0 = rest := by rw [list]; rfl
  have told := leaveVoice_pending (v := .A) carried entry
  have mem : (leaveVoice .A s).mem = s.mem := leaveVoice_parts .A s .mem (by decide)
  rw [itemEnd_alone carried entry declined engine noGo leads quietArmed quietIdle]
  refine ⟨⟨left, rfl, ?_, told.1, fun none_left => told.2 (left.trans none_left)⟩, leaveVoice_mix carried entry,
    leaveVoice_clips carried entry, mem⟩
  show followList (s.cue.entries.eraseIdx 0) = _
  rw [left]
  exact followList_waiting waits

theorem gapEnds {n : Nat} (playing : s.cue.state = .playing) (list : s.cue.entries = e :: rest) (plays : e.state = .playing)
    (voiced : e.voice = some .A) (plain : e.segue = false) (waits : ∀ x ∈ rest, x.state = .waiting) (carries : s.cue.voiceA = .carrying o)
    (noGo : s.cue.goPending = false) (declined : NoneTakes .itemOffer .playing s) (quietArmed : NoneTakes .ordinary .armed s)
    (quietIdle : NoneTakes .ordinary .idle s) (gap : e.kind = .gap) (found : Found (.durationLimit .A) s) (limit : e.limit = some n)
    (reached : n ≤ e.played) (notReleased : e.released = false) (silentA : s.mix.voiceA.binding = none) :
    ∃ t, exec (.durationLimit .A) s = .next t ∧ ItemEnded e rest t ∧ t.mix = s.mix ∧ t.clips = s.clips ∧ t.mem = s.mem := by
  let u : State := { s with due := s.due.erase (.durationLimit .A) }
  have carried : s.carried .A = some 0 := carried_of (before := []) carries list plays voiced (by simp)
  have entry : s.cue.entries[0]? = some e := by rw [list]; rfl
  obtain ⟨ended, mix, clips, mem⟩ := itemEnd_first (s := u) list plays voiced plain waits carries playing noGo declined quietArmed quietIdle
  have uncut : cut .voiceA u = u := cut_inactive (by exact silentA)
  have noClaim : releaseClaim e u = u := releaseClaim_plain (by rw [gap]; exact fun n h => by cases h) u
  rw [uncut] at mix clips
  rw [noClaim] at clips
  exact ⟨_, exec_durationLimit found carried entry limit reached notReleased, ended, mix, clips, mem⟩

/-- Records that kept what the window table looks at. -/
theorem noneTakes_counted {c : Check} {view : EngineState} (h : NoneTakes c view s) (device : t.dev.state = s.dev.state)
    (queue : t.alerts.queue = s.alerts.queue)
    (record : ∀ k r, s.record k = some r → ∃ y, t.record k = some y ∧ y.phase = r.phase ∧ y.overdue = r.overdue ∧ y.cls = r.cls)
    (unused : ∀ k, s.record k = none → t.record k = none) : NoneTakes c view t := by
  rcases h with off | ⟨k, r, hr, airing⟩ | unmarked
  · exact .inl (by rw [device]; exact off)
  · obtain ⟨y, hy, phase, -⟩ := record k r hr
    exact .inr (.inl ⟨k, y, hy, phase.trans airing⟩)
  · refine .inr (.inr fun k hk y hy => ?_)
    rw [queue] at hk
    cases hr : s.record k with
    | none =>
      rw [unused k hr] at hy
      cases hy
    | some r =>
      obtain ⟨z, hz, -, overdue, cls⟩ := record k r hr
      cases hy.symm.trans hz
      rw [overdue, cls]
      exact unmarked k hk r hr

theorem lastRead_noneTakes {c : Check} {view : EngineState} {q : ReaderOf} {x : Reader} (read : LastRead q x s t) (h : NoneTakes c view s) :
    NoneTakes c view t :=
  noneTakes_counted h read.state read.alerts.1 (fun k r hr => by
    obtain ⟨y, hy, counted⟩ := read.record k r hr
    exact ⟨y, hy, by rw [counted.same], by rw [counted.same], by rw [counted.same]⟩) read.unused

/-- An entry whose blocks a boundary counts (R87). -/
def countedEntry (s : State) (e : Entry) : Entry :=
  if e.playing && e.voice.any (fun v => (s.voice v).carries) then { e with played := countUp 36000 e.played } else e

theorem countPlayed_entries (s : State) : (countWindow (countPlayed s)).cue.entries = s.cue.entries.map (countedEntry s) := by
  refine List.map_congr_left fun e _ => ?_
  unfold countedEntry
  cases playing : e.playing with
  | false => simp
  | true =>
    cases voiced : e.voice with
    | none => simp
    | some v => simp

theorem clipEnds {env : InputBoundary} {n : ClipId} {i : Nat} (live : s.live = true) (playing : s.cue.state = .playing)
    (list : s.cue.entries = e :: rest) (plays : e.state = .playing) (voiced : e.voice = some .A) (plain : e.segue = false)
    (waits : ∀ x ∈ rest, x.state = .waiting) (carries : s.cue.voiceA = .carrying o) (noGo : s.cue.goPending = false)
    (declined : NoneTakes .itemOffer .playing s) (quietArmed : NoneTakes .ordinary .armed s) (quietIdle : NoneTakes .ordinary .idle s)
    (kind : e.kind = .clip n) (due : s.due = []) (first : env.first = []) (leave : env.leave = true)
    (reader : s.clips.readerA = some ⟨.playout n, i, false, false⟩) (bound : s.mix.voiceA.binding = some (.clip (.playout n)))
    (noLoop : (s.clips.playout[n]).loop = false) (last : (s.clips.playout[n]).count ≤ i + 1) (closedB : s.clips.readerB = none)
    (closedAlert : s.clips.readerAlert = none) (tone : s.alerts.tone = none) (idle : s.clips.channels = Vector.replicate 2 none)
    (uncaptured : s.clips.alertCapture = none) (panel : PanelIdle s) :
    ∃ t, exec (.inputBlockBoundary env) s = .next t ∧ ItemEnded e rest t ∧ t.clips.readerA = none ∧
      (t.clips.playout[n]).uses = (s.clips.playout[n]).uses - 2 ∧ t.mix.voiceA.binding = none := by
  let x : Reader := ⟨.playout n, i, false, false⟩
  let z := inputRest env (formBlock (completed env (applyUpsets env.upsets s)))
  have closed : ∀ p, p ≠ ReaderOf.voiceA → s.clips.reader p = none := fun p hp => by
    cases p
    · exact absurd rfl hp
    · exact closedB
    · exact closedAlert
  have read : LastRead .voiceA x s z := lastRead (q := .voiceA) (x := x) due closed reader rfl rfl bound noLoop last idle uncaptured
  have noTone : toneOver z = false := by
    have none_sounds : z.alerts.tone = none := by
      have same := read.tone
      rw [tone] at same
      simpa using same
    simp only [toneOver, none_sounds]
  have readerZ : z.clips.readerA = some (atEnd x (s.clips.playout[n]).count) := read.reader
  obtain ⟨w, touched, -, ends⟩ := inputEvents_report (d := .endOfAudio .voiceA) (by decide) first leave read.due noTone
    (by rw [PanelIdle, read.panel]; exact panel) fun w touched => by
      have clips : w.clips = z.clips := touched .clips (by decide)
      have reads : w.clips.reader .voiceA = some (atEnd x (s.clips.playout[n]).count) := by rw [clips]; exact readerZ
      simp only [stillDue, readerOver, reads]
      rfl
  -- the item as the boundary has counted it
  have wcue : w.cue = (countWindow (countPlayed s)).cue := Eq.trans (touched .cue (by decide)) read.cue
  have wclips : w.clips = z.clips := touched .clips (by decide)
  have wmix : w.mix = z.mix := touched .mix (by decide)
  have walerts : w.alerts = z.alerts := touched .alerts (by decide)
  have wdev : w.dev = z.dev := touched .dev (by decide)
  have keeps {c : Check} {view : EngineState} (h : NoneTakes c view s) : NoneTakes c view w :=
    noneTakes_of (lastRead_noneTakes read h) (by rw [wdev]) (by rw [walerts]) (by rw [walerts])
  let e' : Entry := { e with played := countUp 36000 e.played }
  have listed : w.cue.entries = e' :: rest := by
    have carrying : (s.voice .A).carries = true := by
      show s.cue.voiceA.carries = true
      rw [carries]
      rfl
    have own : countedEntry s e = e' := if_pos (by simp [Entry.playing, plays, voiced, carrying])
    have others : rest.map (countedEntry s) = rest :=
      (List.map_congr_left (g := id) fun y hy => if_neg (by simp [Entry.playing, waits y hy])).trans (List.map_id rest)
    rw [wcue, countPlayed_entries, list, List.map_cons, own, others]
  have wvoice : w.cue.voiceA = .carrying o := by rw [wcue]; exact carries
  obtain ⟨ended, mix, clips, -⟩ := itemEnd_first (s := w) (e := e') listed plays voiced plain waits wvoice (by rw [wcue]; exact playing)
    (by rw [wcue]; exact noGo) (keeps declined) (keeps quietArmed) (keeps quietIdle)
  have happened : happen (.endOfAudio .voiceA) w = itemEnd .A w := by
    show voiceEndOfAudio .A w = _
    have carrying : w.voice .A = .carrying o := wvoice
    simp only [voiceEndOfAudio, carrying]
  rw [happened] at ends
  -- its reader closes and the clip loses both uses
  have boundW : (w.contrib .voiceA).binding = some (.clip (.playout n)) := by
    rw [State.contrib, wmix]
    exact (read.binding .voiceA).trans bound
  have wreader : w.clips.reader (voiceReader .A) = some (atEnd x (s.clips.playout[n]).count) := by rw [wclips]; exact readerZ
  have cutOff : cut .voiceA w = (closeReaderOf (voiceContributor .A) w).setContrib .voiceA (w.contrib .voiceA).inactive :=
    cut_active (by rw [boundW]; rfl)
  have closes := closeReaderOf_playout (v := .A) wreader rfl
  rw [closes] at cutOff
  have uses : (w.clips.playout[n]).uses = (s.clips.playout[n]).uses := by
    obtain ⟨d, clip⟩ := read.clip (.playout n)
    have whole : z.clips.playout[n] = { s.clips.playout[n] with damaged := d } := clip
    rw [wclips, whole]
  have claim : (releaseClaim e' (cut .voiceA w)).clips.readerA = none ∧
      ((releaseClaim e' (cut .voiceA w)).clips.playout[n]).uses = (s.clips.playout[n]).uses - 2 := by
    have named : e'.kind = .clip n := kind
    have released : releaseClaim e' (cut .voiceA w) = useClip false (.playout n) (cut .voiceA w) := by
      simp only [releaseClaim, named]
    rw [released, cutOff]
    refine ⟨rfl, ?_⟩
    simp only [useClip, State.modClip, State.setContrib, voiceReader, State.setReader, Fin.getElem_fin, Vector.getElem_set_self,
      Bool.false_eq_true, if_false]
    simp only [Fin.getElem_fin] at uses
    omega
  have tclips : (inputEvents env z).clips = (itemEnd .A w).clips := ends .clips (by decide)
  have tmix : (inputEvents env z).mix = (itemEnd .A w).mix := ends .mix (by decide)
  have tcue : (inputEvents env z).cue = (itemEnd .A w).cue := ends .cue (by decide)
  have later {ev : Event} (h : Pending .P ev (itemEnd .A w)) : Pending .P ev (inputEvents env z) :=
    (silent (ns := []) ends).pending h (by simp)
  refine ⟨_, exec_inputBoundary (env := env) live due, ⟨by rw [tcue]; exact ended.entries, by rw [tcue]; exact ended.voice,
    by rw [tcue]; exact ended.state, later ended.ended, fun none_left => later (ended.empty none_left)⟩, ?_, ?_, ?_⟩
  · rw [tclips, clips]
    exact claim.1
  · rw [tclips, clips]
    exact claim.2
  · rw [tmix, mix]
    exact CutThrough.cut_binding .voiceA w

theorem clipsAndGapsEnd : Claims.ClipsAndGapsEnd := by
  intro o e rest s live playing list plays voiced plain waits carries noGo declined quietArmed quietIdle ended
  have whole {t : State} (h : ItemEnded e rest t) : ended t := ⟨h.entries, h.voice, h.state, h.ended, h.empty⟩
  refine ⟨fun n gap found limit reached notReleased silentA => ?_, fun env n i kind due first leave reader bound noLoop last closedB
    closedAlert tone idle uncaptured panel => ?_⟩
  · obtain ⟨t, run, ended, same⟩ := gapEnds playing list plays voiced plain waits carries noGo declined quietArmed quietIdle gap found limit
      reached notReleased silentA
    exact ⟨t, run, whole ended, same⟩
  · obtain ⟨t, run, ended, same⟩ := clipEnds live playing list plays voiced plain waits carries noGo declined quietArmed quietIdle kind due
      first leave reader bound noLoop last closedB closedAlert tone idle uncaptured panel
    exact ⟨t, run, whole ended, same⟩

/-- Settles O32. -/
theorem itemsEnd : Obligations.ItemsEnd :=
  ⟨streamsAreReleased, timedItemsEnd, seguesStartSuccessors, clipsAndGapsEnd, offersAreTaken, offersAreTakenDuringAnEnding⟩

end Sys2Proof.ItemsEnd
end

section
/-! R94, R137: the release of the air, with no record queued: what the Cue Engine's work leaves of the other blocks. -/

namespace Sys2Proof.AirReleases

-- one thread: the check compiles under a limit on the process
set_option Elab.async false

open Sys2Proof.Machine Sys2Proof.Safety Sys2Proof.Laws Sys2Proof.EngineNotices Sys2Proof.EventKeeping
open Sys2Proof.CutThrough Sys2Proof.FillEnds

variable {s t u : State} {k : AlertSlot} {r : AlertRecord} {v : Voice}

/-- The events of the entries that end as the Cue Engine works. -/
abbrev workEvents : List Nat := [0x10, 0x11]

/-- The Cue Engine works on its list and its voices, without a notice. -/
structure EngineWork (s t : State) : Prop where
  parts : Touches [.mix, .clips, .cue, .links] s t
  alert : t.mix.alert = s.mix.alert
  alertClips : t.clips.alert = s.clips.alert
  readerAlert : t.clips.readerAlert = s.clips.readerAlert
  state : t.cue.state = s.cue.state
  held : t.cue.held = s.cue.held
  told : Raises workEvents s t

theorem EngineWork.refl (s : State) : EngineWork s s := ⟨Touches.refl _ s, rfl, rfl, rfl, rfl, rfl, Raises.refl _ s⟩

theorem quiet_work (parts : Touches [.mix, .clips, .cue] s t) (alert : t.mix.alert = s.mix.alert) (alertClips : t.clips.alert = s.clips.alert)
    (readerAlert : t.clips.readerAlert = s.clips.readerAlert) (state : t.cue.state = s.cue.state) (held : t.cue.held = s.cue.held) :
    EngineWork s t :=
  ⟨parts.mono (by decide), alert, alertClips, readerAlert, state, held, silent parts⟩

theorem EngineWork.trans (h : EngineWork s t) (g : EngineWork t u) : EngineWork s u :=
  ⟨h.parts.trans g.parts, g.alert.trans h.alert, g.alertClips.trans h.alertClips, g.readerAlert.trans h.readerAlert,
    g.state.trans h.state, g.held.trans h.held, h.told.trans g.told⟩

theorem EngineWork.foldl {α : Type} {f : State → α → State} (h : ∀ s a, EngineWork s (f s a)) (as : List α) :
    ∀ s, EngineWork s (as.foldl f s) := by
  induction as with
  | nil => exact EngineWork.refl
  | cons a as ih => exact fun s => (h s a).trans (ih _)

theorem EngineWork.alerts (h : EngineWork s t) : t.alerts = s.alerts := h.parts .alerts (by decide)

theorem told_work (l : Link) {e : Event} (number : e.number ∈ workEvents) (s : State) : EngineWork s (raise l e s) :=
  ⟨(Touches.refl _ s).and (raise_touches l e s), rfl, rfl, rfl, rfl, rfl, (Raises.refl _ s).raise l e number⟩

/-- A change of the Cue Engine's records that leaves its state. -/
theorem listed_work {c : Cue} (state : c.state = s.cue.state) (held : c.held = s.cue.held) : EngineWork s { s with cue := c } :=
  quiet_work ((Touches.refl _ s).and (cue_touches c s)) rfl rfl rfl state held

theorem setVoice_work (v : Voice) (x : VoiceState) (s : State) : EngineWork s (s.setVoice v x) := by
  cases v <;> exact listed_work rfl rfl

theorem useClip_work (up : Bool) (n : ClipId) (s : State) : EngineWork s (useClip up (.playout n) s) :=
  quiet_work ((Touches.refl _ s).and (useClip_touches _ _ s)) rfl rfl rfl rfl rfl

theorem useClip_alert (up : Bool) (c : ClipRef) (s : State) : EngineWork s (useClip up c s) := by
  cases c with
  | playout n => exact useClip_work up n s
  | alert k => exact EngineWork.refl s

theorem setReader_work (v : Voice) (x : Option Reader) (s : State) : EngineWork s (s.setReader (voiceReader v) x) := by
  cases v <;> exact quiet_work ((Touches.refl _ s).and (setReader_touches _ _ s)) rfl rfl rfl rfl rfl

theorem setContrib_work (v : Voice) (x : Contrib) (s : State) : EngineWork s (s.setContrib (voiceContributor v) x) := by
  cases v <;> exact quiet_work ((Touches.refl _ s).and (setContrib_touches _ _ s)) rfl rfl rfl rfl rfl

theorem closeReader_work (v : Voice) (s : State) : EngineWork s (closeReader (voiceReader v) s) := by
  unfold closeReader
  split
  · exact EngineWork.refl s
  · exact (setReader_work v none s).trans (useClip_alert _ _ _)

theorem closeReaderOf_work (v : Voice) (s : State) : EngineWork s (closeReaderOf (voiceContributor v) s) := by
  cases v
  · exact closeReader_work .A s
  · exact closeReader_work .B s

theorem cut_work (v : Voice) (s : State) : EngineWork s (cut (voiceContributor v) s) := by
  unfold cut
  split
  · exact (closeReaderOf_work v s).trans (setContrib_work v _ _)
  · exact EngineWork.refl s

theorem activate_work (v : Voice) (b : Binding) (g n p : Nat) (s : State) : EngineWork s (activate (voiceContributor v) b g n p s) := by
  have own : contributorReader (voiceContributor v) = some (voiceReader v) := by cases v <;> rfl
  unfold activate
  rw [own]
  split
  · next c q same =>
    obtain rfl : voiceReader v = q := Option.some.inj same
    split
    · exact (((closeReader_work v s).trans (setReader_work v _ _)).trans (useClip_alert _ _ _)).trans (setContrib_work v _ _)
    · exact EngineWork.refl s
  · exact (closeReaderOf_work v s).trans (setContrib_work v _ _)

theorem soundEntry_work (e : Entry) (v : Voice) (s : State) : EngineWork s (soundEntry e v s) := by
  unfold soundEntry
  split
  · exact activate_work _ _ _ _ _ _
  · exact activate_work _ _ _ _ _ _
  · exact cut_work v s

theorem startIn_work (p : Entry → Bool) (v : Voice) (s : State) : EngineWork s (startIn p v s) := by
  unfold startIn
  split
  · exact EngineWork.refl s
  · next e _ => exact ((soundEntry_work e v s).trans (setVoice_work v _ _)).trans (listed_work rfl rfl)

theorem itemEnded_work (e : Entry) (s : State) : EngineWork s (itemEnded e s) := by
  have claimed : EngineWork s (releaseClaim e s) := by
    unfold releaseClaim
    split
    · exact useClip_work _ _ s
    · exact EngineWork.refl s
  exact claimed.trans (told_work _ (by simp [Event.number]) _)

theorem setEntries_work (es : List Entry) (s : State) : EngineWork s (setEntries es s) := by
  have listed : EngineWork s { s with cue := { s.cue with entries := es } } := listed_work rfl rfl
  unfold setEntries
  dsimp only
  split
  · exact listed.trans (told_work _ (by simp [Event.number]) _)
  · exact listed

theorem closeWindowOf_work (v : Voice) (s : State) : EngineWork s (closeWindowOf v s) := by
  unfold closeWindowOf
  split
  · split
    · exact listed_work rfl rfl
    · exact EngineWork.refl _
  · exact EngineWork.refl _

theorem leaveVoice_work (v : Voice) (s : State) : EngineWork s (leaveVoice v s) := by
  unfold leaveVoice
  split
  · exact EngineWork.refl s
  · split
    · exact EngineWork.refl s
    · exact ((((cut_work v s).trans (setVoice_work v _ _)).trans (itemEnded_work _ _)).trans (setEntries_work _ _)).trans
        (closeWindowOf_work v _)

theorem takeVoice_work (v : Voice) (s : State) : EngineWork s (takeVoice v s) := by
  unfold takeVoice
  split
  · exact leaveVoice_work v s
  · exact EngineWork.refl s

theorem windowTaker_unqueued (queue : s.alerts.queue = []) (c : Check) : windowTaker c s = none := by
  rw [windowTaker, queue]
  split <;> rfl

theorem startEntry_work (fuel : Nat) (p : Entry → Bool) (queue : s.alerts.queue = []) : EngineWork s (startEntry fuel p s) := by
  induction fuel generalizing p s with
  | zero => unfold startEntry; exact EngineWork.refl s
  | succ n ih =>
    unfold startEntry
    split
    · exact EngineWork.refl s
    · exact EngineWork.refl s
    · rename_i m e hn he
      cases hn
      dsimp only
      split
      · have left : EngineWork s (leaveMark p s) :=
          (listed_work (c := { s.cue with goPending := false }) rfl rfl).trans (setEntries_work _ _)
        have unqueued : (leaveMark p s).alerts.queue = [] := by rw [left.alerts]; exact queue
        rw [windowTaker_unqueued unqueued]
        have ended : EngineWork s (itemEnded e (leaveMark p s)) := left.trans (itemEnded_work e _)
        dsimp only
        split
        · exact ended.trans (ih _ (by rw [ended.alerts]; exact queue))
        · exact ended
      · split
        · exact (takeVoice_work _ s).trans (startIn_work _ _ _)
        · exact EngineWork.refl s

theorem restartHeld_work (s : State) : EngineWork s (restartHeld s) := by
  unfold restartHeld
  refine EngineWork.foldl (fun t e => ?_) _ s
  split
  · exact startIn_work _ _ t
  · exact EngineWork.refl t

-- the notice, and the release

/-- The engine has entered another state at a notice at which no record took the air. -/
structure EngineEntered (st : EngineState) (s t : State) : Prop where
  parts : Touches [.mix, .clips, .cue, .links, .alerts] s t
  alert : t.mix.alert = s.mix.alert
  alertClips : t.clips.alert = s.clips.alert
  readerAlert : t.clips.readerAlert = s.clips.readerAlert
  state : t.cue.state = st
  held : t.cue.held = s.cue.held
  alerts : t.alerts = { s.alerts with view := st }
  told : Raises workEvents s t

theorem EngineEntered.after {st : EngineState} (h : EngineWork s t) (g : EngineEntered st t u) : EngineEntered st s u where
  parts := (h.parts.mono (by decide)).trans g.parts
  alert := g.alert.trans h.alert
  alertClips := g.alertClips.trans h.alertClips
  readerAlert := g.readerAlert.trans h.readerAlert
  state := g.state
  held := g.held.trans h.held
  alerts := by rw [g.alerts, h.alerts]
  told := h.told.trans g.told

theorem enterEngine_unqueued {was st : EngineState} (changes : st ≠ was) (queue : s.alerts.queue = []) :
    EngineEntered st s (enterEngine was st s) := by
  let u : State := { s with cue := { s.cue with state := st }, alerts := { s.alerts with view := st } }
  have none_takes : windowCheck .ordinary u = u := by
    rw [windowCheck, windowTaker_unqueued (s := u) queue]
  rw [enterEngine, if_neg changes]
  dsimp only
  rw [show windowCheck .ordinary _ = u from none_takes]
  exact ⟨((Touches.refl _ s).and (cue_touches { s.cue with state := st } s)).and
    (records_touches { s.alerts with view := st } _), rfl, rfl, rfl, rfl, rfl, rfl, fun _ _ kept _ => kept⟩

theorem settleFrom_unqueued (follows : s.cue.state = followList u.cue.entries) (queue : s.alerts.queue = []) :
    ∃ st, st ≠ .held ∧ EngineEntered st s (settleFrom .held s) := by
  have plain : s.cue.state ≠ .held ∧ s.cue.state ≠ .filling := by
    rw [follows]
    rcases ItemEnds.followList_cases u.cue.entries with h | h | h <;> rw [h] <;> decide
  have notHeld : followList s.cue.entries ≠ .held := by
    rcases ItemEnds.followList_cases s.cue.entries with h | h | h <;> rw [h] <;> decide
  rw [settleFrom_follows plain.1 plain.2]
  have prepared : EngineWork s { s with cue := { s.cue with goPending := s.cue.goPending && s.cue.hasWaiting } } := listed_work rfl rfl
  exact ⟨_, notHeld, .after prepared (enterEngine_unqueued notHeld (by exact queue))⟩

/-- The release notice, no record being queued. -/
theorem releaseEngine_unqueued {h : HeldRecord} (state : s.cue.state = .held) (held : s.cue.held = some h) (queue : s.alerts.queue = []) :
    ∃ st, st ≠ .held ∧ EngineEntered st (raise .P .engineResumed
      { s with cue := { s.cue with held := none, state := followList s.cue.entries } }) (releaseEngine s) := by
  let t := raise .P .engineResumed { s with cue := { s.cue with held := none, state := followList s.cue.entries } }
  have queueT : t.alerts.queue = [] := queue
  simp only [releaseEngine, state, held]
  split
  · refine ⟨.filling, by decide, ?_⟩
    split
    · next n _ =>
      have filled := (activate_work .A (.clip (.playout n)) 32768 0 (h.fillPosition.getD 0) t).trans (setVoice_work .A .filling _)
      exact .after filled (enterEngine_unqueued (by decide) (by rw [filled.alerts]; exact queueT))
    · exact enterEngine_unqueued (by decide) queueT
  · have restarted := restartHeld_work t
    have started : EngineWork t (startEntry ((restartHeld t).cue.entries.length + 1) (fun e => decide (e.state = .reserved)) (restartHeld t)) :=
      restarted.trans (startEntry_work _ _ (by rw [restarted.alerts]; exact queueT))
    obtain ⟨st, notHeld, entered⟩ := settleFrom_unqueued (u := s) (started.state.trans rfl) (by rw [started.alerts]; exact queueT)
    exact ⟨st, notHeld, .after started entered⟩

/-- The Alert Controller has released the air, no record being queued. -/
structure AirReleased (s t : State) : Prop where
  parts : Touches [.mix, .clips, .cue, .links, .alerts, .sup, .panel] s t
  alert : t.mix.alert = s.mix.alert
  alertClips : t.clips.alert = s.clips.alert
  readerAlert : t.clips.readerAlert = s.clips.readerAlert
  state : t.cue.state ≠ .held
  held : t.cue.held = none
  view : t.alerts.view = t.cue.state
  alerts : t.alerts = { s.alerts with view := t.alerts.view }
  sup : t.sup = { s.sup with mode := s.sup.remembered, remembered := none }
  lamp : t.panel.reports.alertActive = false
  told : Raises (0x15 :: workEvents) s t

theorem releaseAirMode_sup (mode : s.sup.mode = some .alert) :
    (releaseAirMode s).sup = { s.sup with mode := s.sup.remembered, remembered := none } := by
  rw [releaseAirMode, if_pos mode]
  rfl

/-- The state in which the release notice reaches the Cue Engine. -/
def releaseTold (s : State) : State := workOutWait ((releaseAirMode s).report fun x => { x with alertActive := false })

theorem releaseTold_touches (s : State) : Touches [.sup, .panel, .cue] s (releaseTold s) :=
  (((Touches.refl _ s).and (releaseAirMode_touches s)).and (report_touches _ _)).and (workOutWait_touches _)

/-- The wait notice alone changes of the Cue Engine. -/
theorem releaseTold_cue (s : State) : ∃ w, (releaseTold s).cue = { s.cue with boundaryWait := w } := by
  have same : ((releaseAirMode s).report fun x => { x with alertActive := false }).cue = s.cue :=
    Eq.trans (report_touches _ _ .cue (by decide)) (releaseAirMode_touches s .cue (by decide))
  exact ⟨_, congrArg (fun c : Cue => ({ c with boundaryWait := _ } : Cue)) same⟩

theorem releaseAir_unqueued {h : HeldRecord} (mode : s.sup.mode = some .alert) (state : s.cue.state = .held) (held : s.cue.held = some h)
    (queue : s.alerts.queue = []) : AirReleased s (releaseAir s) := by
  have touched := releaseTold_touches s
  obtain ⟨w, cue⟩ := releaseTold_cue s
  have alerts : (releaseTold s).alerts = s.alerts := touched .alerts (by decide)
  have mix : (releaseTold s).mix = s.mix := touched .mix (by decide)
  have clips : (releaseTold s).clips = s.clips := touched .clips (by decide)
  have sup : (releaseTold s).sup = { s.sup with mode := s.sup.remembered, remembered := none } := releaseAirMode_sup mode
  have lamp : (releaseTold s).panel.reports.alertActive = false := rfl
  obtain ⟨st, notHeld, entered⟩ := releaseEngine_unqueued (s := releaseTold s) (h := h) (by rw [cue]; exact state) (by rw [cue]; exact held)
    (by rw [alerts]; exact queue)
  have eq : releaseAir s = releaseEngine (releaseTold s) := rfl
  rw [← eq] at entered
  have resumed : Touches [.cue, .links] (releaseTold s) (raise .P .engineResumed
      { releaseTold s with cue := { (releaseTold s).cue with held := none, state := followList (releaseTold s).cue.entries } }) :=
    ((Touches.refl _ _).and (cue_touches _ _)).and (raise_touches _ _ _)
  exact {
    parts := ((touched.mono (by decide)).trans (resumed.mono (by decide))).trans (entered.parts.mono (by decide))
    alert := entered.alert.trans (by rw [← mix]; rfl)
    alertClips := entered.alertClips.trans (by rw [← clips]; rfl)
    readerAlert := entered.readerAlert.trans (by rw [← clips]; rfl)
    state := by rw [entered.state]; exact notHeld
    held := entered.held.trans rfl
    view := by rw [entered.alerts, entered.state]
    alerts := by rw [entered.alerts, ← alerts]; rfl
    sup := (Eq.trans (entered.parts .sup (by decide)) rfl).trans sup
    lamp := by
      have panel : (releaseAir s).panel = (releaseTold s).panel := Eq.trans (entered.parts .panel (by decide)) rfl
      rw [panel]
      exact lamp
    told := ((silent touched).trans ((silent (cue_touches _ _) : Raises (0x15 :: workEvents) (releaseTold s) _).raise _ _
      (by simp [Event.number]))).trans (entered.told.mono (by simp)) }

end Sys2Proof.AirReleases
end

section
/-! R128, R134, R136, R137: how the airing of a cut-through record ends. -/

namespace Sys2Proof.AiringEnds

-- one thread: the check compiles under a limit on the process
set_option Elab.async false

open Sys2Proof.Machine Sys2Proof.Safety Sys2Proof.Laws Sys2Proof.TakenCommands Sys2Proof.EngineNotices Sys2Proof.EventKeeping
open Sys2Proof.CutThrough Sys2Proof.AirReleases Sys2Proof.AlertsFinishing Sys2Proof.Arrivals Sys2Proof.CapturedAlerts
open Sys2Proof.AlertReading Sys2Proof.FinishedRecords Sys2Proof.Takeovers Sys2Proof.CallerSlots

variable {s t u : State} {k : AlertSlot} {r : AlertRecord} {cancelled : Bool}

/-- The state in which ALERT has been cut, ALERT_OFF_AIR raised. -/
def offAir (r : AlertRecord) (cancelled : Bool) (s : State) : State :=
  raise .C (.alertOffAir r.id cancelled) (cut .alert { s with alerts := { s.alerts with tone := none } })

/-- The record `r` of slot `k` waits for its confirmation. -/
def confirming (k : AlertSlot) (r : AlertRecord) (s : State) : State :=
  raise .A (.alertState r.id r.origin .confirming r.truncated r.damaged) (s.setRecord k (some { r with phase := .confirming }))

theorem offAir_touches (r : AlertRecord) (cancelled : Bool) (s : State) :
    Touches [.alerts, .mix, .clips, .links] s (offAir r cancelled s) :=
  ((((Touches.refl _ s).and (records_touches _ s)).and (cut_touches _ _)).and (raise_touches _ _ _))

theorem offAir_alerts (r : AlertRecord) (cancelled : Bool) (s : State) :
    (offAir r cancelled s).alerts = { s.alerts with tone := none } :=
  cut_touches .alert { s with alerts := { s.alerts with tone := none } } .alerts (by decide)

theorem offAir_record (j : AlertSlot) (r : AlertRecord) (cancelled : Bool) (s : State) :
    (offAir r cancelled s).record j = s.record j := by
  simp only [State.record, offAir_alerts]

theorem confirming_record (k : AlertSlot) (r : AlertRecord) (s : State) :
    (confirming k r s).record k = some { r with phase := .confirming } := record_setRecord k _ s

/-- How an airing that ends leaves its record (R136). -/
def ending (k : AlertSlot) (r : AlertRecord) (cancelled : Bool) (s : State) : State :=
  if cancelled then finishedAs k r .cancelled (offAir r true s)
  else if r.airBlocks = 0 then finishedAs k { r with phase := .confirming } .unconfirmed (confirming k r (offAir r false s))
  else confirming k r (offAir r false s)

theorem endAiring_cut (record : s.record k = some r) (through : r.cutThrough = true) (cancelled : Bool) :
    endAiring k cancelled s = afterAiring (ending k r cancelled s) := by
  have stopped : raise .C (.alertOffAir r.id cancelled) (stopAlertAudio k r s) = offAir r cancelled s := by
    simp only [stopAlertAudio, through, if_true]
    rfl
  simp only [endAiring, record, stopped]
  refine congrArg afterAiring ?_
  cases cancelled with
  | true => exact (finish_eq (s := offAir r true s) ((offAir_record k r true s).trans record) .cancelled)
  | false =>
    have marked : raiseAlertState k ((offAir r false s).modRecord k fun x => { x with phase := .confirming }) =
        confirming k r (offAir r false s) := by
      rw [State.modRecord, offAir_record, record]
      exact raiseAlertState_of (record_setRecord k _ _)
    simp only [Bool.false_eq_true, if_false, marked, ending]
    split
    · exact finish_eq (s := confirming k r (offAir r false s)) (confirming_record k r _) .unconfirmed
    · rfl

/-- What the end of an airing leaves for the window check that follows it. -/
structure Ended (k : AlertSlot) (r : AlertRecord) (cancelled : Bool) (s u : State) : Prop where
  parts : Touches [.alerts, .mix, .clips, .links, .cue] s u
  alert : u.mix.alert.binding = none
  cue : ∃ w, u.cue = { s.cue with boundaryWait := w }
  queue : u.alerts.queue = s.alerts.queue.filter (fun j => decide (j ≠ k)) ∨ u.alerts.queue = s.alerts.queue
  told : Pending .C (.alertOffAir r.id cancelled) u
  others : ∀ j, j ≠ k → u.record j = s.record j

theorem finishedAs_touches (k : AlertSlot) (r : AlertRecord) (o : AlertOutcome) (s : State) :
    Touches [.alerts, .cue, .links] s (finishedAs k r o s) := by
  intro p hp
  cases p <;> first | rfl | exact absurd (by decide) hp

theorem finishedAs_raises (k : AlertSlot) (r : AlertRecord) (o : AlertOutcome) (s : State) :
    Raises [0x40] s (finishedAs k r o s) := by
  have changed (a : Alerts) (c : Cue) : Raises [0x40] s { s with alerts := a, cue := c } := fun _ _ hp _ => hp
  exact (changed _ _).raise _ _ (by simp [Event.number])

theorem confirming_raises (k : AlertSlot) (r : AlertRecord) (s : State) : Raises [0x40] s (confirming k r s) :=
  (silent (setRecord_touches k _ s)).raise _ _ (by simp [Event.number])

theorem confirming_touches (k : AlertSlot) (r : AlertRecord) (s : State) : Touches [.alerts, .links] s (confirming k r s) :=
  ((Touches.refl _ s).and (setRecord_touches k _ s)).and (raise_touches _ _ _)

theorem offAir_ended (k : AlertSlot) (r : AlertRecord) (cancelled : Bool) (s : State) : Ended k r cancelled s (offAir r cancelled s) where
  parts := (offAir_touches r cancelled s).mono (by decide)
  alert := cut_binding .alert { s with alerts := { s.alerts with tone := none } }
  cue := ⟨s.cue.boundaryWait, offAir_touches r cancelled s .cue (by decide)⟩
  queue := .inr (by rw [offAir_alerts])
  told := pending_raised _ _ _
  others j _ := offAir_record j r cancelled s

theorem Ended.confirming (h : Ended k r cancelled s u) : Ended k r cancelled s (confirming k r u) where
  parts := h.parts.trans ((confirming_touches k r u).mono (by decide))
  alert := h.alert
  cue := h.cue
  queue := h.queue
  told := (confirming_raises k r u).pending h.told (by simp [Event.number])
  others j hj := (record_setRecord_ne hj _ u).trans (h.others j hj)

theorem Ended.finished (h : Ended k r cancelled s u) (x : AlertRecord) (o : AlertOutcome) : Ended k r cancelled s (finishedAs k x o u) where
  parts := h.parts.trans ((finishedAs_touches k x o u).mono (by decide))
  alert := h.alert
  cue := by
    obtain ⟨w, cue⟩ := h.cue
    exact ⟨waitsBeside k u, (congrArg (fun c : Cue => ({ c with boundaryWait := waitsBeside k u } : Cue)) cue).trans rfl⟩
  queue := by
    rcases h.queue with queue | queue
    · refine .inl ?_
      show u.alerts.queue.filter _ = _
      rw [queue, List.filter_filter]
      simp
    · exact .inl (congrArg (List.filter _) queue)
  told := (finishedAs_raises k x o u).pending h.told (by simp [Event.number])
  others j hj := by
    have free := record_set_none k j u (a := (finishedAs k x o u).alerts) rfl
    rw [if_neg hj] at free
    exact free.trans (h.others j hj)

theorem ending_ended (k : AlertSlot) (r : AlertRecord) (cancelled : Bool) (s : State) : Ended k r cancelled s (ending k r cancelled s) := by
  cases cancelled with
  | true => exact (offAir_ended k r true s).finished r .cancelled
  | false =>
    have confirms := (offAir_ended k r false s).confirming
    unfold ending
    simp only [Bool.false_eq_true, if_false]
    split
    · exact confirms.finished _ _
    · exact confirms

theorem Ended.unqueued (h : Ended k r cancelled s u) (queue : s.alerts.queue = []) : u.alerts.queue = [] := by
  rcases h.queue with same | same
  · rw [same, queue]
    rfl
  · rw [same, queue]

/-- The air has been released at the end of an airing. -/
def AirFreed (k : AlertSlot) (r : AlertRecord) (s t : State) (cancelled : Bool) : Prop :=
  t.mix.alert.binding = none ∧ t.cue.state ≠ .held ∧ t.cue.held = none ∧
    t.sup = { s.sup with mode := s.sup.remembered, remembered := none } ∧ t.panel.reports.alertActive = false ∧
    (∃ p ∈ (t.link .C).events, p.event = .alertOffAir r.id cancelled) ∧ t.delay = s.delay ∧
    t.callers = s.callers ∧ t.mem = s.mem ∧ ∀ j, j ≠ k → t.record j = s.record j

theorem afterAiring_released (queue : s.alerts.queue = []) : afterAiring s = releaseAir s := by
  rw [afterAiring, windowTaker_unqueued queue]

/-- With no record queued the end of an airing releases the air. -/
theorem Ended.released (h : Ended k r cancelled s u) (queue : s.alerts.queue = []) (mode : s.sup.mode = some .alert)
    (state : s.cue.state = .held) (held : s.cue.held.isSome) : AirReleased u (releaseAir u) := by
  obtain ⟨x, isHeld⟩ := Option.isSome_iff_exists.mp held
  obtain ⟨w, cue⟩ := h.cue
  have sup : u.sup = s.sup := h.parts .sup (by decide)
  exact releaseAir_unqueued (by rw [sup]; exact mode) (by rw [cue]; exact state) (by rw [cue]; exact isHeld) (h.unqueued queue)

theorem Ended.freed (h : Ended k r cancelled s u) (released : AirReleased u (releaseAir u)) : AirFreed k r s (releaseAir u) cancelled := by
  have sup : u.sup = s.sup := h.parts .sup (by decide)
  have delay : u.delay = s.delay := h.parts .delay (by decide)
  have callers : u.callers = s.callers := h.parts .callers (by decide)
  have mem : u.mem = s.mem := h.parts .mem (by decide)
  refine ⟨by rw [released.alert]; exact h.alert, released.state, released.held, by rw [released.sup, sup], released.lamp,
    released.told.pending h.told (by simp [Event.number]), Eq.trans (released.parts .delay (by decide)) delay,
    Eq.trans (released.parts .callers (by decide)) callers, Eq.trans (released.parts .mem (by decide)) mem, fun j hj => ?_⟩
  rw [State.record, released.alerts]
  exact h.others j hj

theorem AirFreed.answered (h : AirFreed k r s t cancelled) (c : Nat) : AirFreed k r s (respond .A c .ok .none t) cancelled := by
  obtain ⟨alert, state, held, sup, lamp, told, delay, callers, mem, others⟩ := h
  exact ⟨alert, state, held, sup, lamp, Pending.answered told .A c .ok .none, delay, callers, mem, others⟩

-- the commands

theorem alertAudioEnd_airing (record : s.record k = some r) (airing : r.phase = .airing) (through : r.cutThrough = true) :
    alertAudioEnd k s = endAiring k false s := by
  simp only [alertAudioEnd, record, airing, through]

theorem cancelRecord_airing (record : s.record k = some r) (airing : r.phase = .airing) : cancelRecord k s = endAiring k true s := by
  simp only [cancelRecord, record, airing]

theorem exec_alertAudioEnd {h l : Byte} (takes : Takes .A s) (named : h.toNat * 256 + l.toNat = r.id) (given : r.id ≠ 0)
    (record : s.record k = some r) (sole : ∀ j x, s.record j = some x → x.id = r.id → j = k) :
    exec (.alertAudioEnd .A [h, l]) s = .next (respond .A 0x61 .ok .none (alertAudioEnd k (frameComplete .A s))) := by
  have owner := alertAudioEndOwner_named (s := frameComplete .A s) named given record sole
  refine congrArg Host.Outcome.next ((command_taken takes _ (alertAudioEnd_checks takes [h, l] rfl)).trans ?_)
  rw [owner]
  rfl

theorem exec_alertCancel {h l : Byte} (takes : Takes .A s) (named : h.toNat * 256 + l.toNat = r.id) (given : r.id ≠ 0)
    (record : s.record k = some r) (sole : ∀ j x, s.record j = some x → x.id = r.id → j = k) :
    exec (.alertCancel .A [h, l]) s = .next (respond .A 0x48 .ok .none (cancelRecord k (frameComplete .A s))) := by
  have slot : (frameComplete .A s).slotOfAlert r.id = some k := slotOfAlert_one (s := frameComplete .A s) record sole
  have owner := alertCancelOwner_eq (l := .A) (t := frameComplete .A s) named given slot
  have allowed : ¬cancelForbidden .A k (frameComplete .A s) = true := by
    rw [cancelForbidden_eq (t := frameComplete .A s) record]
    rintro ⟨other, -⟩
    cases other
  rw [if_neg allowed] at owner
  refine congrArg Host.Outcome.next ((command_taken takes _ (alertCancel_checks takes (.inl rfl) [h, l] rfl)).trans ?_)
  rw [owner]
  rfl

theorem airing_sole (record : s.record k = some r) (airing : r.phase = .airing)
    (sole : ∀ j x, s.record j = some x → x.phase = .airing → j = k) : s.airing = some k := by
  cases found : s.airing with
  | none => exact absurd airing ((airing_isNone_iff s).mp found k r record)
  | some j =>
    have there : s.inPhase .airing j = true := List.find?_some found
    cases hj : s.record j with
    | none => simp [State.inPhase, hj] at there
    | some x =>
      have phase : x.phase = .airing := by simpa [State.inPhase, hj] using there
      rw [sole j x hj phase]

/-- The records after the release are those after the end of the airing. -/
theorem records_released (h : AirReleased u t) (j : AlertSlot) : t.record j = u.record j :=
  (congrArg (fun a : Alerts => a.records[j]) h.alerts).trans rfl

theorem history_released (h : AirReleased u t) : t.alerts.history = u.alerts.history :=
  (congrArg Alerts.history h.alerts).trans rfl

theorem ending_confirming (blocks : 0 < r.airBlocks) (s : State) :
    (ending k r false s).record k = some { r with phase := .confirming } := by
  rw [ending, if_neg Bool.false_ne_true, if_neg (by omega)]
  exact confirming_record k r _

theorem ending_cancelled (k : AlertSlot) (r : AlertRecord) (s : State) :
    (ending k r true s).record k = none ∧ (ending k r true s).alerts.history =
      ({ r with phase := .finished .cancelled, clip := none } :: s.alerts.history).take 8 := by
  rw [ending, if_pos rfl]
  refine ⟨?_, ?_⟩
  · have free := record_set_none k k (offAir r true s) (a := (finishedAs k r .cancelled (offAir r true s)).alerts) rfl
    rw [if_pos rfl] at free
    exact free
  · exact (congrArg (fun a : Alerts => (({ r with phase := .finished .cancelled, clip := none } : AlertRecord) :: a.history).take 8)
      (offAir_alerts r true s)).trans rfl

/-- The record `r` of slot `k` has come to its greatest length, and its event is taken. -/
def atLimit (k : AlertSlot) (r : AlertRecord) (s : State) : State :=
  ({ s with due := s.due.erase .liveAlertLimit } : State).setRecord k (some { r with truncated := true })

theorem liveLimit_reached (airs : s.airing = some k) (record : s.record k = some r) (through : r.cutThrough = true)
    (limit : 12000 ≤ r.airBlocks) : liveLimit s = endAiring k false (s.setRecord k (some { r with truncated := true })) := by
  simp only [liveLimit, airs, record, through, limit, and_self, if_true]

theorem airingsEnd_cut : Claims.AiringsEnd := by
  intro k r s record airing through sole queue mode state held _ released
  refine ⟨fun h l takes named given one => ⟨fun blocks => ?_, ?_⟩, fun found limit => ?_⟩
  · have ends := ending_ended k r false (frameComplete .A s)
    have back := ends.released queue mode state held
    have exact_end : alertAudioEnd k (frameComplete .A s) = releaseAir (ending k r false (frameComplete .A s)) :=
      (alertAudioEnd_airing (s := frameComplete .A s) record airing through).trans
        ((endAiring_cut (s := frameComplete .A s) record through false).trans (afterAiring_released (ends.unqueued queue)))
    refine ⟨_, exec_alertAudioEnd takes named given record one, ?_, ?_, ?_⟩
    · rw [exact_end]
      exact (ends.freed back).answered 0x61
    · rfl
    · rw [exact_end]
      exact (records_released back k).trans (ending_confirming blocks _)
  · have ends := ending_ended k r true (frameComplete .A s)
    have back := ends.released queue mode state held
    have exact_end : cancelRecord k (frameComplete .A s) = releaseAir (ending k r true (frameComplete .A s)) :=
      (cancelRecord_airing (s := frameComplete .A s) record airing).trans
        ((endAiring_cut (s := frameComplete .A s) record through true).trans (afterAiring_released (ends.unqueued queue)))
    obtain ⟨gone, history⟩ := ending_cancelled k r (frameComplete .A s)
    refine ⟨_, exec_alertCancel takes named given record one, ?_, ?_, ?_, ?_⟩
    · rw [exact_end]
      exact (ends.freed back).answered 0x48
    · rfl
    · rw [exact_end]
      exact (records_released back k).trans gone
    · rw [exact_end]
      exact (history_released back).trans history
  · have erased : s.airing = some k := airing_sole record airing sole
    have bounded : stillDue { s with due := s.due.erase .liveAlertLimit } .liveAlertLimit = true := by
      have same : ({ s with due := s.due.erase .liveAlertLimit } : State).airing.bind
          ({ s with due := s.due.erase .liveAlertLimit } : State).record = some r :=
        (congrArg (fun o : Option AlertSlot => o.bind s.record) erased).trans record
      simp only [stillDue, same, through, limit]
      rfl
    have ends := ending_ended k { r with truncated := true } false (atLimit k r s)
    have back := ends.released queue mode state held
    have row : takeRow .liveAlertLimit s = releaseAir (ending k { r with truncated := true } false (atLimit k r s)) := by
      rw [takeRow_found found bounded]
      refine (liveLimit_reached (s := { s with due := s.due.erase .liveAlertLimit }) erased record through limit).trans ?_
      have set : (atLimit k r s).record k = some { r with truncated := true } := record_setRecord k _ _
      exact (endAiring_cut set through false).trans (afterAiring_released (ends.unqueued queue))
    obtain ⟨alert, left, unheld, sup, lamp, told, delay, callers, mem, others⟩ := ends.freed back
    refine ⟨_, congrArg Host.Outcome.next row, ⟨alert, left, unheld, sup, lamp, told, delay, callers, mem, fun j hj => ?_⟩, ?_⟩
    · exact (others j hj).trans (record_setRecord_ne hj _ _)
    · exact (records_released back k).trans (ending_confirming (r := { r with truncated := true }) (by exact Nat.lt_of_lt_of_le (by decide) limit) _)

end Sys2Proof.AiringEnds
end

section
/-! R136, R137: an airing without air blocks, and one that gives way to the next record. -/

namespace Sys2Proof.AiringsFollowed

-- one thread: the check compiles under a limit on the process
set_option Elab.async false

open Sys2Proof.Machine Sys2Proof.Safety Sys2Proof.Laws Sys2Proof.TakenCommands Sys2Proof.EngineNotices Sys2Proof.EventKeeping
open Sys2Proof.CutThrough Sys2Proof.AirReleases Sys2Proof.AlertsFinishing Sys2Proof.Arrivals Sys2Proof.CapturedAlerts
open Sys2Proof.AlertReading Sys2Proof.FinishedRecords Sys2Proof.Takeovers Sys2Proof.CallerSlots Sys2Proof.AiringEnds

variable {s t u : State} {k j : AlertSlot} {r x : AlertRecord} {c : Check} {q : List AlertSlot}

theorem windowTaker_head (onAir : s.dev.state = .onAir) (free : s.airing = none) (queue : s.alerts.queue = j :: q)
    (record : s.record j = some x) (marked : eligible c s.alerts.view x = true) : windowTaker c s = some j := by
  simp [windowTaker, State.onAir, onAir, free, queue, record, marked]

/-- At the end of an airing every record takes the air but a TEST that is not overdue (R130). -/
theorem eligible_airingEnd (marked : x.overdue = true ∨ x.cls ≠ .test) (view : EngineState) :
    eligible .airingEnd view x = true := by
  rcases marked with late | other
  · simp [eligible, late]
  · cases cls : x.cls with
    | test => exact absurd cls other
    | immediate => simp [eligible, cls]
    | warning => simp [eligible, cls]
    | advisory => simp [eligible, cls]

theorem supTaken_alert {y : Supervisor} (mode : y.mode = some .alert) : supTaken y = y := by
  simp only [supTaken, mode]

theorem ending_unconfirmed (blocks : r.airBlocks = 0) (s : State) :
    (ending k r false s).record k = none ∧ (ending k r false s).alerts.history =
      ({ r with phase := .finished .unconfirmed, clip := none } :: s.alerts.history).take 8 ∧
    Pending .A (.alertState r.id r.origin (.finished .unconfirmed) r.truncated r.damaged) (ending k r false s) := by
  rw [ending, if_neg Bool.false_ne_true, if_pos blocks]
  refine ⟨?_, ?_, pending_raised _ _ _⟩
  · have free := record_set_none k k (confirming k r (offAir r false s))
      (a := (finishedAs k { r with phase := .confirming } .unconfirmed (confirming k r (offAir r false s))).alerts) rfl
    rw [if_pos rfl] at free
    exact free
  · exact (congrArg (fun a : Alerts => (({ r with phase := .finished .unconfirmed, clip := none } : AlertRecord) :: a.history).take 8)
      (offAir_alerts r false s)).trans rfl

theorem ending_queue (blocks : 0 < r.airBlocks) (s : State) : (ending k r false s).alerts.queue = s.alerts.queue := by
  rw [ending, if_neg Bool.false_ne_true, if_neg (by omega)]
  exact (congrArg Alerts.queue (offAir_alerts r false s)).trans rfl

/-- Once the one record AIRING has left the phase, none airs. -/
theorem ending_free (blocks : 0 < r.airBlocks) (sole : ∀ i y, s.record i = some y → y.phase = .airing → i = k) :
    (ending k r false s).airing = none := by
  rw [airing_isNone_iff]
  intro i y record airs
  by_cases hi : i = k
  · subst hi
    rw [ending_confirming blocks s] at record
    obtain rfl := Option.some.inj record
    cases airs
  · rw [(ending_ended k r false s).others i hi] at record
    exact hi (sole i y record airs)

/-- The next record takes the air (R137). -/
theorem afterAiring_taken (onAir : s.dev.state = .onAir) (blocks : 0 < r.airBlocks)
    (sole : ∀ i y, s.record i = some y → y.phase = .airing → i = k) (queue : s.alerts.queue = j :: q) (other : j ≠ k)
    (record : s.record j = some x) (marked : x.overdue = true ∨ x.cls ≠ .test) :
    afterAiring (ending k r false s) = takeover j none (ending k r false s) := by
  have ends := ending_ended k r false s
  have dev : (ending k r false s).dev = s.dev := ends.parts .dev (by decide)
  have taker : windowTaker .airingEnd (ending k r false s) = some j :=
    windowTaker_head (by rw [dev]; exact onAir) (ending_free blocks sole) ((ending_queue blocks s).trans queue)
      ((ends.others j other).trans record) (eligible_airingEnd marked _)
  rw [afterAiring, taker]

theorem airingsGiveWay : Claims.AiringsGiveWay := by
  intro h l k r s takes onAir named given record airing through sole mode state held _
  have one : ∀ j x, s.record j = some x → x.id = r.id → j = k := fun j x hj id => sole j x hj (.inr id)
  have airs : ∀ j x, s.record j = some x → x.phase = .airing → j = k := fun j x hj phase => sole j x hj (.inl phase)
  have ends := ending_ended k r false (frameComplete .A s)
  have exact_end : alertAudioEnd k (frameComplete .A s) = afterAiring (ending k r false (frameComplete .A s)) :=
    (alertAudioEnd_airing (s := frameComplete .A s) record airing through).trans
      (endAiring_cut (s := frameComplete .A s) record through false)
  refine ⟨fun queue blocks => ?_, fun j q x queue other waiting marked blocks => ?_⟩
  · have back := ends.released queue mode state held
    rw [afterAiring_released (ends.unqueued queue)] at exact_end
    obtain ⟨alert, left, _, _, _, told, _⟩ := (ends.freed back).answered 0x61
    obtain ⟨gone, history, finished⟩ := ending_unconfirmed (k := k) blocks (frameComplete .A s)
    refine ⟨_, exec_alertAudioEnd takes named given record one, ?_⟩
    rw [exact_end]
    exact ⟨(records_released back k).trans gone, (history_released back).trans history, left, alert, told,
      Pending.answered (back.told.pending finished (by simp [Event.number])) .A 0x61 .ok .none⟩
  · have taken := afterAiring_taken (s := frameComplete .A s) onAir blocks airs queue other waiting marked
    rw [taken] at exact_end
    have there : (ending k r false (frameComplete .A s)).record j = some x := (ends.others j other).trans waiting
    have sup : (ending k r false (frameComplete .A s)).sup = s.sup := ends.parts .sup (by decide)
    refine ⟨_, exec_alertAudioEnd takes named given record one, ?_⟩
    rw [exact_end]
    refine ⟨(takeover_record_other (Ne.symm other) none).trans (ending_confirming blocks _), takeover_record there none, ?_,
      takeover_held there none, ?_, takeover_reports there none,
      Pending.answered ((takeover_raises j none _).pending ends.told (by simp [Event.number])) .A 0x61 .ok .none,
      Pending.answered (takeover_alertOnAir there none) .A 0x61 .ok .none⟩
    · show j ∉ (takeover j none _).alerts.queue
      rw [takeover_queue there]
      simp
    · refine (takeover_sup there none).trans ?_
      rw [sup, supTaken_alert mode]

end Sys2Proof.AiringsFollowed
end

section
/-! R94: the release of the air restarts the items. -/

namespace Sys2Proof.RestartedItems

-- one thread: the check compiles under a limit on the process
set_option Elab.async false

open Sys2Proof.Machine Sys2Proof.Safety Sys2Proof.Laws Sys2Proof.TakenCommands Sys2Proof.EngineNotices Sys2Proof.EventKeeping
open Sys2Proof.CutThrough Sys2Proof.AirReleases Sys2Proof.AlertsFinishing Sys2Proof.FillEnds Sys2Proof.StartedItems
open Sys2Proof.AiringEnds Sys2Proof.AiringsFollowed

variable {s t u : State} {k : AlertSlot} {r : AlertRecord} {v w : Voice} {e f : Entry} {after rest : List Entry} {cancelled : Bool}

-- clips that hold the same audio

/-- The clips hold the same audio, and the same clip fills. -/
structure SameAudio (s t : State) : Prop where
  fallback : t.clips.fallback = s.clips.fallback
  clip : ∀ n : ClipId, (t.clips.playout[n]).state = (s.clips.playout[n]).state ∧ (t.clips.playout[n]).count = (s.clips.playout[n]).count ∧
    (t.clips.playout[n]).loop = (s.clips.playout[n]).loop

theorem sameAudio_of (h : t.clips = s.clips) : SameAudio s t := by
  refine ⟨by rw [h], fun n => ?_⟩
  rw [h]
  exact ⟨rfl, rfl, rfl⟩

theorem SameAudio.trans (h : SameAudio s t) (g : SameAudio t u) : SameAudio s u := by
  refine ⟨g.fallback.trans h.fallback, fun n => ?_⟩
  obtain ⟨state, count, loop⟩ := h.clip n
  obtain ⟨state', count', loop'⟩ := g.clip n
  exact ⟨state'.trans state, count'.trans count, loop'.trans loop⟩

theorem useClip_audio (up : Bool) (c : ClipRef) (s : State) : SameAudio s (useClip up c s) := by
  cases c with
  | alert k => exact sameAudio_of rfl
  | playout m =>
    refine ⟨rfl, fun n => ?_⟩
    by_cases same : m = n
    · subst same
      simp [useClip, State.modClip]
    · have other : (m : Nat) ≠ n := fun h => same (Fin.ext h)
      simp [useClip, State.modClip, Vector.getElem_set_ne, other]

theorem setReader_audio (q : ReaderOf) (x : Option Reader) (s : State) : SameAudio s (s.setReader q x) := by
  cases q <;> exact ⟨rfl, fun _ => ⟨rfl, rfl, rfl⟩⟩

theorem closeReader_audio (q : ReaderOf) (s : State) : SameAudio s (closeReader q s) := by
  unfold closeReader
  split
  · exact sameAudio_of rfl
  · exact (setReader_audio q none s).trans (useClip_audio _ _ _)

theorem closeReaderOf_audio (c : Contributor) (s : State) : SameAudio s (closeReaderOf c s) := by
  unfold closeReaderOf
  split
  · exact closeReader_audio _ s
  · exact sameAudio_of rfl

theorem cut_audio (c : Contributor) (s : State) : SameAudio s (cut c s) := by
  unfold cut
  split
  · exact (closeReaderOf_audio c s).trans (sameAudio_of rfl)
  · exact sameAudio_of rfl

theorem activate_audio (c : Contributor) (b : Binding) (g n p : Nat) (s : State) : SameAudio s (activate c b g n p s) := by
  unfold activate
  split
  · split
    · exact (((closeReader_audio _ s).trans (setReader_audio _ _ _)).trans (useClip_audio _ _ _)).trans (sameAudio_of rfl)
    · exact sameAudio_of rfl
  · exact (closeReaderOf_audio c s).trans (sameAudio_of rfl)

theorem soundEntry_audio (e : Entry) (v : Voice) (s : State) : SameAudio s (soundEntry e v s) := by
  unfold soundEntry
  split
  · exact activate_audio _ _ _ _ _ _
  · exact activate_audio _ _ _ _ _ _
  · exact cut_audio _ s

-- one voice's work leaves the other voice

/-- The contributor and the reader of a voice are left as they are. -/
def VoiceLeft (w : Voice) (s t : State) : Prop :=
  t.contrib (voiceContributor w) = s.contrib (voiceContributor w) ∧ t.clips.reader (voiceReader w) = s.clips.reader (voiceReader w)

theorem VoiceLeft.trans (h : VoiceLeft w s t) (g : VoiceLeft w t u) : VoiceLeft w s u := ⟨g.1.trans h.1, g.2.trans h.2⟩

theorem voiceReader_ne (other : w ≠ v) : voiceReader w ≠ voiceReader v := by
  cases w <;> cases v <;> first | exact absurd rfl other | decide

theorem closeReader_left (other : w ≠ v) (s : State) : VoiceLeft w s (closeReader (voiceReader v) s) := by
  have mix : (closeReader (voiceReader v) s).mix = s.mix := closeReader_touches _ s .mix (by decide)
  exact ⟨congrArg (fun m : Mix => m.get (voiceContributor w)) mix, closeReader_other (voiceReader_ne other) s⟩

theorem closeReaderOf_left (other : w ≠ v) (s : State) : VoiceLeft w s (closeReaderOf (voiceContributor v) s) := by
  cases v
  · exact closeReader_left (v := .A) other s
  · exact closeReader_left (v := .B) other s

theorem setContrib_left (other : w ≠ v) (x : Contrib) (s : State) : VoiceLeft w s (s.setContrib (voiceContributor v) x) := by
  cases w <;> cases v <;> first | exact absurd rfl other | exact ⟨rfl, rfl⟩

theorem openReader_left (other : w ≠ v) (c : ClipRef) (p : Nat) (s : State) : VoiceLeft w s (openReader (voiceReader v) c p s) := by
  cases w <;> cases v <;> cases c <;> first | exact absurd rfl other | exact ⟨rfl, rfl⟩

theorem cut_left (other : w ≠ v) (s : State) : VoiceLeft w s (cut (voiceContributor v) s) := by
  unfold cut
  split
  · exact (closeReaderOf_left other s).trans (setContrib_left other _ _)
  · exact ⟨rfl, rfl⟩

theorem activate_left (other : w ≠ v) (b : Binding) (g n p : Nat) (s : State) :
    VoiceLeft w s (activate (voiceContributor v) b g n p s) := by
  have own : contributorReader (voiceContributor v) = some (voiceReader v) := by cases v <;> rfl
  unfold activate
  rw [own]
  split
  · next c q same =>
    obtain rfl : voiceReader v = q := Option.some.inj same
    split
    · exact ((closeReader_left other s).trans (openReader_left other _ _ _)).trans (setContrib_left other _ _)
    · exact ⟨rfl, rfl⟩
  · exact (closeReaderOf_left other s).trans (setContrib_left other _ _)

theorem soundEntry_left (other : w ≠ v) (e : Entry) (s : State) : VoiceLeft w s (soundEntry e v s) := by
  unfold soundEntry
  split
  · exact activate_left other _ _ _ _ s
  · exact activate_left other _ _ _ _ s
  · exact cut_left other s

-- what a started entry sounds

theorem soundsRestarted_left (h : Claims.soundsRestarted v e s t) (left : VoiceLeft v t u) : Claims.soundsRestarted v e s u := by
  obtain ⟨contrib, reader⟩ := left
  obtain ⟨clip, stream, gap⟩ := h
  refine ⟨fun n i kind ready position within fits => ?_, fun a kind => contrib.trans (stream a kind), fun kind => ?_⟩
  · obtain ⟨heard, reads⟩ := clip n i kind ready position within fits
    refine ⟨contrib.trans heard, ?_⟩
    cases v
    · exact reader.trans reads
    · exact reader.trans reads
  · rw [contrib]
    exact gap kind

theorem startOrdinal_within {c : Clip} {i : Nat} (within : i ≤ c.count) (fits : i < c.count ∨ c.loop = false) :
    startOrdinal c (480 * i) = i := by
  rw [startOrdinal, Nat.mul_div_cancel_left i (by decide)]
  split
  · rfl
  · rcases fits with below | plain
    · omega
    · rw [plain]
      simp
      omega

theorem get_set (m : Mix) (c : Contributor) (x : Contrib) : (m.set c x).get c = x := by cases c <;> rfl

theorem soundEntry_sounds (audio : SameAudio s t) (closed : t.clips.reader (voiceReader v) = none)
    (silent : (t.contrib (voiceContributor v)).binding = none) : Claims.soundsRestarted v e s (soundEntry e v t) := by
  refine ⟨fun n i kind ready position within fits => ?_, fun a kind => ?_, fun kind => ?_⟩
  · obtain ⟨state, count, loop⟩ := audio.clip n
    rw [soundEntry_clip kind (state.trans ready) closed, position, activated_fields,
      startOrdinal_within (by rw [count]; exact within) (by rw [count, loop]; exact fits)]
    refine ⟨get_set _ _ _, ?_⟩
    cases v <;> rfl
  · rw [soundEntry_stream kind closed]
    exact get_set _ _ _
  · rw [soundEntry_gap kind silent]
    exact silent

theorem started_restarted (v : Voice) (e : Entry) : e.started v = Claims.restartedIn v e := by
  rcases e with ⟨kind, _, _, _, _, _, _, _, _, _, _, resume⟩
  cases kind <;> cases resume <;> rfl

-- the engine before it restarts anything

/-- The Cue Engine is free to restart the items of `s`. -/
structure Resuming (s t : State) : Prop where
  audio : SameAudio s t
  entries : t.cue.entries = s.cue.entries
  clock : t.cue.clock = s.cue.clock
  state : t.cue.state = followList s.cue.entries
  voices : ∀ v, t.voice v = .free
  closed : ∀ v, t.clips.reader (voiceReader v) = none
  silent : ∀ v, (t.contrib (voiceContributor v)).binding = none

theorem Resuming.plain (h : Resuming s t) : t.cue.state ≠ .held ∧ t.cue.state ≠ .filling := by
  rw [h.state]
  rcases ItemEnds.followList_cases s.cue.entries with g | g | g <;> rw [g] <;> decide

/-- The first entry has been started in voice `v`. -/
structure FirstStarted (v : Voice) (e : Entry) (rest : List Entry) (s t : State) : Prop where
  audio : SameAudio s t
  entries : t.cue.entries = Claims.restartedIn v e :: rest
  clock : t.cue.clock = s.cue.clock + 1
  carries : t.voice v = .carrying s.cue.clock
  sounds : Claims.soundsRestarted v e s t
  voices : ∀ w, w ≠ v → t.voice w = .free
  closed : ∀ w, w ≠ v → t.clips.reader (voiceReader w) = none
  silent : ∀ w, w ≠ v → (t.contrib (voiceContributor w)).binding = none

/-- The first two entries have been started, in the voices `v` and `w`. -/
structure BothStarted (v w : Voice) (e f : Entry) (after : List Entry) (s t : State) : Prop where
  entries : t.cue.entries = Claims.restartedIn v e :: Claims.restartedIn w f :: after
  carries : t.voice v = .carrying s.cue.clock
  carriesNext : t.voice w = .carrying (s.cue.clock + 1)
  sounds : Claims.soundsRestarted v e s t
  soundsNext : Claims.soundsRestarted w f s t

theorem startIn_cue {p : Entry → Bool} (found : t.cue.entries.find? p = some e) (v : Voice) :
    (startIn p v t).cue = startedCue t.cue v (changeFirst p (fun e => e.started v) t.cue.entries) := by
  rw [startIn_eq found]

theorem voice_startIn {p : Entry → Bool} (found : t.cue.entries.find? p = some e) (v : Voice) :
    (startIn p v t).voice v = .carrying t.cue.clock := by
  rw [startIn_eq found]
  cases v <;> rfl

theorem voice_startIn_other {p : Entry → Bool} (found : t.cue.entries.find? p = some e) (other : w ≠ v) :
    (startIn p v t).voice w = t.voice w := by
  rw [startIn_eq found]
  cases w <;> cases v <;> first | exact absurd rfl other | rfl

/-- An entry started keeps the audio of the clips, leaves the other voice and sounds in its own. -/
theorem startIn_sounds {p : Entry → Bool} (found : t.cue.entries.find? p = some e) (audio : SameAudio s t)
    (closed : t.clips.reader (voiceReader v) = none) (silent : (t.contrib (voiceContributor v)).binding = none) :
    SameAudio s (startIn p v t) ∧ Claims.soundsRestarted v e s (startIn p v t) ∧ ∀ w, w ≠ v → VoiceLeft w t (startIn p v t) := by
  rw [startIn_eq found]
  have sounds : Claims.soundsRestarted v e s (soundEntry e v t) := soundEntry_sounds audio closed silent
  exact ⟨audio.trans ((soundEntry_audio e v t).trans (sameAudio_of rfl)), soundsRestarted_left sounds ⟨rfl, rfl⟩,
    fun w other => (soundEntry_left other e t).trans ⟨rfl, rfl⟩⟩

theorem Resuming.first {p : Entry → Bool} (h : Resuming s t) (list : s.cue.entries = e :: rest) (picks : p e = true) (v : Voice) :
    FirstStarted v e rest s (startIn p v t) := by
  have listed : t.cue.entries = e :: rest := h.entries.trans list
  have found : t.cue.entries.find? p = some e := by rw [listed, List.find?_cons_of_pos picks]
  obtain ⟨audio, sounds, left⟩ := startIn_sounds found h.audio (h.closed v) (h.silent v)
  refine ⟨audio, ?_, ?_, ?_, sounds, fun w other => ?_, fun w other => ?_, fun w other => ?_⟩
  · rw [startIn_cue found, listed, ← started_restarted]
    exact changeFirst_at (before := []) _ (by simp) picks
  · rw [startIn_cue found, ← h.clock]
    rfl
  · rw [voice_startIn found, h.clock]
  · rw [voice_startIn_other found other]
    exact h.voices w
  · rw [(left w other).2]
    exact h.closed w
  · rw [(left w other).1]
    exact h.silent w

theorem FirstStarted.next {p : Entry → Bool} (h : FirstStarted v e (f :: after) s t) (other : w ≠ v)
    (skips : p (Claims.restartedIn v e) = false) (picks : p f = true) : BothStarted v w e f after s (startIn p w t) := by
  have found : t.cue.entries.find? p = some f := by
    rw [h.entries]
    exact find?_at (before := [Claims.restartedIn v e]) (by simpa using skips) picks
  obtain ⟨_, sounds, left⟩ := startIn_sounds found h.audio (h.closed w other) (h.silent w other)
  refine ⟨?_, ?_, ?_, soundsRestarted_left h.sounds (left v (Ne.symm other)), sounds⟩
  · rw [startIn_cue found, h.entries, ← started_restarted w f]
    exact changeFirst_at (before := [Claims.restartedIn v e]) _ (by simpa using skips) picks
  · rw [voice_startIn_other found (Ne.symm other)]
    exact h.carries
  · rw [voice_startIn found, h.clock]

-- the held entries

/-- One entry of the list as the held entries are restarted. -/
def restartOne (t : State) (e : Entry) : State :=
  match e.state, e.voice with
  | .playing, some v => startIn (fun x => x.playing && decide (x.voice = some v)) v t
  | _, _ => t

theorem restartHeld_eq (s : State) : restartHeld s = s.cue.entries.foldl restartOne s := rfl

theorem restartOne_playing (plays : e.state = .playing) (voice : e.voice = some v) (t : State) :
    restartOne t e = startIn (fun x => x.playing && decide (x.voice = some v)) v t := by
  simp only [restartOne, plays, voice]

theorem restartOne_idle (idle : e.state ≠ .playing) (t : State) : restartOne t e = t := by
  unfold restartOne
  split
  · next plays _ => exact absurd plays idle
  · rfl

theorem restart_idle {es : List Entry} (idle : ∀ y ∈ es, y.state ≠ .playing) (t : State) : es.foldl restartOne t = t := by
  induction es with
  | nil => rfl
  | cons y ys ih =>
    rw [List.foldl_cons, restartOne_idle (idle y List.mem_cons_self)]
    exact ih fun z hz => idle z (List.mem_cons_of_mem _ hz)

theorem waiting_idle {es : List Entry} (waits : ∀ y ∈ es, y.state = .waiting) : ∀ y ∈ es, y.state ≠ .playing := by
  intro y hy plays
  rw [waits y hy] at plays
  cases plays

/-- The reserved entry alone is started next. -/
abbrev reserved (e : Entry) : Bool := decide (e.state = .reserved)

theorem waiting_unreserved {es : List Entry} (waits : ∀ y ∈ es, y.state = .waiting) : es.find? reserved = none := by
  refine List.find?_eq_none.mpr fun y hy => ?_
  simp [reserved, waits y hy]

/-- The Cue Engine restarts the held entries and then the reserved one. -/
def restarted (t : State) : State := startEntry ((restartHeld t).cue.entries.length + 1) reserved (restartHeld t)

theorem held_picks (plays : e.state = .playing) (voice : e.voice = some v) :
    (e.playing && decide (e.voice = some v)) = true := by
  simp [Entry.playing, plays, voice]

theorem held_skips (other : w ≠ v) (e : Entry) :
    ((Claims.restartedIn v e).playing && decide ((Claims.restartedIn v e).voice = some w)) = false := by
  simp [Claims.restartedIn, Claims.startedIn, Ne.symm other]

theorem restarted_skips (v : Voice) (e : Entry) : reserved (Claims.restartedIn v e) = false := by
  simp [Claims.restartedIn, Claims.startedIn, reserved]

/-- One held entry alone is restarted. -/
theorem Resuming.one (h : Resuming s t) (list : s.cue.entries = e :: rest) (plays : e.state = .playing) (voice : e.voice = some v)
    (waits : ∀ y ∈ rest, y.state = .waiting) : FirstStarted v e rest s (restarted t) := by
  have first : FirstStarted v e rest s (restartHeld t) := by
    rw [restartHeld_eq, h.entries, list, List.foldl_cons, restartOne_playing plays voice, restart_idle (waiting_idle waits)]
    exact h.first list (held_picks plays voice) v
  have absent : (restartHeld t).cue.entries.find? reserved = none := by
    rw [first.entries, List.find?_cons_of_neg (by simp [restarted_skips])]
    exact waiting_unreserved waits
  rw [restarted, startEntry_none absent]
  exact first

/-- Two entries held are restarted each in its voice. -/
theorem Resuming.both (h : Resuming s t) (list : s.cue.entries = e :: f :: after) (plays : e.state = .playing) (voice : e.voice = some v)
    (playsNext : f.state = .playing) (voiceNext : f.voice = some w) (other : w ≠ v) (waits : ∀ y ∈ after, y.state = .waiting) :
    BothStarted v w e f after s (restarted t) := by
  have both : BothStarted v w e f after s (restartHeld t) := by
    rw [restartHeld_eq, h.entries, list, List.foldl_cons, List.foldl_cons, restartOne_playing plays voice,
      restartOne_playing playsNext voiceNext, restart_idle (waiting_idle waits)]
    exact (h.first list (held_picks plays voice) v).next other (held_skips other e) (held_picks playsNext voiceNext)
  have absent : (restartHeld t).cue.entries.find? reserved = none := by
    rw [both.entries, List.find?_cons_of_neg (by simp [restarted_skips]), List.find?_cons_of_neg (by simp [restarted_skips])]
    exact waiting_unreserved waits
  rw [restarted, startEntry_none absent]
  exact both

theorem pickVoice_other (other : w ≠ v) (busy : t.voice v ≠ .free) (free : t.voice w = .free) : pickVoice t = some w := by
  cases w with
  | A => exact pickVoice_A free
  | B =>
    cases v with
    | A => exact pickVoice_B busy free
    | B => exact absurd rfl other

/-- The entry held and then the reserved one are started. -/
theorem Resuming.reserve (h : Resuming s t) (list : s.cue.entries = e :: f :: after) (plays : e.state = .playing) (voice : e.voice = some v)
    (held : f.state = .reserved) (item : f.kind ≠ .mark) (other : w ≠ v) (waits : ∀ y ∈ after, y.state = .waiting) :
    BothStarted v w e f after s (restarted t) := by
  have idle : ∀ y ∈ f :: after, y.state ≠ .playing := by
    intro y hy
    rcases List.mem_cons.mp hy with rfl | later
    · rw [held]; exact fun g => by cases g
    · exact waiting_idle waits y later
  have first : FirstStarted v e (f :: after) s (restartHeld t) := by
    rw [restartHeld_eq, h.entries, list, List.foldl_cons, restartOne_playing plays voice, restart_idle idle]
    exact h.first list (held_picks plays voice) v
  have picks : reserved f = true := decide_eq_true held
  have found : (restartHeld t).cue.entries.find? reserved = some f := by
    rw [first.entries]
    exact find?_at (before := [Claims.restartedIn v e]) (List.forall_mem_singleton.mpr (restarted_skips v e)) picks
  have free := first.voices w other
  rw [restarted, startEntry_item found item (pickVoice_other other (by rw [first.carries]; exact fun g => by cases g) free) (carries_free free)]
  exact first.next other (restarted_skips v e) picks

/-- No entry was held: the reserved one is started in VOICE A. -/
theorem Resuming.alone (h : Resuming s t) (list : s.cue.entries = f :: after) (held : f.state = .reserved) (item : f.kind ≠ .mark)
    (waits : ∀ y ∈ after, y.state = .waiting) : FirstStarted .A f after s (restarted t) := by
  have idle : ∀ y ∈ f :: after, y.state ≠ .playing := by
    intro y hy
    rcases List.mem_cons.mp hy with rfl | later
    · rw [held]; exact fun g => by cases g
    · exact waiting_idle waits y later
  have none_held : restartHeld t = t := by rw [restartHeld_eq, h.entries, list, restart_idle idle]
  have picks : reserved f = true := decide_eq_true held
  have found : t.cue.entries.find? reserved = some f := by
    rw [h.entries, list, List.find?_cons_of_pos picks]
  rw [restarted, none_held, startEntry_item found item (pickVoice_A (h.voices .A)) (carries_free (h.voices .A))]
  exact h.first list picks .A

/-- With nothing held and nothing reserved nothing is started. -/
theorem Resuming.nothing (h : Resuming s t) (waits : ∀ y ∈ s.cue.entries, y.state = .waiting) : restarted t = t := by
  have none_held : restartHeld t = t := by rw [restartHeld_eq, h.entries, restart_idle (waiting_idle waits)]
  rw [restarted, none_held]
  exact startEntry_none (by rw [h.entries]; exact waiting_unreserved waits)

-- the state notice

/-- The engine has worked out its state, no record taking the air at the notice. -/
theorem settleFrom_resumed (plain : t.cue.state ≠ .held ∧ t.cue.state ≠ .filling) (queue : t.alerts.queue = []) :
    settleFrom .held t = { t with
      cue := { t.cue with goPending := t.cue.goPending && t.cue.hasWaiting, state := followList t.cue.entries }
      alerts := { t.alerts with view := followList t.cue.entries } } := by
  have changes : followList t.cue.entries ≠ .held := by
    rcases ItemEnds.followList_cases t.cue.entries with h | h | h <;> rw [h] <;> decide
  rw [settleFrom_follows plain.1 plain.2, enterEngine, if_neg changes]
  dsimp only
  rw [windowCheck, windowTaker_unqueued (by exact queue)]

theorem restarted_work (queue : t.alerts.queue = []) : EngineWork t (restarted t) := by
  have held := restartHeld_work t
  exact held.trans (startEntry_work _ _ (by rw [held.alerts]; exact queue))

/-- What the engine has once it has worked out its state. -/
structure Notified (s t : State) : Prop where
  entries : t.cue.entries = s.cue.entries
  state : t.cue.state = followList s.cue.entries
  voice : ∀ v, t.voice v = s.voice v
  left : ∀ v, VoiceLeft v s t

theorem restarted_notified (h : Resuming s t) (queue : t.alerts.queue = []) :
    Notified (restarted t) (settleFrom .held (restarted t)) := by
  have work := restarted_work queue
  have plain : (restarted t).cue.state ≠ .held ∧ (restarted t).cue.state ≠ .filling := by
    rw [work.state]
    exact h.plain
  rw [settleFrom_resumed plain (by rw [work.alerts]; exact queue)]
  exact ⟨rfl, rfl, fun v => by cases v <;> rfl, fun v => ⟨rfl, rfl⟩⟩

/-- The state in which ENGINE_RESUMED has been raised. -/
def resumed (s : State) : State :=
  raise .P .engineResumed { s with cue := { s.cue with held := none, state := followList s.cue.entries } }

theorem releaseEngine_restarts {x : HeldRecord} (state : s.cue.state = .held) (held : s.cue.held = some x) (left : x.stateLeft ≠ .filling) :
    releaseEngine s = settleFrom .held (restarted (resumed s)) := by
  simp only [releaseEngine, state, held, left, if_false]
  rfl

theorem releaseEngine_fills {x : HeldRecord} {n : ClipId} (state : s.cue.state = .held) (held : s.cue.held = some x)
    (left : x.stateLeft = .filling) (fills : s.clips.fallback = some n) : releaseEngine s = enterEngine .held .filling
      ((activate .voiceA (.clip (.playout n)) 32768 0 (x.fillPosition.getD 0) (resumed s)).setVoice .A .filling) := by
  simp only [releaseEngine, state, held, left, fills, if_true]
  rfl

theorem releaseEngine_silent {x : HeldRecord} (state : s.cue.state = .held) (held : s.cue.held = some x)
    (left : x.stateLeft = .filling) (unfilled : s.clips.fallback = none) : releaseEngine s = enterEngine .held .filling (resumed s) := by
  simp only [releaseEngine, state, held, left, unfilled, if_true]
  rfl

/-- The engine enters FILLING, no record being queued. -/
theorem enterEngine_filling (queue : t.alerts.queue = []) : enterEngine .held .filling t =
    { t with cue := { t.cue with state := .filling }, alerts := { t.alerts with view := .filling } } := by
  rw [enterEngine, if_neg (by decide)]
  dsimp only
  rw [windowCheck, windowTaker_unqueued (by exact queue)]

-- what precedes the release

theorem ending_parts (k : AlertSlot) (r : AlertRecord) (cancelled : Bool) (s : State) :
    Touches [.alerts, .cue, .links] (offAir r cancelled s) (ending k r cancelled s) := by
  cases cancelled with
  | true => exact finishedAs_touches k r .cancelled _
  | false =>
    unfold ending
    simp only [Bool.false_eq_true, if_false]
    split
    · exact ((confirming_touches k r _).mono (by decide)).trans (finishedAs_touches k _ _ _)
    · exact (confirming_touches k r _).mono (by decide)

theorem offAir_audio (r : AlertRecord) (cancelled : Bool) (s : State) : SameAudio s (offAir r cancelled s) := by
  have shut : SameAudio s (cut .alert { s with alerts := { s.alerts with tone := none } }) :=
    SameAudio.trans (sameAudio_of (by rfl)) (cut_audio .alert _)
  exact shut.trans (sameAudio_of rfl)

theorem offAir_left (w : Voice) (r : AlertRecord) (cancelled : Bool) (s : State) : VoiceLeft w s (offAir r cancelled s) := by
  have shut (t : State) : VoiceLeft w t (cut .alert t) := by
    have reader : (closeReader .alert t).clips.reader (voiceReader w) = t.clips.reader (voiceReader w) :=
      closeReader_other (by cases w <;> decide) t
    have mix : (closeReader .alert t).mix = t.mix := closeReader_touches _ t .mix (by decide)
    unfold cut
    split
    · refine ⟨?_, reader⟩
      cases w
      · exact (congrArg Mix.voiceA mix :)
      · exact (congrArg Mix.voiceB mix :)
    · exact ⟨rfl, rfl⟩
  exact shut { s with alerts := { s.alerts with tone := none } }

/-- The Cue Engine's state once the air is to be released, no item being in a voice. -/
theorem resuming_released (notPlaying : s.cue.voiceA = .free ∧ s.cue.voiceB = .free) (closed : s.clips.readerA = none ∧ s.clips.readerB = none)
    (silent : s.mix.voiceA.binding = none ∧ s.mix.voiceB.binding = none) (k : AlertSlot) (r : AlertRecord) (cancelled : Bool) :
    Resuming s (resumed (releaseTold (ending k r cancelled s))) := by
  obtain ⟨w, told⟩ := releaseTold_cue (ending k r cancelled s)
  obtain ⟨w', ended⟩ := (ending_ended k r cancelled s).cue
  have touched := releaseTold_touches (ending k r cancelled s)
  have ends := ending_parts k r cancelled s
  have mix : (resumed (releaseTold (ending k r cancelled s))).mix = (offAir r cancelled s).mix :=
    Eq.trans (touched .mix (by decide)) (ends .mix (by decide))
  have clips : (resumed (releaseTold (ending k r cancelled s))).clips = (offAir r cancelled s).clips :=
    Eq.trans (touched .clips (by decide)) (ends .clips (by decide))
  have left (w : Voice) : VoiceLeft w s (resumed (releaseTold (ending k r cancelled s))) :=
    (offAir_left w r cancelled s).trans ⟨congrArg (fun m : Mix => m.get (voiceContributor w)) mix,
      congrArg (fun c : ClipStore => c.reader (voiceReader w)) clips⟩
  have cue : (resumed (releaseTold (ending k r cancelled s))).cue =
      { s.cue with boundaryWait := w, held := none, state := followList s.cue.entries } := by
    show ({ (releaseTold (ending k r cancelled s)).cue with held := none, state := _ } : Cue) = _
    rw [told, ended]
  refine ⟨(offAir_audio r cancelled s).trans (sameAudio_of clips), by rw [cue], by rw [cue], by rw [cue], fun v => ?_, fun v => ?_, fun v => ?_⟩
  · cases v
    · exact (congrArg Cue.voiceA cue).trans notPlaying.1
    · exact (congrArg Cue.voiceB cue).trans notPlaying.2
  · rw [(left v).2]
    cases v
    · exact closed.1
    · exact closed.2
  · rw [(left v).1]
    cases v
    · exact silent.1
    · exact silent.2

theorem answered_left (w : Voice) (c : Nat) (s : State) : VoiceLeft w s (respond .A c .ok .none s) := ⟨rfl, rfl⟩

/-- What the first entry started leaves, at the answer. -/
theorem FirstStarted.answered (first : FirstStarted v e rest s t) (notified : Notified t u) (c : Nat) :
    let y := respond .A c .ok .none u
    y.cue.entries = Claims.restartedIn v e :: rest ∧ y.cue.state = .playing ∧ y.voice v = .carrying s.cue.clock ∧
      (∀ w, w ≠ v → y.voice w = .free ∧ (y.contrib (voiceContributor w)).binding = none) ∧ Claims.soundsRestarted v e s y := by
  intro y
  have playing : followList t.cue.entries = .playing := by
    rw [first.entries]
    exact follows_playing List.mem_cons_self rfl
  refine ⟨notified.entries.trans first.entries, notified.state.trans playing, (notified.voice v).trans first.carries,
    fun w other => ⟨(notified.voice w).trans (first.voices w other), ?_⟩, ?_⟩
  · exact (congrArg Contrib.binding ((notified.left w).trans (answered_left w c u)).1).trans (first.silent w other)
  · exact soundsRestarted_left first.sounds ((notified.left v).trans (answered_left v c u))

theorem BothStarted.answered (both : BothStarted v w e f after s t) (notified : Notified t u) (c : Nat) :
    let y := respond .A c .ok .none u
    y.cue.entries = Claims.restartedIn v e :: Claims.restartedIn w f :: after ∧ y.cue.state = .playing ∧
      y.voice v = .carrying s.cue.clock ∧ y.voice w = .carrying (s.cue.clock + 1) ∧ Claims.soundsRestarted v e s y ∧
      Claims.soundsRestarted w f s y := by
  intro y
  have playing : followList t.cue.entries = .playing := by
    rw [both.entries]
    exact follows_playing List.mem_cons_self rfl
  exact ⟨notified.entries.trans both.entries, notified.state.trans playing, (notified.voice v).trans both.carries,
    (notified.voice w).trans both.carriesNext, soundsRestarted_left both.sounds ((notified.left v).trans (answered_left v c u)),
    soundsRestarted_left both.soundsNext ((notified.left w).trans (answered_left w c u))⟩

/-- The list as it stood, nothing being held or reserved. -/
theorem followList_waiting {es : List Entry} (waits : ∀ y ∈ es, y.state = .waiting) :
    followList es = if es = [] then .idle else .armed := by
  have idle : es.any Entry.playing = false := List.any_eq_false.mpr fun y hy => by simp [Entry.playing, waits y hy]
  rw [followList, idle]
  cases es <;> rfl

/-- The fill is bound again in VOICE A at its position. -/
theorem filled_again {n : ClipId} {i : Nat} (h : Resuming s t) (ready : (s.clips.playout[n]).state = .ready)
    (within : i < (s.clips.playout[n]).count) :
    let y := activate .voiceA (.clip (.playout n)) 32768 0 (480 * i) t
    y.mix.voiceA = ⟨some (.clip (.playout n)), 32768, 32768, none, none⟩ ∧ y.clips.readerA = some ⟨.playout n, i, false, false⟩ := by
  obtain ⟨state, count, loop⟩ := h.audio.clip n
  have opens : activate .voiceA (.clip (.playout n)) 32768 0 (480 * i) t =
      (openReader .voiceA (.playout n) (480 * i) (closeReader .voiceA t)).setContrib .voiceA
        (.activated (.clip (.playout n)) 32768 0) := if_pos (state.trans ready)
  have shut : closeReader .voiceA t = t := by simp only [closeReader, show t.clips.reader .voiceA = none from h.closed .A]
  have ordinal : startOrdinal (t.clips.playout[n]) (480 * i) = i :=
    startOrdinal_within (by rw [count]; exact Nat.le_of_lt within) (.inl (by rw [count]; exact within))
  intro y
  have eq : y = _ := opens.trans (by rw [shut])
  rw [eq]
  exact ⟨rfl, congrArg (fun o => some (⟨.playout n, o, false, false⟩ : Reader)) ordinal⟩

end Sys2Proof.RestartedItems
end

section
/-! R94, R137: the Cue Engine after the release of the air. -/

namespace Sys2Proof.ItemsRestarted

-- one thread: the check compiles under a limit on the process
set_option Elab.async false

open Sys2Proof.Machine Sys2Proof.Safety Sys2Proof.Laws Sys2Proof.TakenCommands Sys2Proof.EngineNotices Sys2Proof.EventKeeping
open Sys2Proof.CutThrough Sys2Proof.AirReleases Sys2Proof.AlertsFinishing Sys2Proof.FillEnds Sys2Proof.StartedItems
open Sys2Proof.AiringEnds Sys2Proof.AiringsFollowed Sys2Proof.RestartedItems

variable {s t u : State} {k : AlertSlot} {r : AlertRecord} {x : HeldRecord}

/-- The state in which the release notice finds the Cue Engine, and what it is about to do. -/
structure Releasing (x : HeldRecord) (s t : State) : Prop where
  state : t.cue.state = .held
  held : t.cue.held = some x
  queue : t.alerts.queue = []
  resumes : Resuming s (resumed t)

theorem Releasing.engine (h : Releasing x s t) : ∃ st, EngineEntered st (resumed t) (releaseEngine t) := by
  obtain ⟨st, -, entered⟩ := releaseEngine_unqueued h.state h.held h.queue
  exact ⟨st, entered⟩

theorem Releasing.notified (h : Releasing x s t) (left : x.stateLeft ≠ .filling) :
    Notified (restarted (resumed t)) (releaseEngine t) := by
  rw [releaseEngine_restarts h.state h.held left]
  exact restarted_notified h.resumes h.queue

/-- The engine left FILLING, and fills again. -/
theorem Releasing.silentFill (h : Releasing x s t) (left : x.stateLeft = .filling) (unfilled : s.clips.fallback = none) :
    (releaseEngine t).cue.entries = s.cue.entries ∧ (releaseEngine t).cue.state = .filling ∧ (releaseEngine t).cue.voiceA = .free ∧
      (releaseEngine t).mix.voiceA.binding = none := by
  have absent : t.clips.fallback = none := h.resumes.audio.fallback.trans unfilled
  rw [releaseEngine_silent h.state h.held left absent, enterEngine_filling (by exact h.queue)]
  exact ⟨h.resumes.entries, rfl, h.resumes.voices .A, h.resumes.silent .A⟩

/-- The clip of a fill sounds in VOICE A. -/
def filledFrom (x : HeldRecord) (n : ClipId) (t : State) : State :=
  (activate .voiceA (.clip (.playout n)) 32768 0 (x.fillPosition.getD 0) t).setVoice .A .filling

theorem filledFrom_touches (x : HeldRecord) (n : ClipId) (t : State) : Touches [.mix, .clips, .cue] t (filledFrom x n t) :=
  ((Touches.refl _ t).and (activate_touches _ _ _ _ _ t)).and (setVoice_touches _ _ _)

theorem filledFrom_cue (x : HeldRecord) (n : ClipId) (t : State) : (filledFrom x n t).cue = { t.cue with voiceA := .filling } := by
  have cue : (activate .voiceA (.clip (.playout n)) 32768 0 (x.fillPosition.getD 0) t).cue = t.cue :=
    activate_touches _ _ _ _ _ t .cue (by decide)
  exact (congrArg (fun c : Cue => ({ c with voiceA := .filling } : Cue)) cue).trans rfl

theorem Releasing.fill {n : ClipId} (h : Releasing x s t) (left : x.stateLeft = .filling) (fills : s.clips.fallback = some n) :
    (releaseEngine t).cue = { (resumed t).cue with voiceA := .filling, state := .filling } ∧
      (releaseEngine t).mix = (filledFrom x n (resumed t)).mix ∧ (releaseEngine t).clips = (filledFrom x n (resumed t)).clips := by
  have designated : t.clips.fallback = some n := h.resumes.audio.fallback.trans fills
  have alerts : (filledFrom x n (resumed t)).alerts = (resumed t).alerts := filledFrom_touches x n _ .alerts (by decide)
  have queue : (filledFrom x n (resumed t)).alerts.queue = [] := by rw [alerts]; exact h.queue
  have eq : releaseEngine t = enterEngine .held .filling (filledFrom x n (resumed t)) :=
    releaseEngine_fills h.state h.held left designated
  rw [eq, enterEngine_filling queue]
  exact ⟨(congrArg (fun c : Cue => ({ c with state := .filling } : Cue)) (filledFrom_cue x n (resumed t))).trans rfl, rfl, rfl⟩

theorem Releasing.filling (h : Releasing x s t) (left : x.stateLeft = .filling) :
    (releaseEngine t).cue.entries = s.cue.entries ∧ (releaseEngine t).cue.state = .filling := by
  cases fills : s.clips.fallback with
  | none =>
    obtain ⟨entries, state, -⟩ := h.silentFill left fills
    exact ⟨entries, state⟩
  | some n =>
    obtain ⟨cue, -⟩ := h.fill left fills
    rw [cue]
    exact ⟨h.resumes.entries, rfl⟩

/-- The fill goes on from its position. -/
theorem Releasing.fillGoesOn {n : ClipId} {i : Nat} (h : Releasing x s t) (left : x.stateLeft = .filling) (fills : s.clips.fallback = some n)
    (ready : (s.clips.playout[n]).state = .ready) (position : x.fillPosition = some (480 * i)) (within : i < (s.clips.playout[n]).count) :
    (releaseEngine t).cue.voiceA = .filling ∧ (releaseEngine t).cue.voiceB = .free ∧
      (releaseEngine t).mix.voiceA = ⟨some (.clip (.playout n)), 32768, 32768, none, none⟩ ∧
      (releaseEngine t).clips.readerA = some ⟨.playout n, i, false, false⟩ := by
  obtain ⟨cue, mix, clips⟩ := h.fill left fills
  obtain ⟨sounds, reads⟩ := filled_again (n := n) (i := i) h.resumes ready within
  have placed : filledFrom x n (resumed t) =
      (activate .voiceA (.clip (.playout n)) 32768 0 (480 * i) (resumed t)).setVoice .A .filling := by
    rw [filledFrom, position]
    rfl
  rw [cue, mix, clips, placed]
  exact ⟨rfl, h.resumes.voices .B, sounds, reads⟩

theorem Releasing.follows (h : Releasing x s t) (left : x.stateLeft ≠ .filling) (waits : ∀ y ∈ s.cue.entries, y.state = .waiting) :
    (releaseEngine t).cue.entries = s.cue.entries ∧ (releaseEngine t).cue.state = (if s.cue.entries = [] then .idle else .armed) ∧
      (releaseEngine t).cue.voiceA = .free ∧ (releaseEngine t).cue.voiceB = .free ∧ (releaseEngine t).mix.voiceA.binding = none ∧
      (releaseEngine t).mix.voiceB.binding = none := by
  have notified := h.notified left
  rw [h.resumes.nothing waits] at notified
  have state := notified.state
  rw [h.resumes.entries, followList_waiting waits] at state
  exact ⟨notified.entries.trans h.resumes.entries, state, (notified.voice .A).trans (h.resumes.voices .A),
    (notified.voice .B).trans (h.resumes.voices .B), (congrArg Contrib.binding (notified.left .A).1).trans (h.resumes.silent .A),
    (congrArg Contrib.binding (notified.left .B).1).trans (h.resumes.silent .B)⟩

theorem resuming_elsewhere {y : State} (h : Resuming y t) (clips : y.clips = s.clips) (cue : y.cue = s.cue) : Resuming s t := by
  obtain ⟨⟨fallback, clip⟩, entries, clock, state, voices, closed, silent⟩ := h
  rw [clips] at fallback
  rw [cue] at entries clock state
  refine ⟨⟨fallback, fun n => ?_⟩, entries, clock, state, voices, closed, silent⟩
  rw [← clips]
  exact clip n

theorem releasesRestartTheItems : Claims.ReleasesRestartTheItems := by
  intro h l k r x s takes named given record airing through sole queue state held _ freeA freeB closedA closedB silentA silentB
  have one : ∀ j y, s.record j = some y → y.id = r.id → j = k := fun j y hj id => sole j y hj (.inr id)
  have ends := ending_ended k r false (frameComplete .A s)
  have exact_end : alertAudioEnd k (frameComplete .A s) = releaseEngine (releaseTold (ending k r false (frameComplete .A s))) :=
    (alertAudioEnd_airing (s := frameComplete .A s) record airing through).trans
      ((endAiring_cut (s := frameComplete .A s) record through false).trans (afterAiring_released (ends.unqueued queue)))
  have releasing : Releasing x s (releaseTold (ending k r false (frameComplete .A s))) := by
    obtain ⟨w, told⟩ := releaseTold_cue (ending k r false (frameComplete .A s))
    obtain ⟨w', ended⟩ := ends.cue
    have alerts : (releaseTold (ending k r false (frameComplete .A s))).alerts = _ := releaseTold_touches _ .alerts (by decide)
    refine ⟨by rw [told, ended]; exact state, by rw [told, ended]; exact held, by rw [alerts]; exact ends.unqueued queue, ?_⟩
    exact resuming_elsewhere (resuming_released (s := frameComplete .A s) ⟨freeA, freeB⟩ ⟨closedA, closedB⟩ ⟨silentA, silentB⟩ k r false)
      rfl rfl
  obtain ⟨T, isT⟩ : ∃ T, T = releaseTold (ending k r false (frameComplete .A s)) := ⟨_, rfl⟩
  rw [← isT] at exact_end releasing
  obtain ⟨st, entered⟩ := releasing.engine
  refine ⟨_, exec_alertAudioEnd takes named given record one, ?_⟩
  rw [exact_end]
  refine ⟨entered.held.trans rfl, ?_, ?_, fun v w e rest left other list plays voice => ?_, fun f after left list held item waits => ?_,
    fun left => ?_, fun left waits => ?_⟩
  · show (releaseEngine T).alerts.view = (releaseEngine T).cue.state
    rw [entered.alerts, entered.state]
  · exact Pending.answered (entered.told.pending (pending_raised .P .engineResumed _) (by simp [Event.number])) .A 0x61 .ok .none
  · have notified := releasing.notified (by rw [left]; decide)
    refine ⟨fun waits => ?_, fun f after next waits item held => ?_⟩
    · obtain ⟨entries, playing, carries, others, sounds⟩ := (releasing.resumes.one list plays voice waits).answered notified 0x61
      obtain ⟨free, silent⟩ := others w (Ne.symm other)
      exact ⟨entries, playing, carries, free, silent, sounds⟩
    · subst next
      have both : BothStarted v w e f after s (restarted (resumed T)) := by
        rcases held with ⟨playsNext, voiceNext⟩ | held
        · exact releasing.resumes.both list plays voice playsNext voiceNext (Ne.symm other) waits
        · exact releasing.resumes.reserve list plays voice held item (Ne.symm other) waits
      exact both.answered notified 0x61
  · obtain ⟨entries, playing, carries, others, sounds⟩ := (releasing.resumes.alone list held item waits).answered
      (releasing.notified (by rw [left]; decide)) 0x61
    exact ⟨entries, playing, carries, (others .B (by decide)).1, sounds⟩
  · obtain ⟨entries, filling⟩ := releasing.filling left
    refine ⟨entries, filling, fun unfilled => ?_, fun n i fills ready position within => ?_⟩
    · obtain ⟨-, -, free, silent⟩ := releasing.silentFill left unfilled
      exact ⟨free, silent⟩
    · exact releasing.fillGoesOn left fills ready position within
  · exact releasing.follows (by rcases left with left | left <;> rw [left] <;> decide) waits

end Sys2Proof.ItemsRestarted
end

section
/-! R134, R136, R137: how the airing of a captured record ends. -/

namespace Sys2Proof.CapturedAirings

-- one thread: the check compiles under a limit on the process
set_option Elab.async false

open Sys2Proof.Machine Sys2Proof.Safety Sys2Proof.Laws Sys2Proof.EngineNotices Sys2Proof.EventKeeping Sys2Proof.PoolRequests
open Sys2Proof.CutThrough Sys2Proof.AirReleases Sys2Proof.AlertsFinishing Sys2Proof.Boundaries Sys2Proof.BlockForming Sys2Proof.IdleEvents
open Sys2Proof.LastReads Sys2Proof.BoundaryReports Sys2Proof.ReaderEnds Sys2Proof.ItemEnds Sys2Proof.FillEnds
open Sys2Proof.AiringEnds Sys2Proof.AiringsFollowed Sys2Proof.Arrivals Sys2Proof.CapturedAlerts Sys2Proof.ItemsRestarted

variable {s t u w z : State} {k : AlertSlot} {r y : AlertRecord} {c : ClipRef} {i : Nat} {x : Reader} {env : InputBoundary}

/-- The segments of an alert clip, each held once by it, are freed in order (R33). -/
theorem freeAll_alertHeld (k : AlertSlot) (ns : List Nat) : ∀ {m : SampleMemory}, ns.Nodup → (∀ n ∈ ns, m.holder n = .clip (.alert k)) →
    (m.freeAll (.alert k) ns).free = m.free ++ ns ∧ (m.freeAll (.alert k) ns).alertCount = m.alertCount - ns.length := by
  induction ns with
  | nil => exact fun _ _ => ⟨(List.append_nil _).symm, rfl⟩
  | cons a rest ih =>
    intro m once held
    obtain ⟨fresh, onceRest⟩ := List.nodup_cons.mp once
    have heldA := held a List.mem_cons_self
    have heldRest (n : Nat) (hn : n ∈ rest) : (m.freeOne (.alert k) a).holder n = .clip (.alert k) := by
      have other : n ≠ a := by rintro rfl; exact fresh hn
      rw [holder_freeOne heldA, if_neg other]
      exact held n (List.mem_cons_of_mem _ hn)
    have one : m.freeOne (.alert k) a = { m with
        free := m.free ++ [a], held := m.held.filter fun h => decide (h.1 ≠ a), alertCount := m.alertCount - 1 } := if_pos heldA
    obtain ⟨free, count⟩ := ih onceRest heldRest
    have split : m.freeAll (.alert k) (a :: rest) = (m.freeOne (.alert k) a).freeAll (.alert k) rest := rfl
    rw [split, free, count, one, List.length_cons]
    exact ⟨List.append_assoc _ _ _, by dsimp only; omega⟩

theorem holder_of_kept {m m' : SampleMemory} (ring : m'.ring = m.ring) (held : m'.held = m.held) (n : Nat) : m'.holder n = m.holder n := by
  simp only [SampleMemory.holder, ring, held]

-- the end of the audio

theorem alertEndOfAudio_tone {p : ClipId × Nat} (airs : s.airing = some k) (tone : s.alerts.tone = some p) : alertEndOfAudio s =
    activate .alert (.clip (.alert k)) 32768 0 0 { s with alerts := { s.alerts with tone := none } } := by
  simp only [alertEndOfAudio, airs, tone]

theorem alertEndOfAudio_message (airs : s.airing = some k) (tone : s.alerts.tone = none) : alertEndOfAudio s = endAiring k false s := by
  simp only [alertEndOfAudio, airs, tone]

theorem startOrdinal_zero (d : Clip) : startOrdinal d 0 = 0 := by
  unfold startOrdinal
  split
  · rfl
  · split
    · simp
    · omega

/-- The message sounds from its start. -/
theorem message_starts (ready : (s.clips.alert[k]).state = .ready) :
    let t := activate .alert (.clip (.alert k)) 32768 0 0 s
    t.clips.readerAlert = some ⟨.alert k, 0, false, false⟩ ∧ t.mix.alert = ⟨some (.clip (.alert k)), 32768, 32768, none, none⟩ := by
  have opens : activate .alert (.clip (.alert k)) 32768 0 0 s =
      (openReader .alert (.alert k) 0 (closeReader .alert s)).setContrib .alert (.activated (.clip (.alert k)) 32768 0) := if_pos ready
  intro t
  have eq : t = _ := opens
  rw [eq]
  exact ⟨congrArg (fun o => some (⟨.alert k, o, false, false⟩ : Reader)) (startOrdinal_zero _), rfl⟩

/-- ALERT cut and the clip of slot `k` discarded. -/
def stopped (k : AlertSlot) (s : State) : State := discardAlertClip k (cut .alert { s with alerts := { s.alerts with tone := none } })

/-- What the cut and the discard leave. -/
structure Stopped (k : AlertSlot) (s t : State) : Prop where
  parts : Touches [.mem, .mix, .clips, .alerts] s t
  alert : t.mix.alert.binding = none
  reader : t.clips.readerAlert = none
  clip : t.clips.alert[k] = Clip.empty
  alerts : t.alerts = { s.alerts with tone := none }
  mem : t.mem = s.mem.freeAll (.alert k) (s.segments (.alert k))

theorem stopped_is {j : AlertSlot} (bound : (s.contrib .alert).binding.isSome = true) (reader : s.clips.readerAlert = some x)
    (own : x.clip = .alert j) (k : AlertSlot) : Stopped k s (stopped k s) := by
  let n : State := { s with alerts := { s.alerts with tone := none } }
  have shut : closeReader .alert n = n.setReader .alert none := by
    have reads : n.clips.reader .alert = some x := reader
    simp only [closeReader, reads, own, useClip]
  have cuts : cut .alert n = (n.setReader .alert none).setContrib .alert (s.contrib .alert).inactive := by
    rw [cut_active (by exact bound), ← shut]
    rfl
  have eq : stopped k s = discarded k (cut .alert n) := discardAlertClip_closed (by rw [cuts]; rfl)
  rw [cuts] at eq
  rw [eq]
  refine ⟨?_, rfl, rfl, Vector.getElem_set_self _, rfl, rfl⟩
  intro p hp
  cases p <;> first | rfl | exact absurd (by decide) hp

/-- The captured record of slot `k` has aired. -/
def aired (k : AlertSlot) (y : AlertRecord) (s : State) : State := confirming k y (raise .C (.alertOffAir y.id false) (stopped k s))

theorem endAiring_captured (record : s.record k = some y) (captured : y.cutThrough = false) (blocks : 0 < y.airBlocks)
    (alerts : (stopped k s).alerts = { s.alerts with tone := none }) : endAiring k false s = afterAiring (aired k y s) := by
  have audio : stopAlertAudio k y s = stopped k s := by simp only [stopAlertAudio, captured, Bool.false_eq_true, if_false, stopped]
  have there : (raise .C (.alertOffAir y.id false) (stopped k s)).record k = some y := by
    have kept : (raise .C (.alertOffAir y.id false) (stopped k s)).record k = s.record k :=
      (congrArg (fun a : Alerts => a.records[k]) alerts).trans rfl
    exact kept.trans record
  have marked : raiseAlertState k ((raise .C (.alertOffAir y.id false) (stopped k s)).modRecord k fun x => { x with phase := .confirming }) =
      aired k y s := by
    rw [State.modRecord, there]
    exact raiseAlertState_of (record_setRecord k _ _)
  have some_blocks : ¬y.airBlocks = 0 := by omega
  simp only [endAiring, record, audio, marked, Bool.false_eq_true, if_false, some_blocks]

/-- What the end of a captured airing leaves, with no record queued. -/
theorem aired_released (stop : Stopped k s (stopped k s)) (queue : s.alerts.queue = []) (mode : s.sup.mode = some .alert)
    (state : s.cue.state = .held) (held : s.cue.held.isSome) :
    afterAiring (aired k y s) = releaseAir (aired k y s) ∧ AirReleased (aired k y s) (releaseAir (aired k y s)) := by
  obtain ⟨h, isHeld⟩ := Option.isSome_iff_exists.mp held
  have parts : Touches [.mem, .mix, .clips, .alerts, .links] s (aired k y s) :=
    ((stop.parts.mono (by decide)).and (raise_touches _ _ _)).trans ((confirming_touches k y _).mono (by decide))
  have cue : (aired k y s).cue = s.cue := parts .cue (by decide)
  have sup : (aired k y s).sup = s.sup := parts .sup (by decide)
  have none_queued : (aired k y s).alerts.queue = [] := (congrArg Alerts.queue stop.alerts).trans queue
  exact ⟨afterAiring_released none_queued,
    releaseAir_unqueued (by rw [sup]; exact mode) (by rw [cue]; exact state) (by rw [cue]; exact isHeld) none_queued⟩

-- the boundary

/-- What the boundary's work leaves of the airing, at the end of the tone or the message. -/
structure AudioOver (k : AlertSlot) (r y : AlertRecord) (c : ClipRef) (s w : State) : Prop where
  record : w.record k = some y
  airs : w.airing = some k
  phase : y.phase = .airing
  captured : y.cutThrough = false
  id : y.id = r.id
  blocks : y.airBlocks = r.airBlocks + 1
  bound : (w.contrib .alert).binding = some (.clip c)
  reader : ∃ x, w.clips.readerAlert = some x ∧ x.clip = c
  clip : ∀ d, ∃ b, w.clip d = { s.clip d with damaged := b }
  queue : w.alerts.queue = s.alerts.queue
  tone : w.alerts.tone.map Prod.fst = s.alerts.tone.map Prod.fst
  state : w.cue.state = s.cue.state
  held : w.cue.held = s.cue.held
  sup : w.sup = s.sup
  free : w.mem.free = s.mem.free
  alertCount : w.mem.alertCount = s.mem.alertCount
  holder : ∀ n, w.mem.holder n = s.mem.holder n
  segments : (∀ n ∈ s.segments c, s.mem.holder n = .clip c) → w.segments c = s.segments c

theorem segments_of (mem : t.mem = s.mem) (clips : t.clips = s.clips) (c : ClipRef) : t.segments c = s.segments c := by
  cases c <;> simp only [State.segments, State.clip, mem, clips]

theorem audioOver (read : LastRead .alert x s z) (touched : Touches [.panel, .links, .due] z w) (canonical : MemoryCanonical s)
    (head : s.delay.writeHead < s.mem.ring) (record : s.record k = some r) (airing : r.phase = .airing) (captured : r.cutThrough = false)
    (sole : ∀ j y, s.record j = some y → y.phase = .airing → j = k) (bound : s.mix.alert.binding = some (.clip x.clip)) :
    ∃ y, AudioOver k r y x.clip s w := by
  have alerts : w.alerts = z.alerts := touched .alerts (by decide)
  have clips : w.clips = z.clips := touched .clips (by decide)
  have mix : w.mix = z.mix := touched .mix (by decide)
  have mem : w.mem = z.mem := touched .mem (by decide)
  have cue : w.cue = (countWindow (countPlayed s)).cue := Eq.trans (touched .cue (by decide)) read.cue
  have records (j : AlertSlot) : w.record j = z.record j := congrArg (fun a : Alerts => a.records[j]) alerts
  obtain ⟨y, there, counted⟩ := read.record k r record
  have phase : y.phase = .airing := by rw [counted.same]; exact airing
  have alone : ∀ j v, w.record j = some v → v.phase = .airing → j = k := by
    intro j v hv airs
    rw [records j] at hv
    cases old : s.record j with
    | none =>
      rw [read.unused j old] at hv
      cases hv
    | some v' =>
      obtain ⟨v'', now, same⟩ := read.record j v' old
      cases hv.symm.trans now
      refine sole j v' old ?_
      rw [same.same] at airs
      exact airs
  have blocks : y.airBlocks = r.airBlocks + 1 := by
    rw [counted.airBlocks, if_pos ⟨airing, by rw [bound]; rfl⟩]
  have record' : w.record k = some y := (records k).trans there
  have kept (d : ClipRef) : w.clip d = z.clip d := by cases d <;> simp only [State.clip, clips]
  exact ⟨y, {
    record := record'
    airs := airing_sole record' phase alone
    phase := phase
    captured := by rw [counted.same]; exact captured
    id := by rw [counted.same]
    blocks := blocks
    bound := (congrArg (fun m : Mix => (m.get .alert).binding) mix).trans ((read.binding .alert).trans bound)
    reader := ⟨_, (congrArg ClipStore.readerAlert clips).trans read.reader, rfl⟩
    clip := fun d => by rw [kept d]; exact read.clip d
    queue := by rw [alerts]; exact read.alerts.1
    tone := by rw [alerts]; exact read.tone
    state := by rw [cue]; rfl
    held := by rw [cue]; rfl
    sup := Eq.trans (touched .sup (by decide)) read.sup
    free := by rw [mem]; exact read.free
    alertCount := by rw [mem]; exact read.alertCount
    holder := fun n => by rw [mem]; exact holder_of_kept read.ring read.held n
    segments := fun held => (segments_of mem clips x.clip).trans (read.segments canonical head x.clip held) }⟩

/-- The tone gives way to the message. -/
theorem AudioOver.message (heard : AudioOver k r y c s w) {tone : ClipId} {count : Nat} (tones : s.alerts.tone = some (tone, count))
    (ready : (s.clips.alert[k]).state = .ready) (held : s.cue.state = .held) (ends : Touches [.due] (alertEndOfAudio w) t) :
    t.alerts.tone = none ∧ t.clips.readerAlert = some ⟨.alert k, 0, false, false⟩ ∧
      t.mix.alert = ⟨some (.clip (.alert k)), 32768, 32768, none, none⟩ ∧ t.cue.state = .held ∧
      (t.record k).map AlertRecord.phase = some .airing ∧ (t.record k).map AlertRecord.airBlocks = some (r.airBlocks + 1) := by
  obtain ⟨p, sounding⟩ : ∃ p, w.alerts.tone = some p := by
    have same := heard.tone
    rw [tones] at same
    cases tone : w.alerts.tone with
    | none => rw [tone] at same; cases same
    | some p => exact ⟨p, rfl⟩
  obtain ⟨v, isV⟩ : ∃ v : State, v = { w with alerts := { w.alerts with tone := none } } := ⟨_, rfl⟩
  rw [alertEndOfAudio_tone heard.airs sounding, ← isV] at ends
  have readyV : (v.clips.alert[k]).state = .ready := by
    obtain ⟨b, clip⟩ := heard.clip (.alert k)
    have whole : w.clips.alert[k] = { s.clips.alert[k] with damaged := b } := clip
    rw [isV]
    show (w.clips.alert[k]).state = .ready
    rw [whole]
    exact ready
  obtain ⟨reader, mix⟩ := message_starts readyV
  have started : Touches [.mix, .clips] v (activate .alert (.clip (.alert k)) 32768 0 0 v) := activate_touches _ _ _ _ _ v
  have alerts : t.alerts = v.alerts := Eq.trans (ends .alerts (by decide)) (started .alerts (by decide))
  have cue : t.cue = v.cue := Eq.trans (ends .cue (by decide)) (started .cue (by decide))
  have record : t.record k = some y := by
    rw [State.record, alerts, isV]
    exact heard.record
  have tclips : t.clips = (activate .alert (.clip (.alert k)) 32768 0 0 v).clips := ends .clips (by decide)
  have tmix : t.mix = (activate .alert (.clip (.alert k)) 32768 0 0 v).mix := ends .mix (by decide)
  refine ⟨by rw [alerts, isV], by rw [tclips]; exact reader, by rw [tmix]; exact mix, ?_, ?_, ?_⟩
  · rw [cue, isV]
    exact heard.state.trans held
  · rw [record]
    exact congrArg some heard.phase
  · rw [record]
    exact congrArg some heard.blocks

/-- The message's end ends the airing, with no record queued. -/
theorem AudioOver.ended (heard : AudioOver k r y (.alert k) s w) (untoned : s.alerts.tone = none) (queue : s.alerts.queue = [])
    (once : (s.segments (.alert k)).Nodup) (holds : ∀ n ∈ s.segments (.alert k), s.mem.holder n = .clip (.alert k))
    (mode : s.sup.mode = some .alert) (state : s.cue.state = .held) (held : s.cue.held.isSome = true)
    (ends : Touches [.due] (alertEndOfAudio w) t) :
    (t.record k).map AlertRecord.phase = some .confirming ∧ (t.record k).map AlertRecord.airBlocks = some (r.airBlocks + 1) ∧
      t.clips.alert[k] = Clip.empty ∧ t.mem.free = s.mem.free ++ s.segments (.alert k) ∧
      t.mem.alertCount = s.mem.alertCount - (s.segments (.alert k)).length ∧ t.clips.readerAlert = none ∧
      t.mix.alert.binding = none ∧ t.cue.state ≠ .held ∧ t.sup = { s.sup with mode := s.sup.remembered, remembered := none } ∧
      ∃ p ∈ (t.link .C).events, p.event = .alertOffAir r.id false := by
  have silent_tone : w.alerts.tone = none := by
    have same := heard.tone
    rw [untoned] at same
    simpa using same
  obtain ⟨x, reads, own⟩ := heard.reader
  have stop : Stopped k w (stopped k w) := stopped_is (by rw [heard.bound]; rfl) reads own k
  have blocks : 0 < y.airBlocks := by rw [heard.blocks]; omega
  obtain ⟨releases, back⟩ := aired_released (y := y) stop (heard.queue.trans queue) (by rw [heard.sup]; exact mode) (heard.state.trans state)
    (by rw [heard.held]; exact held)
  rw [alertEndOfAudio_message heard.airs silent_tone, endAiring_captured heard.record heard.captured blocks stop.alerts, releases] at ends
  have quiet : Touches [.alerts, .links] (stopped k w) (aired k y w) :=
    ((Touches.refl _ _).and (raise_touches _ _ _)).trans ((confirming_touches k y _).mono (by decide))
  have record : t.record k = some { y with phase := .confirming } := by
    have alerts : t.alerts = (releaseAir (aired k y w)).alerts := ends .alerts (by decide)
    rw [State.record, alerts]
    exact (records_released back k).trans (confirming_record k y _)
  have clips : t.clips = (releaseAir (aired k y w)).clips := ends .clips (by decide)
  have stoppedClips : (aired k y w).clips = (stopped k w).clips := quiet .clips (by decide)
  have mem : t.mem = w.mem.freeAll (.alert k) (s.segments (.alert k)) := by
    have released : (releaseAir (aired k y w)).mem = (aired k y w).mem := back.parts .mem (by decide)
    have same : (aired k y w).mem = (stopped k w).mem := quiet .mem (by decide)
    rw [show t.mem = _ from ends .mem (by decide), released, same, stop.mem, heard.segments holds]
  obtain ⟨free, count⟩ := freeAll_alertHeld k (s.segments (.alert k)) (m := w.mem) once fun n hn => (heard.holder n).trans (holds n hn)
  have mix : t.mix = (releaseAir (aired k y w)).mix := ends .mix (by decide)
  have stoppedMix : (aired k y w).mix = (stopped k w).mix := quiet .mix (by decide)
  have cue : t.cue = (releaseAir (aired k y w)).cue := ends .cue (by decide)
  have sup : t.sup = (releaseAir (aired k y w)).sup := ends .sup (by decide)
  have supA : (aired k y w).sup = s.sup :=
    Eq.trans (quiet .sup (by decide)) (Eq.trans (stop.parts .sup (by decide)) heard.sup)
  have told : Pending .C (.alertOffAir r.id false) (aired k y w) := by
    rw [← heard.id]
    exact (confirming_raises k y _).pending (pending_raised _ _ _) (by simp [Event.number])
  refine ⟨?_, ?_, ?_, ?_, ?_, ?_, ?_, ?_, ?_, ?_⟩
  · rw [record]
    rfl
  · rw [record]
    exact congrArg some heard.blocks
  · rw [clips, back.alertClips, stoppedClips]
    exact stop.clip
  · rw [mem, free, heard.free]
  · rw [mem, count, heard.alertCount]
  · rw [clips, back.readerAlert, stoppedClips]
    exact stop.reader
  · rw [mix, back.alert, stoppedMix]
    exact stop.alert
  · rw [cue]
    exact back.state
  · rw [sup, back.sup, supA]
  · exact (silent (ns := []) ends).pending (back.told.pending told (by simp [Event.number])) (by simp)

theorem capturedAiringsEnd : Claims.CapturedAiringsEnd := by
  intro env k r c i s live due first leave canonical head record airing captured sole mode state held closedA closedB reader bound noLoop last
    idle uncaptured panel
  obtain ⟨z, isZ⟩ : ∃ z, z = inputRest env (formBlock (completed env (applyUpsets env.upsets s))) := ⟨_, rfl⟩
  have closed : ∀ p, p ≠ ReaderOf.alert → s.clips.reader p = none := fun p hp => by
    cases p
    · exact closedA
    · exact closedB
    · exact absurd rfl hp
  have read : LastRead .alert ⟨c, i, false, false⟩ s z := by
    rw [isZ]
    exact lastRead (q := .alert) (x := ⟨c, i, false, false⟩) due closed reader rfl rfl bound noLoop last idle uncaptured
  have run : exec (.inputBlockBoundary env) s = .next (inputEvents env z) := by
    rw [isZ]
    exact exec_inputBoundary (env := env) live due
  have ends (noTone : toneOver z = false) : ∃ w, (∃ y, AudioOver k r y c s w) ∧ Touches [.due] (alertEndOfAudio w) (inputEvents env z) := by
    have readerZ : z.clips.readerAlert = some (atEnd ⟨c, i, false, false⟩ (s.clip c).count) := read.reader
    obtain ⟨w, touched, -, taken⟩ := inputEvents_report (d := .endOfAudio .alert) (by decide) first leave read.due noTone
      (by rw [PanelIdle, read.panel]; exact panel) fun w touched => by
        have clips : w.clips = z.clips := touched .clips (by decide)
        have reads : w.clips.reader .alert = some (atEnd ⟨c, i, false, false⟩ (s.clip c).count) := by rw [clips]; exact readerZ
        simp only [stillDue, readerOver, reads]
        rfl
    exact ⟨w, audioOver read touched canonical head record airing captured sole bound, taken⟩
  refine ⟨_, run, fun tone count isTone tones ready => ?_, fun isAlert untoned queue once holds => ?_⟩
  · subst isTone
    have noTone : toneOver z = false := by
      have same := read.tone
      rw [tones] at same
      obtain ⟨d, clip⟩ := read.clip (.playout tone)
      cases sounding : z.alerts.tone with
      | none => simp only [toneOver, sounding]
      | some p =>
        obtain ⟨id, n⟩ := p
        rw [sounding] at same
        obtain rfl : id = tone := Option.some.inj same
        have loop : (z.clip (.playout id)).loop = false := by rw [clip]; exact noLoop
        simp only [toneOver, sounding, loop, Bool.false_and]
    obtain ⟨w, ⟨y, heard⟩, taken⟩ := ends noTone
    exact heard.message tones ready state taken
  · subst isAlert
    have noTone : toneOver z = false := by
      have same := read.tone
      rw [untoned] at same
      have none_sounds : z.alerts.tone = none := by simpa using same
      simp only [toneOver, none_sounds]
    obtain ⟨w, ⟨y, heard⟩, taken⟩ := ends noTone
    exact heard.ended untoned queue once holds mode state held taken

/-- Settles O42. -/
theorem airingsEnd : Obligations.AiringsEnd :=
  ⟨airingsEnd_cut, airingsGiveWay, releasesRestartTheItems, capturedAiringsEnd⟩

end Sys2Proof.CapturedAirings
end

section
/-! R182: the work of the blocks does not look at the receiver of a link: done before a frame is complete or after it, it
comes to the same. -/

namespace Sys2Proof.FrameBlind

-- one thread: the check compiles under a limit on the process
set_option Elab.async false

open Sys2Proof.Machine Sys2Proof.Laws

variable {s t : State}

/-- Link C's receiver has come to the end of a frame (R182). -/
def heard (s : State) : State := frameComplete .C s

section Reads

variable (s : State)

@[simp] theorem heard_dev : (heard s).dev = s.dev := rfl
@[simp] theorem heard_inputs : (heard s).inputs = s.inputs := rfl
@[simp] theorem heard_mix : (heard s).mix = s.mix := rfl
@[simp] theorem heard_formed : (heard s).formed = s.formed := rfl
@[simp] theorem heard_mem : (heard s).mem = s.mem := rfl
@[simp] theorem heard_delay : (heard s).delay = s.delay := rfl
@[simp] theorem heard_clips : (heard s).clips = s.clips := rfl
@[simp] theorem heard_cue : (heard s).cue = s.cue := rfl
@[simp] theorem heard_callers : (heard s).callers = s.callers := rfl
@[simp] theorem heard_alerts : (heard s).alerts = s.alerts := rfl
@[simp] theorem heard_tx : (heard s).tx = s.tx := rfl
@[simp] theorem heard_sup : (heard s).sup = s.sup := rfl
@[simp] theorem heard_panel : (heard s).panel = s.panel := rfl
@[simp] theorem heard_prof : (heard s).prof = s.prof := rfl
@[simp] theorem heard_port : (heard s).port = s.port := rfl
@[simp] theorem heard_air : (heard s).air = s.air := rfl
@[simp] theorem heard_due : (heard s).due = s.due := rfl
@[simp] theorem heard_pending : (heard s).pending = s.pending := rfl
@[simp] theorem heard_contrib (c : Contributor) : (heard s).contrib c = s.contrib c := rfl
@[simp] theorem heard_clip (c : ClipRef) : (heard s).clip c = s.clip c := by cases c <;> rfl
@[simp] theorem heard_voice (v : Voice) : (heard s).voice v = s.voice v := by cases v <;> rfl
@[simp] theorem heard_line (i : PhoneLine) : (heard s).line i = s.line i := rfl
@[simp] theorem heard_slot (k : CallerSlot) : (heard s).slot k = s.slot k := rfl
@[simp] theorem heard_record (k : AlertSlot) : (heard s).record k = s.record k := rfl
@[simp] theorem heard_carried (v : Voice) : (heard s).carried v = s.carried v := by cases v <;> rfl
@[simp] theorem heard_studioOn : (heard s).studioOn = s.studioOn := rfl
@[simp] theorem heard_freeSlot : (heard s).freeSlot = s.freeSlot := rfl
@[simp] theorem heard_linesToReturn : (heard s).linesToReturn = s.linesToReturn := rfl
@[simp] theorem heard_windowTaker (c : Check) : windowTaker c (heard s) = windowTaker c s := rfl
@[simp] theorem heard_pickVoice : pickVoice (heard s) = pickVoice s := rfl
@[simp] theorem heard_takeRefusal : takeRefusal (heard s) = takeRefusal s := rfl

/-- A state built on one whose frame has ended. -/
@[simp] theorem mk_heard (dev : Device) (inputs : Vector Block 8) (mix : Mix) (formed : Option Formed) (mem : SampleMemory) (delay : Delay)
    (clips : ClipStore) (cue : Cue) (callers : Callers) (alerts : Alerts) (tx : TxLink) (sup : Supervisor) (panel : Panel)
    (prof : ProfileStore) (port : Vector Block 4) (air : AirBlock) (due : List Due) (pending : List Instr) :
    State.mk dev inputs mix formed mem delay clips cue callers alerts tx sup panel prof (heard s).links port air due pending =
      heard ⟨dev, inputs, mix, formed, mem, delay, clips, cue, callers, alerts, tx, sup, panel, prof, s.links, port, air, due, pending⟩ :=
  rfl

end Reads

@[simp] theorem ite_heard (p : Prop) [Decidable p] (a b : State) : (if p then heard a else heard b) = heard (if p then a else b) :=
  (apply_ite heard p a b).symm

@[simp] theorem raise_heard (l : Link) (e : Event) (s : State) : raise l e (heard s) = heard (raise l e s) := by
  cases l <;> rfl

@[simp] theorem setContrib_heard (c : Contributor) (x : Contrib) (s : State) : (heard s).setContrib c x = heard (s.setContrib c x) := rfl
@[simp] theorem setReader_heard (q : ReaderOf) (x : Option Reader) (s : State) : (heard s).setReader q x = heard (s.setReader q x) := by
  cases q <;> rfl
@[simp] theorem useClip_heard (up : Bool) (c : ClipRef) (s : State) : useClip up c (heard s) = heard (useClip up c s) := by
  cases c <;> rfl
@[simp] theorem report_heard (f : Reports → Reports) (s : State) : (heard s).report f = heard (s.report f) := rfl
@[simp] theorem setLine_heard (i : PhoneLine) (x : LineRecord) (s : State) : (heard s).setLine i x = heard (s.setLine i x) := rfl
@[simp] theorem setSlot_heard (k : CallerSlot) (x : SlotRecord) (s : State) : (heard s).setSlot k x = heard (s.setSlot k x) := rfl
@[simp] theorem setVoice_heard (v : Voice) (x : VoiceState) (s : State) : (heard s).setVoice v x = heard (s.setVoice v x) := by
  cases v <;> rfl
@[simp] theorem setRecord_heard (k : AlertSlot) (x : Option AlertRecord) (s : State) : (heard s).setRecord k x = heard (s.setRecord k x) := rfl
@[simp] theorem joinQueue_heard (i : PhoneLine) (s : State) : joinQueue i (heard s) = heard (joinQueue i s) := rfl
@[simp] theorem leaveQueue_heard (i : PhoneLine) (s : State) : leaveQueue i (heard s) = heard (leaveQueue i s) := rfl
@[simp] theorem raiseQueue_heard (s : State) : raiseQueue (heard s) = heard (raiseQueue s) := raise_heard _ _ s
@[simp] theorem workOutWait_heard (s : State) : workOutWait (heard s) = heard (workOutWait s) := rfl
@[simp] theorem reportFallback_heard (s : State) : reportFallback (heard s) = heard (reportFallback s) := rfl

@[simp] theorem closeReader_heard (q : ReaderOf) (s : State) : closeReader q (heard s) = heard (closeReader q s) := by
  unfold closeReader
  rw [heard_clips]
  split
  · rfl
  · simp

@[simp] theorem openReader_heard (q : ReaderOf) (c : ClipRef) (p : Nat) (s : State) : openReader q c p (heard s) = heard (openReader q c p s) := by
  simp [openReader]

@[simp] theorem closeReaderOf_heard (c : Contributor) (s : State) : closeReaderOf c (heard s) = heard (closeReaderOf c s) := by
  unfold closeReaderOf
  split
  · simp
  · rfl

@[simp] theorem cut_heard (c : Contributor) (s : State) : cut c (heard s) = heard (cut c s) := by
  simp [cut]

@[simp] theorem activate_heard (c : Contributor) (b : Binding) (g n p : Nat) (s : State) :
    activate c b g n p (heard s) = heard (activate c b g n p s) := by
  unfold activate
  split
  · simp
  · simp

@[simp] theorem level_heard (c : Contributor) (g n : Nat) (s : State) : level c g n (heard s) = heard (level c g n s) := by
  simp [level]

@[simp] theorem fadeOut_heard (c : Contributor) (n : Nat) (s : State) : fadeOut c n (heard s) = heard (fadeOut c n s) := by
  by_cases cuts : n = 0
  · simp [fadeOut, cuts]
  · by_cases active : (s.contrib c).active = true
    · simp [fadeOut, cuts, active]
    · simp [fadeOut, cuts, active]

-- caller slots (R112 to R118)

@[simp] theorem enterSlot_heard (i : PhoneLine) (k : CallerSlot) (s : State) : enterSlot i k (heard s) = heard (enterSlot i k s) := by
  simp [enterSlot]

@[simp] theorem settleRelease_heard (cause : OffAirCause) (k : CallerSlot) (s : State) :
    settleRelease cause k (heard s) = heard (settleRelease cause k s) := by
  unfold settleRelease
  rw [heard_slot]
  split
  · next i d _ => cases d <;> simp
  · rfl

@[simp] theorem returnLine_heard (cause : OffAirCause) (k : CallerSlot) (s : State) :
    returnLine cause k (heard s) = heard (returnLine cause k s) := by
  unfold returnLine
  rw [heard_slot]
  split
  · simp
  · rfl

theorem foldl_heard {α : Type} {f : State → α → State} (h : ∀ s a, f (heard s) a = heard (f s a)) (as : List α) :
    ∀ s, as.foldl f (heard s) = heard (as.foldl f s) := by
  induction as with
  | nil => exact fun _ => rfl
  | cons a as ih =>
    intro s
    rw [List.foldl_cons, h s a, ih]
    rfl

@[simp] theorem requeueReturned_heard (back : List PhoneLine) (s : State) :
    requeueReturned back (heard s) = heard (requeueReturned back s) := by
  unfold requeueReturned
  split
  · rfl
  · simp only [heard_callers, mk_heard, heard_dev, heard_inputs, heard_mix, heard_formed, heard_mem, heard_delay, heard_clips, heard_cue,
      heard_alerts, heard_tx, heard_sup, heard_panel, heard_prof, heard_port, heard_air, heard_due, heard_pending]
    rw [foldl_heard (fun s x => by simp), foldl_heard (fun s i => rfl)]

@[simp] theorem cutRelease_heard (cause : OffAirCause) (k : CallerSlot) (s : State) :
    cutRelease cause k (heard s) = heard (cutRelease cause k s) := by
  unfold cutRelease
  rw [heard_slot]
  split
  · simp
  · rfl

@[simp] theorem emptySlots_heard (cause : OffAirCause) (s : State) : emptySlots cause (heard s) = heard (emptySlots cause s) := by
  unfold emptySlots
  simp only [heard_linesToReturn, returnLine_heard, requeueReturned_heard, cutRelease_heard, heard_callers, raiseQueue_heard]
  split
  · rfl
  · rfl

-- the Delay Unit, the Alert Controller and the Air Supervisor

@[simp] theorem forcedDump_heard (s : State) : forcedDump (heard s) = heard (forcedDump s) := by
  unfold forcedDump
  rw [heard_delay]
  split
  · rfl
  · rfl

@[simp] theorem raiseAlertState_heard (k : AlertSlot) (s : State) : raiseAlertState k (heard s) = heard (raiseAlertState k s) := by
  unfold raiseAlertState
  rw [heard_record]
  split
  · simp
  · rfl

@[simp] theorem takeoverAir_heard (s : State) : takeoverAir (heard s) = heard (takeoverAir s) := by
  unfold takeoverAir
  rw [heard_sup]
  split
  · rfl
  · rfl
  · rfl

@[simp] theorem bindAlert_heard (k : AlertSlot) (r : AlertRecord) (s : State) : bindAlert k r (heard s) = heard (bindAlert k r s) := by
  unfold bindAlert
  rw [heard_clips]
  split
  · simp
  · split
    · simp
    · simp

-- the Cue Engine's list and voices

@[simp] theorem setEntries_heard (es : List Entry) (s : State) : setEntries es (heard s) = heard (setEntries es s) := by
  unfold setEntries
  rw [heard_cue]
  dsimp only
  split
  · rw [← raise_heard]
    rfl
  · rfl

@[simp] theorem itemEnded_heard (e : Entry) (s : State) : itemEnded e (heard s) = heard (itemEnded e s) := by
  have claim : releaseClaim e (heard s) = heard (releaseClaim e s) := by
    unfold releaseClaim
    split
    · simp
    · rfl
  rw [itemEnded, claim, raise_heard]
  rfl

@[simp] theorem cutVoices_heard (s : State) : cutVoices (heard s) = heard (cutVoices s) := by
  simp [cutVoices]

@[simp] theorem holdEngine_heard (offer : Option Bool) (s : State) : holdEngine offer (heard s) = heard (holdEngine offer s) := by
  unfold holdEngine
  simp only [heard_cue, heard_clips, cutVoices_heard, foldl_heard (f := fun t e => itemEnded e t) (fun s e => itemEnded_heard e s),
    setEntries_heard]
  split
  · rfl
  · rw [← raise_heard]
    rfl

@[simp] theorem takeover_heard (k : AlertSlot) (offer : Option Bool) (s : State) : takeover k offer (heard s) = heard (takeover k offer s) := by
  unfold takeover
  rw [heard_record]
  split
  · rfl
  · next r _ =>
    cases dumps : r.dumps s.alerts.settings.warningDump <;> simp [dumps]

@[simp] theorem windowCheck_heard (c : Check) (s : State) : windowCheck c (heard s) = heard (windowCheck c s) := by
  unfold windowCheck
  rw [heard_windowTaker]
  split
  · simp
  · rfl

@[simp] theorem enterEngine_heard (was st : EngineState) (s : State) : enterEngine was st (heard s) = heard (enterEngine was st s) := by
  unfold enterEngine
  dsimp only
  split
  · rfl
  · rw [← windowCheck_heard]
    rfl

@[simp] theorem closeWindowOf_heard (v : Voice) (s : State) : closeWindowOf v (heard s) = heard (closeWindowOf v s) := by
  unfold closeWindowOf
  rw [heard_cue]
  split
  · split
    · rfl
    · rfl
  · rfl

@[simp] theorem leaveVoice_heard (v : Voice) (s : State) : leaveVoice v (heard s) = heard (leaveVoice v s) := by
  unfold leaveVoice
  rw [heard_carried, heard_cue]
  split
  · rfl
  · split
    · rfl
    · simp

@[simp] theorem soundEntry_heard (e : Entry) (v : Voice) (s : State) : soundEntry e v (heard s) = heard (soundEntry e v s) := by
  unfold soundEntry
  split
  · simp
  · simp
  · simp

@[simp] theorem startIn_heard (p : Entry → Bool) (v : Voice) (s : State) : startIn p v (heard s) = heard (startIn p v s) := by
  unfold startIn
  rw [heard_cue]
  split
  · rfl
  · simp

@[simp] theorem takeVoice_heard (v : Voice) (s : State) : takeVoice v (heard s) = heard (takeVoice v s) := by
  unfold takeVoice
  rw [heard_voice]
  split
  · simp
  · rfl

@[simp] theorem leaveMark_heard (p : Entry → Bool) (s : State) : leaveMark p (heard s) = heard (leaveMark p s) := by
  unfold leaveMark
  rw [← setEntries_heard]
  rfl

@[simp] theorem startEntry_heard (fuel : Nat) (p : Entry → Bool) (s : State) : startEntry fuel p (heard s) = heard (startEntry fuel p s) := by
  induction fuel generalizing p s with
  | zero => unfold startEntry; rfl
  | succ n ih =>
    unfold startEntry
    dsimp only
    rw [heard_cue, heard_pickVoice, leaveMark_heard, heard_windowTaker]
    split
    · rfl
    · rfl
    · next m e hn _ =>
      cases hn
      split
      · split
        · simp
        · split
          · rw [itemEnded_heard, ih]
          · simp
      · split
        · simp
        · rfl

@[simp] theorem startHead_heard (s : State) : startHead (heard s) = heard (startHead s) := startEntry_heard _ _ s

@[simp] theorem settleFrom_heard (was : EngineState) (s : State) : settleFrom was (heard s) = heard (settleFrom was s) := by
  unfold settleFrom
  rw [heard_cue]
  split
  · rfl
  · dsimp only
    split
    · exact enterEngine_heard _ _ s
    · rw [← enterEngine_heard]
      rfl

@[simp] theorem endItem_heard (v : Voice) (s : State) : endItem v (heard s) = heard (endItem v s) := by
  unfold endItem
  dsimp only
  rw [heard_carried, leaveVoice_heard, heard_windowTaker]
  split
  · rfl
  · split
    · simp
    · rw [heard_cue s, heard_cue (leaveVoice v s)]
      split
      · simp
      · rfl

@[simp] theorem releaseVoice_heard (v : Voice) (n : Nat) (s : State) : releaseVoice v n (heard s) = heard (releaseVoice v n s) := by
  simp [releaseVoice]

@[simp] theorem stopVoice_heard (v : Voice) (s : State) : stopVoice v (heard s) = heard (stopVoice v s) := by
  unfold stopVoice
  rw [heard_carried, heard_cue]
  split
  · rfl
  · split
    · rfl
    · split
      · simp
      · simp

@[simp] theorem stopEntries_heard (s : State) : stopEntries (heard s) = heard (stopEntries s) := by
  simp [stopEntries]

@[simp] theorem fadeFill_heard (s : State) : fadeFill (heard s) = heard (fadeFill s) := by
  by_cases fills : s.cue.voiceA = .filling
  · simp [fadeFill, fills]
  · simp [fadeFill, fills]

@[simp] theorem fillEnd_heard (s : State) : fillEnd (heard s) = heard (fillEnd s) := by
  unfold fillEnd
  rw [heard_cue]
  split
  · simp
  · split
    · rfl
    · rfl
  · rfl

@[simp] theorem endFallback_heard (c : LeftCause) (s : State) : endFallback c (heard s) = heard (endFallback c s) := by
  unfold endFallback
  rw [heard_sup]
  split
  · dsimp only
    split
    · rw [← raise_heard]
      rfl
    · rw [← fillEnd_heard, ← raise_heard]
      rfl
  · split
    · rw [← fillEnd_heard, ← raise_heard]
      rfl
    · rfl
  · rfl

/-- The item present ends, or its end fade begins, at a manual segue (R85). -/
def segued (e : Entry) (s : State) : State :=
  match e.voice with
  | some v => if e.fadeOut = 0 then endItem v s else fadeOut (voiceContributor v) e.fadeOut s
  | none => s

theorem segued_heard (e : Entry) (s : State) : segued e (heard s) = heard (segued e s) := by
  unfold segued
  split
  · split
    · simp
    · simp
  · rfl

/-- The item present marked as ending (R85). -/
def markedPresent (s : State) : State := { s with cue := { s.cue with
  entries := changeFirst presentItem (fun e => { e with ending := true, successorStarted := true }) s.cue.entries
  goPending := s.cue.boundaryWait } }

theorem markedPresent_heard (s : State) : markedPresent (heard s) = heard (markedPresent s) := rfl

@[simp] theorem manualSegue_heard (s : State) : manualSegue (heard s) = heard (manualSegue s) := by
  unfold manualSegue
  rw [heard_cue]
  split
  · rfl
  · split
    · split
      · rfl
      · simp
    · next e _ =>
      show (if s.cue.boundaryWait = true ∨ (segued e (markedPresent (heard s))).cue.state = .held then segued e (markedPresent (heard s))
        else startHead (segued e (markedPresent (heard s)))) = heard (if s.cue.boundaryWait = true ∨
          (segued e (markedPresent s)).cue.state = .held then segued e (markedPresent s) else startHead (segued e (markedPresent s)))
      rw [markedPresent_heard, segued_heard, heard_cue]
      split
      · rfl
      · simp

-- STUDIO and the takes

@[simp] theorem switchStudio_heard (on : Bool) (g n : Nat) (s : State) : switchStudio on g n (heard s) = heard (switchStudio on g n s) := by
  unfold switchStudio
  dsimp only
  rw [heard_mix]
  split
  · split
    · simp
    · split
      · simp
      · split
        · simp
        · simp
  · split
    · simp
    · simp

@[simp] theorem studioSwitch_heard (on : Bool) (g n : Nat) (s : State) : studioSwitch on g n (heard s) = heard (studioSwitch on g n s) := by
  unfold studioSwitch
  dsimp only
  rw [switchStudio_heard, heard_studioOn, heard_studioOn, report_heard, endFallback_heard]
  split
  · rfl
  · rfl

@[simp] theorem takeLine_heard (i : PhoneLine) (s : State) : takeLine i (heard s) = heard (takeLine i s) := by
  unfold takeLine
  rw [heard_freeSlot]
  split
  · simp
  · rfl

-- the answers of the owners

/-- A reply whose state's frame has ended. -/
def heardReply : Reply → Reply
  | .ok t r => .ok (heard t) r
  | .refuse c => .refuse c
  | .later t => .later (heard t)

theorem goCue_heard (s : State) : goCue (heard s) = heardReply (goCue s) := by
  unfold goCue
  rw [heard_cue]
  split
  · rfl
  · rfl
  · simp [heardReply]
  · split
    · simp [heardReply]
    · rfl
  · split
    · simp [heardReply]
    · rfl

theorem stopCue_heard (s : State) : stopCue (heard s) = heard (stopCue s) := by
  unfold stopCue
  rw [heard_cue]
  split
  · simp
  · split
    · rfl
    · rfl
  · rfl

theorem takeNext_heard (s : State) : takeNext (heard s) = heardReply (takeNext s) := by
  unfold takeNext
  rw [heard_takeRefusal, heard_callers]
  split
  · rfl
  · split
    · simp [heardReply]
    · rfl

theorem operatorDump_heard (s : State) : operatorDump (heard s) = heardReply (operatorDump s) := by
  unfold operatorDump
  rw [heard_delay]
  split
  · rfl
  · rfl

end Sys2Proof.FrameBlind
end

section
/-! R171, R174 to R176: what the panel functions do, and what the panel pins show. -/

namespace Sys2Proof.PanelFunctions

-- one thread: the check compiles under a limit on the process
set_option Elab.async false

open Sys2Proof.Machine Sys2Proof.Safety Sys2Proof.Laws Sys2Proof.TakenCommands Sys2Proof.FrameBlind

variable {s t : State} {n : PanelLineNo} {k : CallerSlot} {f : PanelFunction} {on : Bool}

/-- The line's function acts as a command of link C does (R174, R175). -/
def ActsAs (n : PanelLineNo) (s : State) (i : Instr) (code : Nat) (active : Bool) : Prop := ∃ c : Status,
  exec i s = .next (answered .C code c .none (if c = .ok then panelAction n active s else s)) ∧
  (c ≠ .ok → panelAction n active s = raise .C (.panelRefused n c) s)

/-- An owner's answer without result data. -/
def Plain (r : Reply) : Prop := (∃ t, r = .ok t .none) ∨ ∃ c, c ≠ .ok ∧ r = .refuse c

theorem plain_ok (t : State) : Plain (.ok t .none) := .inl ⟨t, rfl⟩

theorem plain_refuse {c : Status} (h : c ≠ .ok := by decide) : Plain (.refuse c) := .inr ⟨c, h, rfl⟩

theorem panelAction_reply (function : (s.panelConfig n).function = f) {r : Reply} (owner : panelOwner f on s = r) :
    (∀ t x, r = .ok t x → panelAction n on s = t) ∧ ∀ c, r = .refuse c → panelAction n on s = raise .C (.panelRefused n c) s := by
  refine ⟨fun t x ok => ?_, fun c refused => ?_⟩
  · simp only [panelAction, function, owner, ok]
  · simp only [panelAction, function, owner, refused]

/-- A command that the table takes acts as the panel function of its owner. -/
theorem acts_taken {i : Instr} {code : Nat} {ps : List Byte} {owner : State → Reply} (takes : Takes .C s)
    (run : exec i s = .next (command .C code ps owner s)) (checks : failedCheck .C code ps (frameComplete .C s) = none)
    (blind : owner (heard s) = heardReply (owner s)) (function : (s.panelConfig n).function = f) (owned : panelOwner f on s = owner s)
    (plain : Plain (owner s)) : ActsAs n s i code on := by
  obtain ⟨acts, refuses⟩ := panelAction_reply function owned
  have answers : exec i s = .next (conclude .C code (heard s) (heardReply (owner s))) := by
    rw [run, command_taken takes owner checks, ← blind]
    rfl
  rcases plain with ⟨t, ok⟩ | ⟨c, bad, refused⟩
  · refine ⟨.ok, ?_, fun h => absurd rfl h⟩
    rw [answers, if_pos rfl, acts t _ ok, ok]
    rfl
  · refine ⟨c, ?_, fun _ => refuses c refused⟩
    rw [answers, if_neg bad, refused]
    rfl

/-- A command that the table does not take now is refused as the panel function refuses it. -/
theorem acts_refused {i : Instr} {code : Nat} {ps : List Byte} {owner : State → Reply} {c : Status} (takes : Takes .C s)
    (run : exec i s = .next (command .C code ps owner s)) (fails : failedCheck .C code ps (frameComplete .C s) = some c)
    (bad : c ≠ .ok) (function : (s.panelConfig n).function = f) (owned : panelOwner f on s = .refuse c) : ActsAs n s i code on := by
  refine ⟨c, ?_, fun _ => (panelAction_reply function owned).2 c rfl⟩
  rw [run, command_fails takes fails, if_neg bad]
where
  command_fails {code : Nat} {ps : List Byte} {owner : State → Reply} {c : Status} (takes : Takes .C s)
      (fails : failedCheck .C code ps (frameComplete .C s) = some c) : command .C code ps owner s = answered .C code c .none s := by
    obtain ⟨supply, -, -, -, due⟩ := id takes
    simp only [command, State.running, supply, not_busy takes, settleFound_settled due, fails, decide_true, if_true,
      Bool.false_eq_true, if_false]
    rfl

theorem goCue_plain (s : State) : Plain (goCue s) := by
  unfold goCue
  split
  · exact plain_refuse
  · exact plain_refuse
  · exact plain_ok _
  · split
    · exact plain_ok _
    · exact plain_refuse
  · split
    · exact plain_ok _
    · exact plain_refuse

theorem operatorDump_plain (s : State) : Plain (operatorDump s) := by
  unfold operatorDump
  split
  · exact plain_refuse
  · exact plain_ok _

theorem takeNext_plain (s : State) : Plain (takeNext s) := by
  unfold takeNext
  split
  · next c refused =>
    refine plain_refuse ?_
    unfold takeRefusal at refused
    split at refused
    · obtain rfl := Option.some.inj refused; decide
    · split at refused
      · obtain rfl := Option.some.inj refused; decide
      · split at refused
        · obtain rfl := Option.some.inj refused; decide
        · cases refused
  · split
    · exact plain_ok _
    · exact plain_refuse

/-- A row of the table, looked up. -/
theorem failedCheck_of_row {code : Nat} {ps : List Byte} (r : CommandRow)
    (row : commandTable.find? (fun x => decide (x.code = code)) = some r) (link : r.links.contains .C = true)
    (bytes : r.params.admits ps.length = true) :
    failedCheck .C code ps (frameComplete .C s) = if r.taken (frameComplete .C s) then none else some .notNow := by
  rw [failedCheck, row]
  simp only [link, bytes, Bool.not_true, Bool.false_eq_true, if_false]
  cases r.taken (frameComplete .C s) <;> rfl

theorem standby_or_onAir (takes : Takes .C s) : s.dev.state = .standby ∨ s.dev.state = .onAir ∧ ∃ m, s.sup.mode = some m := by
  obtain ⟨-, state, -⟩ := takes
  exact state.imp id fun h => ⟨h.1, Option.isSome_iff_exists.mp h.2⟩

theorem dump_acts (takes : Takes .C s) (off : s.dev.state ≠ .onAir → s.delay.state = .off) (function : (s.panelConfig n).function = .dump) :
    ActsAs n s (.dump .C []) 0x34 true := by
  have checks := failedCheck_of_row (s := s) (code := 0x34) (ps := []) ⟨0x34, [.C], false, true, true, true, .exactly 0⟩ rfl rfl rfl
  rcases standby_or_onAir takes with standby | ⟨onAir, m, mode⟩
  · have refused : operatorDump s = .refuse .notNow := if_pos (.inl (off (by rw [standby]; decide)))
    refine acts_refused takes rfl (c := .notNow) ?_ (by decide) function refused
    have state : (frameComplete .C s).dev.state = .standby := standby
    rw [checks]
    simp [CommandRow.taken, state]
  · refine acts_taken takes rfl ?_ (operatorDump_heard s) function rfl (operatorDump_plain s)
    have state : (frameComplete .C s).dev.state = .onAir := onAir
    have air : (frameComplete .C s).sup.mode = some m := mode
    rw [checks]
    cases m <;> simp [CommandRow.taken, state, air]

theorem takeNext_acts (takes : Takes .C s) (function : (s.panelConfig n).function = .takeNext) :
    ActsAs n s (.callerTakeNext .C []) 0x38 true := by
  have checks := failedCheck_of_row (s := s) (code := 0x38) (ps := []) ⟨0x38, [.C], false, true, false, true, .exactly 0⟩ rfl rfl rfl
  have refuses (barred : (!s.onAir || decide (s.sup.mode = some .alert)) = true) : takeNext s = .refuse .notNow := by
    have refusal : takeRefusal s = some .notNow := if_pos barred
    simp only [takeNext, refusal]
  rcases standby_or_onAir takes with standby | ⟨onAir, m, mode⟩
  · refine acts_refused takes rfl (c := .notNow) ?_ (by decide) function (refuses (by simp [State.onAir, standby]))
    have state : (frameComplete .C s).dev.state = .standby := standby
    rw [checks]
    simp [CommandRow.taken, state]
  · have state : (frameComplete .C s).dev.state = .onAir := onAir
    have air : (frameComplete .C s).sup.mode = some m := mode
    by_cases alert : m = .alert
    · subst alert
      refine acts_refused takes rfl (c := .notNow) ?_ (by decide) function (refuses (by simp [mode]))
      rw [checks]
      simp [CommandRow.taken, state, air]
    · refine acts_taken takes rfl ?_ (takeNext_heard s) function rfl (takeNext_plain s)
      rw [checks]
      cases m with
      | alert => exact absurd rfl alert
      | normal => simp [CommandRow.taken, state, air]
      | fallback => simp [CommandRow.taken, state, air]

theorem go_acts (takes : Takes .C s) (function : (s.panelConfig n).function = .fader) : ActsAs n s (.cueGo .C []) 0x20 true :=
  acts_taken takes rfl (checks_pass takes [.P, .C] (.exactly 0) rfl rfl rfl) (goCue_heard s) function rfl (goCue_plain s)

theorem stop_acts (takes : Takes .C s) (function : (s.panelConfig n).function = f)
    (owned : panelOwner f on s = .ok (stopCue s) .none) : ActsAs n s (.cueStop .C []) 0x21 on :=
  acts_taken (owner := fun t => .ok (stopCue t) .none) takes rfl (checks_pass takes [.P, .C] (.exactly 0) rfl rfl rfl)
    (by rw [stopCue_heard]; rfl) function owned (plain_ok _)

/-- The two bytes of a number that fits them. -/
theorem twoBytes {x : Nat} (h : x ≤ 65535) : (BitVec.ofNat 8 (x / 256)).toNat * 256 + (BitVec.ofNat 8 x).toNat = x := by
  simp only [BitVec.toNat_ofNat]
  omega

theorem mic_acts (takes : Takes .C s) (gain : s.mix.studio.target ≤ 65535) (fade : s.mix.studioFade ≤ 500)
    (function : (s.panelConfig n).function = .mic) (on : Bool) : ActsAs n s (.studioSet .C [if on then 1 else 0,
      BitVec.ofNat 8 (s.mix.studio.target / 256), BitVec.ofNat 8 s.mix.studio.target, BitVec.ofNat 8 (s.mix.studioFade / 256),
      BitVec.ofNat 8 s.mix.studioFade]) 0x36 on := by
  obtain ⟨ps, isPs⟩ : ∃ ps : List Byte, ps = [if on then 1 else 0, BitVec.ofNat 8 (s.mix.studio.target / 256),
    BitVec.ofNat 8 s.mix.studio.target, BitVec.ofNat 8 (s.mix.studioFade / 256), BitVec.ofNat 8 s.mix.studioFade] := ⟨_, rfl⟩
  have switch : switchOf (byteAt ps 0) = some on := by rw [isPs]; cases on <;> rfl
  have level : u16At ps 1 = s.mix.studio.target := by rw [isPs]; exact twoBytes gain
  have length : u16At ps 3 = s.mix.studioFade := by rw [isPs]; exact twoBytes (by omega)
  have owner (t : State) : studioSetOwner ps t = .ok (studioSet on (u16At ps 1) (u16At ps 3) t) .none := by
    simp only [studioSetOwner, switch]
  have blind : studioSet on (u16At ps 1) (u16At ps 3) (heard s) = heard (studioSet on (u16At ps 1) (u16At ps 3) s) := by
    unfold studioSet
    rw [← studioSwitch_heard]
    rfl
  have same : studioSet on (u16At ps 1) (u16At ps 3) s = micAction on s := by
    rw [level, length, studioSet, Nat.min_eq_left fade]
    rfl
  rw [← isPs]
  exact acts_taken (owner := studioSetOwner ps) takes rfl (checks_pass takes [.C] (.exactly 5) rfl rfl (by rw [isPs]; rfl))
    (by rw [owner, owner, blind]; rfl) function (by rw [owner, same]; rfl) (by rw [owner]; exact plain_ok _)

end Sys2Proof.PanelFunctions
end

section
/-! R116, R171, R174 to R176: RELEASE_CALLERS, the panel pins, and the panel functions. -/

namespace Sys2Proof.PanelPins

-- one thread: the check compiles under a limit on the process
set_option Elab.async false

open Sys2Proof.Machine Sys2Proof.Safety Sys2Proof.Laws Sys2Proof.TakenCommands Sys2Proof.FrameBlind Sys2Proof.PanelFunctions
open Sys2Proof.CallerSlots Sys2Proof.ReturnedLines Sys2Proof.GoAndStop Sys2Proof.CallerReleases

variable {s t u : State} {n : PanelLineNo} {j k : CallerSlot} {f : PanelFunction} {on : Bool} {i : PhoneLine}

/-- The occupant and the contributor of a slot are left as they are. -/
structure SlotLeft (k : CallerSlot) (s t : State) : Prop where
  slot : t.slot k = s.slot k
  contrib : t.contrib (slotContributor k) = s.contrib (slotContributor k)
  fade : t.mix.slotFade = s.mix.slotFade

theorem SlotLeft.refl (k : CallerSlot) (s : State) : SlotLeft k s s := ⟨rfl, rfl, rfl⟩

theorem SlotLeft.trans (h : SlotLeft k s t) (g : SlotLeft k t u) : SlotLeft k s u :=
  ⟨g.slot.trans h.slot, g.contrib.trans h.contrib, g.fade.trans h.fade⟩

theorem slotLeft_of (mix : t.mix = s.mix) (slot : t.slot k = s.slot k) : SlotLeft k s t :=
  ⟨slot, by rw [State.contrib, mix]; rfl, by rw [mix]⟩

theorem setSlot_left (other : k ≠ j) (x : SlotRecord) (s : State) : SlotLeft k s (s.setSlot j x) :=
  slotLeft_of rfl ((ReturnedLines.slot_setSlot j x s k).trans (if_neg other))

theorem slotContributors_ne (other : k ≠ j) : slotContributor k ≠ slotContributor j := by
  rcases slot_cases k with rfl | rfl <;> rcases slot_cases j with rfl | rfl <;> first | exact absurd rfl other | decide

theorem fadeOut_left (other : k ≠ j) (n : Nat) (s : State) : SlotLeft k s (fadeOut (slotContributor j) n s) := by
  have callers : (fadeOut (slotContributor j) n s).callers = s.callers := fadeOut_touches _ n s .callers (by decide)
  refine ⟨congrArg (fun c : Callers => c.slots[k]) callers, contrib_fadeOut_ne (slotContributors_ne other) n s, ?_⟩
  unfold fadeOut cut
  rw [closeReaderOf_slot]
  rcases slot_cases j with rfl | rfl
  · split
    · split <;> rfl
    · split <;> rfl
  · split
    · split <;> rfl
    · split <;> rfl

theorem joinQueue_slot (i : PhoneLine) (s : State) : (joinQueue i s).slot k = s.slot k := by
  unfold joinQueue placeLine giveNumber
  dsimp only
  split <;> rfl

theorem settleRelease_left (other : k ≠ j) (cause : OffAirCause) (s : State) : SlotLeft k s (settleRelease cause j s) := by
  refine slotLeft_of (settleRelease_touches cause j s .mix (by decide)) ?_
  unfold settleRelease
  split
  · next i d _ =>
    cases d with
    | drop => exact (ReturnedLines.slot_setSlot j _ s k).trans (if_neg other)
    | hold => exact (joinQueue_slot i _).trans ((ReturnedLines.slot_setSlot j _ s k).trans (if_neg other))
  · rfl

theorem endRelease_left (other : k ≠ j) (s : State) : SlotLeft k s (endRelease j s) := by
  have settled := settleRelease_left other .released s
  unfold endRelease
  dsimp only
  split
  · exact settled
  · exact settled.trans ⟨rfl, rfl, rfl⟩

theorem releaseSlot_left (other : k ≠ j) (d : Disposition) (s : State) : SlotLeft k s (releaseSlot j d s) := by
  unfold releaseSlot
  split
  · exact setSlot_left other _ s
  · next i _ =>
    have faded : SlotLeft k s (fadeOut (slotContributor j) s.mix.slotFade[j] (s.setSlot j ⟨some i, some d⟩)) :=
      (setSlot_left other _ s).trans (fadeOut_left other _ _)
    dsimp only
    split
    · exact faded.trans (endRelease_left other _)
    · exact faded
  · exact SlotLeft.refl k s

/-- A release that fades. -/
theorem releaseSlot_fading {d : Disposition} (slot : s.slot k = ⟨some i, none⟩) (fades : 0 < s.mix.slotFade[k])
    (bound : (s.contrib (slotContributor k)).binding.isSome = true) :
    (releaseSlot k d s).slot k = ⟨some i, some d⟩ ∧ (releaseSlot k d s).contrib (slotContributor k) =
      { s.contrib (slotContributor k) with waiting := some ⟨0, min s.mix.slotFade[k] 500, .out⟩ } := by
  have releases : releaseSlot k d s = fadeOut (slotContributor k) s.mix.slotFade[k] (s.setSlot k ⟨some i, some d⟩) := by
    simp only [releaseSlot, slot]
    exact if_neg (by omega)
  rw [releases, fadeOut_active fades (by exact bound)]
  refine ⟨(ReturnedLines.slot_setSlot k _ s k).trans (if_pos rfl), ?_⟩
  rcases slot_cases k with rfl | rfl <;> rfl

theorem releaseCallers_fading (slot : s.slot k = ⟨some i, none⟩) (fades : 0 < s.mix.slotFade[k])
    (bound : (s.contrib (slotContributor k)).binding.isSome = true) :
    ∃ t, releaseCallers s = .ok t .none ∧ t.slot k = ⟨some i, some .hold⟩ ∧ t.contrib (slotContributor k) =
      { s.contrib (slotContributor k) with waiting := some ⟨0, min s.mix.slotFade[k] 500, .out⟩ } := by
  have there : (s.slot k).occupant.isSome = true := by rw [slot]; rfl
  have occupied : s.callers.occupied = true := by
    rcases slot_cases k with rfl | rfl
    · exact Bool.or_eq_true_iff.mpr (.inl there)
    · exact Bool.or_eq_true_iff.mpr (.inr there)
  refine ⟨_, if_pos occupied, ?_⟩
  rcases slot_cases k with rfl | rfl
  · obtain ⟨released, faded⟩ := releaseSlot_fading (d := .hold) slot fades bound
    have left := releaseSlot_left (k := 0) (j := 1) (by decide) .hold (releaseSlot 0 .hold s)
    exact ⟨left.slot.trans released, left.contrib.trans faded⟩
  · have left := releaseSlot_left (k := 1) (j := 0) (by decide) .hold s
    obtain ⟨released, faded⟩ := releaseSlot_fading (d := .hold) (s := releaseSlot 0 .hold s) (left.slot.trans slot)
      (by rw [left.fade]; exact fades) (by rw [left.contrib]; exact bound)
    refine ⟨released, ?_⟩
    rw [faded, left.contrib, left.fade]

theorem panelFunctionsAct : Claims.PanelFunctionsAct := by
  intro n s takes off f acts b8
  have idle {f : PanelFunction} {on : Bool} (function : (s.panelConfig n).function = f) (owner : panelOwner f on s = .ok s .none) :
      panelAction n on s = s := (panelAction_reply function owner).1 s _ rfl
  refine ⟨fun h => dump_acts takes off h, fun h => ⟨go_acts takes h, stop_acts takes h rfl⟩, fun h => stop_acts takes h rfl,
    fun h => takeNext_acts takes h, fun on h gain fade => mic_acts takes gain fade h on, fun h none_there => ?_,
    fun k i h slot fades bound => ?_, fun member => ?_, fun h => idle h rfl⟩
  · have vacant : ¬s.callers.occupied = true := by
      have first : s.callers.slots[0].occupant = none := none_there 0
      have second : s.callers.slots[1].occupant = none := none_there 1
      simp [Callers.occupied, first, second]
    exact (panelAction_reply h (on := true) (r := .refuse .notFound) (if_neg vacant)).2 _ rfl
  · obtain ⟨t, releases, result⟩ := releaseCallers_fading slot fades bound
    rw [(panelAction_reply h (on := true) releases).1 t _ rfl]
    exact result
  · obtain ⟨g, isG⟩ : ∃ g, g = f := ⟨_, rfl⟩
    rw [← isG] at member
    have owner : panelOwner g false s = .ok s .none := by
      simp only [List.mem_cons, List.not_mem_nil, or_false] at member
      rcases member with rfl | rfl | rfl | rfl | rfl | rfl <;> rfl
    exact idle isG.symm owner

-- the pins (R171, R176)

theorem pinsFollow : Claims.PanelPinsFollowTheirConditions := by
  intro n s c r shows
  have shown {f : PanelFunction} {on : Bool} (live : s.live = true) (output : c.direction = .output)
      (condition : r.condition s.panel.lines[n].general f = on) : shows f on := by
    intro function
    have drives : s.pin n = some (r.condition s.panel.lines[n].general c.function == c.activeHigh) := if_pos (by rw [live, decide_eq_true output]; rfl)
    rw [drives, function, condition]
    cases on <;> cases c.activeHigh <;> rfl
  refine ⟨fun live output => ⟨shown live output rfl, shown live output rfl, shown live output rfl, shown live output rfl,
    shown live output rfl, shown live output rfl, shown live output rfl, shown live output rfl⟩, fun input => ?_, fun powerUp => ?_⟩
  · exact if_neg (by rw [decide_eq_false input]; simp)
  · exact if_neg (by simp [State.live, powerUp])

theorem pullUpsFollow : Claims.PullUpsFollowTheDirection := by
  intro n floats s
  refine ⟨rfl, rfl, fun powerUp supply => ?_, fun live => ?_⟩
  · rcases supply with running | loading
    · simp [State.pinReads, State.pullUp, running, powerUp]
    · simp [State.pinReads, State.pullUp, loading]
  · obtain ⟨running, up⟩ : s.dev.supply = .running ∧ s.dev.state ≠ .powerUp := by simpa [State.live] using live
    have pull : s.pullUp n = decide ((s.panel.settings.lines[n]).direction = .inputPullup) := by simp [State.pullUp, running, up]
    show (s.pullUp n || floats) = _
    rw [pull]
    by_cases pulled : (s.panel.settings.lines[n]).direction = .inputPullup
    · rw [if_pos pulled, decide_eq_true pulled]
      rfl
    · rw [if_neg pulled, decide_eq_false pulled]
      rfl

end Sys2Proof.PanelPins
end

section
/-! R171 to R174: the panel's input lines at an input block boundary. -/

namespace Sys2Proof.PanelSamples

-- one thread: the check compiles under a limit on the process
set_option Elab.async false

open Sys2Proof.Machine Sys2Proof.Safety Sys2Proof.Laws Sys2Proof.EventKeeping Sys2Proof.Boundaries Sys2Proof.BlockForming
open Sys2Proof.IdleEvents Sys2Proof.LinkFramesSent Sys2Proof.PanelKeeping Sys2Proof.BoundaryReports

variable {s t u : State} {n m : PanelLineNo} {pins : Vector Contact 8} {env : InputBoundary} {level on : Bool} {d : Due}

/-- The level of a line's pin, as its active level has it (R172). -/
def levelOf (pins : Vector Contact 8) (s : State) (n : PanelLineNo) : Bool := s.pinReads n pins[n] == (s.panelConfig n).activeHigh

/-- A change that leaves the levels that the panel's pins have. -/
structure LevelsKept (s t : State) : Prop where
  supply : t.dev.supply = s.dev.supply
  state : t.dev.state = s.dev.state
  settings : t.panel.settings = s.panel.settings

theorem LevelsKept.refl (s : State) : LevelsKept s s := ⟨rfl, rfl, rfl⟩

theorem LevelsKept.trans (h : LevelsKept s t) (g : LevelsKept t u) : LevelsKept s u :=
  ⟨g.supply.trans h.supply, g.state.trans h.state, g.settings.trans h.settings⟩

theorem LevelsKept.config (h : LevelsKept s t) (n : PanelLineNo) : t.panelConfig n = s.panelConfig n := by
  rw [State.panelConfig, h.settings]
  rfl

theorem LevelsKept.levels (h : LevelsKept s t) (pins : Vector Contact 8) (n : PanelLineNo) : levelOf pins t n = levelOf pins s n := by
  have pull : t.pullUp n = s.pullUp n := by simp only [State.pullUp, h.supply, h.state, h.settings]
  have reads : t.pinReads n pins[n] = s.pinReads n pins[n] := by
    cases pins[n] <;> simp only [State.pinReads, pull]
  rw [levelOf, levelOf, reads, h.config n]

-- one line's sample

theorem samplePanel_output (output : (s.panelConfig n).isInput = false) : samplePanel pins n s = s := by
  simp only [samplePanel, output, Bool.false_eq_true, if_false]

theorem samplePanel_quiet (input : (s.panelConfig n).isInput = true) (quiet : ((s.panelLine n).sample (levelOf pins s n)).2 = false) :
    samplePanel pins n s = s.setPanelLine n ((s.panelLine n).sample (levelOf pins s n)).1 := by
  unfold samplePanel
  rw [if_pos input]
  exact if_neg (by rw [levelOf] at quiet; rw [quiet]; decide)

/-- The state in which the change of line `n` is reported. -/
def changed (pins : Vector Contact 8) (n : PanelLineNo) (s : State) : State :=
  let t := s.setPanelLine n ((s.panelLine n).sample (levelOf pins s n)).1
  raise .C (.panelInput (panelInputs t)) { t with due := t.due ++ [.panelAction n (levelOf pins s n)] }

theorem samplePanel_changed (input : (s.panelConfig n).isInput = true) (changes : ((s.panelLine n).sample (levelOf pins s n)).2 = true) :
    samplePanel pins n s = changed pins n s := by
  unfold samplePanel
  rw [if_pos input]
  exact if_pos (by rw [levelOf] at changes; exact changes)

/-- What the sample of a line does, in its three cases (R172). -/
theorem samplePanel_cases (pins : Vector Contact 8) (n : PanelLineNo) (s : State) :
    ((s.panelConfig n).isInput = false ∧ samplePanel pins n s = s) ∨ (s.panelConfig n).isInput = true ∧
      (samplePanel pins n s = s.setPanelLine n ((s.panelLine n).sample (levelOf pins s n)).1 ∨ samplePanel pins n s = changed pins n s) := by
  cases input : (s.panelConfig n).isInput with
  | false => exact .inl ⟨rfl, samplePanel_output input⟩
  | true =>
    refine .inr ⟨rfl, ?_⟩
    cases changes : ((s.panelLine n).sample (levelOf pins s n)).2 with
    | false => exact .inl (samplePanel_quiet input changes)
    | true => exact .inr (samplePanel_changed input changes)

theorem setPanelLine_line (x : PanelLine) (s : State) : (s.setPanelLine n x).panelLine m = if m = n then x else s.panelLine m := by
  by_cases same : m = n
  · subst same
    rw [if_pos rfl]
    exact Vector.getElem_set_self _
  · have ne : n.val ≠ m.val := fun e => same (Fin.ext e.symm)
    rw [if_neg same]
    exact Vector.getElem_set_ne n.isLt m.isLt ne

theorem samplePanel_levels (pins : Vector Contact 8) (n : PanelLineNo) (s : State) : LevelsKept s (samplePanel pins n s) := by
  rcases samplePanel_cases pins n s with ⟨-, same⟩ | ⟨-, same | same⟩ <;> rw [same] <;> exact ⟨rfl, rfl, rfl⟩

theorem samplePanel_other (other : m ≠ n) (s : State) : (samplePanel pins n s).panelLine m = s.panelLine m := by
  rcases samplePanel_cases pins n s with ⟨-, same⟩ | ⟨-, same | same⟩
  · rw [same]
  · rw [same]
    exact (setPanelLine_line _ s).trans (if_neg other)
  · rw [same]
    exact (setPanelLine_line _ s).trans (if_neg other)

/-- A line as it stands once it has been sampled. -/
def sampledLine (pins : Vector Contact 8) (s : State) (n : PanelLineNo) : PanelLine :=
  if (s.panelConfig n).isInput then ((s.panelLine n).sample (levelOf pins s n)).1 else s.panelLine n

theorem samplePanel_own (pins : Vector Contact 8) (n : PanelLineNo) (s : State) : (samplePanel pins n s).panelLine n = sampledLine pins s n := by
  unfold sampledLine
  rcases samplePanel_cases pins n s with ⟨output, same⟩ | ⟨input, same | same⟩
  · rw [same, output]
    rfl
  · rw [same, input]
    exact (setPanelLine_line _ s).trans (if_pos rfl)
  · rw [same, input]
    exact (setPanelLine_line _ s).trans (if_pos rfl)

/-- What a line's sample leaves due. -/
theorem samplePanel_due (pins : Vector Contact 8) (n : PanelLineNo) (s : State) : ∀ d ∈ (samplePanel pins n s).due,
    d ∈ s.due ∨ d = .panelAction n (levelOf pins s n) ∧ (s.panelConfig n).isInput = true := by
  rcases samplePanel_cases pins n s with ⟨-, same⟩ | ⟨input, same | same⟩
  · rw [same]
    exact fun d hd => .inl hd
  · rw [same]
    exact fun d hd => .inl hd
  · rw [same]
    intro d hd
    rcases List.mem_append.mp hd with old | new
    · exact .inl old
    · exact .inr ⟨List.mem_singleton.mp new, input⟩

-- several lines' samples

/-- The lines `ns` are sampled, one after the other. -/
def samples (pins : Vector Contact 8) (ns : List PanelLineNo) (s : State) : State := ns.foldl (fun t n => samplePanel pins n t) s

theorem samplePanels_eq (pins : Vector Contact 8) (s : State) : samplePanels pins s = samples pins panelLines s := rfl

theorem samples_levels (pins : Vector Contact 8) (ns : List PanelLineNo) : ∀ s, LevelsKept s (samples pins ns s) := by
  induction ns with
  | nil => exact LevelsKept.refl
  | cons n ns ih => exact fun s => (samplePanel_levels pins n s).trans (ih _)

theorem samples_other (ns : List PanelLineNo) (other : m ∉ ns) : ∀ s, (samples pins ns s).panelLine m = s.panelLine m := by
  induction ns with
  | nil => exact fun _ => rfl
  | cons n ns ih =>
    intro s
    refine (ih (fun h => other (List.mem_cons_of_mem _ h)) _).trans (samplePanel_other (fun h => other ?_) s)
    rw [h]
    exact List.mem_cons_self

theorem samples_due (pins : Vector Contact 8) (ns : List PanelLineNo) : ∀ s, ∀ d ∈ (samples pins ns s).due,
    d ∈ s.due ∨ ∃ n, d = .panelAction n (levelOf pins s n) ∧ (s.panelConfig n).isInput = true := by
  induction ns with
  | nil => exact fun _ _ hd => .inl hd
  | cons n ns ih =>
    intro s d hd
    have kept := samplePanel_levels pins n s
    rcases ih (samplePanel pins n s) d hd with old | ⟨m, act, input⟩
    · exact (samplePanel_due pins n s d old).imp id fun act => ⟨n, act⟩
    · rw [kept.levels] at act
      rw [kept.config] at input
      exact .inr ⟨m, act, input⟩

/-- Every line is sampled once. -/
theorem lines_around (n : PanelLineNo) : ∃ before after, panelLines = before ++ n :: after ∧ n ∉ before ∧ n ∉ after := by
  have listed : n ∈ panelLines := (by decide : ∀ m : PanelLineNo, m ∈ panelLines) n
  obtain ⟨before, after, split, fresh⟩ := List.eq_append_cons_of_mem listed
  have once : panelLines.Nodup := by decide
  rw [split] at once
  exact ⟨before, after, split, fresh, (List.nodup_cons.mp (List.nodup_append.mp once).2.1).1⟩

/-- The lines ahead of line `n` leave it as it is; then it is sampled; then the others are. -/
theorem samplePanels_at (pins : Vector Contact 8) (n : PanelLineNo) (s : State) : ∃ u after, n ∉ after ∧ LevelsKept s u ∧
    u.panelLine n = s.panelLine n ∧ samplePanels pins s = samples pins after (samplePanel pins n u) := by
  obtain ⟨before, after, split, ahead, behind⟩ := lines_around n
  refine ⟨samples pins before s, after, behind, samples_levels pins before s, samples_other before ahead s, ?_⟩
  rw [samplePanels_eq, split, samples, List.foldl_append]
  rfl

theorem samplePanels_line (pins : Vector Contact 8) (n : PanelLineNo) (s : State) :
    (samplePanels pins s).panelLine n = sampledLine pins s n := by
  obtain ⟨u, after, behind, kept, line, sampled⟩ := samplePanels_at pins n s
  rw [sampled, samples_other after behind, samplePanel_own, sampledLine, sampledLine, kept.config, kept.levels, line]

-- the boundary

/-- The state in which the panel is sampled at an input block boundary. -/
def beforePanel (env : InputBoundary) (s : State) : State :=
  findToneEnd (findDue inputDue (inputRest env (formBlock (completed env (applyUpsets env.upsets s)))))

theorem beforePanel_kept (env : InputBoundary) (s : State) :
    Touches [.mem, .inputs, .dev, .clips, .alerts, .links, .due, .mix, .formed, .delay, .callers, .cue, .prof] s (beforePanel env s) := by
  have rest (t : State) : Touches [.mem, .clips, .links, .due, .delay, .alerts, .callers, .cue, .prof] t (inputRest env t) :=
    ((((((((Touches.refl _ t).and (useFormed_touches t)).and (runCaptures_touches _ _)).and (countCaptured_touches _)).and
      (countMeasure_touches _)).and (countPlayed_touches _)).and (countWindow_touches _)).and (prof_touches _ _))
  exact ((((((Touches.refl _ s).and (memory_touches _ s)).and (completed_touches env _)).and (formBlock_touches _)).and (rest _)).and
    (findDue_touches _ _)).and (findToneEnd_touches _)

theorem beforePanel_levels (env : InputBoundary) (s : State) : LevelsKept s (beforePanel env s) := by
  have kept := beforePanel_kept env s
  have runs : ((beforePanel env s).dev.supply, (beforePanel env s).dev.state) = (s.dev.supply, s.dev.state) := kept .runs (by decide)
  have panel : (beforePanel env s).panel = s.panel := kept .panel (by decide)
  exact ⟨(Prod.mk.injEq _ _ _ _ ▸ runs).1, (Prod.mk.injEq _ _ _ _ ▸ runs).2, by rw [panel]⟩

theorem inputEvents_samples (env : InputBoundary) (s : State) :
    inputEvents env (inputRest env (formBlock (completed env (applyUpsets env.upsets s)))) =
      settleDue env.first env.leave (samplePanels env.pins (beforePanel env s)) := rfl

/-- The lines after the boundary. -/
theorem inputBoundary_line (env : InputBoundary) (n : PanelLineNo) (s : State) :
    (settleDue env.first env.leave (samplePanels env.pins (beforePanel env s))).panelLine n = sampledLine env.pins s n := by
  have kept := beforePanel_levels env s
  have panel : (beforePanel env s).panel = s.panel := beforePanel_kept env s .panel (by decide)
  have line : (beforePanel env s).panelLine n = s.panelLine n := by rw [State.panelLine, panel]; rfl
  rw [State.panelLine, (settleDue_heeds env.first env.leave _).lines]
  refine (samplePanels_line env.pins n _).trans ?_
  rw [sampledLine, sampledLine, kept.config, kept.levels, line]

theorem panelLinesAreSampled : Claims.PanelLinesAreSampled := by
  intro env n s live due
  refine ⟨_, exec_inputBoundary live due, ?_⟩
  intro x c high level
  have line := inputBoundary_line env n s
  rw [← inputEvents_samples] at line
  have isLevel : levelOf env.pins s n = level := by
    obtain ⟨running, up⟩ : s.dev.supply = .running ∧ s.dev.state ≠ .powerUp := by simpa [State.live] using live
    have reads : s.pinReads n env.pins[n] = high := by
      show s.pinReads n env.pins[n] = match env.pins[n] with
        | .low => false
        | .high => true
        | .opened floats => decide (c.direction = .inputPullup) || floats
      cases env.pins[n] with
      | low => rfl
      | high => rfl
      | opened floats =>
        have pull : s.pullUp n = decide (c.direction = .inputPullup) := by simp [State.pullUp, running, up, c]
        simp only [State.pinReads, pull]
    rw [levelOf, reads]
    rfl
  refine ⟨fun output => ?_, fun input => ?_⟩
  · refine line.trans (if_neg ?_)
    have isOutput : (s.panelConfig n).direction = .output := output
    simp [LineConfig.isInput, isOutput]
  · refine (line.trans (if_pos (decide_eq_true input))).trans ?_
    rw [isLevel]
    show (PanelLine.sample x level).1 = _
    unfold PanelLine.sample
    split
    · rfl
    · split
      · rfl
      · rfl

end Sys2Proof.PanelSamples
end

section
/-! R172 to R174: a recognised change is told and acts. -/

namespace Sys2Proof.PanelChanges

-- one thread: the check compiles under a limit on the process
set_option Elab.async false

open Sys2Proof.Machine Sys2Proof.Safety Sys2Proof.Laws Sys2Proof.EventKeeping Sys2Proof.Boundaries Sys2Proof.BlockForming
open Sys2Proof.IdleEvents Sys2Proof.LinkFramesSent Sys2Proof.PanelKeeping Sys2Proof.BoundaryReports Sys2Proof.PanelSamples
open Sys2Proof.Walks Sys2Proof.PanelFunctions Sys2Proof.PanelPins Sys2Proof.FormedBlocks

variable {s t u w : State} {n m : PanelLineNo} {pins : Vector Contact 8} {env : InputBoundary} {level on : Bool} {d : Due}

/-- PANEL_INPUT is pending on link C and names the line with its level, whose flag is set (R173). -/
structure Told (n : PanelLineNo) (level : Bool) (s : State) : Prop where
  pending : ∃ p ∈ (s.link .C).events, ∃ ls, p.event = .panelInput ls ∧ (n, level) ∈ ls
  flag : (s.panelLine n).flag = true
  recognised : (s.panelLine n).recognised = level

theorem named_of (flag : (s.panelLine n).flag = true) (recognised : (s.panelLine n).recognised = level) : (n, level) ∈ panelInputs s := by
  have listed : n ∈ panelLines := (by decide : ∀ m : PanelLineNo, m ∈ panelLines) n
  exact List.mem_map.mpr ⟨n, List.mem_filter.mpr ⟨listed, flag⟩, by rw [recognised]⟩

/-- A change reported names every line whose flag is set. -/
theorem changed_told (flag : ((changed pins m s).panelLine n).flag = true) (recognised : ((changed pins m s).panelLine n).recognised = level) :
    Told n level (changed pins m s) := by
  obtain ⟨p, there, event⟩ := pending_raised .C (.panelInput (panelInputs (s.setPanelLine m ((s.panelLine m).sample (levelOf pins s m)).1)))
    { s.setPanelLine m ((s.panelLine m).sample (levelOf pins s m)).1 with
      due := (s.setPanelLine m ((s.panelLine m).sample (levelOf pins s m)).1).due ++ [.panelAction m (levelOf pins s m)] }
  exact ⟨⟨p, there, _, event, named_of (by exact flag) (by exact recognised)⟩, flag, recognised⟩

theorem samplePanel_told (h : Told n level s) (other : n ≠ m) : Told n level (samplePanel pins m s) := by
  have line := samplePanel_other (pins := pins) other s
  have flag : ((samplePanel pins m s).panelLine n).flag = true := by rw [line]; exact h.flag
  have recognised : ((samplePanel pins m s).panelLine n).recognised = level := by rw [line]; exact h.recognised
  rcases samplePanel_cases pins m s with ⟨-, same⟩ | ⟨-, same | same⟩
  · rw [same]
    exact h
  · rw [same] at flag recognised ⊢
    exact ⟨h.pending, flag, recognised⟩
  · rw [same] at flag recognised ⊢
    exact changed_told flag recognised

theorem samples_told (ns : List PanelLineNo) (other : n ∉ ns) : ∀ {s}, Told n level s → Told n level (samples pins ns s) := by
  induction ns with
  | nil => exact id
  | cons m ns ih =>
    intro s h
    refine ih (fun later => other (List.mem_cons_of_mem _ later)) (samplePanel_told h fun same => other ?_)
    rw [same]
    exact List.mem_cons_self

/-- The line changes to the level (R172). -/
structure Changes (pins : Vector Contact 8) (n : PanelLineNo) (level : Bool) (s : State) : Prop where
  input : (s.panelConfig n).isInput = true
  levels : levelOf pins s n = level
  sampled : (s.panelLine n).sample level = ({ s.panelLine n with recognised := level, previous := level, flag := true }, true)

theorem Changes.kept (h : Changes pins n level s) (kept : LevelsKept s t) (line : t.panelLine n = s.panelLine n) : Changes pins n level t :=
  ⟨by rw [kept.config]; exact h.input, by rw [kept.levels]; exact h.levels, by rw [line]; exact h.sampled⟩

theorem Changes.changed (h : Changes pins n level s) : samplePanel pins n s = changed pins n s :=
  samplePanel_changed h.input (by rw [h.levels, h.sampled])

theorem Changes.told (h : Changes pins n level s) : Told n level (samplePanel pins n s) := by
  have line : (samplePanel pins n s).panelLine n = { s.panelLine n with recognised := level, previous := level, flag := true } := by
    rw [samplePanel_own, sampledLine, if_pos h.input, h.levels, h.sampled]
  rw [h.changed] at line ⊢
  exact changed_told (by rw [line]) (by rw [line])

theorem samplePanels_told (h : Changes pins n level s) : Told n level (samplePanels pins s) := by
  obtain ⟨u, after, behind, kept, line, sampled⟩ := samplePanels_at pins n s
  rw [sampled]
  exact samples_told after behind (h.kept kept line).told

-- what is due once the panel is sampled

theorem samplePanel_keepsDue (pins : Vector Contact 8) (m : PanelLineNo) (s : State) : ∀ d ∈ s.due, d ∈ (samplePanel pins m s).due := by
  intro d hd
  rcases samplePanel_cases pins m s with ⟨-, same⟩ | ⟨-, same | same⟩
  · rw [same]; exact hd
  · rw [same]; exact hd
  · rw [same]; exact List.mem_append_left _ hd

theorem samples_keepsDue (pins : Vector Contact 8) (ns : List PanelLineNo) : ∀ s, ∀ d ∈ s.due, d ∈ (samples pins ns s).due := by
  induction ns with
  | nil => exact fun _ _ hd => hd
  | cons m ns ih => exact fun s d hd => ih _ d (samplePanel_keepsDue pins m s d hd)

theorem samplePanels_acts (h : Changes pins n level s) : .panelAction n level ∈ (samplePanels pins s).due := by
  obtain ⟨u, after, -, kept, line, sampled⟩ := samplePanels_at pins n s
  have changes := h.kept kept line
  rw [sampled]
  refine samples_keepsDue pins after _ _ ?_
  rw [changes.changed]
  refine List.mem_append_right _ (List.mem_singleton.mpr ?_)
  rw [changes.levels]

-- the action is taken

theorem take_keepsDue {a d : Due} (other : a ≠ d) (idle : d ∈ s.due → IdleAction s d) (due : a ∈ s.due) : a ∈ (take d s).due := by
  by_cases found : d ∈ s.due
  · have erased : a ∈ s.due.erase d := (List.mem_erase_of_ne other).mpr due
    obtain ⟨m, on, rfl, function⟩ := idle found
    have acts : take (.panelAction m on) s = { s with due := s.due.erase (.panelAction m on) } :=
      (take_happens found rfl).trans (panelAction_idle (s := { s with due := s.due.erase (.panelAction m on) }) function on)
    rw [acts]
    exact erased
  · have absent : take d s = s := if_neg (by simpa using found)
    rw [absent]
    exact due

/-- Idle actions of other lines, taken before an event, leave it due. -/
theorem takeEach_keepsDue {a : Due} {ds : List Due} (other : a ∉ ds) (idle : ∀ d ∈ ds, d ∈ s.due → IdleAction s d) (due : a ∈ s.due) :
    a ∈ (takeEach ds s).due ∧ ∀ d ∈ (takeEach ds s).due, d ∈ s.due := by
  induction ds generalizing s with
  | nil => exact ⟨due, fun _ hd => hd⟩
  | cons d ds ih =>
    have first := take_idle (idle d List.mem_cons_self)
    have panel : (take d s).panel = s.panel := first .panel (by decide)
    have fewer : ∀ e ∈ (take d s).due, e ∈ s.due := by
      by_cases found : d ∈ s.due
      · obtain ⟨m, on, rfl, function⟩ := idle d List.mem_cons_self found
        have acts : take (.panelAction m on) s = { s with due := s.due.erase (.panelAction m on) } :=
          (take_happens found rfl).trans (panelAction_idle (s := { s with due := s.due.erase (.panelAction m on) }) function on)
        rw [acts]
        exact fun e he => List.mem_of_mem_erase he
      · have absent : take d s = s := if_neg (by simpa using found)
        rw [absent]
        exact fun e he => he
    have other_head : a ≠ d := fun same => other (by rw [same]; exact List.mem_cons_self)
    obtain ⟨stays, rest⟩ := ih (s := take d s) (fun h => other (List.mem_cons_of_mem _ h)) (fun e he hd => by
      obtain ⟨m, on, act, function⟩ := idle e (List.mem_cons_of_mem _ he) (fewer e hd)
      exact ⟨m, on, act, by rw [State.panelConfig, panel]; exact function⟩)
      (take_keepsDue other_head (idle d List.mem_cons_self) due)
    exact ⟨stays, fun e he => fewer e (rest e he)⟩

/-- Of what the boundary takes one action alone is not idle: it is as if it alone were taken. -/
theorem takeEach_one {before after : List Due} (ahead : .panelAction n on ∉ before) (due : .panelAction n on ∈ s.due)
    (idle : ∀ d ∈ before ++ after, d ∈ s.due → IdleAction s d) :
    ∃ v, Touches [.due] s v ∧ Touches [.due] (panelAction n on v) (takeEach (before ++ .panelAction n on :: after) s) := by
  have first : Touches [.due] s (takeEach before s) := takeEach_idle fun d hd => idle d (List.mem_append_left _ hd)
  obtain ⟨stays, fewer⟩ := takeEach_keepsDue ahead (fun d hd => idle d (List.mem_append_left _ hd)) due
  obtain ⟨v, isV⟩ : ∃ v : State, v = { takeEach before s with due := (takeEach before s).due.erase (.panelAction n on) } := ⟨_, rfl⟩
  have touched : Touches [.due] s v := by
    rw [isV]
    exact first.and (due_touches _ _)
  have acts : take (.panelAction n on) (takeEach before s) = panelAction n on v := by
    rw [isV]
    exact take_happens stays rfl
  have split : takeEach (before ++ .panelAction n on :: after) s = takeEach after (panelAction n on v) := by
    rw [takeEach, List.foldl_append, ← acts]
    rfl
  refine ⟨v, touched, ?_⟩
  rw [split]
  refine takeEach_idle fun d hd found => ?_
  have happens : (panelAction n on v).due = v.due := LawKeeping.happen_due (d := .panelAction n on) (by simp) v
  rw [happens] at found
  have old : d ∈ s.due := fewer d (by rw [isV] at found; exact List.mem_of_mem_erase found)
  obtain ⟨m, on', act, function⟩ := idle d (List.mem_append_right _ hd) old
  refine ⟨m, on', act, ?_⟩
  have settings : (panelAction n on v).panel.settings = v.panel.settings := (happen_heeds (.panelAction n on) v).settings
  have panel : v.panel = s.panel := touched .panel (by decide)
  rw [State.panelConfig, settings, panel]
  exact function

-- STUDIO turned on at the panel

/-- STUDIO's contributor and its lamp are left as they are. -/
def StudioKept (s t : State) : Prop := t.mix.studio = s.mix.studio ∧ t.panel.reports.micLive = s.panel.reports.micLive

theorem StudioKept.trans (h : StudioKept s t) (g : StudioKept t u) : StudioKept s u := ⟨g.1.trans h.1, g.2.trans h.2⟩

theorem studioKept_of {ps : List Part} (h : Touches ps s t) (mix : Part.mix ∉ ps := by decide) (panel : Part.panel ∉ ps := by decide) :
    StudioKept s t := by
  have mixed : t.mix = s.mix := h .mix mix
  have told : t.panel = s.panel := h .panel panel
  exact ⟨by rw [mixed], by rw [told]⟩

theorem setContrib_studio {c : Contributor} (other : c ≠ .studio) (x : Contrib) (s : State) : StudioKept s (s.setContrib c x) := by
  cases c <;> first | exact absurd rfl other | exact ⟨rfl, rfl⟩

theorem closeReaderOf_studio (c : Contributor) (s : State) : StudioKept s (closeReaderOf c s) := studioKept_of (closeReaderOf_touches c s)

theorem cut_studio {c : Contributor} (other : c ≠ .studio) (s : State) : StudioKept s (cut c s) := by
  unfold cut
  split
  · exact (closeReaderOf_studio c s).trans (setContrib_studio other _ _)
  · exact ⟨rfl, rfl⟩

theorem fadeOut_studio {c : Contributor} (other : c ≠ .studio) (k : Nat) (s : State) : StudioKept s (fadeOut c k s) := by
  unfold fadeOut
  split
  · exact cut_studio other s
  · split
    · exact setContrib_studio other _ s
    · exact ⟨rfl, rfl⟩

theorem activate_studio {c : Contributor} (other : c ≠ .studio) (b : Binding) (g k p : Nat) (s : State) :
    StudioKept s (activate c b g k p s) := by
  unfold activate
  split
  · split
    · exact ((studioKept_of (closeReader_touches _ s)).trans (studioKept_of (openReader_touches _ _ _ _))).trans
        (setContrib_studio other _ _)
    · exact ⟨rfl, rfl⟩
  · exact (closeReaderOf_studio c s).trans (setContrib_studio other _ _)

/-- What the Cue Engine, the callers and a takeover of the air do leaves STUDIO. -/
def studioWalk : Walk where
  rel := StudioKept
  refl _ := ⟨rfl, rfl⟩
  trans := StudioKept.trans
  free h := studioKept_of h
  raised l e _ s := studioKept_of (raise_touches l e s)
  reported f s kept := ⟨rfl, kept _⟩
  cuts _ other s := cut_studio other s
  fades _ other k s := fadeOut_studio other k s
  activates _ other b g k p s := activate_studio other b g k p s
  claims e s := studioKept_of (releaseClaim_touches e s)
  airs k r s _ := studioKept_of ((records_touches _ s).trans (setRecord_touches k _ _))
  views s a _ _ := studioKept_of (records_touches a s)

/-- MIC turned on with STUDIO inactive (R16, R17). -/
theorem micAction_on (off : s.mix.studio.binding = none) : (micAction true s).mix.studio.binding = some (.source 0) ∧
    (micAction true s).mix.studio.target = s.mix.studio.target ∧ (micAction true s).panel.reports.micLive = true := by
  obtain ⟨t, isT⟩ : ∃ t : State, t = s.setContrib .studio (.activated (.source 0) s.mix.studio.target s.mix.studioFade) := ⟨_, rfl⟩
  have inactive : s.mix.studio.active = false := by rw [Contrib.active, off]; rfl
  have switched : switchStudio true s.mix.studio.target s.mix.studioFade s = t := by
    rw [isT]
    simp only [switchStudio, inactive, Bool.not_false, if_true]
    rfl
  have same : t.mix.studio = .activated (.source 0) s.mix.studio.target s.mix.studioFade := by rw [isT]; rfl
  have studio : t.mix.studio.binding = some (.source 0) ∧ t.mix.studio.target = s.mix.studio.target := by
    rw [same, StartedItems.activated_fields]
    exact ⟨rfl, rfl⟩
  have live : t.studioOn = true := by
    rw [State.studioOn, same, StartedItems.activated_fields]
    by_cases flat : s.mix.studioFade = 0
    · simp [Contrib.active, Contrib.fadingOut, flat]
    · simp [Contrib.active, Contrib.fadingOut, flat]
  obtain ⟨u, isU⟩ : ∃ u : State, u = t.report fun r => { r with micLive := t.studioOn } := ⟨_, rfl⟩
  have eq : micAction true s = if !s.studioOn && t.studioOn then endFallback .studio u else u := by
    simp only [micAction, studioSwitch, switched, isU]
  have kept : StudioKept u (micAction true s) := by
    rw [eq]
    split
    · exact endFallback_step (w := studioWalk) .studio u
    · exact ⟨rfl, rfl⟩
  have own : u.mix.studio = t.mix.studio := by rw [isU]; rfl
  refine ⟨by rw [kept.1, own]; exact studio.1, by rw [kept.1, own]; exact studio.2, ?_⟩
  rw [kept.2, isU]
  exact live

-- the boundary

theorem startFade_target (x : Contrib) : x.startFade.target = x.target := by
  unfold Contrib.startFade
  split <;> rfl

theorem stepFade_target (x : Contrib) : x.stepFade.target = x.target ∧ x.stepFade.binding = x.binding := by
  unfold Contrib.stepFade
  split <;> exact ⟨rfl, rfl⟩

/-- With no reader open, no alert captured and no tone, what the boundary finds before the panel is sampled is timed. -/
theorem beforePanel_quiet (due : s.due = []) (readerA : s.clips.readerA = none) (readerB : s.clips.readerB = none)
    (readerAlert : s.clips.readerAlert = none) (capture : s.clips.alertCapture = none) (tone : s.alerts.tone = none) :
    (∀ d ∈ (beforePanel env s).due, d ∈ inputDue) ∧ (beforePanel env s).mix.studio.binding = s.mix.studio.binding ∧
      (beforePanel env s).mix.studio.target = s.mix.studio.target := by
  obtain ⟨c, isC⟩ : ∃ c, c = completed env (applyUpsets env.upsets s) := ⟨_, rfl⟩
  have clips : c.clips = s.clips := by rw [isC]; exact (completed_kept env _).1
  have alerts : c.alerts = s.alerts := by rw [isC]; exact (completed_kept env _).2.1
  have mix : c.mix = s.mix := by rw [isC]; exact completed_touches env (applyUpsets env.upsets s) .mix (by decide)
  have none_due : c.due = [] := by rw [isC]; exact (completed_kept env _).2.2.1.trans due
  have formed := formBlock_closed (s := c) (by rw [clips]; exact readerA) (by rw [clips]; exact readerB) (by rw [clips]; exact readerAlert)
  obtain ⟨v, isV⟩ : ∃ v, v = formBlock c := ⟨_, rfl⟩
  have vmix : v.mix.studio = c.mix.studio.startFade.stepFade := by rw [isV, formed]; rfl
  obtain ⟨restDue, restTone⟩ := inputRest_quiet env (s := v) (by rw [isV, formed]; exact (congrArg ClipStore.alertCapture clips).trans capture)
    (by rw [isV, formed]; exact (congrArg Alerts.tone alerts).trans tone)
  obtain ⟨z, isZ⟩ : ∃ z, z = inputRest env v := ⟨_, rfl⟩
  rw [← isZ] at restDue restTone
  have zdue : z.due = [] := restDue.trans (by rw [isV, formed]; exact none_due)
  have noTone : findToneEnd (findDue inputDue z) = findDue inputDue z := by
    refine if_neg ?_
    have untoned : (findDue inputDue z).alerts.tone = none := restTone
    simp [toneOver, untoned]
  have eq : beforePanel env s = findDue inputDue z := by
    rw [← noTone, isZ, isV, isC]
    rfl
  have zmix : z.mix = v.mix := by
    rw [isZ]
    exact ((((((((Touches.refl [.mem, .clips, .links, .due, .delay, .alerts, .callers, .cue, .prof] v).and (useFormed_touches v)).and
      (runCaptures_touches _ _)).and (countCaptured_touches _)).and (countMeasure_touches _)).and (countPlayed_touches _)).and
        (countWindow_touches _)).and (prof_touches _ _)) .mix (by decide)
  have studio : (beforePanel env s).mix.studio = s.mix.studio.startFade.stepFade := by
    rw [eq, ← mix, ← vmix, ← zmix]
    rfl
  refine ⟨fun d hd => ?_, ?_, ?_⟩
  · rw [eq, findDue, zdue] at hd
    exact List.mem_of_mem_filter (by simpa using hd)
  · rw [studio, (stepFade_target _).2, startFade_binding]
  · rw [studio, (stepFade_target _).1, startFade_target]

/-- The change of a MIC line turns STUDIO on. -/
theorem mic_turns_on (changes : Changes env.pins n true s) (due : s.due = []) (function : (s.panelConfig n).function = .mic)
    (off : s.mix.studio.binding = none) (first : env.first = []) (leave : env.leave = true) (readerA : s.clips.readerA = none)
    (readerB : s.clips.readerB = none) (readerAlert : s.clips.readerAlert = none) (capture : s.clips.alertCapture = none)
    (tone : s.alerts.tone = none) (others : ∀ m : PanelLineNo, m ≠ n → (s.panel.settings.lines[m]).direction = .output ∨
      (s.panel.settings.lines[m]).function = .none) :
    let t := settleDue env.first env.leave (samplePanels env.pins (beforePanel env s))
    t.mix.studio.binding = some (.source 0) ∧ t.mix.studio.target = s.mix.studio.target ∧ t.panel.reports.micLive = true := by
  obtain ⟨f, isF⟩ : ∃ f, f = beforePanel env s := ⟨_, rfl⟩
  obtain ⟨timed, binding, target⟩ := beforePanel_quiet (env := env) due readerA readerB readerAlert capture tone
  have kept := beforePanel_levels env s
  have panel : (beforePanel env s).panel = s.panel := beforePanel_kept env s .panel (by decide)
  rw [← isF] at timed binding target kept panel ⊢
  have line : f.panelLine n = s.panelLine n := by rw [State.panelLine, panel]; rfl
  have changesF := changes.kept kept line
  obtain ⟨w, isW⟩ : ∃ w, w = samplePanels env.pins f := ⟨_, rfl⟩
  have acts : .panelAction n true ∈ w.due := by rw [isW]; exact samplePanels_acts changesF
  have levels : LevelsKept f w := by rw [isW]; exact samples_levels env.pins panelLines f
  have listed : .panelAction n true ∈ reportsDue ++ actionsDue :=
    (by decide : ∀ m : PanelLineNo, .panelAction m true ∈ reportsDue ++ actionsDue) n
  obtain ⟨before, after, split, ahead⟩ := List.eq_append_cons_of_mem listed
  have once : (reportsDue ++ actionsDue).Nodup := by decide
  have behind : .panelAction n true ∉ after := by
    rw [split] at once
    exact (List.nodup_cons.mp (List.nodup_append.mp once).2.1).1
  have idle : ∀ d ∈ before ++ after, d ∈ w.due → IdleAction w d := by
    intro d hd found
    have rowless : d ∈ reportsDue ++ actionsDue := by
      rw [split]
      exact (List.mem_append.mp hd).elim (List.mem_append_left _) fun h => List.mem_append_right _ (List.mem_cons_of_mem _ h)
    rw [isW, samplePanels_eq] at found
    rcases samples_due env.pins panelLines f d found with old | ⟨m, act, input⟩
    · exact absurd rowless (rowless_of_timed (timed d old))
    · have other : m ≠ n := by
        rintro rfl
        rw [changesF.levels] at act
        subst act
        exact (List.mem_append.mp hd).elim ahead behind
      refine ⟨m, _, act, ?_⟩
      rw [levels.config, kept.config]
      rw [kept.config] at input
      exact (others m other).resolve_left fun output => of_decide_eq_true input output
  obtain ⟨v, touched, taken⟩ := takeEach_one ahead acts idle
  have settled : settleDue env.first env.leave w = takeEach (before ++ .panelAction n true :: after) w := by
    rw [settleDue, first, leave, if_pos rfl, split]
    rfl
  rw [← isW, settled]
  dsimp only
  have vmix : v.mix = f.mix := by
    have sampled : w.mix = f.mix := by rw [isW]; exact samplePanels_touches env.pins f .mix (by decide)
    exact Eq.trans (touched .mix (by decide)) sampled
  have vpanel : v.panel = w.panel := touched .panel (by decide)
  have config : (v.panelConfig n).function = .mic := by
    rw [State.panelConfig, vpanel]
    show (w.panelConfig n).function = .mic
    rw [levels.config, kept.config]
    exact function
  have mic : panelAction n true v = micAction true v := (panelAction_reply config (on := true) rfl).1 _ _ rfl
  obtain ⟨sounds, gain, lamp⟩ := micAction_on (s := v) (by rw [vmix]; exact binding.trans off)
  rw [mic] at taken
  have tmix : (takeEach (before ++ .panelAction n true :: after) w).mix = (micAction true v).mix := taken .mix (by decide)
  have tpanel : (takeEach (before ++ .panelAction n true :: after) w).panel = (micAction true v).panel := taken .panel (by decide)
  rw [tmix, tpanel]
  exact ⟨sounds, gain.trans (by rw [vmix]; exact target), lamp⟩

theorem sample_change {x : PanelLine} (seeded : x.seeding = false) (recognised : x.recognised = !level) (previous : x.previous = level) :
    x.sample level = ({ x with recognised := level, previous := level, flag := true }, true) := by
  rw [PanelLine.sample, if_neg (by simp [seeded]), if_pos (by simp [recognised, previous])]

theorem changes_of {env : InputBoundary} (pin : env.pins[n] = (if level = (s.panel.settings.lines[n]).activeHigh then .high else .low))
    (input : (s.panel.settings.lines[n]).direction ≠ .output) (seeded : (s.panel.lines[n]).seeding = false)
    (recognised : (s.panel.lines[n]).recognised = !level) (previous : (s.panel.lines[n]).previous = level) : Changes env.pins n level s := by
  refine ⟨decide_eq_true input, ?_, ?_⟩
  · rw [levelOf, pin]
    by_cases same : level = (s.panel.settings.lines[n]).activeHigh
    · rw [if_pos same, same]
      show (true == (s.panel.settings.lines[n]).activeHigh) = _
      cases (s.panel.settings.lines[n]).activeHigh <;> rfl
    · rw [if_neg same]
      show (false == (s.panel.settings.lines[n]).activeHigh) = _
      revert same
      cases (s.panel.settings.lines[n]).activeHigh <;> cases level <;> decide
  · exact sample_change seeded recognised previous

theorem recognisedChangesAct : Claims.RecognisedChangesAct := by
  intro env n level s live due pin input seeded recognised previous
  have changes := changes_of pin input seeded recognised previous
  refine ⟨_, exec_inputBoundary live due, ?_, fun function on off first leave readerA readerB readerAlert capture tone others => ?_⟩
  · have panel : (beforePanel env s).panel = s.panel := beforePanel_kept env s .panel (by decide)
    have told := samplePanels_told (changes.kept (beforePanel_levels env s) (by rw [State.panelLine, panel]; rfl))
    obtain ⟨p, there, ls, event, named⟩ := told.pending
    rw [inputEvents_samples]
    exact ⟨p, (settleDue_heeds env.first env.leave _).inputs p there (by rw [event]; rfl), ls, event, named⟩
  · subst on
    rw [inputEvents_samples]
    exact mic_turns_on changes due function off first leave readerA readerB readerAlert capture tone others

/-- Settles O48. -/
theorem panelLinesFollowTheirPins : Obligations.PanelLinesFollowTheirPins :=
  ⟨panelLinesAreSampled, pinsFollow, pullUpsFollow, recognisedChangesAct, panelFunctionsAct⟩

end Sys2Proof.PanelChanges
end
